-- ==== Sys2Proof/Word.lean ====
section
/-!
DEFINITION. The word and byte types, and the finite names the manual gives to lanes, quarters, blocks, roles and
engines (spec 00_scope.md, 01_carrier_and_lanes.md, 18_register_map.md).
-/
namespace Sys2Proof

/-- One of the two service sessions. -/
abbrev SessNo := Fin 2
/-- A flash region (Table 3.5). -/
abbrev Region := Fin 4
/-- NVM_ADDRr (0) or NVM_DATArj (1 + j). -/
abbrev NvmReg := Fin 5
/-- A measurement register. -/
abbrev PcrNo := Fin 8
/-- A background engine, E8 to E11. -/
abbrev BgEng := Fin 4
/-- What E9 calibrates (Table 3.11). -/
inductive CalItem where
  | d0i
  | d1i
  | lw
  | temp
  | slack
deriving DecidableEq, Repr
/-- An operator's command (Table 16.4, OPCMD). -/
inductive OpCmd where
  | lockout
  | unlock
  | park
  | unpark
  | indepOn
  | indepOff
  | faultAck
deriving DecidableEq, Repr
/-- The LANE field of a service frame (Table 16.3): Lane A, Lane B, the Hoop's holder. -/
inductive LaneField where
  | a
  | b
  | holder
deriving DecidableEq, Repr
/-- The TAG of a service request. -/
abbrev Tag := BitVec 16
/-- A landing of the landing RAM. -/
abbrev Landing := Fin 256
/-- A word of a TAT bank. -/
abbrev BankWord := Fin 1024
/-- The length of a loop program, as CHECK carries it. -/
abbrev LoopLen := Fin 1024
/-- The divider and the length of a trace, as TRC_CTRL carries them. -/
abbrev TrcDiv := Fin 256
abbrev TrcLen := Fin 8192
/-- The length of a nonce, as MEA_CTRL carries it. -/
abbrev NonceLen := Fin 64
/-- The offset of a byte of flash. -/
abbrev FlashOff := Fin 8388608
/-- The length field of an SPI transfer. -/
abbrev SpiLen := Fin 16

/-- A 32-bit register word. -/
abbrev Word := BitVec 32

/-- One byte. -/
abbrev Byte := BitVec 8

/-- A signed 48-bit accumulator of an engine (Table 4.1). -/
abbrev Acc := BitVec 48

/-- The two controller dies (spec 01, Table 1.1). -/
inductive LaneId where
  | a
  | b
deriving DecidableEq, Repr

/-- The lane on the other side of the lane link. -/
def LaneId.other : LaneId → LaneId
  | .a => .b
  | .b => .a

/-- Lane number as KID shows it (Table 4.2): 0 Lane A, 1 Lane B. -/
def LaneId.num : LaneId → Nat
  | .a => 0
  | .b => 1

/-- The four quarters of a lane (Table 1.2). -/
inductive Quarter where
  | control
  | group
  | port
  | keeping
deriving DecidableEq, Repr

/-- Position of a quarter in SYS_RSTCAUSE.QUARTER, and the number of its gate (Tables 1.7, 1.8). -/
def Quarter.num : Quarter → Nat
  | .control => 0
  | .group => 1
  | .port => 2
  | .keeping => 3

/-- The roles of R453, in their order of right. -/
inductive Role where
  | none
  | opr
  | ins
  | mkr
deriving DecidableEq, Repr

/-- The code KROLE carries (Table 4.2): 0 NONE, 1 OPR, 2 INS, 3 MKR. -/
def Role.num : Role → Nat
  | .none => 0
  | .opr => 1
  | .ins => 2
  | .mkr => 3

/-- The role a two-bit code names. -/
def Role.ofNum : Nat → Role
  | 1 => .opr
  | 2 => .ins
  | 3 => .mkr
  | _ => .none

/-- The blocks SYS_BLKSTATb numbers (spec 18, before R503). -/
inductive Block where
  | eng (n : Fin 12)
  | tat
  | spg
  | bob
  | drv
  | dor
  | sel
  | prk
  | pic
  | can (n : Fin 4)
  | usb
  | spi
  | nvm
  | trc
  | mea
deriving DecidableEq, Repr

/-- The block number b of SYS_BLKSTATb. -/
def Block.num : Block → Nat
  | .eng n => n.val
  | .tat => 12
  | .spg => 13
  | .bob => 14
  | .drv => 15
  | .dor => 16
  | .sel => 17
  | .prk => 18
  | .pic => 19
  | .can n => 20 + n.val
  | .usb => 24
  | .spi => 25
  | .nvm => 26
  | .trc => 27
  | .mea => 28

/-- The quarter of each engine (Table 3.1). -/
def engQuarter (n : Fin 12) : Quarter :=
  if n.val = 0 ∨ n.val = 5 ∨ n.val = 6 ∨ n.val = 7 then .port
  else if n.val ≤ 3 then .control
  else if n.val = 4 then .group
  else .keeping

/-- The quarter each block lies in (Table 1.2). -/
def Block.quarter : Block → Quarter
  | .eng n => engQuarter n
  | .tat | .spg | .bob | .drv | .dor => .control
  | .sel | .prk | .pic => .group
  | .can _ | .usb | .spi => .port
  | .nvm | .trc | .mea => .keeping

/-- Who makes a register write: an engine under its KROLE, the engine bound to a service session (R110, R472), or the debug port (R483). -/
inductive Writer where
  | eng (n : Fin 12)
  | svc (n : Fin 2)
  | dbg
deriving DecidableEq, Repr

/-- The cap registers of a door whose writes R260 judges together. -/
inductive DorCapReg where
  | caps
  | nudge
  | mcaps
deriving DecidableEq, Repr

/-- A position in the group, 0 to 31. -/
abbrev GroupPos := Fin 32

/-- A pickup a car is given: its landing, deck, direction of departure (1 up, 2 down), passengers and class marks. -/
structure Pickup where
  landing : Byte
  deck : Bool
  up : Bool
  pax : Nat
  emer : Bool
  acc : Bool
deriving DecidableEq, Repr

/-- A mirror set as it arrives (R287): its number and closing time, whether it came whole with a correct CRC-32, whether it completes a
full transfer, the changed entries with their indices, the hold list, PRK_MODE, the locked landings and PRK_BYPASS. -/
structure MirrorSet where
  mseq : Nat
  time : Nat
  whole : Bool
  full : Bool
  entries : List (Nat × List (BitVec 32))
  hold : List (List (BitVec 32))
  mode : Nat
  locked : List Nat
  bypass : BitVec 32
deriving DecidableEq, Repr

/-- What the error-correcting code finds in the word a read touches (R69 to R71). -/
inductive EccKind where
  | clean
  | corrected
  | uncorrectable
deriving DecidableEq, Repr

/-- The environment's report on the reads of one instruction: at which of its word reads (counted from 0) the
code finds something, and what. -/
structure Ecc where
  pos : Nat
  kind : EccKind
deriving DecidableEq, Repr

/-- A shift count of a Krevia shift: from a register, or a 5-bit immediate (Table 4.4, X[12]). -/
inductive ShiftBy where
  | reg (rt : Fin 16)
  | imm (n : Fin 32)
deriving DecidableEq, Repr

/-- One item of a bit field: the address of its register and its bounds in the word. -/
structure Field where
  addr : Nat
  hi : Nat
  lo : Nat
deriving DecidableEq, Repr

/-- Number of bits of a field. -/
def Field.width (f : Field) : Nat := f.hi + 1 - f.lo

/-! Short names of the index types the commands use. -/

/-- An engine number, E0 to E11. -/
abbrev Eng := Fin 12
/-- A foreground engine number, E0 to E7. -/
abbrev FgEng := Fin 8
/-- A general register w0 to w15 of an engine. -/
abbrev RegNo := Fin 16
/-- An accumulator a0 to a3 of an engine. -/
abbrev AccNo := Fin 4
/-- A channel endpoint ch0 to ch63. -/
abbrev ChNo := Fin 64
/-- A loop slot of TAT, 0 to 7. -/
abbrev Slot := Fin 8
/-- A door operator, 0 or 1. -/
abbrev Door := Fin 2
/-- A CAN controller, 0 to 3. -/
abbrev Port := Fin 4
/-- A string of bytes, the first sent first. -/
abbrev Bytes := List Byte

/-- A string of bits, the first received first. -/
abbrev Bits := List Bool

/-- A number the environment may or may not contribute. -/
abbrev OptInt := Option Int

/-- A 17-bit immediate of format I. -/
abbrev Imm17 := BitVec 17
/-- A 16-bit immediate or register mask. -/
abbrev Imm16 := BitVec 16
/-- A 17-bit signed word offset of format B. -/
abbrev Off17 := BitVec 17
/-- A 25-bit signed word offset of format J. -/
abbrev Off25 := BitVec 25
/-- The shift amount of an accumulator instruction, 0 to 31. -/
abbrev ShAmt := Fin 32

/-- A field input, 0 to 23. -/
abbrev FieldInput := Fin 24
/-- An output source of the field die (Table 12.5): 0 to 3 TP0 to TP3, 4 to 7 SO0H, SO0L, SO1H, SO1L, 8 to 15 FO0 to FO7. -/
abbrev Source := Fin 16
/-- A safety switch: 0 SO0H, 1 SO0L, 2 SO1H, 3 SO1L. -/
abbrev Switch := Fin 4
/-- A safety output pair. -/
abbrev Pair := Fin 2
/-- A two-channel group of safety signals: 0 ES, 1 DC0, 2 DC1, 3 CDL, 4 LDL, 5 PEN, 6 EEO, 7 LC0, 8 LC1. -/
abbrev SafetyGroup := Fin 9
/-- A logical safety signal (Table 11.2). -/
abbrev SafetySignal := Fin 24
/-- A bit for each field input. -/
abbrev InputBits := BitVec 24
/-- A bit for each output source. -/
abbrev SourceBits := BitVec 16
/-- The voltage at each output's pad, in mV (R520); none where nothing but its switch and its bias holds it. -/
abbrev PadVolts := List (Option Nat)
/-- The ratio k of each supervised input, in 1/10000; none where the voltage of its source is below 12 V (R356). -/
abbrev Ratios := List (Option Nat)

/-- What the field die measures of an output while it is not under test (Table 12.6): its pad conducts though off, does not conduct though
on, or its current is past the limit or its junction above 165 °C (`hot`: above 150 °C). -/
inductive OutTrouble where
  | short
  | drop
  | overload (hot : Bool)
deriving DecidableEq, Repr

/-- What the environment contributes to a test slot (R359 to R369): whether a switch-off demand came during an off-pulse; whether the readback went as the test
wants; the inputs that read low by the end of the pulse; those that read high when the window closed, and for each how many µs before that the first
sample at this level was; the sources whose readback fell and rose with the pulse. -/
structure TestObs where
  demand : Bool
  pass : Bool
  low : BitVec 24
  back : BitVec 24
  ago : List Nat
  follow : BitVec 16
deriving DecidableEq, Repr

/-- A frame of the Picot ring (Table 15.2): TYPE, SRC, fragment index, DST, HOPS, SEQ and payload. -/
structure PicFrame where
  type : Nat
  src : GroupPos
  frag : Bool
  dst : Nat
  hops : Nat
  seq : Nat
  payload : Bytes
deriving DecidableEq, Repr

/-- How a frame of the ring fails its check (R437). -/
inductive PicBad where
  | abort
  | code
  | crc
  | length
deriving DecidableEq, Repr

/-- The result of a ring frame's check: none where it is good. -/
abbrev PicCheck := Option PicBad

/-- The kinds of NOTICE (Table 15.3). -/
inductive PicNotice where
  | takeover
  | handover
  | leave
deriving DecidableEq, Repr

/-- How an attempt or a frame on a CAN bus fails (ISO 11898-1). -/
inductive CanErr where
  | bit
  | stuff
  | form
  | crc
  | ack
deriving DecidableEq, Repr

/-- How an attempt to send a CAN frame ends (R414); `stuffArb` a stuff error during arbitration, of a stuff bit sent recessive and seen dominant (ISO
11898-1). -/
inductive CanTxEnd where
  | sent
  | arbLost
  | error (e : CanErr)
  | stuffArb
deriving DecidableEq, Repr

/-- An attempt's end on the bus: how it ends for its sender, whether the other lane's controller saw the frame without error, and the settle time in
quanta it measured (R410, R430); `more` how often the error counter rises by 8 beside that in the flags after the frame: a bit error in an active error
flag or an overload flag, each run of dominant bits beyond the ones tolerated after a flag, a dominant bit in a passive error flag (ISO 11898-1). -/
structure CanAttempt where
  how : CanTxEnd
  seen : Bool
  settle : Nat
  more : Nat
deriving DecidableEq, Repr

/-- A CAN frame: identifier, extended format, FD, bit-rate switch, remote, error state indicator, DLC, data, the group time at its start, and the settle
time in quanta of its data phase (R410). -/
structure CanFrame where
  id : BitVec 29
  ide : Bool
  fdf : Bool
  brs : Bool
  rtr : Bool
  esi : Bool
  dlc : Fin 16
  data : Bytes
  tsof : Nat
  settle : Nat
deriving DecidableEq, Repr

/-- What the firmware that serves the service protocol takes from its port (R470): a USB packet, or a CAN frame. -/
inductive SvcUnit where
  | usb (packet : Bytes)
  | can (fr : CanFrame)
deriving DecidableEq, Repr

/-- How a received frame fails: none where it is without error; else the error, whether the receiver saw a dominant bit first after its error flag (its counter
then rises by 8), whether the bits up to BRS were correct (R428), and how often its counter rises by 8 beside that: at a bit error in its active error
flag, and at each run of dominant bits beyond the ones tolerated after a flag (ISO 11898-1); or a recessive res bit, a protocol exception (Table 14.1). A
frame without error may be followed by overload flags in which the counter rises so (`overload`). -/
inductive CanRxEnd where
  | good
  | error (e : CanErr) (dominant : Bool) (toBrs : Bool) (more : Nat)
  | overload (more : Nat)
  | exception
deriving DecidableEq, Repr

/-- What wakes a sleeping controller (R434): a dominant level of 5 µs, or a classical frame its decoder reads, without error or with one. -/
inductive CanWakeBy where
  | edge
  | frame (fr : CanFrame) (good : Bool)
deriving DecidableEq, Repr

/-- The messages of the lane link (Table 13.1). -/
inductive LinkMsg where
  | hb | ssi | acc | partner | sebreq | epdata | seal | bulk | bulkend | upd | updack | ctrl
deriving DecidableEq, Repr

/-- What wakes the part (Table 17.4). -/
inductive WakeSource where
  | can (n : Fin 4) (by_ : CanWakeBy)
  | field (n : Fin 24)
  | vbus
  | wakeL
deriving DecidableEq, Repr

/-- A Carrier reset's cause beside XRES_L: a time-out of the supervisor, or the Hoop in FAULT (Table 1.5). -/
inductive CarrierCause where
  | supervisor
  | hoopFault
deriving DecidableEq, Repr

/-- A Lane reset's cause among the lane monitors' (Table 1.5). -/
inductive LaneCause where
  | coreSupply
  | pllLoss
  | sebFault
deriving DecidableEq, Repr

/-- A transmit object of a CAN port. -/
abbrev CanObjNo := Fin 32

/-- A domain gate of a lane (Table 1.7). -/
abbrev GateNo := Fin 7

/-- A crossing of a lane (Table 2.10). -/
abbrev XingNo := Fin 48

/-- A value of CAN_CTRL.MODE. -/
abbrev CanModeNo := Fin 8

/-- The access codes of Table 0.5, and `cmd` for a field that carries a command or key and reads 0. -/
inductive Access where
  | ro
  | rw
  | w1c
  | rws
  | rwl
  | mkr
  | sebw
  | cmd
deriving DecidableEq, Repr

/-- The lowest reset level that returns a field to its reset value (Table 0.3); `fixed` is never reset. -/
inductive Domain where
  | block
  | quarter
  | lane
  | carrier
  | powerOn
  | fixed
deriving DecidableEq, Repr

/-- The values the manual lets a write put into a field; any other is BAD_VALUE (R14). `mul lo hi k`: the multiples
of k from lo to hi. -/
inductive Legal where
  | any
  | le (n : Nat)
  | rng (lo hi : Nat)
  | key (k : Nat)
  | mul (lo hi k : Nat)
  | oneOf (l : List (Nat × Nat))
deriving DecidableEq, Repr

/-- One field of a register table. -/
structure FieldRow where
  hi : Nat
  lo : Nat
  acc : Access
  dom : Domain
  rst : Nat
  legal : Legal
deriving DecidableEq, Repr

/-- One register of a register table: its address, `n` copies `s` bytes apart, each of `m` words `t` bytes apart. -/
structure RegRow where
  addr : Nat
  n : Nat
  s : Nat
  m : Nat
  t : Nat
  fields : List FieldRow
deriving DecidableEq, Repr

end Sys2Proof
end

