-- ==== Sys2Proof/Syntax.lean ====
section
/-!
DEFINITION. The commands of the block: one constructor per row of spec/opcode_table.json, in the table's order. Where a row
stands for an event, its operands are what the environment contributes to it.
-/
namespace Sys2Proof

/-- A command the block takes from outside: an event, a register command, a bus message or an engine's instruction. -/
inductive Instr where
  /-- POWER_ON_RESET (R501). The group position the straps set (R443). -/
  | powerOnReset (pos : GroupPos)
  /-- POWER_OFF (R496). -/
  | powerOff
  /-- POWER_LOSS_WARNING (R487). -/
  | powerLossWarning
  /-- BROWN_OUT (R488). -/
  | brownOut
  /-- BROWN_OUT_RECOVERY (R488). -/
  | brownOutRecovery
  /-- XRES_LOW (R497). -/
  | xresLow
  /-- XRES_RELEASE (R497). -/
  | xresRelease
  /-- RESET_HOLD (R498). -/
  | resetHold
  /-- HOLD_END (R499). -/
  | holdEnd
  /-- CARRIER_RESET (R4). -/
  | carrierReset (cause : CarrierCause)
  /-- LANE_RESET (R529). -/
  | laneReset (l : LaneId) (cause : LaneCause)
  /-- LANE_RESET_END (R26). -/
  | laneResetEnd (l : LaneId)
  /-- PLL_LOCK (R45). -/
  | pllLock (l : LaneId)
  /-- PLL_LOSS (R46). -/
  | pllLoss (l : LaneId)
  /-- SEB_SELFTEST (R346). -/
  | sebSelftest (l : LaneId) (ok : Bool)
  /-- BLOCK_RESET (R24). -/
  | blockReset (l : LaneId) (b : Block)
  /-- BLOCK_HANDSHAKE_TIMEOUT (R37). -/
  | blockHandshakeTimeout (l : LaneId) (b : Block)
  /-- RING_STALL (R38). -/
  | ringStall (l : LaneId) (q : Quarter)
  /-- QUARTER_RESET (R23). -/
  | quarterReset (l : LaneId) (q : Quarter)
  /-- LANE_LOGIC_RESTART (R24). -/
  | laneLogicRestart (l : LaneId)
  /-- REQUEST_QUARTER_RESET (R24). -/
  | requestQuarterReset (l : LaneId) (wr : Writer) (q : Quarter)
  /-- REQUEST_LOGIC_RESTART (R24). -/
  | requestLogicRestart (l : LaneId) (wr : Writer)
  /-- GATE_REOPEN (R31). -/
  | gateReopen (l : LaneId) (g : GateNo)
  /-- CROSSING_READY (R52). Whether the core's side announces READY, or the island's. -/
  | crossingReady (l : LaneId) (n : XingNo) (core : Bool)
  /-- STALE_REPLY (R30). -/
  | staleReply (l : LaneId)
  /-- SWITCH_DRIVE_LOST (R17). -/
  | switchDriveLost (k : Switch)
  /-- AVS_ITERATION (R40). The slack of each quarter's monitors and of the spine's, in percent. -/
  | avsIteration (l : LaneId) (ctrl : Nat) (group : Nat) (port : Nat) (keep : Nat) (spine : Nat)
  /-- CORE_SUPPLY_FAULT (R42). -/
  | coreSupplyFault (l : LaneId)
  /-- P_CROSSING_EVENT (R49). The source code of the event, 16 bits. -/
  | pCrossingEvent (l : LaneId) (n : XingNo) (code : Nat)
  /-- TOGGLE_RETURN (R49). -/
  | toggleReturn (l : LaneId) (n : XingNo)
  /-- ENGINE_START (R60). -/
  | engineStart (l : LaneId) (wr : Writer) (e : FgEng)
  /-- ENGINE_STOP (R63). -/
  | engineStop (l : LaneId) (wr : Writer) (e : FgEng)
  /-- RELOAD_ENTRY (R60). E0 has its own row. -/
  | reloadEntry (l : LaneId) (e : FgEng)
  /-- E0_WARM_ENTRY (R61). -/
  | e0WarmEntry (l : LaneId)
  /-- BG_ENGINE_START (R62). -/
  | bgEngineStart (l : LaneId) (k : BgEng)
  /-- BOOT_ROM_START (R403). -/
  | bootRomStart (l : LaneId)
  /-- SCRUB_REWRITE (R69). Whether a foreground write reached the word after the scrub's read (R78). -/
  | scrubRewrite (l : LaneId) (newer : Bool)
  /-- SCRUB_SWEEP_LATE (R79). -/
  | scrubSweepLate (l : LaneId)
  /-- FLASH_REFRESH (R80). The flash offset of the line that needs correction. -/
  | flashRefresh (l : LaneId) (off : FlashOff)
  /-- CAL_UPDATE (R82). The item, the gain measured in ppm from its factory trim, the offset measured, whether AREF agrees, and whether a cycle ends with it. -/
  | calUpdate (l : LaneId) (item : CalItem) (gain : Int) (ofs : Int) (arefOk : Bool) (cycle : Bool)
  /-- WEAR_COMMIT (R85). -/
  | wearCommit (l : LaneId)
  /-- LOG_PUSH (R504). -/
  | logPush (l : LaneId) (wr : Writer)
  /-- CHANGE_LOG_COMMIT (R464). -/
  | changeLogCommit (l : LaneId)
  /-- TELEMETRY_SAMPLE (R90). -/
  | telemetrySample (l : LaneId)
  /-- SNOOP_REFRESH (R90). -/
  | snoopRefresh (l : LaneId)
  /-- ADD (R95). -/
  | add (l : LaneId) (e : Eng) (rd : RegNo) (rs : RegNo) (rt : RegNo)
  /-- SUB (R95). -/
  | sub (l : LaneId) (e : Eng) (rd : RegNo) (rs : RegNo) (rt : RegNo)
  /-- ADDU (R95). -/
  | addu (l : LaneId) (e : Eng) (rd : RegNo) (rs : RegNo) (rt : RegNo)
  /-- SUBU (R95). -/
  | subu (l : LaneId) (e : Eng) (rd : RegNo) (rs : RegNo) (rt : RegNo)
  /-- NEG (R95). -/
  | neg (l : LaneId) (e : Eng) (rd : RegNo) (rs : RegNo)
  /-- ABS (R95). -/
  | abs (l : LaneId) (e : Eng) (rd : RegNo) (rs : RegNo)
  /-- MUL (R95). -/
  | mul (l : LaneId) (e : Eng) (rd : RegNo) (rs : RegNo) (rt : RegNo)
  /-- MULH (R95). -/
  | mulh (l : LaneId) (e : Eng) (rd : RegNo) (rs : RegNo) (rt : RegNo)
  /-- DIV (R96). -/
  | div (l : LaneId) (e : Eng) (rd : RegNo) (rs : RegNo) (rt : RegNo)
  /-- REM (R96). -/
  | rem (l : LaneId) (e : Eng) (rd : RegNo) (rs : RegNo) (rt : RegNo)
  /-- MIN (R95). -/
  | min (l : LaneId) (e : Eng) (rd : RegNo) (rs : RegNo) (rt : RegNo)
  /-- MAX (R95). -/
  | max (l : LaneId) (e : Eng) (rd : RegNo) (rs : RegNo) (rt : RegNo)
  /-- CLAMP (R95). -/
  | clamp (l : LaneId) (e : Eng) (rd : RegNo) (rs : RegNo) (rt : RegNo)
  /-- ADDI (R95). -/
  | addi (l : LaneId) (e : Eng) (rd : RegNo) (rs : RegNo) (imm : Imm17)
  /-- MULI (R95). -/
  | muli (l : LaneId) (e : Eng) (rd : RegNo) (rs : RegNo) (imm : Imm17)
  /-- CMP (R95). -/
  | cmp (l : LaneId) (e : Eng) (rs : RegNo) (rt : RegNo)
  /-- CMPI (R95). -/
  | cmpi (l : LaneId) (e : Eng) (rs : RegNo) (imm : Imm17)
  /-- ADDM (R95). -/
  | addm (l : LaneId) (e : Eng) (rd : RegNo) (rs : RegNo) (rt : RegNo)
  /-- SUBM (R95). -/
  | subm (l : LaneId) (e : Eng) (rd : RegNo) (rs : RegNo) (rt : RegNo)
  /-- ADDMI (R95). -/
  | addmi (l : LaneId) (e : Eng) (rd : RegNo) (rs : RegNo) (imm : Imm17)
  /-- MULM (R95). -/
  | mulm (l : LaneId) (e : Eng) (rd : RegNo) (rs : RegNo) (rt : RegNo)
  /-- STEPM (R95). -/
  | stepm (l : LaneId) (e : Eng) (rd : RegNo) (rs : RegNo) (rt : RegNo)
  /-- AND (R94). -/
  | and (l : LaneId) (e : Eng) (rd : RegNo) (rs : RegNo) (rt : RegNo)
  /-- OR (R94). -/
  | or (l : LaneId) (e : Eng) (rd : RegNo) (rs : RegNo) (rt : RegNo)
  /-- XOR (R94). -/
  | xor (l : LaneId) (e : Eng) (rd : RegNo) (rs : RegNo) (rt : RegNo)
  /-- ANDI (R94). -/
  | andi (l : LaneId) (e : Eng) (rd : RegNo) (rs : RegNo) (imm : Imm17)
  /-- ORI (R94). -/
  | ori (l : LaneId) (e : Eng) (rd : RegNo) (rs : RegNo) (imm : Imm17)
  /-- XORI (R94). -/
  | xori (l : LaneId) (e : Eng) (rd : RegNo) (rs : RegNo) (imm : Imm17)
  /-- SHL (R94). -/
  | shl (l : LaneId) (e : Eng) (rd : RegNo) (rs : RegNo) (n : ShiftBy)
  /-- SHR (R94). -/
  | shr (l : LaneId) (e : Eng) (rd : RegNo) (rs : RegNo) (n : ShiftBy)
  /-- SRA (R94). -/
  | sra (l : LaneId) (e : Eng) (rd : RegNo) (rs : RegNo) (n : ShiftBy)
  /-- SHLS (R95). -/
  | shls (l : LaneId) (e : Eng) (rd : RegNo) (rs : RegNo) (n : ShiftBy)
  /-- ROR (R94). -/
  | ror (l : LaneId) (e : Eng) (rd : RegNo) (rs : RegNo) (n : ShiftBy)
  /-- CLZ (R94). -/
  | clz (l : LaneId) (e : Eng) (rd : RegNo) (rs : RegNo)
  /-- POPC (R94). -/
  | popc (l : LaneId) (e : Eng) (rd : RegNo) (rs : RegNo)
  /-- BFX (R94). The position and length as encoded; ones the encoding forbids are ill-formed and raise ILLEGAL (R94). -/
  | bfx (l : LaneId) (e : Eng) (rd : RegNo) (rs : RegNo) (pos : Nat) (len : Nat)
  /-- BFI (R94). As BFX. -/
  | bfi (l : LaneId) (e : Eng) (rd : RegNo) (rs : RegNo) (pos : Nat) (len : Nat)
  /-- SEXT (R94). The sign bit's number; 32 or more is ill-formed and raises ILLEGAL (R94). -/
  | sext (l : LaneId) (e : Eng) (rd : RegNo) (rs : RegNo) (b : Nat)
  /-- CRC (R94). -/
  | crc (l : LaneId) (e : Eng) (rd : RegNo) (rs : RegNo)
  /-- MOV (R94). -/
  | mov (l : LaneId) (e : Eng) (rd : RegNo) (rs : RegNo)
  /-- MOVI (R94). -/
  | movi (l : LaneId) (e : Eng) (rd : RegNo) (imm : Imm17)
  /-- MOVHI (R94). -/
  | movhi (l : LaneId) (e : Eng) (rd : RegNo) (imm : Imm16)
  /-- SEL (R94). The condition code as encoded; 13 and above is ill-formed and raises ILLEGAL (R94). -/
  | sel (l : LaneId) (e : Eng) (rd : RegNo) (rs : RegNo) (rt : RegNo) (cond : Nat)
  /-- MFK (R93). The control register's number; 12 and above is ill-formed and raises ILLEGAL (R93). -/
  | mfk (l : LaneId) (e : Eng) (w : RegNo) (k : Nat)
  /-- MTK (R93). As MFK; a read-only register raises ILLEGAL too. -/
  | mtk (l : LaneId) (e : Eng) (k : Nat) (w : RegNo)
  /-- LDW (R99). -/
  | ldw (l : LaneId) (e : Eng) (rd : RegNo) (rs : RegNo) (imm : Imm17) (ecc : Ecc)
  /-- LDH (R99). -/
  | ldh (l : LaneId) (e : Eng) (rd : RegNo) (rs : RegNo) (imm : Imm17) (ecc : Ecc)
  /-- LDHU (R99). -/
  | ldhu (l : LaneId) (e : Eng) (rd : RegNo) (rs : RegNo) (imm : Imm17) (ecc : Ecc)
  /-- LDB (R99). -/
  | ldb (l : LaneId) (e : Eng) (rd : RegNo) (rs : RegNo) (imm : Imm17) (ecc : Ecc)
  /-- LDBU (R99). -/
  | ldbu (l : LaneId) (e : Eng) (rd : RegNo) (rs : RegNo) (imm : Imm17) (ecc : Ecc)
  /-- STW (R99). -/
  | stw (l : LaneId) (e : Eng) (rd : RegNo) (rs : RegNo) (imm : Imm17)
  /-- STH (R72). -/
  | sth (l : LaneId) (e : Eng) (rd : RegNo) (rs : RegNo) (imm : Imm17) (ecc : Ecc)
  /-- STB (R72). -/
  | stb (l : LaneId) (e : Eng) (rd : RegNo) (rs : RegNo) (imm : Imm17) (ecc : Ecc)
  /-- PUSHM (R102). A mask with bit 14 set raises ILLEGAL (R102). -/
  | pushm (l : LaneId) (e : Eng) (mask : Imm16)
  /-- POPM (R102). As PUSHM. -/
  | popm (l : LaneId) (e : Eng) (mask : Imm16) (ecc : Ecc)
  /-- XCHG (R103). -/
  | xchg (l : LaneId) (e : Eng) (rd : RegNo) (rs : RegNo) (ecc : Ecc)
  /-- CAS (R103). -/
  | cas (l : LaneId) (e : Eng) (rd : RegNo) (rs : RegNo) (rt : RegNo) (ecc : Ecc)
  /-- COPY (R100). -/
  | copy (l : LaneId) (e : Eng) (rd : RegNo) (rs : RegNo) (rt : RegNo) (ecc : Ecc)
  /-- FILL (R100). -/
  | fill (l : LaneId) (e : Eng) (rd : RegNo) (rs : RegNo) (rt : RegNo)
  /-- TIDX (R104). -/
  | tidx (l : LaneId) (e : Eng) (rd : RegNo) (rs : RegNo) (rt : RegNo) (ecc : Ecc)
  /-- TSRCH (R104). -/
  | tsrch (l : LaneId) (e : Eng) (rd : RegNo) (rs : RegNo) (rt : RegNo) (ecc : Ecc)
  /-- TSCAN (R104). -/
  | tscan (l : LaneId) (e : Eng) (rd : RegNo) (rs : RegNo) (rt : RegNo) (ecc : Ecc)
  /-- TINT (R104). -/
  | tint (l : LaneId) (e : Eng) (rd : RegNo) (rs : RegNo) (rt : RegNo) (ecc : Ecc)
  /-- MAC (R97). -/
  | mac (l : LaneId) (e : Eng) (ad : AccNo) (rs : RegNo) (rt : RegNo) (sh : ShAmt)
  /-- MSU (R97). -/
  | msu (l : LaneId) (e : Eng) (ad : AccNo) (rs : RegNo) (rt : RegNo) (sh : ShAmt)
  /-- MULA (R97). -/
  | mula (l : LaneId) (e : Eng) (ad : AccNo) (rs : RegNo) (rt : RegNo) (sh : ShAmt)
  /-- LDA (R95). RAW 1 with a non-zero sh is ill-formed and raises ILLEGAL (R94). -/
  | lda (l : LaneId) (e : Eng) (ad : AccNo) (rs : RegNo) (sh : ShAmt) (raw : Bool)
  /-- LDAH (R95). -/
  | ldah (l : LaneId) (e : Eng) (ad : AccNo) (rs : RegNo)
  /-- RDA (R97). As LDA. -/
  | rda (l : LaneId) (e : Eng) (rd : RegNo) (ad : AccNo) (sh : ShAmt) (raw : Bool)
  /-- RDAH (R95). -/
  | rdah (l : LaneId) (e : Eng) (rd : RegNo) (ad : AccNo)
  /-- ADDA (R95). -/
  | adda (l : LaneId) (e : Eng) (ad : AccNo) (ae : AccNo)
  /-- SHRA (R97). -/
  | shra (l : LaneId) (e : Eng) (ad : AccNo) (sh : ShAmt)
  /-- CLRA (R95). -/
  | clra (l : LaneId) (e : Eng) (ad : AccNo)
  /-- B (R92). -/
  | b (l : LaneId) (e : Eng) (off : Off25)
  /-- BL (R92). -/
  | bl (l : LaneId) (e : Eng) (off : Off25)
  /-- BR (R98). -/
  | br (l : LaneId) (e : Eng) (rs : RegNo)
  /-- BLR (R98). -/
  | blr (l : LaneId) (e : Eng) (rs : RegNo)
  /-- BEQ (R92). -/
  | beq (l : LaneId) (e : Eng) (rs : RegNo) (rt : RegNo) (off : Off17)
  /-- BNE (R92). -/
  | bne (l : LaneId) (e : Eng) (rs : RegNo) (rt : RegNo) (off : Off17)
  /-- BLT (R92). -/
  | blt (l : LaneId) (e : Eng) (rs : RegNo) (rt : RegNo) (off : Off17)
  /-- BGE (R92). -/
  | bge (l : LaneId) (e : Eng) (rs : RegNo) (rt : RegNo) (off : Off17)
  /-- BLTU (R92). -/
  | bltu (l : LaneId) (e : Eng) (rs : RegNo) (rt : RegNo) (off : Off17)
  /-- BGEU (R92). -/
  | bgeu (l : LaneId) (e : Eng) (rs : RegNo) (rt : RegNo) (off : Off17)
  /-- BCC (R92). As SEL for the condition code. -/
  | bcc (l : LaneId) (e : Eng) (cond : Nat) (off : Off17)
  /-- LOOP (R92). -/
  | loop (l : LaneId) (e : Eng) (ws : RegNo) (off : Off17)
  /-- ERET (R113). -/
  | eret (l : LaneId) (e : Eng)
  /-- FENCE (R99). -/
  | fence (l : LaneId) (e : Eng)
  /-- SEND (R106). -/
  | send (l : LaneId) (e : Eng) (ch : ChNo) (wd : RegNo)
  /-- RECV (R106). -/
  | recv (l : LaneId) (e : Eng) (wd : RegNo) (ch : ChNo)
  /-- SENDNB (R106). -/
  | sendnb (l : LaneId) (e : Eng) (wd : RegNo) (ws : RegNo) (ch : ChNo)
  /-- RECVNB (R106). -/
  | recvnb (l : LaneId) (e : Eng) (wd : RegNo) (ch : ChNo)
  /-- CHSEL (R108). -/
  | chsel (l : LaneId) (e : Eng) (rd : RegNo) (rs : RegNo) (rt : RegNo)
  /-- CHSTAT (R108). -/
  | chstat (l : LaneId) (e : Eng) (wd : RegNo) (ch : ChNo)
  /-- RGLD (R111). -/
  | rgld (l : LaneId) (e : Eng) (rd : RegNo) (rt : RegNo)
  /-- RGST (R111). -/
  | rgst (l : LaneId) (e : Eng) (rd : RegNo) (rs : RegNo) (rt : RegNo)
  /-- RGCHK (R110). -/
  | rgchk (l : LaneId) (e : Eng) (rd : RegNo) (rt : RegNo)
  /-- ENGINE_TIMER_TICK (R105). -/
  | engineTimerTick (l : LaneId) (e : Eng)
  /-- CHCFG_WRITE (R105). The engine that writes, the endpoint's engine and number, and the value. -/
  | chcfgWrite (l : LaneId) (e : Eng) (n : FgEng) (ch : ChNo) (v : Word)
  /-- REGISTER_WRITE (R110). The writer, the register's address and the value. -/
  | registerWrite (l : LaneId) (wr : Writer) (addr : Nat) (v : Word)
  /-- LGAIN (R125). The run of slot n in progress executes LGAIN. -/
  | lgain (l : LaneId) (n : Slot) (rd : RegNo) (rs : RegNo)
  /-- BQD (R126). As LGAIN; the section 0 to 3. -/
  | bqd (l : LaneId) (n : Slot) (rd : RegNo) (rs : RegNo) (sec : AccNo)
  /-- LCLMP (R127). As LGAIN; the limit pair 0 to 3. -/
  | lclmp (l : LaneId) (n : Slot) (rd : RegNo) (rs : RegNo) (pair : AccNo)
  /-- OUT (R128). As LGAIN; the port and the E bit. -/
  | out (l : LaneId) (n : Slot) (rs : RegNo) (port : AccNo) (last : Bool)
  /-- SLOT_SAMPLE_INSTANT (R117). -/
  | slotSampleInstant (l : LaneId) (n : Slot)
  /-- SLOT_RUN (R119). What the code finds at the run's table and data reads. -/
  | slotRun (l : LaneId) (ecc : Ecc)
  /-- SLOT_RESULT (R56). The island clock, 0 to 79, of F's present microsecond at which the request is synchronised. -/
  | slotResult (l : LaneId) (n : Slot) (sub : Nat)
  /-- SLOT_DEADLINE (R120). -/
  | slotDeadline (l : LaneId) (n : Slot)
  /-- BQ_COMMIT (R126). -/
  | bqCommit (l : LaneId) (wr : Writer) (cmt : Byte) (clr : Byte)
  /-- BANK_WRITE (R130). The word of the slot's two banks, 0 to 1023, and the value. -/
  | bankWrite (l : LaneId) (wr : Writer) (n : Slot) (word : BankWord) (v : Word)
  /-- CHECK (R131). -/
  | check (l : LaneId) (wr : Writer) (n : Slot) (bank : Bool) (len : LoopLen)
  /-- RESUME (R139). -/
  | resume (l : LaneId) (wr : Writer) (n : Slot)
  /-- FORCE_GUARD (R137). -/
  | forceGuard (l : LaneId) (wr : Writer) (n : Slot)
  /-- SLOTCFG_WRITE (R132). -/
  | slotcfgWrite (l : LaneId) (wr : Writer) (n : Slot) (v : Word)
  /-- OUTDST_WRITE (R133). -/
  | outdstWrite (l : LaneId) (wr : Writer) (n : Slot) (v : Word)
  /-- SLOTPH_WRITE (R134). -/
  | slotphWrite (l : LaneId) (wr : Writer) (n : Slot) (v : Word)
  /-- DATA_RAM_WRITE (R135). -/
  | dataRamWrite (l : LaneId) (wr : Writer) (n : Slot) (word : Byte) (v : Word)
  /-- TRC_ARM (R142). -/
  | trcArm (l : LaneId) (wr : Writer) (div : TrcDiv) (clk : Slot) (len : TrcLen)
  /-- TRC_STOP (R143). -/
  | trcStop (l : LaneId) (wr : Writer)
  /-- TRC_FORCE (R143). -/
  | trcForce (l : LaneId) (wr : Writer)
  /-- TRACE_SAMPLE (R141). -/
  | traceSample (l : LaneId)
  /-- BOB_SAMPLE_INSTANT (R145). -/
  | bobSampleInstant (l : LaneId)
  /-- SSI_FRAME (R147). The bits in the order received, DAT high before the first clock, DAT high again within 40 us, and the first falling clock edge
  in clocks of F. -/
  | ssiFrame (l : LaneId) (frame : Bits) (ready : Bool) (returned : Bool) (edge : Nat)
  /-- ACC_TRANSFER (R151). The bytes read after the command byte; whether the transfer was made at all. -/
  | accTransfer (l : LaneId) (data : Bytes) (done : Bool)
  /-- GATHER_WINDOW_CLOSE (R152). -/
  | gatherWindowClose (l : LaneId)
  /-- BOB_PUBLISH (R162). -/
  | bobPublish (l : LaneId)
  /-- BOB_RESTART (R159). -/
  | bobRestart (l : LaneId) (wr : Writer)
  /-- BOB_ENABLE (R159). -/
  | bobEnable (l : LaneId) (wr : Writer) (en : Bool)
  /-- BOB_RESET_END (R534). -/
  | bobResetEnd (l : LaneId)
  /-- BOB_POS_READ (R163). -/
  | bobPosRead (l : LaneId) (wr : Writer)
  /-- VALIDATE (R166). -/
  | validate (l : LaneId) (wr : Writer)
  /-- VALIDATE_COMPLETE (R166). -/
  | validateComplete (l : LaneId)
  /-- LTSEL_WRITE (R168). -/
  | ltselWrite (l : LaneId) (wr : Writer) (sel : Bool)
  /-- RELEVEL_REQUEST (R171). -/
  | relevelRequest (l : LaneId)
  /-- CAPTURE_EDGE (R172). The input, the edge, and the group time its stamp gives where the input is in time-stamped mode. -/
  | captureEdge (l : LaneId) (fi : FieldInput) (rising : Bool) (stamp : Nat)
  /-- CAPTURE_POP (R173). -/
  | capturePop (l : LaneId) (wr : Writer)
  /-- SPG_PUBLISH (R176). The bridge reading of the load-weighing front end converted for this sample. -/
  | spgPublish (l : LaneId) (lw : Int)
  /-- SPG_PUSH (R177). The END bit. -/
  | spgPush (l : LaneId) (wr : Writer) (last : Bool)
  /-- START (R197). -/
  | start (l : LaneId) (wr : Writer) (src : Bool)
  /-- RELEVEL (R197). -/
  | relevel (l : LaneId) (wr : Writer)
  /-- PROFILE (R188). -/
  | profile (l : LaneId) (wr : Writer)
  /-- STREAM (R185). -/
  | stream (l : LaneId) (wr : Writer)
  /-- SPG_HALT (R188). -/
  | spgHalt (l : LaneId) (wr : Writer)
  /-- MODE (R194). -/
  | mode (l : LaneId) (wr : Writer) (newmode : Slot) (keep : Bool)
  /-- HPG_STEP (R189). -/
  | hpgStep (l : LaneId)
  /-- START_SEQ_ADVANCE (R198). -/
  | startSeqAdvance (l : LaneId)
  /-- STOP_SEQ_ADVANCE (R199). -/
  | stopSeqAdvance (l : LaneId)
  /-- BRAKE_FB_TIMEOUT (R198). -/
  | brakeFbTimeout (l : LaneId)
  /-- TQON_TIMEOUT (R198). -/
  | tqonTimeout (l : LaneId)
  /-- STOPMAX_TIMEOUT (R199). -/
  | stopmaxTimeout (l : LaneId)
  /-- NOTCH_UPDATE (R192). -/
  | notchUpdate (l : LaneId)
  /-- NOTCH_TRACKER (R192). The band-pass powers P+ and P- of the 250 ms that end. -/
  | notchTracker (l : LaneId)
  /-- DRV_PERIOD (R200). The TREF of the frame the holder drives, as a standby lane sees it on the wire. -/
  | drvPeriod (l : LaneId) (wire : OptInt)
  /-- DRV_RX_FRAME (R202). The 24 bytes, and whether the frame lies in the window of R202. -/
  | drvRxFrame (data : Bytes) (inTime : Bool)
  /-- RX_WINDOW_CLOSE (R204). -/
  | rxWindowClose (l : LaneId)
  /-- DRV_EN_WRITE (R532). -/
  | drvEnWrite (l : LaneId) (wr : Writer) (en : Bool)
  /-- SEL_CYCLE (R208). -/
  | selCycle (l : LaneId)
  /-- SEL_CLAIM (R217). -/
  | selClaim (l : LaneId) (wr : Writer) (tgt : Word)
  /-- CURRENT_SAMPLE (R229). The two converter values after the offset and gain of E9, in steps from mid-scale. -/
  | currentSample (l : LaneId) (d : Door) (iu : Int) (iv : Int)
  /-- COMPARE_LOAD (R231). -/
  | compareLoad (l : LaneId) (d : Door)
  /-- HALL_EDGE (R235). The code 4·HA + 2·HB + HC. -/
  | hallEdge (d : Door) (code : Slot)
  /-- HALL_TIMEOUT (R236). -/
  | hallTimeout (l : LaneId) (d : Door)
  /-- DOR_SAMPLE_INSTANT (R241). -/
  | dorSampleInstant (l : LaneId) (d : Door)
  /-- DOR_PUBLISH (R237). -/
  | dorPublish (l : LaneId) (d : Door)
  /-- OPEN (R242). -/
  | doorOpen (l : LaneId) (wr : Writer) (d : Door)
  /-- CLOSE (R258). -/
  | doorClose (l : LaneId) (wr : Writer) (d : Door)
  /-- NUDGE (R242). -/
  | nudge (l : LaneId) (wr : Writer) (d : Door)
  /-- PREOPEN (R243). -/
  | preopen (l : LaneId) (wr : Writer) (d : Door)
  /-- DOOR_STOP (R242). -/
  | doorStop (l : LaneId) (wr : Writer) (d : Door)
  /-- REFERENCE (R244). -/
  | reference (l : LaneId) (wr : Writer) (d : Door)
  /-- LEARN (R249). -/
  | learn (l : LaneId) (wr : Writer) (d : Door)
  /-- DOOR_CLRFLT (R242). -/
  | doorClrflt (l : LaneId) (wr : Writer) (d : Door)
  /-- REF_TIMEOUT (R244). -/
  | refTimeout (l : LaneId) (d : Door)
  /-- LOCK_TIMEOUT (R245). -/
  | lockTimeout (l : LaneId) (d : Door)
  /-- FSEL_WRITE (R250). The word written holds both EN and FSEL. -/
  | fselWrite (l : LaneId) (wr : Writer) (d : Door) (en : Bool) (fsel : Bool)
  /-- DEADT_WRITE (R232). -/
  | deadtWrite (l : LaneId) (wr : Writer) (d : Door) (v : Word)
  /-- CAPS_WRITE (R260). -/
  | capsWrite (l : LaneId) (wr : Writer) (d : Door) (reg : DorCapReg) (v : Word)
  /-- STOP_LIST_PUBLISH (R262). -/
  | stopListPublish (l : LaneId) (wr : Writer) (n : Byte)
  /-- SUBMISSION_PUSH (R267). -/
  | submissionPush (l : LaneId) (wr : Writer)
  /-- PRK_EVALUATION (R280). -/
  | prkEvaluation (l : LaneId)
  /-- ANSPOP (R281). -/
  | anspop (l : LaneId) (wr : Writer)
  /-- CAR_VIEW_STALE (R266). -/
  | carViewStale (l : LaneId) (g : GroupPos)
  /-- FORCED_REALLOCATION (R284). -/
  | forcedReallocation (l : LaneId) (g : GroupPos)
  /-- SWEEP_START (R282). -/
  | sweepStart (l : LaneId)
  /-- PRK_MODE_WRITE (R286). -/
  | prkModeWrite (l : LaneId) (wr : Writer) (v : Word)
  /-- MIRROR_SEND (R287). -/
  | mirrorSend (l : LaneId)
  /-- MIRROR_APPLY (R288). -/
  | mirrorApply (l : LaneId) (set : MirrorSet)
  /-- ASSIGNMENT_RECEIVED (R264). The place the master proposed. -/
  | assignmentReceived (l : LaneId) (call : Pickup) (place : Byte)
  /-- UNCONFIRMED_PICKUP_EXPIRY (R291). The places in the stop list whose pickups are still unconfirmed. -/
  | unconfirmedPickupExpiry (l : LaneId) (stops : Bytes)
  /-- SEB_CYCLE (R293). Whether the two internal datapaths disagree (R346). -/
  | sebCycle (l : LaneId) (mismatch : Bool)
  /-- INPUT_FILTER_EXPIRY (R296). -/
  | inputFilterExpiry (l : LaneId) (k : SafetySignal)
  /-- DISCREPANCY_TIMEOUT (R298). -/
  | discrepancyTimeout (l : LaneId) (g : SafetyGroup)
  /-- TWO_HAND_TIMEOUT (R302). -/
  | twoHandTimeout (l : LaneId)
  /-- ENCLOST (R316). -/
  | enclost (l : LaneId)
  /-- BOB_REPORT_MISSING (R320). -/
  | bobReportMissing (l : LaneId)
  /-- SEL_REPORT_TIMEOUT (R321). -/
  | selReportTimeout (l : LaneId)
  /-- DEMAND_MISMATCH (R324). -/
  | demandMismatch (l : LaneId)
  /-- PARTNER_LOST (R325). -/
  | partnerLost (l : LaneId)
  /-- PARTNER_RESTORED (R325). -/
  | partnerRestored (l : LaneId)
  /-- PARTNER (R322). The lane whose SEB receives the word. -/
  | partner (l : LaneId)
  /-- SEBREQ (R327). The lane whose SEB receives the requests. -/
  | sebreq (l : LaneId)
  /-- SEB_REQ_WRITE (R327). -/
  | sebReqWrite (l : LaneId) (wr : Writer) (v : Word)
  /-- REQUEST_TIMEOUT (R328). -/
  | requestTimeout (l : LaneId)
  /-- FEEDBACK_TIMEOUT (R330). -/
  | feedbackTimeout (l : LaneId) (p : Pair)
  /-- STO_MISMATCH (R331). -/
  | stoMismatch (l : LaneId)
  /-- LATCH_RECORD_WRITE (R334). -/
  | latchRecordWrite (l : LaneId)
  /-- RESET_BUTTON (R335). How long the filtered signal was 1, in ms. -/
  | resetButton (l : LaneId) (ms : Nat)
  /-- SEB_OPEN (R339). -/
  | sebOpen (l : LaneId) (wr : Writer)
  /-- SEB_COMMIT (R341). -/
  | sebCommit (l : LaneId) (wr : Writer)
  /-- SEB_ABORT (R340). -/
  | sebAbort (l : LaneId) (wr : Writer)
  /-- SEB_RESET (R336). -/
  | sebReset (l : LaneId) (wr : Writer)
  /-- CONFIG_STORE_COMPLETE (R342). -/
  | configStoreComplete (l : LaneId) (ok : Bool)
  /-- REVERT_COMPLETE (R340). -/
  | revertComplete (l : LaneId)
  /-- SESSION_IDLE_TIMEOUT (R340). -/
  | sessionIdleTimeout (l : LaneId)
  /-- PW_LOCK_EXPIRY (R345). -/
  | pwLockExpiry (l : LaneId)
  /-- STATE_FRAME (R353). The voltages at the outputs' pads, and the sources whose junction is above 150 C. -/
  | stateFrame (l : LaneId) (pads : PadVolts) (hot : SourceBits)
  /-- SUPERVISED_MEASURE (R355). -/
  | supervisedMeasure (k : Ratios)
  /-- INPUT_EDGE (R357): a voltage (mV) has stood at the input's pin for GLITCH µs. -/
  | inputEdge (n : FieldInput) (mv : Nat)
  /-- EDGE_POP (R358). -/
  | edgePop (l : LaneId) (wr : Writer)
  /-- THRESHOLD_UPDATE (R352). The filtered reading of VFLD in 10 mV. -/
  | thresholdUpdate (v : Nat)
  /-- TEST_SLOT (R359). -/
  | testSlot (obs : TestObs)
  /-- OUTPUT_FAULT (R368). -/
  | outputFault (src : Source) (what : OutTrouble)
  /-- VFLD_FALL (R370). The voltage VFLD has stayed at or below for the filter time, in mV. -/
  | vfldFall (mv : Nat)
  /-- VFLD_RISE (R370). The voltage VFLD has stayed above for the filter time, in mV. -/
  | vfldRise (mv : Nat)
  /-- LOW_TIMEOUT (R370). -/
  | lowTimeout
  /-- OUTPUTS_CUT_DELAY (R370). -/
  | outputsCutDelay
  /-- KEEPALIVE (R371). -/
  | keepalive (l : LaneId) (wr : Writer) (key : Byte)
  /-- WATCHDOG_EXPIRY (R372). -/
  | watchdogExpiry
  /-- FIO_RELEASE (R373). -/
  | fioRelease (l : LaneId) (wr : Writer)
  /-- FIO_CLRFLT (R368). -/
  | fioClrflt (l : LaneId) (wr : Writer) (mask : SourceBits)
  /-- ACKCUT (R373). -/
  | ackcut (l : LaneId) (wr : Writer)
  /-- FIO_OUT_WRITE (R367). -/
  | fioOutWrite (l : LaneId) (wr : Writer) (v : Byte)
  /-- FIO_CONFIG_LOAD (R350). -/
  | fioConfigLoad (l : LaneId)
  /-- HB_SEND (R374). -/
  | hbSend (l : LaneId)
  /-- HB (R378). The receiving lane; half the round trip it has measured, in clocks of F. -/
  | hb (l : LaneId) (half : Nat)
  /-- HEARTBEAT_LOSS (R400). -/
  | heartbeatLoss (l : LaneId)
  /-- SSI (R152). -/
  | ssi (l : LaneId)
  /-- ACC (R151). -/
  | acc (l : LaneId)
  /-- SEAL_EDGE (R391). -/
  | sealEdge (l : LaneId)
  /-- EPDATA (R375). The receiving lane, as for every message below. -/
  | epdata (l : LaneId)
  /-- SEAL (R393). -/
  | seal (l : LaneId)
  /-- EPOCH_MISSING (R394). -/
  | epochMissing (l : LaneId)
  /-- BULK (R396). -/
  | bulk (l : LaneId)
  /-- BULKEND (R397). -/
  | bulkend (l : LaneId)
  /-- HOOP_GRANT (R386). -/
  | hoopGrant (l : LaneId)
  /-- HOOP_RELEASE (R386). -/
  | hoopRelease
  /-- HOOP_FAULT (R389). -/
  | hoopFault
  /-- HOOP_FAULT_CLEAR (R389). -/
  | hoopFaultClear
  /-- COLD_TRAIN_START (R387). -/
  | coldTrainStart (l : LaneId)
  /-- KEEPALIVE_TIMEOUT (R390). -/
  | keepaliveTimeout (l : LaneId)
  /-- READY (R387). -/
  | ready (l : LaneId) (wr : Writer)
  /-- LNK_RELEASE (R390). -/
  | lnkRelease (l : LaneId) (wr : Writer)
  /-- SELFTEST (R384). -/
  | selftest (l : LaneId) (wr : Writer)
  /-- SUSPECT_SELFTEST_COMPLETE (R384). -/
  | suspectSelftestComplete (l : LaneId) (ok : Bool)
  /-- RESTART_PEER (R385). -/
  | restartPeer (l : LaneId) (wr : Writer)
  /-- CTRL_RESTART (R385). -/
  | ctrlRestart (l : LaneId)
  /-- FWTEST_WRITE (R381). -/
  | fwtestWrite (l : LaneId) (wr : Writer) (ok : Bool) (fail : Bool)
  /-- FW_STALE (R381). -/
  | fwStale (l : LaneId)
  /-- LNK_SWITCH (R402). -/
  | lnkSwitch (l : LaneId) (wr : Writer)
  /-- CTRL_SWITCH (R402). -/
  | ctrlSwitch (l : LaneId)
  /-- UPDATE_START (R405). -/
  | updateStart (l : LaneId) (wr : Writer)
  /-- UPDATE_COMMIT (R405). -/
  | updateCommit (l : LaneId) (wr : Writer)
  /-- UPDATE_ABORT (R406). -/
  | updateAbort (l : LaneId) (wr : Writer)
  /-- CTRL_UPDATE_START (R405). -/
  | ctrlUpdateStart (l : LaneId)
  /-- CTRL_UPDATE_COMMIT (R405). -/
  | ctrlUpdateCommit (l : LaneId)
  /-- CTRL_UPDATE_ABORT (R406). -/
  | ctrlUpdateAbort (l : LaneId)
  /-- UPD (R405). The block reads back as programmed. -/
  | upd (l : LaneId) (good : Bool)
  /-- UPDACK (R474). At the lane that receives it. -/
  | updack (l : LaneId)
  /-- CTRL_DEBUG_ON (R483). -/
  | ctrlDebugOn (l : LaneId)
  /-- CTRL_DEBUG_OFF (R484). -/
  | ctrlDebugOff (l : LaneId)
  /-- LANE_MESSAGE_CRC_ERROR (R376). -/
  | laneMessageCrcError (l : LaneId) (m : LinkMsg)
  /-- CAN_TXPUSH (R412). -/
  | canTxpush (l : LaneId) (n : Port) (wr : Writer)
  /-- CAN_TX_END (R414). How the attempt of the ACTIVE object ends, and what the other lane's controller, which follows the holder's, saw of it. -/
  | canTxEnd (l : LaneId) (n : Port) (e : CanAttempt)
  /-- PROBE_TIMER (R417). -/
  | probeTimer (l : LaneId) (n : Port)
  /-- CAN_RX_FRAME (R419). The frame, and whether it came without error. -/
  | canRxFrame (n : Port) (fr : CanFrame) (e : CanRxEnd)
  /-- CANCEL (R415). The object, and whether the cancel reaches the controller after arbitration was won. -/
  | cancel (l : LaneId) (n : Port) (k : CanObjNo) (won : Bool) (wr : Writer)
  /-- CAN_OBJ_RELEASE (R414). -/
  | canObjRelease (l : LaneId) (n : Port) (k : CanObjNo) (wr : Writer)
  /-- CAN_RXPOP (R422). -/
  | canRxpop (l : LaneId) (n : Port) (f : Bool) (wr : Writer)
  /-- REBUILD (R424). -/
  | rebuild (l : LaneId) (n : Port) (wr : Writer)
  /-- REBUILD_COMPLETE (R424). -/
  | rebuildComplete (l : LaneId) (n : Port)
  /-- SILENCE_SCAN (R425). -/
  | silenceScan (l : LaneId) (n : Port)
  /-- CAN_MODE_WRITE (R426). -/
  | canModeWrite (l : LaneId) (n : Port) (mode : CanModeNo) (wr : Writer)
  /-- BUSOFF_RECOVERY (R427). -/
  | busoffRecovery (l : LaneId) (n : Port)
  /-- CAN_RESTART (R427). -/
  | canRestart (l : LaneId) (n : Port) (wr : Writer)
  /-- AUTOBAUD_DWELL (R428). -/
  | autobaudDwell (l : LaneId) (n : Port)
  /-- AUTOBAUD_TIMEOUT (R429). -/
  | autobaudTimeout (l : LaneId) (n : Port)
  /-- SHADOW_UNMATCHED (R430). -/
  | shadowUnmatched (l : LaneId) (n : Port) (k : CanObjNo)
  /-- CAN_TAKEOVER_RESUME (R431). -/
  | canTakeoverResume (l : LaneId) (n : Port)
  /-- SLEEP (R432). -/
  | sleep (l : LaneId) (n : Port) (wr : Writer)
  /-- WAKE (R434). -/
  | wake (l : LaneId) (n : Port) (wr : Writer)
  /-- CAN_WAKE (R434). -/
  | canWake (n : Port) (by_ : CanWakeBy)
  /-- PIC_FRAME_RX (R438). The ring it came on (true: B), the frame, and what its check found. -/
  | picFrameRx (ringB : Bool) (fr : PicFrame) (bad : PicCheck)
  /-- TIME (R446). The ring, whether the mark is the part's own, GTIME in µs, CORR and LOOP in ns, and its arrival on each lane's counter in ns. -/
  | time (ringB : Bool) (own : Bool) (gt : Nat) (corr : Nat) (loop : Nat) (arrA : Nat) (arrB : Nat)
  /-- TIME_SEND (R445). -/
  | timeSend (l : LaneId)
  /-- LTEST (R448). The port (true: upstream), RXOK, the leave indication, the neighbour. -/
  | ltest (up : Bool) (rxok : Bool) (leave : Bool) (src : GroupPos)
  /-- LTEST_SEND (R448). -/
  | ltestSend (l : LaneId)
  /-- PORT_BROKEN (R448). -/
  | portBroken (l : LaneId) (up : Bool)
  /-- UNWRAP (R449). The port, the switch time in µs, ACK. -/
  | unwrap (up : Bool) (t : Nat) (ack : Bool)
  /-- UNWRAP_AT_T (R449). -/
  | unwrapAtT (l : LaneId) (up : Bool)
  /-- UNWRAP_RETRY (R449). -/
  | unwrapRetry (l : LaneId) (up : Bool)
  /-- NOTICE (R444). -/
  | notice (kind : PicNotice) (src : GroupPos) (master : GroupPos)
  /-- PART_UNSEEN (R444). -/
  | partUnseen (l : LaneId) (g : GroupPos)
  /-- HANDOVER (R444). -/
  | handover (l : LaneId)
  /-- PUB_SEND (R442). -/
  | pubSend (l : LaneId)
  /-- FW_FRAME_SEND (R442). -/
  | fwFrameSend (l : LaneId)
  /-- PIC_TXPUSH (R442). -/
  | picTxpush (l : LaneId) (wr : Writer)
  /-- PIC_RXPOP (R437). -/
  | picRxpop (l : LaneId) (wr : Writer)
  /-- LEAVE (R452). -/
  | leave (l : LaneId) (wr : Writer)
  /-- LEAVE_COMPLETE (R452). -/
  | leaveComplete (l : LaneId)
  /-- EQ_ADAPT (R451). The port, the way of the step, and whether the eye is open by less than 40 %. -/
  | eqAdapt (l : LaneId) (up : Bool) (more : Bool) (shut : Bool)
  /-- CHAL (R456). -/
  | chal (l : LaneId) (wr : Writer) (n : SessNo) (role : Role)
  /-- LOGIN (R457). -/
  | login (l : LaneId) (wr : Writer) (n : SessNo)
  /-- LOGOUT (R460). -/
  | logout (l : LaneId) (wr : Writer) (n : SessNo)
  /-- KEEP (R460). -/
  | keep (l : LaneId) (wr : Writer) (n : SessNo)
  /-- SETCRED (R459). -/
  | setcred (l : LaneId) (wr : Writer) (role : Role)
  /-- SESSION_IDLE_END (R460). -/
  | sessionIdleEnd (l : LaneId) (n : SessNo)
  /-- CHALLENGE_EXPIRY (R456). -/
  | challengeExpiry (l : LaneId) (n : SessNo)
  /-- AUTH_LOCKOUT_EXPIRY (R458). -/
  | authLockoutExpiry (l : LaneId) (role : Role)
  /-- VBUS_FALL (R477). -/
  | vbusFall
  /-- VBUS_RISE (R477). -/
  | vbusRise
  /-- USB_CONNECT_AFTER_GRANT (R463). -/
  | usbConnectAfterGrant (l : LaneId)
  /-- SERVICE_FRAME (R470, R471). What the firmware took from the session's port: USB packets or CAN frames; only what R470 to R472 judge of it, since a
  known operation has its own row. -/
  | serviceFrame (l : LaneId) (n : SessNo) (units : List SvcUnit)
  /-- HELLO (R472). -/
  | hello (l : LaneId) (n : SessNo) (tag : Tag) (field : LaneField)
  /-- SERVICE_CHAL (R456). -/
  | serviceChal (l : LaneId) (n : SessNo) (tag : Tag) (field : LaneField) (role : Role)
  /-- SERVICE_LOGIN (R457). -/
  | serviceLogin (l : LaneId) (n : SessNo) (tag : Tag) (field : LaneField) (role : Role) (resp : Bytes)
  /-- SERVICE_LOGOUT (R460). -/
  | serviceLogout (l : LaneId) (n : SessNo) (tag : Tag) (field : LaneField)
  /-- SERVICE_KEEP (R460). -/
  | serviceKeep (l : LaneId) (n : SessNo) (tag : Tag) (field : LaneField)
  /-- RDREG (R472). -/
  | rdreg (l : LaneId) (n : SessNo) (tag : Tag) (field : LaneField) (addr : Nat) (count : Nat)
  /-- WRREG (R110). -/
  | wrreg (l : LaneId) (n : SessNo) (tag : Tag) (field : LaneField) (addr : Nat) (v : Word)
  /-- RDTAB (R472). -/
  | rdtab (l : LaneId) (n : SessNo) (tag : Tag) (field : LaneField) (table : Nat) (buf : Bool) (first : Nat) (count : Nat)
  /-- WRTAB (R472). -/
  | wrtab (l : LaneId) (n : SessNo) (tag : Tag) (field : LaneField) (table : Nat) (buf : Bool) (first : Nat) (data : Bytes)
  /-- OPCMD (R454). -/
  | opcmd (l : LaneId) (n : SessNo) (tag : Tag) (field : LaneField) (cmd : OpCmd) (landing : Landing)
  /-- SERVICE_RESTART (R385). -/
  | serviceRestart (l : LaneId) (n : SessNo) (tag : Tag) (field : LaneField)
  /-- RDLOG (R475). -/
  | rdlog (l : LaneId) (n : SessNo) (tag : Tag) (field : LaneField) (log : Nat) (seq : Nat) (count : Nat)
  /-- ARCHIVE (R469). -/
  | archive (l : LaneId) (n : SessNo) (tag : Tag) (field : LaneField) (link : Bytes)
  /-- IMGBEGIN (R474). -/
  | imgbegin (l : LaneId) (n : SessNo) (tag : Tag) (field : LaneField) (len : Nat)
  /-- IMGBLOCK (R474). -/
  | imgblock (l : LaneId) (n : SessNo) (tag : Tag) (field : LaneField) (off : Nat) (data : Bytes) (crc : Word)
  /-- IMGCOMMIT (R474). -/
  | imgcommit (l : LaneId) (n : SessNo) (tag : Tag) (field : LaneField)
  /-- IMGABORT (R406). -/
  | imgabort (l : LaneId) (n : SessNo) (tag : Tag) (field : LaneField)
  /-- ATTEST (R480). -/
  | attest (l : LaneId) (n : SessNo) (tag : Tag) (field : LaneField) (nonce : Bytes)
  /-- CERT (R481). -/
  | cert (l : LaneId) (n : SessNo) (tag : Tag) (field : LaneField)
  /-- SERVICE_SETCRED (R459). -/
  | serviceSetcred (l : LaneId) (n : SessNo) (tag : Tag) (field : LaneField) (role : Role) (data : Bytes)
  /-- DEBUG_HALT (R483). -/
  | debugHalt (l : LaneId) (e : Eng)
  /-- DEBUG_STEP (R483). -/
  | debugStep (l : LaneId) (e : Eng)
  /-- DEBUG_RUN (R483). -/
  | debugRun (l : LaneId) (e : Eng)
  /-- RDMEM (R483). -/
  | rdmem (l : LaneId) (addr : Nat)
  /-- WRMEM (R483). -/
  | wrmem (l : LaneId) (addr : Nat) (v : Word)
  /-- DBGCTL_WRITE (R483). -/
  | dbgctlWrite (l : LaneId) (wr : Writer) (en : Bool)
  /-- SIGN (R480). -/
  | sign (l : LaneId) (wr : Writer) (nlen : NonceLen)
  /-- SIGN_COMPLETE (R480). -/
  | signComplete (l : LaneId)
  /-- EXTEND (R479). -/
  | extend (l : LaneId) (wr : Writer) (pcr : PcrNo)
  /-- DOZE (R491). -/
  | doze (l : LaneId) (wr : Writer)
  /-- HUSH (R493). -/
  | hush (l : LaneId) (wr : Writer)
  /-- PWR_RUN (R491). -/
  | pwrRun (l : LaneId) (wr : Writer)
  /-- WAKE_SOURCE (R494). -/
  | wakeSource (src : WakeSource)
  /-- PWR_WAKESTAT_WRITE (R494). -/
  | pwrWakestatWrite (l : LaneId) (wr : Writer) (v : Word)
  /-- NVM_PROGRAM (R505). -/
  | nvmProgram (l : LaneId) (wr : Writer) (r : Region)
  /-- NVM_ERASE (R505). -/
  | nvmErase (l : LaneId) (wr : Writer) (r : Region)
  /-- NVM_DONE (R505). Whether the flash reads back as programmed. -/
  | nvmDone (l : LaneId) (r : Region) (good : Bool)
  /-- NVM_ADDR_WRITE (R506). The address register (0) or a data register (1 to 4) of a flash region. -/
  | nvmAddrWrite (l : LaneId) (wr : Writer) (r : Region) (reg : NvmReg) (v : Word)
  /-- USB_PACKET_RX (R507). At most 64 bytes. -/
  | usbPacketRx (data : Bytes)
  /-- USB_TXPUSH (R507). -/
  | usbTxpush (l : LaneId) (wr : Writer)
  /-- USB_RXPOP (R507). -/
  | usbRxpop (l : LaneId) (wr : Writer)
  /-- SPI_START (R508). -/
  | spiStart (l : LaneId) (wr : Writer) (len : SpiLen)
  /-- SPI_DONE (R508). What the slave sent, byte 0 in [7:0] of the first word. -/
  | spiDone (l : LaneId) (rx0 : Word) (rx1 : Word)
  /-- POWER_LOSS_WARNING_END (R486). -/
  | powerLossWarningEnd
  /-- LATCH_RECORD_ERASE_DONE (R334). -/
  | latchRecordEraseDone (l : LaneId)
  /-- EVENT_LOG_COMMIT (R89). -/
  | eventLogCommit (l : LaneId)
  /-- SCRUB_SWEEP (R70). The word swept, what the code finds in it, and whether it ends the sweep. -/
  | scrubSweep (l : LaneId) (addr : Nat) (found : EccKind) (done : Bool)
  /-- ARCHIVE_COMPLETE (R469). -/
  | archiveComplete (l : LaneId)
  /-- CAN_INTEGRATION_COMPLETE (R426). -/
  | canIntegrationComplete (l : LaneId) (n : Port)
  /-- USB_PACKET_SENT (R507). -/
  | usbPacketSent (l : LaneId)
  /-- HUSH_ENTERED (R493). -/
  | hushEntered
  /-- F_START_TIMEOUT (R377). -/
  | fStartTimeout (l : LaneId)
  /-- CANDIDATE_MASTER_TIMEOUT (R444). -/
  | candidateMasterTimeout (l : LaneId)
  /-- USB_VLOG_LOW (R522). -/
  | usbVlogLow
  /-- USB_VLOG_OK (R522). -/
  | usbVlogOk
deriving DecidableEq, Repr

end Sys2Proof
end

