-- ==== Sys2Proof/Decode.lean ====
section
/-!
DEFINITION. The words of spec/opcode_table.json: its rows are commands without bits, so no word spells one. (The words an engine fetches are decoded in
`Machine.KDecode`, by the tables of spec 04.)
-/
namespace Sys2Proof

/-- The command a word spells by the table's bits: the table gives no row any. -/
def decodeTableWord (_nbits _w : Nat) : Option Instr := none

end Sys2Proof
end

