-- ==== Sys2Proof/Machine/Fields.lean ====
section
/-!
DEFINITION. The name and place of every register and of every field of it, one line each, taken from the register
tables of the manual. `A_…` is the address of a register, `F_…` a field of it; an argument numbers the copies of an array.
-/
namespace Sys2Proof.Machine


/-! ### SYS registers, base 0x40000000 -/

/-- SYS_RSTCAUSE (01, Table 1.8). -/
abbrev A_SYS_RSTCAUSE : Nat := 0x40000040
abbrev F_SYS_RSTCAUSE_QRST_CNT : Field := ⟨A_SYS_RSTCAUSE, 23, 16⟩
abbrev F_SYS_RSTCAUSE_PEERRST : Field := ⟨A_SYS_RSTCAUSE, 14, 14⟩
abbrev F_SYS_RSTCAUSE_WAKE : Field := ⟨A_SYS_RSTCAUSE, 13, 13⟩
abbrev F_SYS_RSTCAUSE_HALTED : Field := ⟨A_SYS_RSTCAUSE, 12, 12⟩
abbrev F_SYS_RSTCAUSE_QUARTER : Field := ⟨A_SYS_RSTCAUSE, 11, 8⟩
abbrev F_SYS_RSTCAUSE_LOGIC_RESTART : Field := ⟨A_SYS_RSTCAUSE, 7, 7⟩
abbrev F_SYS_RSTCAUSE_SEB_FLT : Field := ⟨A_SYS_RSTCAUSE, 6, 6⟩
abbrev F_SYS_RSTCAUSE_PLL_LOSS : Field := ⟨A_SYS_RSTCAUSE, 5, 5⟩
abbrev F_SYS_RSTCAUSE_CORE_SUPPLY : Field := ⟨A_SYS_RSTCAUSE, 4, 4⟩
abbrev F_SYS_RSTCAUSE_HOOP_FAULT : Field := ⟨A_SYS_RSTCAUSE, 3, 3⟩
abbrev F_SYS_RSTCAUSE_SUPV : Field := ⟨A_SYS_RSTCAUSE, 2, 2⟩
abbrev F_SYS_RSTCAUSE_XRES : Field := ⟨A_SYS_RSTCAUSE, 1, 1⟩
abbrev F_SYS_RSTCAUSE_POR : Field := ⟨A_SYS_RSTCAUSE, 0, 0⟩
/-- SYS_RSTREQ (01, Table 1.9). -/
abbrev A_SYS_RSTREQ : Nat := 0x40000044
abbrev F_SYS_RSTREQ_KEY : Field := ⟨A_SYS_RSTREQ, 31, 24⟩
abbrev F_SYS_RSTREQ_TARGET : Field := ⟨A_SYS_RSTREQ, 3, 0⟩
/-- SYS_DGSTAT (01, Table 1.10). -/
abbrev A_SYS_DGSTAT : Nat := 0x40000048
abbrev F_SYS_DGSTAT_G : Field := ⟨A_SYS_DGSTAT, 27, 0⟩
/-- SYS_DGCNT (01, Table 1.11). -/
abbrev A_SYS_DGCNT : Nat := 0x4000004C
abbrev F_SYS_DGCNT_LATE : Field := ⟨A_SYS_DGCNT, 31, 16⟩
abbrev F_SYS_DGCNT_ABORTS : Field := ⟨A_SYS_DGCNT, 15, 0⟩
/-- SYS_ENGCTL (03, Table 3.2). -/
abbrev A_SYS_ENGCTL : Nat := 0x40000060
abbrev F_SYS_ENGCTL_KEY : Field := ⟨A_SYS_ENGCTL, 31, 24⟩
abbrev F_SYS_ENGCTL_BGRUN : Field := ⟨A_SYS_ENGCTL, 11, 8⟩
abbrev F_SYS_ENGCTL_RUN : Field := ⟨A_SYS_ENGCTL, 7, 1⟩
abbrev F_SYS_ENGCTL_RUN0 : Field := ⟨A_SYS_ENGCTL, 0, 0⟩
/-- SYS_BLKSTAT (18, Table 18.3). -/
abbrev A_SYS_BLKSTAT (i : Nat) : Nat := 0x40000080 + 0x4 * i
abbrev F_SYS_BLKSTAT_RSTCNT (i : Nat) : Field := ⟨A_SYS_BLKSTAT i, 31, 24⟩
abbrev F_SYS_BLKSTAT_CAUSE (i : Nat) : Field := ⟨A_SYS_BLKSTAT i, 23, 20⟩
abbrev F_SYS_BLKSTAT_ESC (i : Nat) : Field := ⟨A_SYS_BLKSTAT i, 19, 18⟩
abbrev F_SYS_BLKSTAT_UE (i : Nat) : Field := ⟨A_SYS_BLKSTAT i, 15, 8⟩
abbrev F_SYS_BLKSTAT_CE (i : Nat) : Field := ⟨A_SYS_BLKSTAT i, 7, 0⟩
/-- SYS_CHCFG (04, Table 4.17). -/
abbrev A_SYS_CHCFG (i : Nat) (j : Nat) : Nat := 0x40001000 + 0x100 * i + 0x4 * j
abbrev F_SYS_CHCFG_EN (i : Nat) (j : Nat) : Field := ⟨A_SYS_CHCFG i j, 31, 31⟩
abbrev F_SYS_CHCFG_DIR (i : Nat) (j : Nat) : Field := ⟨A_SYS_CHCFG i j, 30, 30⟩
abbrev F_SYS_CHCFG_PEER (i : Nat) (j : Nat) : Field := ⟨A_SYS_CHCFG i j, 21, 16⟩
abbrev F_SYS_CHCFG_PEER_CH (i : Nat) (j : Nat) : Field := ⟨A_SYS_CHCFG i j, 13, 8⟩

/-! ### XCR registers, base 0x40010000 -/

/-- XCR_OVF0 (02, Table 2.12). -/
abbrev A_XCR_OVF0 : Nat := 0x40010000
abbrev F_XCR_OVF0_OVF_S : Field := ⟨A_XCR_OVF0, 31, 0⟩
/-- XCR_OVF1 (02, Table 2.13). -/
abbrev A_XCR_OVF1 : Nat := 0x40010004
abbrev F_XCR_OVF1_OVF_S : Field := ⟨A_XCR_OVF1, 15, 0⟩
/-- XCR_OPEN0 (02, Table 2.14). -/
abbrev A_XCR_OPEN0 : Nat := 0x40010008
abbrev F_XCR_OPEN0_OPEN : Field := ⟨A_XCR_OPEN0, 31, 0⟩
/-- XCR_OPEN1 (02, Table 2.14). -/
abbrev A_XCR_OPEN1 : Nat := 0x4001000C
abbrev F_XCR_OPEN1_OPEN : Field := ⟨A_XCR_OPEN1, 31, 0⟩
/-- XCR_CNT (02, Table 2.15). -/
abbrev A_XCR_CNT : Nat := 0x40010010
abbrev F_XCR_CNT_PEER : Field := ⟨A_XCR_CNT, 31, 16⟩
abbrev F_XCR_CNT_RESETS : Field := ⟨A_XCR_CNT, 15, 0⟩

/-! ### AVS registers, base 0x40020000 -/

/-- AVS_CTRL (02, Table 2.3). -/
abbrev A_AVS_CTRL : Nat := 0x40020000
abbrev F_AVS_CTRL_DL_MIN : Field := ⟨A_AVS_CTRL, 23, 16⟩
abbrev F_AVS_CTRL_HYST : Field := ⟨A_AVS_CTRL, 15, 12⟩
abbrev F_AVS_CTRL_SLACK_TGT : Field := ⟨A_AVS_CTRL, 7, 0⟩
/-- AVS_VLIM (02, Table 2.4). -/
abbrev A_AVS_VLIM : Nat := 0x40020004
abbrev F_AVS_VLIM_VMAX : Field := ⟨A_AVS_VLIM, 15, 8⟩
abbrev F_AVS_VLIM_VMIN : Field := ⟨A_AVS_VLIM, 7, 0⟩
/-- AVS_STAT (02, Table 2.5). -/
abbrev A_AVS_STAT : Nat := 0x40020008
abbrev F_AVS_STAT_CEIL_S : Field := ⟨A_AVS_STAT, 26, 26⟩
abbrev F_AVS_STAT_LOW_S : Field := ⟨A_AVS_STAT, 25, 25⟩
abbrev F_AVS_STAT_FAST : Field := ⟨A_AVS_STAT, 24, 24⟩
abbrev F_AVS_STAT_DLMARGIN : Field := ⟨A_AVS_STAT, 23, 16⟩
abbrev F_AVS_STAT_SLACK : Field := ⟨A_AVS_STAT, 15, 8⟩
abbrev F_AVS_STAT_VCODE : Field := ⟨A_AVS_STAT, 7, 0⟩
/-- AVS_SLACK (02, Table 2.6). -/
abbrev A_AVS_SLACK : Nat := 0x4002000C
abbrev F_AVS_SLACK_KEEP : Field := ⟨A_AVS_SLACK, 31, 24⟩
abbrev F_AVS_SLACK_PORT : Field := ⟨A_AVS_SLACK, 23, 16⟩
abbrev F_AVS_SLACK_GROUP : Field := ⟨A_AVS_SLACK, 15, 8⟩
abbrev F_AVS_SLACK_CTRL : Field := ⟨A_AVS_SLACK, 7, 0⟩
/-- AVS_SLKMIN (02, Table 2.7). -/
abbrev A_AVS_SLKMIN : Nat := 0x40020010
abbrev F_AVS_SLKMIN_MIN : Field := ⟨A_AVS_SLKMIN, 7, 0⟩

/-! ### KEEP registers, base 0x40110000 -/

/-- SCR_CFG (03, Table 3.9). -/
abbrev A_SCR_CFG : Nat := 0x40110000
abbrev F_SCR_CFG_FLASH_H : Field := ⟨A_SCR_CFG, 15, 8⟩
abbrev F_SCR_CFG_SWEEP : Field := ⟨A_SCR_CFG, 3, 0⟩
/-- SCR_STAT (03, Table 3.10). -/
abbrev A_SCR_STAT : Nat := 0x40110004
abbrev F_SCR_STAT_LATE_S : Field := ⟨A_SCR_STAT, 31, 31⟩
abbrev F_SCR_STAT_CQ_OVF_S : Field := ⟨A_SCR_STAT, 30, 30⟩
abbrev F_SCR_STAT_SPARE_OUT_S : Field := ⟨A_SCR_STAT, 29, 29⟩
abbrev F_SCR_STAT_UE : Field := ⟨A_SCR_STAT, 23, 16⟩
abbrev F_SCR_STAT_CE : Field := ⟨A_SCR_STAT, 15, 0⟩
/-- SCR_UEADDR (03, R81). -/
abbrev A_SCR_UEADDR : Nat := 0x40110008
abbrev F_SCR_UEADDR_ADDR : Field := ⟨A_SCR_UEADDR, 31, 0⟩
/-- CAL_STAT (03, Table 3.11). -/
abbrev A_CAL_STAT : Nat := 0x40114000
abbrev F_CAL_STAT_CYCLES : Field := ⟨A_CAL_STAT, 15, 8⟩
abbrev F_CAL_STAT_AREF_S : Field := ⟨A_CAL_STAT, 5, 5⟩
abbrev F_CAL_STAT_SLACK_S : Field := ⟨A_CAL_STAT, 4, 4⟩
abbrev F_CAL_STAT_TEMP_S : Field := ⟨A_CAL_STAT, 3, 3⟩
abbrev F_CAL_STAT_LW_S : Field := ⟨A_CAL_STAT, 2, 2⟩
abbrev F_CAL_STAT_D1I_S : Field := ⟨A_CAL_STAT, 1, 1⟩
abbrev F_CAL_STAT_D0I_S : Field := ⟨A_CAL_STAT, 0, 0⟩
/-- WER_QPUSH (18, Table 18.4). -/
abbrev A_WER_QPUSH : Nat := 0x40118000
abbrev F_WER_QPUSH_PUSH : Field := ⟨A_WER_QPUSH, 0, 0⟩
/-- WER_STAT (03, Table 3.12). -/
abbrev A_WER_STAT : Nat := 0x40118004
abbrev F_WER_STAT_PL_FAIL_S : Field := ⟨A_WER_STAT, 31, 31⟩
abbrev F_WER_STAT_RETIRE_S : Field := ⟨A_WER_STAT, 30, 30⟩
abbrev F_WER_STAT_CLLOST_S : Field := ⟨A_WER_STAT, 29, 29⟩
abbrev F_WER_STAT_FREE : Field := ⟨A_WER_STAT, 23, 17⟩
abbrev F_WER_STAT_MAXERASE : Field := ⟨A_WER_STAT, 16, 0⟩
/-- WER_QDATA (18, Table 18.4). -/
abbrev A_WER_QDATA (i : Nat) : Nat := 0x40118010 + 0x4 * i
abbrev F_WER_QDATA_D (i : Nat) : Field := ⟨A_WER_QDATA i, 31, 0⟩
/-- TEL_CFG (03, Table 3.13). -/
abbrev A_TEL_CFG : Nat := 0x4011C000
abbrev F_TEL_CFG_PERIOD : Field := ⟨A_TEL_CFG, 31, 16⟩
abbrev F_TEL_CFG_PIC : Field := ⟨A_TEL_CFG, 10, 10⟩
abbrev F_TEL_CFG_PORT : Field := ⟨A_TEL_CFG, 9, 8⟩
abbrev F_TEL_CFG_CAN : Field := ⟨A_TEL_CFG, 7, 7⟩
abbrev F_TEL_CFG_NREG : Field := ⟨A_TEL_CFG, 6, 0⟩
/-- TEL_LIST (03, Table 3.13). -/
abbrev A_TEL_LIST (i : Nat) : Nat := 0x4011C100 + 0x4 * i
abbrev F_TEL_LIST_ADDR (i : Nat) : Field := ⟨A_TEL_LIST i, 31, 0⟩

/-! ### TAT registers, base 0x40030000 -/

/-- TAT_CTRL (05, Table 5.7). -/
abbrev A_TAT_CTRL : Nat := 0x40030000
abbrev F_TAT_CTRL_GSEL : Field := ⟨A_TAT_CTRL, 0, 0⟩
/-- TAT_OVR (05, Table 5.8). -/
abbrev A_TAT_OVR : Nat := 0x40030004
abbrev F_TAT_OVR_OVR_S : Field := ⟨A_TAT_OVR, 7, 0⟩
/-- TAT_BQCOMMIT (05, Table 5.9). -/
abbrev A_TAT_BQCOMMIT : Nat := 0x40030008
abbrev F_TAT_BQCOMMIT_CLR : Field := ⟨A_TAT_BQCOMMIT, 15, 8⟩
abbrev F_TAT_BQCOMMIT_CMT : Field := ⟨A_TAT_BQCOMMIT, 7, 0⟩
/-- TAT_FWIN (05, Table 5.16). -/
abbrev A_TAT_FWIN (i : Nat) : Nat := 0x40030040 + 0x4 * i
abbrev F_TAT_FWIN_VALUE (i : Nat) : Field := ⟨A_TAT_FWIN i, 31, 0⟩
/-- TAT_SLOTCFG (05, Table 5.10). -/
abbrev A_TAT_SLOTCFG (i : Nat) : Nat := 0x40030100 + 0x40 * i
abbrev F_TAT_SLOTCFG_EN (i : Nat) : Field := ⟨A_TAT_SLOTCFG i, 31, 31⟩
abbrev F_TAT_SLOTCFG_BANK (i : Nat) : Field := ⟨A_TAT_SLOTCFG i, 30, 30⟩
abbrev F_TAT_SLOTCFG_GMODE (i : Nat) : Field := ⟨A_TAT_SLOTCFG i, 29, 28⟩
abbrev F_TAT_SLOTCFG_ORUN_M1 (i : Nat) : Field := ⟨A_TAT_SLOTCFG i, 22, 20⟩
abbrev F_TAT_SLOTCFG_PERIOD (i : Nat) : Field := ⟨A_TAT_SLOTCFG i, 15, 0⟩
/-- TAT_SLOTPH (05, Table 5.11). -/
abbrev A_TAT_SLOTPH (i : Nat) : Nat := 0x40030104 + 0x40 * i
abbrev F_TAT_SLOTPH_PHASE (i : Nat) : Field := ⟨A_TAT_SLOTPH i, 15, 0⟩
/-- TAT_SLOTCTL (05, Table 5.12). -/
abbrev A_TAT_SLOTCTL (i : Nat) : Nat := 0x40030108 + 0x40 * i
abbrev F_TAT_SLOTCTL_LEN (i : Nat) : Field := ⟨A_TAT_SLOTCTL i, 25, 16⟩
abbrev F_TAT_SLOTCTL_CBANK (i : Nat) : Field := ⟨A_TAT_SLOTCTL i, 4, 4⟩
abbrev F_TAT_SLOTCTL_CMD (i : Nat) : Field := ⟨A_TAT_SLOTCTL i, 3, 0⟩
/-- TAT_SLOTSTAT (05, Table 5.13). -/
abbrev A_TAT_SLOTSTAT (i : Nat) : Nat := 0x4003010C + 0x40 * i
abbrev F_TAT_SLOTSTAT_STATE (i : Nat) : Field := ⟨A_TAT_SLOTSTAT i, 31, 29⟩
abbrev F_TAT_SLOTSTAT_PROGFLT_S (i : Nat) : Field := ⟨A_TAT_SLOTSTAT i, 24, 24⟩
abbrev F_TAT_SLOTSTAT_RESREF_S (i : Nat) : Field := ⟨A_TAT_SLOTSTAT i, 23, 23⟩
abbrev F_TAT_SLOTSTAT_GUARD_S (i : Nat) : Field := ⟨A_TAT_SLOTSTAT i, 22, 22⟩
abbrev F_TAT_SLOTSTAT_SAT_S (i : Nat) : Field := ⟨A_TAT_SLOTSTAT i, 21, 21⟩
abbrev F_TAT_SLOTSTAT_ORUN_CNT (i : Nat) : Field := ⟨A_TAT_SLOTSTAT i, 19, 16⟩
abbrev F_TAT_SLOTSTAT_MARGIN (i : Nat) : Field := ⟨A_TAT_SLOTSTAT i, 15, 8⟩
abbrev F_TAT_SLOTSTAT_GCAUSE (i : Nat) : Field := ⟨A_TAT_SLOTSTAT i, 7, 4⟩
/-- TAT_INSEL (05, Table 5.16). -/
abbrev A_TAT_INSEL (i : Nat) (j : Nat) : Nat := 0x40030110 + 0x40 * i + 0x4 * j
abbrev F_TAT_INSEL_CODE (i : Nat) (j : Nat) : Field := ⟨A_TAT_INSEL i j, 31, 0⟩
/-- TAT_OUTDST (05, Table 5.16). -/
abbrev A_TAT_OUTDST (i : Nat) : Nat := 0x40030120 + 0x40 * i
abbrev F_TAT_OUTDST_DST (i : Nat) : Field := ⟨A_TAT_OUTDST i, 15, 0⟩
/-- TAT_GPCFG (05, Table 5.14). -/
abbrev A_TAT_GPCFG (i : Nat) : Nat := 0x40030124 + 0x40 * i
abbrev F_TAT_GPCFG_REF (i : Nat) : Field := ⟨A_TAT_GPCFG i, 31, 28⟩
abbrev F_TAT_GPCFG_MEAS (i : Nat) : Field := ⟨A_TAT_GPCFG i, 27, 24⟩
abbrev F_TAT_GPCFG_PORT (i : Nat) : Field := ⟨A_TAT_GPCFG i, 23, 22⟩
abbrev F_TAT_GPCFG_LIM (i : Nat) : Field := ⟨A_TAT_GPCFG i, 21, 20⟩
abbrev F_TAT_GPCFG_RAMP (i : Nat) : Field := ⟨A_TAT_GPCFG i, 19, 12⟩
abbrev F_TAT_GPCFG_BLEND (i : Nat) : Field := ⟨A_TAT_GPCFG i, 7, 0⟩
/-- TAT_GPKP (05, Table 5.16). -/
abbrev A_TAT_GPKP (i : Nat) : Nat := 0x40030128 + 0x40 * i
abbrev F_TAT_GPKP_KP (i : Nat) : Field := ⟨A_TAT_GPKP i, 31, 0⟩
/-- TAT_GPKI (05, Table 5.16). -/
abbrev A_TAT_GPKI (i : Nat) : Nat := 0x4003012C + 0x40 * i
abbrev F_TAT_GPKI_KI (i : Nat) : Field := ⟨A_TAT_GPKI i, 31, 0⟩
/-- TAT_BLMAX (05, Table 5.16). -/
abbrev A_TAT_BLMAX (i : Nat) : Nat := 0x40030130 + 0x40 * i
abbrev F_TAT_BLMAX_BLMAX (i : Nat) : Field := ⟨A_TAT_BLMAX i, 31, 0⟩
/-- TAT_PROG (05, Table 5.15). -/
abbrev A_TAT_PROG (i : Nat) : Nat := 0x40030134 + 0x40 * i
abbrev F_TAT_PROG_OK1 (i : Nat) : Field := ⟨A_TAT_PROG i, 31, 31⟩
abbrev F_TAT_PROG_OK0 (i : Nat) : Field := ⟨A_TAT_PROG i, 30, 30⟩
abbrev F_TAT_PROG_TRUNC (i : Nat) : Field := ⟨A_TAT_PROG i, 29, 29⟩
abbrev F_TAT_PROG_CHKERR (i : Nat) : Field := ⟨A_TAT_PROG i, 28, 25⟩
abbrev F_TAT_PROG_ERRWORD (i : Nat) : Field := ⟨A_TAT_PROG i, 24, 16⟩
/-- TAT_WCET (05, Table 5.16). -/
abbrev A_TAT_WCET (i : Nat) : Nat := 0x40030138 + 0x40 * i
abbrev F_TAT_WCET_WSTEPS1 (i : Nat) : Field := ⟨A_TAT_WCET i, 31, 16⟩
abbrev F_TAT_WCET_WSTEPS0 (i : Nat) : Field := ⟨A_TAT_WCET i, 15, 0⟩
/-- TAT_RUNSTAT (05, Table 5.16). -/
abbrev A_TAT_RUNSTAT (i : Nat) : Nat := 0x4003013C + 0x40 * i
abbrev F_TAT_RUNSTAT_ORCNT (i : Nat) : Field := ⟨A_TAT_RUNSTAT i, 31, 16⟩
abbrev F_TAT_RUNSTAT_FLTPC (i : Nat) : Field := ⟨A_TAT_RUNSTAT i, 15, 7⟩
abbrev F_TAT_RUNSTAT_FLTCODE (i : Nat) : Field := ⟨A_TAT_RUNSTAT i, 3, 0⟩
/-- TAT_LIMLO (05, Table 5.16). -/
abbrev A_TAT_LIMLO (i : Nat) (j : Nat) : Nat := 0x40030400 + 0x20 * i + 0x8 * j
abbrev F_TAT_LIMLO_LO (i : Nat) (j : Nat) : Field := ⟨A_TAT_LIMLO i j, 31, 0⟩
/-- TAT_LIMHI (05, Table 5.16). -/
abbrev A_TAT_LIMHI (i : Nat) (j : Nat) : Nat := 0x40030404 + 0x20 * i + 0x8 * j
abbrev F_TAT_LIMHI_HI (i : Nat) (j : Nat) : Field := ⟨A_TAT_LIMHI i j, 31, 0⟩
/-- TAT_BQB0 (05, Table 5.16). -/
abbrev A_TAT_BQB0 (i : Nat) (j : Nat) : Nat := 0x40030800 + 0x80 * i + 0x20 * j
abbrev F_TAT_BQB0_COEF (i : Nat) (j : Nat) : Field := ⟨A_TAT_BQB0 i j, 31, 0⟩
/-- TAT_BQB1 (05, Table 5.16). -/
abbrev A_TAT_BQB1 (i : Nat) (j : Nat) : Nat := 0x40030804 + 0x80 * i + 0x20 * j
abbrev F_TAT_BQB1_COEF (i : Nat) (j : Nat) : Field := ⟨A_TAT_BQB1 i j, 31, 0⟩
/-- TAT_BQB2 (05, Table 5.16). -/
abbrev A_TAT_BQB2 (i : Nat) (j : Nat) : Nat := 0x40030808 + 0x80 * i + 0x20 * j
abbrev F_TAT_BQB2_COEF (i : Nat) (j : Nat) : Field := ⟨A_TAT_BQB2 i j, 31, 0⟩
/-- TAT_BQA1 (05, Table 5.16). -/
abbrev A_TAT_BQA1 (i : Nat) (j : Nat) : Nat := 0x4003080C + 0x80 * i + 0x20 * j
abbrev F_TAT_BQA1_COEF (i : Nat) (j : Nat) : Field := ⟨A_TAT_BQA1 i j, 31, 0⟩
/-- TAT_BQA2 (05, Table 5.16). -/
abbrev A_TAT_BQA2 (i : Nat) (j : Nat) : Nat := 0x40030810 + 0x80 * i + 0x20 * j
abbrev F_TAT_BQA2_COEF (i : Nat) (j : Nat) : Field := ⟨A_TAT_BQA2 i j, 31, 0⟩
/-- TAT_DATA (05, Table 5.16). -/
abbrev A_TAT_DATA (i : Nat) (j : Nat) : Nat := 0x40034000 + 0x400 * i + 0x4 * j
abbrev F_TAT_DATA_D (i : Nat) (j : Nat) : Field := ⟨A_TAT_DATA i j, 31, 0⟩
/-- TAT_BANK (05, Table 5.16). -/
abbrev A_TAT_BANK (i : Nat) (j : Nat) : Nat := 0x40038000 + 0x1000 * i + 0x4 * j
abbrev F_TAT_BANK_D (i : Nat) (j : Nat) : Field := ⟨A_TAT_BANK i j, 31, 0⟩

/-! ### TRC registers, base 0x40120000 -/

/-- TRC_CTRL (05, Table 5.18). -/
abbrev A_TRC_CTRL : Nat := 0x40120000
abbrev F_TRC_CTRL_CMD : Field := ⟨A_TRC_CTRL, 31, 28⟩
abbrev F_TRC_CTRL_DIV : Field := ⟨A_TRC_CTRL, 23, 16⟩
abbrev F_TRC_CTRL_CLK : Field := ⟨A_TRC_CTRL, 15, 13⟩
abbrev F_TRC_CTRL_LEN : Field := ⟨A_TRC_CTRL, 12, 0⟩
/-- TRC_PRE (05, Table 5.19). -/
abbrev A_TRC_PRE : Nat := 0x40120004
abbrev F_TRC_PRE_PRE : Field := ⟨A_TRC_PRE, 12, 0⟩
/-- TRC_TRIG (05, Table 5.19). -/
abbrev A_TRC_TRIG : Nat := 0x40120008
abbrev F_TRC_TRIG_COND : Field := ⟨A_TRC_TRIG, 31, 28⟩
abbrev F_TRC_TRIG_CH : Field := ⟨A_TRC_TRIG, 27, 24⟩
/-- TRC_LEVEL (05, Table 5.19). -/
abbrev A_TRC_LEVEL : Nat := 0x4012000C
abbrev F_TRC_LEVEL_LEVEL : Field := ⟨A_TRC_LEVEL, 31, 0⟩
/-- TRC_STAT (05, Table 5.19). -/
abbrev A_TRC_STAT : Nat := 0x40120010
abbrev F_TRC_STAT_STATE : Field := ⟨A_TRC_STAT, 31, 29⟩
abbrev F_TRC_STAT_TRUNC : Field := ⟨A_TRC_STAT, 28, 28⟩
abbrev F_TRC_STAT_STOPPED : Field := ⟨A_TRC_STAT, 27, 27⟩
abbrev F_TRC_STAT_TRG : Field := ⟨A_TRC_STAT, 26, 26⟩
abbrev F_TRC_STAT_COUNT : Field := ⟨A_TRC_STAT, 25, 13⟩
abbrev F_TRC_STAT_START : Field := ⟨A_TRC_STAT, 12, 0⟩
/-- TRC_TTIME0 (05, Table 5.19). -/
abbrev A_TRC_TTIME0 : Nat := 0x40120014
abbrev F_TRC_TTIME0_TIME : Field := ⟨A_TRC_TTIME0, 31, 0⟩
/-- TRC_TTIME1 (05, Table 5.19). -/
abbrev A_TRC_TTIME1 : Nat := 0x40120018
abbrev F_TRC_TTIME1_TIME : Field := ⟨A_TRC_TTIME1, 15, 0⟩
/-- TRC_CHSEL (05, Table 5.19). -/
abbrev A_TRC_CHSEL (i : Nat) : Nat := 0x40120040 + 0x4 * i
abbrev F_TRC_CHSEL_EN (i : Nat) : Field := ⟨A_TRC_CHSEL i, 31, 31⟩
abbrev F_TRC_CHSEL_KIND (i : Nat) : Field := ⟨A_TRC_CHSEL i, 30, 28⟩
abbrev F_TRC_CHSEL_SLOT (i : Nat) : Field := ⟨A_TRC_CHSEL i, 26, 24⟩
abbrev F_TRC_CHSEL_WORD (i : Nat) : Field := ⟨A_TRC_CHSEL i, 15, 8⟩
abbrev F_TRC_CHSEL_SRC (i : Nat) : Field := ⟨A_TRC_CHSEL i, 7, 0⟩

/-! ### BOB registers, base 0x40050000 -/

/-- BOB_CTRL (06, Table 6.7). -/
abbrev A_BOB_CTRL : Nat := 0x40050000
abbrev F_BOB_CTRL_EN : Field := ⟨A_BOB_CTRL, 31, 31⟩
abbrev F_BOB_CTRL_ACCEN : Field := ⟨A_BOB_CTRL, 30, 30⟩
abbrev F_BOB_CTRL_MOTEN : Field := ⟨A_BOB_CTRL, 29, 29⟩
abbrev F_BOB_CTRL_CMD : Field := ⟨A_BOB_CTRL, 3, 0⟩
/-- BOB_STAT (06, Table 6.8). -/
abbrev A_BOB_STAT : Nat := 0x40050004
abbrev F_BOB_STAT_STATE : Field := ⟨A_BOB_STAT, 31, 29⟩
abbrev F_BOB_STAT_CH0V : Field := ⟨A_BOB_STAT, 28, 28⟩
abbrev F_BOB_STAT_CH1V : Field := ⟨A_BOB_STAT, 27, 27⟩
abbrev F_BOB_STAT_MOTV : Field := ⟨A_BOB_STAT, 26, 26⟩
abbrev F_BOB_STAT_ACCV : Field := ⟨A_BOB_STAT, 25, 25⟩
abbrev F_BOB_STAT_POSV : Field := ⟨A_BOB_STAT, 24, 24⟩
abbrev F_BOB_STAT_ENCDIS_S : Field := ⟨A_BOB_STAT, 15, 15⟩
abbrev F_BOB_STAT_SLIP_S : Field := ⟨A_BOB_STAT, 14, 14⟩
abbrev F_BOB_STAT_JUMP_S : Field := ⟨A_BOB_STAT, 13, 13⟩
abbrev F_BOB_STAT_FRAME_S : Field := ⟨A_BOB_STAT, 12, 12⟩
abbrev F_BOB_STAT_REMOTE_S : Field := ⟨A_BOB_STAT, 11, 11⟩
abbrev F_BOB_STAT_LOST_S : Field := ⟨A_BOB_STAT, 10, 10⟩
abbrev F_BOB_STAT_REINIT_S : Field := ⟨A_BOB_STAT, 9, 9⟩
abbrev F_BOB_STAT_SAT_S : Field := ⟨A_BOB_STAT, 8, 8⟩
abbrev F_BOB_STAT_LTUE_S : Field := ⟨A_BOB_STAT, 7, 7⟩
abbrev F_BOB_STAT_ACCRNG_S : Field := ⟨A_BOB_STAT, 6, 6⟩
abbrev F_BOB_STAT_MOTMISS_S : Field := ⟨A_BOB_STAT, 5, 5⟩
abbrev F_BOB_STAT_LATE_S : Field := ⟨A_BOB_STAT, 4, 4⟩
/-- BOB_CNT (06, Table 6.11). -/
abbrev A_BOB_CNT : Nat := 0x40050008
abbrev F_BOB_CNT_FRAME : Field := ⟨A_BOB_CNT, 31, 24⟩
abbrev F_BOB_CNT_JUMP : Field := ⟨A_BOB_CNT, 23, 16⟩
abbrev F_BOB_CNT_REMOTE : Field := ⟨A_BOB_CNT, 15, 8⟩
abbrev F_BOB_CNT_DISAGREE : Field := ⟨A_BOB_CNT, 7, 0⟩
/-- BOB_SSICFG (06, Table 6.2). -/
abbrev A_BOB_SSICFG : Nat := 0x40050010
abbrev F_BOB_SSICFG_RATE : Field := ⟨A_BOB_SSICFG, 31, 30⟩
abbrev F_BOB_SSICFG_GRAY : Field := ⟨A_BOB_SSICFG, 29, 29⟩
abbrev F_BOB_SSICFG_PAR : Field := ⟨A_BOB_SSICFG, 28, 27⟩
abbrev F_BOB_SSICFG_DIR : Field := ⟨A_BOB_SSICFG, 26, 26⟩
abbrev F_BOB_SSICFG_FRAMELEN : Field := ⟨A_BOB_SSICFG, 25, 20⟩
abbrev F_BOB_SSICFG_POSSTART : Field := ⟨A_BOB_SSICFG, 19, 14⟩
abbrev F_BOB_SSICFG_POSLEN : Field := ⟨A_BOB_SSICFG, 13, 8⟩
abbrev F_BOB_SSICFG_ERREN : Field := ⟨A_BOB_SSICFG, 7, 7⟩
abbrev F_BOB_SSICFG_ERRPOL : Field := ⟨A_BOB_SSICFG, 6, 6⟩
abbrev F_BOB_SSICFG_ERRIDX : Field := ⟨A_BOB_SSICFG, 5, 0⟩
/-- BOB_ENCSCALE (06, Table 6.11). -/
abbrev A_BOB_ENCSCALE : Nat := 0x40050014
abbrev F_BOB_ENCSCALE_SCALE : Field := ⟨A_BOB_ENCSCALE, 31, 0⟩
/-- BOB_ENCOFS (06, Table 6.11). -/
abbrev A_BOB_ENCOFS : Nat := 0x40050018
abbrev F_BOB_ENCOFS_OFS : Field := ⟨A_BOB_ENCOFS, 31, 0⟩
/-- BOB_ENCLAT (06, Table 6.11). -/
abbrev A_BOB_ENCLAT : Nat := 0x4005001C
abbrev F_BOB_ENCLAT_LAT : Field := ⟨A_BOB_ENCLAT, 7, 0⟩
/-- BOB_MOTSCALE (06, Table 6.11). -/
abbrev A_BOB_MOTSCALE : Nat := 0x40050020
abbrev F_BOB_MOTSCALE_SCALE : Field := ⟨A_BOB_MOTSCALE, 31, 0⟩
/-- BOB_ACCCFG (06, Table 6.11). -/
abbrev A_BOB_ACCCFG : Nat := 0x40050024
abbrev F_BOB_ACCCFG_W24 : Field := ⟨A_BOB_ACCCFG, 14, 14⟩
abbrev F_BOB_ACCCFG_SBYTE : Field := ⟨A_BOB_ACCCFG, 13, 12⟩
abbrev F_BOB_ACCCFG_NBYTES : Field := ⟨A_BOB_ACCCFG, 11, 8⟩
abbrev F_BOB_ACCCFG_CMD : Field := ⟨A_BOB_ACCCFG, 7, 0⟩
/-- BOB_ACCSCALE (06, Table 6.11). -/
abbrev A_BOB_ACCSCALE : Nat := 0x40050028
abbrev F_BOB_ACCSCALE_SCALE : Field := ⟨A_BOB_ACCSCALE, 31, 0⟩
/-- BOB_GAIN0 (06, Table 6.11). -/
abbrev A_BOB_GAIN0 : Nat := 0x40050030
abbrev F_BOB_GAIN0_KS : Field := ⟨A_BOB_GAIN0, 31, 16⟩
abbrev F_BOB_GAIN0_KP : Field := ⟨A_BOB_GAIN0, 15, 0⟩
/-- BOB_GAIN1 (06, Table 6.11). -/
abbrev A_BOB_GAIN1 : Nat := 0x40050034
abbrev F_BOB_GAIN1_KVM : Field := ⟨A_BOB_GAIN1, 15, 0⟩
/-- BOB_KV (06, Table 6.11). -/
abbrev A_BOB_KV : Nat := 0x40050038
abbrev F_BOB_KV_KV : Field := ⟨A_BOB_KV, 31, 0⟩
/-- BOB_KB (06, Table 6.11). -/
abbrev A_BOB_KB : Nat := 0x4005003C
abbrev F_BOB_KB_KB : Field := ⟨A_BOB_KB, 31, 0⟩
/-- BOB_IBCFG0 (06, Table 6.11). -/
abbrev A_BOB_IBCFG0 : Nat := 0x40050040
abbrev F_BOB_IBCFG0_IB_KV : Field := ⟨A_BOB_IBCFG0, 23, 16⟩
abbrev F_BOB_IBCFG0_IB_FLOOR : Field := ⟨A_BOB_IBCFG0, 15, 0⟩
/-- BOB_IBCFG1 (06, Table 6.11). -/
abbrev A_BOB_IBCFG1 : Nat := 0x40050044
abbrev F_BOB_IBCFG1_IB_NOACC : Field := ⟨A_BOB_IBCFG1, 31, 16⟩
abbrev F_BOB_IBCFG1_IB_SINGLE : Field := ⟨A_BOB_IBCFG1, 15, 0⟩
/-- BOB_IBCFG2 (06, Table 6.11). -/
abbrev A_BOB_IBCFG2 : Nat := 0x40050048
abbrev F_BOB_IBCFG2_IB_CG : Field := ⟨A_BOB_IBCFG2, 31, 16⟩
abbrev F_BOB_IBCFG2_SLIPMAX : Field := ⟨A_BOB_IBCFG2, 15, 0⟩
/-- BOB_BNDMAX (06, Table 6.11). -/
abbrev A_BOB_BNDMAX : Nat := 0x4005004C
abbrev F_BOB_BNDMAX_BNDMAX : Field := ⟨A_BOB_BNDMAX, 31, 0⟩
/-- BOB_SAFECFG0 (06, Table 6.9). -/
abbrev A_BOB_SAFECFG0 : Nat := 0x40050050
abbrev F_BOB_SAFECFG0_JUMP_LIM : Field := ⟨A_BOB_SAFECFG0, 31, 16⟩
abbrev F_BOB_SAFECFG0_DIS_ABS : Field := ⟨A_BOB_SAFECFG0, 15, 0⟩
/-- BOB_SAFECFG1 (06, Table 6.9). -/
abbrev A_BOB_SAFECFG1 : Nat := 0x40050054
abbrev F_BOB_SAFECFG1_DZ_MAX : Field := ⟨A_BOB_SAFECFG1, 31, 16⟩
abbrev F_BOB_SAFECFG1_DIS_N : Field := ⟨A_BOB_SAFECFG1, 15, 12⟩
abbrev F_BOB_SAFECFG1_SLIP_LIM : Field := ⟨A_BOB_SAFECFG1, 11, 0⟩
/-- BOB_LTCTL (06, Table 6.10). -/
abbrev A_BOB_LTCTL : Nat := 0x40050060
abbrev F_BOB_LTCTL_CMD : Field := ⟨A_BOB_LTCTL, 31, 28⟩
abbrev F_BOB_LTCTL_LTSEL : Field := ⟨A_BOB_LTCTL, 24, 24⟩
abbrev F_BOB_LTCTL_BUSY : Field := ⟨A_BOB_LTCTL, 21, 21⟩
abbrev F_BOB_LTCTL_BUFOK1 : Field := ⟨A_BOB_LTCTL, 20, 20⟩
abbrev F_BOB_LTCTL_BUFOK0 : Field := ⟨A_BOB_LTCTL, 19, 19⟩
abbrev F_BOB_LTCTL_LTERR : Field := ⟨A_BOB_LTCTL, 18, 16⟩
abbrev F_BOB_LTCTL_ERRIDX : Field := ⟨A_BOB_LTCTL, 8, 0⟩
/-- BOB_RELEV0 (06, Table 6.11). -/
abbrev A_BOB_RELEV0 : Nat := 0x40050064
abbrev F_BOB_RELEV0_ARM : Field := ⟨A_BOB_RELEV0, 31, 31⟩
abbrev F_BOB_RELEV0_TGT : Field := ⟨A_BOB_RELEV0, 24, 16⟩
abbrev F_BOB_RELEV0_TIME : Field := ⟨A_BOB_RELEV0, 7, 0⟩
/-- BOB_RELEV1 (06, Table 6.11). -/
abbrev A_BOB_RELEV1 : Nat := 0x40050068
abbrev F_BOB_RELEV1_ON : Field := ⟨A_BOB_RELEV1, 31, 16⟩
abbrev F_BOB_RELEV1_OFF : Field := ⟨A_BOB_RELEV1, 15, 0⟩
/-- BOB_DZ (06, Table 6.11). -/
abbrev A_BOB_DZ : Nat := 0x4005006C
abbrev F_BOB_DZ_IN1 : Field := ⟨A_BOB_DZ, 31, 31⟩
abbrev F_BOB_DZ_CERT1 : Field := ⟨A_BOB_DZ, 30, 30⟩
abbrev F_BOB_DZ_IN0 : Field := ⟨A_BOB_DZ, 29, 29⟩
abbrev F_BOB_DZ_CERT0 : Field := ⟨A_BOB_DZ, 28, 28⟩
abbrev F_BOB_DZ_NEAR1_V : Field := ⟨A_BOB_DZ, 27, 27⟩
abbrev F_BOB_DZ_NEAR0_V : Field := ⟨A_BOB_DZ, 26, 26⟩
abbrev F_BOB_DZ_RELREQ : Field := ⟨A_BOB_DZ, 25, 25⟩
abbrev F_BOB_DZ_LEVEL : Field := ⟨A_BOB_DZ, 24, 24⟩
abbrev F_BOB_DZ_NEAR1 : Field := ⟨A_BOB_DZ, 15, 8⟩
abbrev F_BOB_DZ_NEAR0 : Field := ⟨A_BOB_DZ, 7, 0⟩
/-- BOB_POS (06, Table 6.11). -/
abbrev A_BOB_POS : Nat := 0x40050070
abbrev F_BOB_POS_POS : Field := ⟨A_BOB_POS, 31, 0⟩
/-- BOB_VEL (06, Table 6.11). -/
abbrev A_BOB_VEL : Nat := 0x40050074
abbrev F_BOB_VEL_VEL : Field := ⟨A_BOB_VEL, 31, 0⟩
/-- BOB_BOUND (06, Table 6.11). -/
abbrev A_BOB_BOUND : Nat := 0x40050078
abbrev F_BOB_BOUND_B : Field := ⟨A_BOB_BOUND, 31, 0⟩
/-- BOB_SEQ (06, Table 6.11). -/
abbrev A_BOB_SEQ : Nat := 0x4005007C
abbrev F_BOB_SEQ_SEQ : Field := ⟨A_BOB_SEQ, 31, 0⟩
/-- BOB_STRETCH (06, Table 6.11). -/
abbrev A_BOB_STRETCH : Nat := 0x40050080
abbrev F_BOB_STRETCH_S : Field := ⟨A_BOB_STRETCH, 31, 0⟩
/-- BOB_BIAS (06, Table 6.11). -/
abbrev A_BOB_BIAS : Nat := 0x40050084
abbrev F_BOB_BIAS_B : Field := ⟨A_BOB_BIAS, 31, 0⟩
/-- BOB_Z0 (06, Table 6.11). -/
abbrev A_BOB_Z0 : Nat := 0x40050088
abbrev F_BOB_Z0_Z : Field := ⟨A_BOB_Z0, 31, 0⟩
/-- BOB_Z1 (06, Table 6.11). -/
abbrev A_BOB_Z1 : Nat := 0x4005008C
abbrev F_BOB_Z1_Z : Field := ⟨A_BOB_Z1, 31, 0⟩
/-- BOB_ZM (06, Table 6.11). -/
abbrev A_BOB_ZM : Nat := 0x40050090
abbrev F_BOB_ZM_Z : Field := ⟨A_BOB_ZM, 31, 0⟩
/-- BOB_CAPCFG (06, Table 6.11). -/
abbrev A_BOB_CAPCFG (i : Nat) : Nat := 0x400500A0 + 0x4 * i
abbrev F_BOB_CAPCFG_EN (i : Nat) : Field := ⟨A_BOB_CAPCFG i, 31, 31⟩
abbrev F_BOB_CAPCFG_EDGE (i : Nat) : Field := ⟨A_BOB_CAPCFG i, 29, 28⟩
abbrev F_BOB_CAPCFG_FI (i : Nat) : Field := ⟨A_BOB_CAPCFG i, 4, 0⟩
/-- BOB_CAPSTAT (06, Table 6.11). -/
abbrev A_BOB_CAPSTAT : Nat := 0x400500B0
abbrev F_BOB_CAPSTAT_CAPOVF_S : Field := ⟨A_BOB_CAPSTAT, 31, 31⟩
abbrev F_BOB_CAPSTAT_COUNT : Field := ⟨A_BOB_CAPSTAT, 20, 16⟩
abbrev F_BOB_CAPSTAT_LOST : Field := ⟨A_BOB_CAPSTAT, 15, 0⟩
/-- BOB_CAPPOP (06, Table 6.11). -/
abbrev A_BOB_CAPPOP : Nat := 0x400500B4
abbrev F_BOB_CAPPOP_POP : Field := ⟨A_BOB_CAPPOP, 0, 0⟩
/-- BOB_CAPHEAD (06, Table 6.6). -/
abbrev A_BOB_CAPHEAD (i : Nat) : Nat := 0x400500C0 + 0x4 * i
abbrev F_BOB_CAPHEAD_W (i : Nat) : Field := ⟨A_BOB_CAPHEAD i, 31, 0⟩

/-! ### SPG registers, base 0x40040000 -/

/-- SPG_CTRL (07, Table 7.11). -/
abbrev A_SPG_CTRL : Nat := 0x40040000
abbrev F_SPG_CTRL_EN : Field := ⟨A_SPG_CTRL, 31, 31⟩
abbrev F_SPG_CTRL_LWM : Field := ⟨A_SPG_CTRL, 5, 0⟩
/-- SPG_STAT (07, Table 7.9). -/
abbrev A_SPG_STAT : Nat := 0x40040004
abbrev F_SPG_STAT_STATE : Field := ⟨A_SPG_STAT, 31, 28⟩
abbrev F_SPG_STAT_GOAL : Field := ⟨A_SPG_STAT, 27, 26⟩
abbrev F_SPG_STAT_MODE : Field := ⟨A_SPG_STAT, 25, 23⟩
abbrev F_SPG_STAT_CAPT : Field := ⟨A_SPG_STAT, 22, 22⟩
abbrev F_SPG_STAT_MLIM : Field := ⟨A_SPG_STAT, 21, 21⟩
abbrev F_SPG_STAT_GLIM : Field := ⟨A_SPG_STAT, 20, 20⟩
abbrev F_SPG_STAT_CAUSE : Field := ⟨A_SPG_STAT, 19, 16⟩
abbrev F_SPG_STAT_STARVE_S : Field := ⟨A_SPG_STAT, 15, 15⟩
abbrev F_SPG_STAT_SFLT_S : Field := ⟨A_SPG_STAT, 14, 14⟩
abbrev F_SPG_STAT_HOREF_S : Field := ⟨A_SPG_STAT, 13, 13⟩
abbrev F_SPG_STAT_ROLL_S : Field := ⟨A_SPG_STAT, 12, 12⟩
abbrev F_SPG_STAT_BRKFB_S : Field := ⟨A_SPG_STAT, 11, 11⟩
abbrev F_SPG_STAT_MLIM_S : Field := ⟨A_SPG_STAT, 10, 10⟩
abbrev F_SPG_STAT_MISS_S : Field := ⟨A_SPG_STAT, 9, 9⟩
abbrev F_SPG_STAT_SLOW_S : Field := ⟨A_SPG_STAT, 8, 8⟩
abbrev F_SPG_STAT_NCLAMP_S : Field := ⟨A_SPG_STAT, 7, 7⟩
/-- SPG_CMD (07, Table 7.10). -/
abbrev A_SPG_CMD : Nat := 0x40040008
abbrev F_SPG_CMD_CMD : Field := ⟨A_SPG_CMD, 31, 28⟩
abbrev F_SPG_CMD_NEWMODE : Field := ⟨A_SPG_CMD, 6, 4⟩
abbrev F_SPG_CMD_KEEP : Field := ⟨A_SPG_CMD, 3, 3⟩
abbrev F_SPG_CMD_SRC : Field := ⟨A_SPG_CMD, 2, 2⟩
/-- SPG_TGT (07, Table 7.11). -/
abbrev A_SPG_TGT : Nat := 0x4004000C
abbrev F_SPG_TGT_TGT : Field := ⟨A_SPG_TGT, 31, 0⟩
/-- SPG_VCAP (07, Table 7.11). -/
abbrev A_SPG_VCAP : Nat := 0x40040010
abbrev F_SPG_VCAP_VCAP : Field := ⟨A_SPG_VCAP, 31, 0⟩
/-- SPG_PUSHP (07, Table 7.11). -/
abbrev A_SPG_PUSHP : Nat := 0x40040014
abbrev F_SPG_PUSHP_D : Field := ⟨A_SPG_PUSHP, 31, 0⟩
/-- SPG_PUSHV (07, Table 7.11). -/
abbrev A_SPG_PUSHV : Nat := 0x40040018
abbrev F_SPG_PUSHV_D : Field := ⟨A_SPG_PUSHV, 31, 0⟩
/-- SPG_PUSHA (07, Table 7.11). -/
abbrev A_SPG_PUSHA : Nat := 0x4004001C
abbrev F_SPG_PUSHA_D : Field := ⟨A_SPG_PUSHA, 31, 0⟩
/-- SPG_PUSHC (07, Table 7.11). -/
abbrev A_SPG_PUSHC : Nat := 0x40040020
abbrev F_SPG_PUSHC_END : Field := ⟨A_SPG_PUSHC, 0, 0⟩
/-- SPG_FIFOSTAT (07, Table 7.11). -/
abbrev A_SPG_FIFOSTAT : Nat := 0x40040024
abbrev F_SPG_FIFOSTAT_LEVEL : Field := ⟨A_SPG_FIFOSTAT, 22, 16⟩
abbrev F_SPG_FIFOSTAT_STARVES : Field := ⟨A_SPG_FIFOSTAT, 15, 0⟩
/-- SPG_MLIMV (07, Table 7.11). -/
abbrev A_SPG_MLIMV : Nat := 0x40040030
abbrev F_SPG_MLIMV_V : Field := ⟨A_SPG_MLIMV, 31, 0⟩
/-- SPG_MLIMA (07, Table 7.11). -/
abbrev A_SPG_MLIMA : Nat := 0x40040034
abbrev F_SPG_MLIMA_V : Field := ⟨A_SPG_MLIMA, 31, 0⟩
/-- SPG_MLIMJ (07, Table 7.11). -/
abbrev A_SPG_MLIMJ : Nat := 0x40040038
abbrev F_SPG_MLIMJ_V : Field := ⟨A_SPG_MLIMJ, 31, 0⟩
/-- SPG_ILIMV (07, Table 7.11). -/
abbrev A_SPG_ILIMV : Nat := 0x4004003C
abbrev F_SPG_ILIMV_V : Field := ⟨A_SPG_ILIMV, 31, 0⟩
/-- SPG_ILIMA (07, Table 7.11). -/
abbrev A_SPG_ILIMA : Nat := 0x40040040
abbrev F_SPG_ILIMA_V : Field := ⟨A_SPG_ILIMA, 31, 0⟩
/-- SPG_ILIMJ (07, Table 7.11). -/
abbrev A_SPG_ILIMJ : Nat := 0x40040044
abbrev F_SPG_ILIMJ_V : Field := ⟨A_SPG_ILIMJ, 31, 0⟩
/-- SPG_GVMAX (07, Table 7.11). -/
abbrev A_SPG_GVMAX : Nat := 0x40040048
abbrev F_SPG_GVMAX_V : Field := ⟨A_SPG_GVMAX, 31, 0⟩
/-- SPG_RLVV (07, Table 7.11). -/
abbrev A_SPG_RLVV : Nat := 0x4004004C
abbrev F_SPG_RLVV_V : Field := ⟨A_SPG_RLVV, 31, 0⟩
/-- SPG_TIMING (07, Table 7.11). -/
abbrev A_SPG_TIMING : Nat := 0x40040050
abbrev F_SPG_TIMING_CAP : Field := ⟨A_SPG_TIMING, 31, 24⟩
abbrev F_SPG_TIMING_STRTOL : Field := ⟨A_SPG_TIMING, 15, 0⟩
/-- SPG_BRK0 (07, Table 7.11). -/
abbrev A_SPG_BRK0 : Nat := 0x40040054
abbrev F_SPG_BRK0_PRERAMP : Field := ⟨A_SPG_BRK0, 31, 24⟩
abbrev F_SPG_BRK0_BRKLIFT : Field := ⟨A_SPG_BRK0, 23, 16⟩
abbrev F_SPG_BRK0_BRKDROP : Field := ⟨A_SPG_BRK0, 15, 8⟩
abbrev F_SPG_BRK0_BRKFB : Field := ⟨A_SPG_BRK0, 7, 0⟩
/-- SPG_BRK1 (07, Table 7.11). -/
abbrev A_SPG_BRK1 : Nat := 0x40040058
abbrev F_SPG_BRK1_ROLLBACK : Field := ⟨A_SPG_BRK1, 15, 0⟩
/-- SPG_STOP (07, Table 7.11). -/
abbrev A_SPG_STOP : Nat := 0x4004005C
abbrev F_SPG_STOP_SETTLE : Field := ⟨A_SPG_STOP, 31, 24⟩
abbrev F_SPG_STOP_STOPMAX : Field := ⟨A_SPG_STOP, 23, 16⟩
abbrev F_SPG_STOP_STOPTOL : Field := ⟨A_SPG_STOP, 15, 0⟩
/-- SPG_HOSTAT (07, Table 7.11). -/
abbrev A_SPG_HOSTAT : Nat := 0x40040060
abbrev F_SPG_HOSTAT_HOSEQ : Field := ⟨A_SPG_HOSTAT, 31, 24⟩
abbrev F_SPG_HOSTAT_FROM : Field := ⟨A_SPG_HOSTAT, 22, 20⟩
abbrev F_SPG_HOSTAT_TO : Field := ⟨A_SPG_HOSTAT, 18, 16⟩
abbrev F_SPG_HOSTAT_RESULT : Field := ⟨A_SPG_HOSTAT, 15, 12⟩
/-- SPG_HODIS (07, Table 7.11). -/
abbrev A_SPG_HODIS : Nat := 0x40040064
abbrev F_SPG_HODIS_D : Field := ⟨A_SPG_HODIS, 31, 0⟩
/-- SPG_PUBP (07, Table 7.11). -/
abbrev A_SPG_PUBP : Nat := 0x40040068
abbrev F_SPG_PUBP_D : Field := ⟨A_SPG_PUBP, 31, 0⟩
/-- SPG_PUBV (07, Table 7.11). -/
abbrev A_SPG_PUBV : Nat := 0x4004006C
abbrev F_SPG_PUBV_D : Field := ⟨A_SPG_PUBV, 31, 0⟩
/-- SPG_PUBA (07, Table 7.11). -/
abbrev A_SPG_PUBA : Nat := 0x40040070
abbrev F_SPG_PUBA_D : Field := ⟨A_SPG_PUBA, 31, 0⟩
/-- SPG_HPGRES (07, Table 7.11). -/
abbrev A_SPG_HPGRES : Nat := 0x40040074
abbrev F_SPG_HPGRES_D : Field := ⟨A_SPG_HPGRES, 31, 0⟩
/-- SPG_NCFG (07, Table 7.11). -/
abbrev A_SPG_NCFG : Nat := 0x40040080
abbrev F_SPG_NCFG_EN : Field := ⟨A_SPG_NCFG, 31, 31⟩
abbrev F_SPG_NCFG_TREN : Field := ⟨A_SPG_NCFG, 30, 30⟩
abbrev F_SPG_NCFG_SEC : Field := ⟨A_SPG_NCFG, 29, 28⟩
abbrev F_SPG_NCFG_MU : Field := ⟨A_SPG_NCFG, 15, 0⟩
/-- SPG_NFREF (07, Table 7.11). -/
abbrev A_SPG_NFREF : Nat := 0x40040084
abbrev F_SPG_NFREF_F : Field := ⟨A_SPG_NFREF, 15, 0⟩
/-- SPG_NLREF (07, Table 7.11). -/
abbrev A_SPG_NLREF : Nat := 0x40040088
abbrev F_SPG_NLREF_L : Field := ⟨A_SPG_NLREF, 31, 0⟩
/-- SPG_NMASS (07, Table 7.11). -/
abbrev A_SPG_NMASS : Nat := 0x4004008C
abbrev F_SPG_NMASS_MCAR : Field := ⟨A_SPG_NMASS, 31, 16⟩
abbrev F_SPG_NMASS_MREF : Field := ⟨A_SPG_NMASS, 15, 0⟩
/-- SPG_NTOP (07, Table 7.11). -/
abbrev A_SPG_NTOP : Nat := 0x40040090
abbrev F_SPG_NTOP_P : Field := ⟨A_SPG_NTOP, 31, 0⟩
/-- SPG_NBW (07, Table 7.11). -/
abbrev A_SPG_NBW : Nat := 0x40040094
abbrev F_SPG_NBW_BW : Field := ⟨A_SPG_NBW, 15, 0⟩
/-- SPG_NSTAT (07, Table 7.11). -/
abbrev A_SPG_NSTAT : Nat := 0x40040098
abbrev F_SPG_NSTAT_C : Field := ⟨A_SPG_NSTAT, 31, 16⟩
abbrev F_SPG_NSTAT_F : Field := ⟨A_SPG_NSTAT, 15, 0⟩
/-- SPG_LWSCALE (07, Table 7.11). -/
abbrev A_SPG_LWSCALE : Nat := 0x400400A0
abbrev F_SPG_LWSCALE_S : Field := ⟨A_SPG_LWSCALE, 31, 0⟩
/-- SPG_LWTARE (07, Table 7.11). -/
abbrev A_SPG_LWTARE : Nat := 0x400400A4
abbrev F_SPG_LWTARE_T : Field := ⟨A_SPG_LWTARE, 31, 0⟩
/-- SPG_LOAD (07, Table 7.11). -/
abbrev A_SPG_LOAD : Nat := 0x400400A8
abbrev F_SPG_LOAD_L : Field := ⟨A_SPG_LOAD, 31, 0⟩

/-! ### DRV registers, base 0x40060000 -/

/-- DRV_CTRL (07, Table 7.13). -/
abbrev A_DRV_CTRL : Nat := 0x40060000
abbrev F_DRV_CTRL_EN : Field := ⟨A_DRV_CTRL, 31, 31⟩
abbrev F_DRV_CTRL_TQON : Field := ⟨A_DRV_CTRL, 23, 16⟩
abbrev F_DRV_CTRL_SYNCW : Field := ⟨A_DRV_CTRL, 11, 8⟩
abbrev F_DRV_CTRL_NLOST : Field := ⟨A_DRV_CTRL, 7, 4⟩
/-- DRV_STAT (07, Table 7.12). -/
abbrev A_DRV_STAT : Nat := 0x40060004
abbrev F_DRV_STAT_LINK : Field := ⟨A_DRV_STAT, 31, 31⟩
abbrev F_DRV_STAT_TQEN : Field := ⟨A_DRV_STAT, 30, 30⟩
abbrev F_DRV_STAT_READY : Field := ⟨A_DRV_STAT, 29, 29⟩
abbrev F_DRV_STAT_TQ_ON : Field := ⟨A_DRV_STAT, 28, 28⟩
abbrev F_DRV_STAT_FAULT : Field := ⟨A_DRV_STAT, 27, 27⟩
abbrev F_DRV_STAT_WARN : Field := ⟨A_DRV_STAT, 26, 26⟩
abbrev F_DRV_STAT_STO_A : Field := ⟨A_DRV_STAT, 25, 25⟩
abbrev F_DRV_STAT_STO_B : Field := ⟨A_DRV_STAT, 24, 24⟩
abbrev F_DRV_STAT_LIMIT : Field := ⟨A_DRV_STAT, 23, 23⟩
abbrev F_DRV_STAT_LOST_S : Field := ⟨A_DRV_STAT, 15, 15⟩
abbrev F_DRV_STAT_CRC_S : Field := ⟨A_DRV_STAT, 14, 14⟩
abbrev F_DRV_STAT_LATE_S : Field := ⟨A_DRV_STAT, 13, 13⟩
abbrev F_DRV_STAT_SEQ_S : Field := ⟨A_DRV_STAT, 12, 12⟩
abbrev F_DRV_STAT_TQOFF_S : Field := ⟨A_DRV_STAT, 11, 11⟩
abbrev F_DRV_STAT_IFLT_S : Field := ⟨A_DRV_STAT, 10, 10⟩
abbrev F_DRV_STAT_TQON_S : Field := ⟨A_DRV_STAT, 9, 9⟩
abbrev F_DRV_STAT_MISS_S : Field := ⟨A_DRV_STAT, 8, 8⟩
abbrev F_DRV_STAT_FCODE : Field := ⟨A_DRV_STAT, 7, 0⟩
/-- DRV_TQLIM (07, Table 7.13). -/
abbrev A_DRV_TQLIM : Nat := 0x40060008
abbrev F_DRV_TQLIM_L : Field := ⟨A_DRV_TQLIM, 31, 0⟩
/-- DRV_MPOS (07, Table 7.13). -/
abbrev A_DRV_MPOS : Nat := 0x40060010
abbrev F_DRV_MPOS_D : Field := ⟨A_DRV_MPOS, 31, 0⟩
/-- DRV_MVEL (07, Table 7.13). -/
abbrev A_DRV_MVEL : Nat := 0x40060014
abbrev F_DRV_MVEL_D : Field := ⟨A_DRV_MVEL, 31, 0⟩
/-- DRV_MCUR (07, Table 7.13). -/
abbrev A_DRV_MCUR : Nat := 0x40060018
abbrev F_DRV_MCUR_D : Field := ⟨A_DRV_MCUR, 31, 0⟩
/-- DRV_AUX (07, Table 7.13). -/
abbrev A_DRV_AUX : Nat := 0x4006001C
abbrev F_DRV_AUX_VDC : Field := ⟨A_DRV_AUX, 31, 16⟩
abbrev F_DRV_AUX_TEMP : Field := ⟨A_DRV_AUX, 15, 0⟩
/-- DRV_CAPDLY (07, Table 7.13). -/
abbrev A_DRV_CAPDLY : Nat := 0x40060020
abbrev F_DRV_CAPDLY_D : Field := ⟨A_DRV_CAPDLY, 15, 0⟩
/-- DRV_CNT (07, Table 7.13). -/
abbrev A_DRV_CNT : Nat := 0x40060024
abbrev F_DRV_CNT_CRC : Field := ⟨A_DRV_CNT, 31, 24⟩
abbrev F_DRV_CNT_LATE : Field := ⟨A_DRV_CNT, 23, 16⟩
abbrev F_DRV_CNT_SEQ : Field := ⟨A_DRV_CNT, 15, 8⟩
abbrev F_DRV_CNT_MISS : Field := ⟨A_DRV_CNT, 7, 0⟩

/-! ### SEL registers, base 0x40080000 -/

/-- SEL_CTRL (08, Table 8.5). -/
abbrev A_SEL_CTRL : Nat := 0x40080000
abbrev F_SEL_CTRL_PARK : Field := ⟨A_SEL_CTRL, 0, 0⟩
/-- SEL_STAT (08, Table 8.4). -/
abbrev A_SEL_STAT : Nat := 0x40080004
abbrev F_SEL_STAT_STATE : Field := ⟨A_SEL_STAT, 31, 30⟩
abbrev F_SEL_STAT_AFRESH : Field := ⟨A_SEL_STAT, 29, 29⟩
abbrev F_SEL_STAT_BFRESH : Field := ⟨A_SEL_STAT, 28, 28⟩
abbrev F_SEL_STAT_PEND : Field := ⟨A_SEL_STAT, 27, 27⟩
abbrev F_SEL_STAT_GRANT : Field := ⟨A_SEL_STAT, 26, 26⟩
abbrev F_SEL_STAT_CLIP : Field := ⟨A_SEL_STAT, 25, 25⟩
abbrev F_SEL_STAT_GSTOP : Field := ⟨A_SEL_STAT, 24, 24⟩
abbrev F_SEL_STAT_SSTOP : Field := ⟨A_SEL_STAT, 23, 23⟩
abbrev F_SEL_STAT_PARKED : Field := ⟨A_SEL_STAT, 22, 22⟩
abbrev F_SEL_STAT_STALE_S : Field := ⟨A_SEL_STAT, 15, 15⟩
abbrev F_SEL_STAT_GSTOP_S : Field := ⟨A_SEL_STAT, 14, 14⟩
abbrev F_SEL_STAT_SSTOP_S : Field := ⟨A_SEL_STAT, 13, 13⟩
abbrev F_SEL_STAT_CFGMIS_S : Field := ⟨A_SEL_STAT, 12, 12⟩
abbrev F_SEL_STAT_FUTURE_S : Field := ⟨A_SEL_STAT, 11, 11⟩
abbrev F_SEL_STAT_CONFLICT_S : Field := ⟨A_SEL_STAT, 10, 10⟩
/-- SEL_CFG (08, Table 8.3). -/
abbrev A_SEL_CFG : Nat := 0x40080010
abbrev F_SEL_CFG_EN : Field := ⟨A_SEL_CFG, 31, 31⟩
abbrev F_SEL_CFG_NAEN : Field := ⟨A_SEL_CFG, 30, 30⟩
abbrev F_SEL_CFG_NBEN : Field := ⟨A_SEL_CFG, 29, 29⟩
abbrev F_SEL_CFG_NABOVE : Field := ⟨A_SEL_CFG, 28, 24⟩
abbrev F_SEL_CFG_NBELOW : Field := ⟨A_SEL_CFG, 20, 16⟩
abbrev F_SEL_CFG_SHAFT : Field := ⟨A_SEL_CFG, 11, 8⟩
abbrev F_SEL_CFG_ORDER : Field := ⟨A_SEL_CFG, 1, 0⟩
/-- SEL_OFS (08, Table 8.5). -/
abbrev A_SEL_OFS : Nat := 0x40080014
abbrev F_SEL_OFS_OFS : Field := ⟨A_SEL_OFS, 31, 0⟩
/-- SEL_EXT (08, Table 8.5). -/
abbrev A_SEL_EXT : Nat := 0x40080018
abbrev F_SEL_EXT_TOPEXT : Field := ⟨A_SEL_EXT, 31, 16⟩
abbrev F_SEL_EXT_BOTEXT : Field := ⟨A_SEL_EXT, 15, 0⟩
/-- SEL_SAFE (08, Table 8.5). -/
abbrev A_SEL_SAFE : Nat := 0x4008001C
abbrev F_SEL_SAFE_SREACT : Field := ⟨A_SEL_SAFE, 31, 16⟩
abbrev F_SEL_SAFE_SDEC : Field := ⟨A_SEL_SAFE, 15, 0⟩
/-- SEL_NSTALE0 (08, Table 8.5). -/
abbrev A_SEL_NSTALE0 : Nat := 0x40080020
abbrev F_SEL_NSTALE0_VNMAX : Field := ⟨A_SEL_NSTALE0, 31, 16⟩
abbrev F_SEL_NSTALE0_NSDEC : Field := ⟨A_SEL_NSTALE0, 15, 0⟩
/-- SEL_NSTALE1 (08, Table 8.5). -/
abbrev A_SEL_NSTALE1 : Nat := 0x40080024
abbrev F_SEL_NSTALE1_NSREACT : Field := ⟨A_SEL_NSTALE1, 15, 0⟩
/-- SEL_MARGIN0 (08, Table 8.5). -/
abbrev A_SEL_MARGIN0 : Nat := 0x40080028
abbrev F_SEL_MARGIN0_M1 : Field := ⟨A_SEL_MARGIN0, 31, 16⟩
abbrev F_SEL_MARGIN0_M2 : Field := ⟨A_SEL_MARGIN0, 15, 0⟩
/-- SEL_MARGIN1 (08, Table 8.5). -/
abbrev A_SEL_MARGIN1 : Nat := 0x4008002C
abbrev F_SEL_MARGIN1_M3 : Field := ⟨A_SEL_MARGIN1, 31, 16⟩
abbrev F_SEL_MARGIN1_MS : Field := ⟨A_SEL_MARGIN1, 15, 0⟩
/-- SEL_CLAIM (08, Table 8.5). -/
abbrev A_SEL_CLAIM : Nat := 0x40080030
abbrev F_SEL_CLAIM_TGT : Field := ⟨A_SEL_CLAIM, 31, 0⟩
/-- SEL_GRANTED (08, Table 8.5). -/
abbrev A_SEL_GRANTED : Nat := 0x40080034
abbrev F_SEL_GRANTED_TGT : Field := ⟨A_SEL_GRANTED, 31, 0⟩
/-- SEL_FREELO (08, Table 8.5). -/
abbrev A_SEL_FREELO : Nat := 0x40080040
abbrev F_SEL_FREELO_D : Field := ⟨A_SEL_FREELO, 31, 0⟩
/-- SEL_FREEHI (08, Table 8.5). -/
abbrev A_SEL_FREEHI : Nat := 0x40080044
abbrev F_SEL_FREEHI_D : Field := ⟨A_SEL_FREEHI, 31, 0⟩
/-- SEL_CLIPLO (08, Table 8.5). -/
abbrev A_SEL_CLIPLO : Nat := 0x40080048
abbrev F_SEL_CLIPLO_D : Field := ⟨A_SEL_CLIPLO, 31, 0⟩
/-- SEL_CLIPHI (08, Table 8.5). -/
abbrev A_SEL_CLIPHI : Nat := 0x4008004C
abbrev F_SEL_CLIPHI_D : Field := ⟨A_SEL_CLIPHI, 31, 0⟩
/-- SEL_GAPC (08, Table 8.5). -/
abbrev A_SEL_GAPC : Nat := 0x40080050
abbrev F_SEL_GAPC_ABOVE : Field := ⟨A_SEL_GAPC, 31, 16⟩
abbrev F_SEL_GAPC_BELOW : Field := ⟨A_SEL_GAPC, 15, 0⟩
/-- SEL_GAPS (08, Table 8.5). -/
abbrev A_SEL_GAPS : Nat := 0x40080054
abbrev F_SEL_GAPS_ABOVE : Field := ⟨A_SEL_GAPS, 31, 16⟩
abbrev F_SEL_GAPS_BELOW : Field := ⟨A_SEL_GAPS, 15, 0⟩
/-- SEL_AGE (08, Table 8.5). -/
abbrev A_SEL_AGE : Nat := 0x40080058
abbrev F_SEL_AGE_ABOVE : Field := ⟨A_SEL_AGE, 31, 16⟩
abbrev F_SEL_AGE_BELOW : Field := ⟨A_SEL_AGE, 15, 0⟩
/-- SEL_CNT (08, Table 8.5). -/
abbrev A_SEL_CNT : Nat := 0x4008005C
abbrev F_SEL_CNT_STALE : Field := ⟨A_SEL_CNT, 31, 24⟩
abbrev F_SEL_CNT_FUTURE : Field := ⟨A_SEL_CNT, 23, 16⟩
abbrev F_SEL_CNT_CLIP : Field := ⟨A_SEL_CNT, 15, 8⟩
abbrev F_SEL_CNT_GSTOP : Field := ⟨A_SEL_CNT, 7, 0⟩

/-! ### DOR registers, base 0x40070000 -/

/-- DOR_CTRL (09, Table 9.6). -/
abbrev A_DOR_CTRL (i : Nat) : Nat := 0x40070000 + 0x200 * i
abbrev F_DOR_CTRL_EN (i : Nat) : Field := ⟨A_DOR_CTRL i, 31, 31⟩
abbrev F_DOR_CTRL_FSEL (i : Nat) : Field := ⟨A_DOR_CTRL i, 30, 30⟩
/-- DOR_CMD (09, Table 9.7). -/
abbrev A_DOR_CMD (i : Nat) : Nat := 0x40070004 + 0x200 * i
abbrev F_DOR_CMD_CMD (i : Nat) : Field := ⟨A_DOR_CMD i, 31, 28⟩
/-- DOR_STAT (09, Table 9.8). -/
abbrev A_DOR_STAT (i : Nat) : Nat := 0x40070008 + 0x200 * i
abbrev F_DOR_STAT_STATE (i : Nat) : Field := ⟨A_DOR_STAT i, 31, 28⟩
abbrev F_DOR_STAT_MOVE (i : Nat) : Field := ⟨A_DOR_STAT i, 27, 25⟩
abbrev F_DOR_STAT_GATES (i : Nat) : Field := ⟨A_DOR_STAT i, 24, 24⟩
abbrev F_DOR_STAT_PERM (i : Nat) : Field := ⟨A_DOR_STAT i, 23, 23⟩
abbrev F_DOR_STAT_LC (i : Nat) : Field := ⟨A_DOR_STAT i, 22, 22⟩
abbrev F_DOR_STAT_LRNOK (i : Nat) : Field := ⟨A_DOR_STAT i, 21, 21⟩
abbrev F_DOR_STAT_REFD (i : Nat) : Field := ⟨A_DOR_STAT i, 20, 20⟩
abbrev F_DOR_STAT_FCAUSE (i : Nat) : Field := ⟨A_DOR_STAT i, 19, 16⟩
abbrev F_DOR_STAT_OC_S (i : Nat) : Field := ⟨A_DOR_STAT i, 15, 15⟩
abbrev F_DOR_STAT_HALL_S (i : Nat) : Field := ⟨A_DOR_STAT i, 14, 14⟩
abbrev F_DOR_STAT_CAP_S (i : Nat) : Field := ⟨A_DOR_STAT i, 13, 13⟩
abbrev F_DOR_STAT_KE_S (i : Nat) : Field := ⟨A_DOR_STAT i, 12, 12⟩
abbrev F_DOR_STAT_OBSTC_S (i : Nat) : Field := ⟨A_DOR_STAT i, 11, 11⟩
abbrev F_DOR_STAT_OBSTO_S (i : Nat) : Field := ⟨A_DOR_STAT i, 10, 10⟩
abbrev F_DOR_STAT_LCREV_S (i : Nat) : Field := ⟨A_DOR_STAT i, 9, 9⟩
abbrev F_DOR_STAT_DROP_S (i : Nat) : Field := ⟨A_DOR_STAT i, 8, 8⟩
abbrev F_DOR_STAT_LOOP_S (i : Nat) : Field := ⟨A_DOR_STAT i, 7, 7⟩
abbrev F_DOR_STAT_LOCK_S (i : Nat) : Field := ⟨A_DOR_STAT i, 6, 6⟩
abbrev F_DOR_STAT_VSAT_S (i : Nat) : Field := ⟨A_DOR_STAT i, 5, 5⟩
abbrev F_DOR_STAT_LCIGN_S (i : Nat) : Field := ⟨A_DOR_STAT i, 4, 4⟩
/-- DOR_CFG (09, Table 9.9). -/
abbrev A_DOR_CFG (i : Nat) : Nat := 0x4007000C + 0x200 * i
abbrev F_DOR_CFG_DECK (i : Nat) : Field := ⟨A_DOR_CFG i, 31, 31⟩
abbrev F_DOR_CFG_DIR (i : Nat) : Field := ⟨A_DOR_CFG i, 30, 30⟩
abbrev F_DOR_CFG_CPH (i : Nat) : Field := ⟨A_DOR_CFG i, 27, 16⟩
abbrev F_DOR_CFG_HFILT (i : Nat) : Field := ⟨A_DOR_CFG i, 12, 8⟩
abbrev F_DOR_CFG_DEADT (i : Nat) : Field := ⟨A_DOR_CFG i, 7, 0⟩
/-- DOR_HALLMAP (09, Table 9.11). -/
abbrev A_DOR_HALLMAP (i : Nat) : Nat := 0x40070010 + 0x200 * i
abbrev F_DOR_HALLMAP_MAP (i : Nat) : Field := ⟨A_DOR_HALLMAP i, 20, 3⟩
/-- DOR_HOFS (09, Table 9.11). -/
abbrev A_DOR_HOFS (i : Nat) : Nat := 0x40070014 + 0x200 * i
abbrev F_DOR_HOFS_HOFS (i : Nat) : Field := ⟨A_DOR_HOFS i, 15, 0⟩
/-- DOR_SCALE (09, Table 9.11). -/
abbrev A_DOR_SCALE (i : Nat) : Nat := 0x40070018 + 0x200 * i
abbrev F_DOR_SCALE_SCALE (i : Nat) : Field := ⟨A_DOR_SCALE i, 31, 0⟩
/-- DOR_STROKE (09, Table 9.11). -/
abbrev A_DOR_STROKE (i : Nat) : Nat := 0x4007001C + 0x200 * i
abbrev F_DOR_STROKE_STROKE (i : Nat) : Field := ⟨A_DOR_STROKE i, 31, 0⟩
/-- DOR_BINW (09, Table 9.11). -/
abbrev A_DOR_BINW (i : Nat) : Nat := 0x40070020 + 0x200 * i
abbrev F_DOR_BINW_BINW (i : Nat) : Field := ⟨A_DOR_BINW i, 15, 0⟩
/-- DOR_MASS (09, Table 9.11). -/
abbrev A_DOR_MASS (i : Nat) : Nat := 0x40070024 + 0x200 * i
abbrev F_DOR_MASS_MASS (i : Nat) : Field := ⟨A_DOR_MASS i, 15, 0⟩
/-- DOR_KF (09, Table 9.11). -/
abbrev A_DOR_KF (i : Nat) : Nat := 0x40070028 + 0x200 * i
abbrev F_DOR_KF_KF (i : Nat) : Field := ⟨A_DOR_KF i, 31, 0⟩
/-- DOR_MCAPS (09, Table 9.11). -/
abbrev A_DOR_MCAPS (i : Nat) : Nat := 0x4007002C + 0x200 * i
abbrev F_DOR_MCAPS_FCAPM (i : Nat) : Field := ⟨A_DOR_MCAPS i, 31, 16⟩
abbrev F_DOR_MCAPS_KECAPM (i : Nat) : Field := ⟨A_DOR_MCAPS i, 15, 0⟩
/-- DOR_CAPS (09, Table 9.10). -/
abbrev A_DOR_CAPS (i : Nat) : Nat := 0x40070030 + 0x200 * i
abbrev F_DOR_CAPS_FCAP (i : Nat) : Field := ⟨A_DOR_CAPS i, 31, 16⟩
abbrev F_DOR_CAPS_KECAP (i : Nat) : Field := ⟨A_DOR_CAPS i, 15, 0⟩
/-- DOR_NUDGE (09, Table 9.11). -/
abbrev A_DOR_NUDGE (i : Nat) : Nat := 0x40070034 + 0x200 * i
abbrev F_DOR_NUDGE_KENUDGE (i : Nat) : Field := ⟨A_DOR_NUDGE i, 15, 0⟩
/-- DOR_OBS (09, Table 9.11). -/
abbrev A_DOR_OBS (i : Nat) : Nat := 0x40070038 + 0x200 * i
abbrev F_DOR_OBS_FOBS (i : Nat) : Field := ⟨A_DOR_OBS i, 31, 20⟩
abbrev F_DOR_OBS_FOBSO (i : Nat) : Field := ⟨A_DOR_OBS i, 19, 8⟩
abbrev F_DOR_OBS_NOBS (i : Nat) : Field := ⟨A_DOR_OBS i, 7, 4⟩
/-- DOR_OBSZ (09, Table 9.11). -/
abbrev A_DOR_OBSZ (i : Nat) : Nat := 0x4007003C + 0x200 * i
abbrev F_DOR_OBSZ_CLOSETOL (i : Nat) : Field := ⟨A_DOR_OBSZ i, 31, 16⟩
abbrev F_DOR_OBSZ_OBSZ (i : Nat) : Field := ⟨A_DOR_OBSZ i, 15, 0⟩
/-- DOR_PROF0A (09, Table 9.11). -/
abbrev A_DOR_PROF0A (i : Nat) : Nat := 0x40070040 + 0x200 * i
abbrev F_DOR_PROF0A_VMAX (i : Nat) : Field := ⟨A_DOR_PROF0A i, 31, 16⟩
abbrev F_DOR_PROF0A_ACC (i : Nat) : Field := ⟨A_DOR_PROF0A i, 15, 0⟩
/-- DOR_PROF0B (09, Table 9.11). -/
abbrev A_DOR_PROF0B (i : Nat) : Nat := 0x40070044 + 0x200 * i
abbrev F_DOR_PROF0B_DEC (i : Nat) : Field := ⟨A_DOR_PROF0B i, 31, 16⟩
abbrev F_DOR_PROF0B_CREEPD (i : Nat) : Field := ⟨A_DOR_PROF0B i, 15, 8⟩
abbrev F_DOR_PROF0B_CREEPV (i : Nat) : Field := ⟨A_DOR_PROF0B i, 7, 0⟩
/-- DOR_PROF1A (09, Table 9.11). -/
abbrev A_DOR_PROF1A (i : Nat) : Nat := 0x40070048 + 0x200 * i
abbrev F_DOR_PROF1A_VMAX (i : Nat) : Field := ⟨A_DOR_PROF1A i, 31, 16⟩
abbrev F_DOR_PROF1A_ACC (i : Nat) : Field := ⟨A_DOR_PROF1A i, 15, 0⟩
/-- DOR_PROF1B (09, Table 9.11). -/
abbrev A_DOR_PROF1B (i : Nat) : Nat := 0x4007004C + 0x200 * i
abbrev F_DOR_PROF1B_DEC (i : Nat) : Field := ⟨A_DOR_PROF1B i, 31, 16⟩
abbrev F_DOR_PROF1B_CREEPD (i : Nat) : Field := ⟨A_DOR_PROF1B i, 15, 8⟩
abbrev F_DOR_PROF1B_CREEPV (i : Nat) : Field := ⟨A_DOR_PROF1B i, 7, 0⟩
/-- DOR_PROF2A (09, Table 9.11). -/
abbrev A_DOR_PROF2A (i : Nat) : Nat := 0x40070050 + 0x200 * i
abbrev F_DOR_PROF2A_VMAX (i : Nat) : Field := ⟨A_DOR_PROF2A i, 31, 16⟩
abbrev F_DOR_PROF2A_ACC (i : Nat) : Field := ⟨A_DOR_PROF2A i, 15, 0⟩
/-- DOR_PROF2B (09, Table 9.11). -/
abbrev A_DOR_PROF2B (i : Nat) : Nat := 0x40070054 + 0x200 * i
abbrev F_DOR_PROF2B_DEC (i : Nat) : Field := ⟨A_DOR_PROF2B i, 31, 16⟩
abbrev F_DOR_PROF2B_CREEPD (i : Nat) : Field := ⟨A_DOR_PROF2B i, 15, 8⟩
abbrev F_DOR_PROF2B_CREEPV (i : Nat) : Field := ⟨A_DOR_PROF2B i, 7, 0⟩
/-- DOR_PROF3A (09, Table 9.11). -/
abbrev A_DOR_PROF3A (i : Nat) : Nat := 0x40070058 + 0x200 * i
abbrev F_DOR_PROF3A_VMAX (i : Nat) : Field := ⟨A_DOR_PROF3A i, 31, 16⟩
abbrev F_DOR_PROF3A_ACC (i : Nat) : Field := ⟨A_DOR_PROF3A i, 15, 0⟩
/-- DOR_PROF3B (09, Table 9.11). -/
abbrev A_DOR_PROF3B (i : Nat) : Nat := 0x4007005C + 0x200 * i
abbrev F_DOR_PROF3B_DEC (i : Nat) : Field := ⟨A_DOR_PROF3B i, 31, 16⟩
abbrev F_DOR_PROF3B_CREEPD (i : Nat) : Field := ⟨A_DOR_PROF3B i, 15, 8⟩
abbrev F_DOR_PROF3B_CREEPV (i : Nat) : Field := ⟨A_DOR_PROF3B i, 7, 0⟩
/-- DOR_REV (09, Table 9.11). -/
abbrev A_DOR_REV (i : Nat) : Nat := 0x40070060 + 0x200 * i
abbrev F_DOR_REV_REVDEC (i : Nat) : Field := ⟨A_DOR_REV i, 31, 16⟩
abbrev F_DOR_REV_LOCKT (i : Nat) : Field := ⟨A_DOR_REV i, 15, 8⟩
/-- DOR_HOLD (09, Table 9.11). -/
abbrev A_DOR_HOLD (i : Nat) : Nat := 0x40070064 + 0x200 * i
abbrev F_DOR_HOLD_HOLDO (i : Nat) : Field := ⟨A_DOR_HOLD i, 31, 16⟩
abbrev F_DOR_HOLD_HOLDC (i : Nat) : Field := ⟨A_DOR_HOLD i, 15, 0⟩
/-- DOR_ILIM (09, Table 9.11). -/
abbrev A_DOR_ILIM (i : Nat) : Nat := 0x40070068 + 0x200 * i
abbrev F_DOR_ILIM_IOC (i : Nat) : Field := ⟨A_DOR_ILIM i, 31, 16⟩
abbrev F_DOR_ILIM_IMAX (i : Nat) : Field := ⟨A_DOR_ILIM i, 15, 0⟩
/-- DOR_REF (09, Table 9.11). -/
abbrev A_DOR_REF (i : Nat) : Nat := 0x4007006C + 0x200 * i
abbrev F_DOR_REF_REFV (i : Nat) : Field := ⟨A_DOR_REF i, 31, 16⟩
abbrev F_DOR_REF_IREF (i : Nat) : Field := ⟨A_DOR_REF i, 15, 0⟩
/-- DOR_LRN (09, Table 9.11). -/
abbrev A_DOR_LRN (i : Nat) : Nat := 0x40070070 + 0x200 * i
abbrev F_DOR_LRN_LRNV (i : Nat) : Field := ⟨A_DOR_LRN i, 15, 0⟩
/-- DOR_ISCALE (09, Table 9.11). -/
abbrev A_DOR_ISCALE (i : Nat) : Nat := 0x40070074 + 0x200 * i
abbrev F_DOR_ISCALE_ISCALE (i : Nat) : Field := ⟨A_DOR_ISCALE i, 31, 0⟩
/-- DOR_POS (09, Table 9.11). -/
abbrev A_DOR_POS (i : Nat) : Nat := 0x40070080 + 0x200 * i
abbrev F_DOR_POS_D (i : Nat) : Field := ⟨A_DOR_POS i, 31, 0⟩
/-- DOR_VEL (09, Table 9.11). -/
abbrev A_DOR_VEL (i : Nat) : Nat := 0x40070084 + 0x200 * i
abbrev F_DOR_VEL_D (i : Nat) : Field := ⟨A_DOR_VEL i, 31, 0⟩
/-- DOR_ID (09, Table 9.11). -/
abbrev A_DOR_ID (i : Nat) : Nat := 0x40070088 + 0x200 * i
abbrev F_DOR_ID_D (i : Nat) : Field := ⟨A_DOR_ID i, 31, 0⟩
/-- DOR_IQ (09, Table 9.11). -/
abbrev A_DOR_IQ (i : Nat) : Nat := 0x4007008C + 0x200 * i
abbrev F_DOR_IQ_D (i : Nat) : Field := ⟨A_DOR_IQ i, 31, 0⟩
/-- DOR_FRES (09, Table 9.11). -/
abbrev A_DOR_FRES (i : Nat) : Nat := 0x40070090 + 0x200 * i
abbrev F_DOR_FRES_FR (i : Nat) : Field := ⟨A_DOR_FRES i, 31, 0⟩
/-- DOR_KE (09, Table 9.11). -/
abbrev A_DOR_KE (i : Nat) : Nat := 0x40070094 + 0x200 * i
abbrev F_DOR_KE_E (i : Nat) : Field := ⟨A_DOR_KE i, 31, 0⟩
/-- DOR_ICL (09, Table 9.11). -/
abbrev A_DOR_ICL (i : Nat) : Nat := 0x40070098 + 0x200 * i
abbrev F_DOR_ICL_ICL (i : Nat) : Field := ⟨A_DOR_ICL i, 31, 0⟩
/-- DOR_CNT (09, Table 9.11). -/
abbrev A_DOR_CNT (i : Nat) : Nat := 0x4007009C + 0x200 * i
abbrev F_DOR_CNT_HALLERR (i : Nat) : Field := ⟨A_DOR_CNT i, 31, 24⟩
abbrev F_DOR_CNT_OBSTR (i : Nat) : Field := ⟨A_DOR_CNT i, 23, 16⟩
abbrev F_DOR_CNT_LCREV (i : Nat) : Field := ⟨A_DOR_CNT i, 15, 8⟩
abbrev F_DOR_CNT_CAPTRIP (i : Nat) : Field := ⟨A_DOR_CNT i, 7, 0⟩

/-! ### PRK registers, base 0x40090000 -/

/-- PRK_CTRL (10, Table 10.10). -/
abbrev A_PRK_CTRL : Nat := 0x40090000
abbrev F_PRK_CTRL_EN : Field := ⟨A_PRK_CTRL, 31, 31⟩
/-- PRK_STAT (10, Table 10.11). -/
abbrev A_PRK_STAT : Nat := 0x40090004
abbrev F_PRK_STAT_ROLE : Field := ⟨A_PRK_STAT, 31, 30⟩
abbrev F_PRK_STAT_QLEVEL : Field := ⟨A_PRK_STAT, 29, 25⟩
abbrev F_PRK_STAT_ALEVEL : Field := ⟨A_PRK_STAT, 24, 19⟩
abbrev F_PRK_STAT_NOCC : Field := ⟨A_PRK_STAT, 18, 12⟩
abbrev F_PRK_STAT_MIRV : Field := ⟨A_PRK_STAT, 11, 11⟩
abbrev F_PRK_STAT_SWLATE_S : Field := ⟨A_PRK_STAT, 7, 7⟩
abbrev F_PRK_STAT_AFULL_S : Field := ⟨A_PRK_STAT, 6, 6⟩
abbrev F_PRK_STAT_EVICT_S : Field := ⟨A_PRK_STAT, 5, 5⟩
abbrev F_PRK_STAT_HELD_S : Field := ⟨A_PRK_STAT, 4, 4⟩
abbrev F_PRK_STAT_STALE_S : Field := ⟨A_PRK_STAT, 3, 3⟩
abbrev F_PRK_STAT_CACHE_S : Field := ⟨A_PRK_STAT, 2, 2⟩
abbrev F_PRK_STAT_SAT_S : Field := ⟨A_PRK_STAT, 1, 1⟩
abbrev F_PRK_STAT_TRUNC_S : Field := ⟨A_PRK_STAT, 0, 0⟩
/-- PRK_MODE (10, Table 10.13). -/
abbrev A_PRK_MODE : Nat := 0x40090008
abbrev F_PRK_MODE_MODE : Field := ⟨A_PRK_MODE, 2, 0⟩
abbrev F_PRK_MODE_MODEMAP : Field := ⟨A_PRK_MODE, 23, 16⟩
/-- PRK_SUB (10, Table 10.13). -/
abbrev A_PRK_SUB (i : Nat) : Nat := 0x40090010 + 0x4 * i
abbrev F_PRK_SUB_D (i : Nat) : Field := ⟨A_PRK_SUB i, 31, 0⟩
/-- PRK_SUBPUSH (10, Table 10.13). -/
abbrev A_PRK_SUBPUSH : Nat := 0x40090020
abbrev F_PRK_SUBPUSH_PUSH : Field := ⟨A_PRK_SUBPUSH, 0, 0⟩
/-- PRK_ANS (10, Table 10.13). -/
abbrev A_PRK_ANS (i : Nat) : Nat := 0x40090030 + 0x4 * i
abbrev F_PRK_ANS_D (i : Nat) : Field := ⟨A_PRK_ANS i, 31, 0⟩
/-- PRK_ANSPOP (10, Table 10.13). -/
abbrev A_PRK_ANSPOP : Nat := 0x40090040
abbrev F_PRK_ANSPOP_POP : Field := ⟨A_PRK_ANSPOP, 0, 0⟩
/-- PRK_CVIEW (10, Table 10.13). -/
abbrev A_PRK_CVIEW (i : Nat) : Nat := 0x40090044 + 0x4 * i
abbrev F_PRK_CVIEW_D (i : Nat) : Field := ⟨A_PRK_CVIEW i, 31, 0⟩
/-- PRK_DISP (10, Table 10.13). -/
abbrev A_PRK_DISP : Nat := 0x40090054
abbrev F_PRK_DISP_DELAYT : Field := ⟨A_PRK_DISP, 31, 24⟩
abbrev F_PRK_DISP_HORIZON : Field := ⟨A_PRK_DISP, 23, 16⟩
abbrev F_PRK_DISP_EMRSV : Field := ⟨A_PRK_DISP, 15, 8⟩
abbrev F_PRK_DISP_VSTALE : Field := ⟨A_PRK_DISP, 7, 0⟩
/-- PRK_LOAD (10, Table 10.13). -/
abbrev A_PRK_LOAD : Nat := 0x40090058
abbrev F_PRK_LOAD_BYPASS : Field := ⟨A_PRK_LOAD, 31, 24⟩
abbrev F_PRK_LOAD_BYHYST : Field := ⟨A_PRK_LOAD, 23, 16⟩
abbrev F_PRK_LOAD_LOADT : Field := ⟨A_PRK_LOAD, 15, 8⟩
abbrev F_PRK_LOAD_PPCT : Field := ⟨A_PRK_LOAD, 7, 0⟩
/-- PRK_SWEEP (10, Table 10.12). -/
abbrev A_PRK_SWEEP : Nat := 0x4009005C
abbrev F_PRK_SWEEP_SWEN : Field := ⟨A_PRK_SWEEP, 31, 31⟩
abbrev F_PRK_SWEEP_DESTRE : Field := ⟨A_PRK_SWEEP, 30, 30⟩
abbrev F_PRK_SWEEP_REAS_MAX : Field := ⟨A_PRK_SWEEP, 27, 24⟩
abbrev F_PRK_SWEEP_MARGIN : Field := ⟨A_PRK_SWEEP, 23, 16⟩
abbrev F_PRK_SWEEP_LOCKT : Field := ⟨A_PRK_SWEEP, 15, 8⟩
abbrev F_PRK_SWEEP_PERIOD : Field := ⟨A_PRK_SWEEP, 7, 0⟩
/-- PRK_DWELL (10, Table 10.13). -/
abbrev A_PRK_DWELL : Nat := 0x40090060
abbrev F_PRK_DWELL_DW0 : Field := ⟨A_PRK_DWELL, 31, 24⟩
abbrev F_PRK_DWELL_DWP : Field := ⟨A_PRK_DWELL, 23, 16⟩
abbrev F_PRK_DWELL_DWACC : Field := ⟨A_PRK_DWELL, 15, 8⟩
/-- PRK_CLASSW (10, Table 10.13). -/
abbrev A_PRK_CLASSW : Nat := 0x40090064
abbrev F_PRK_CLASSW_CW3 : Field := ⟨A_PRK_CLASSW, 31, 24⟩
abbrev F_PRK_CLASSW_CW2 : Field := ⟨A_PRK_CLASSW, 23, 16⟩
abbrev F_PRK_CLASSW_CW1 : Field := ⟨A_PRK_CLASSW, 15, 8⟩
abbrev F_PRK_CLASSW_CW0 : Field := ⟨A_PRK_CLASSW, 7, 0⟩
/-- PRK_EMCARS (10, Table 10.13). -/
abbrev A_PRK_EMCARS : Nat := 0x40090068
abbrev F_PRK_EMCARS_M : Field := ⟨A_PRK_EMCARS, 31, 0⟩
/-- PRK_BYPASS (10, Table 10.13). -/
abbrev A_PRK_BYPASS : Nat := 0x4009006C
abbrev F_PRK_BYPASS_M : Field := ⟨A_PRK_BYPASS, 31, 0⟩
/-- PRK_INSERV (10, Table 10.13). -/
abbrev A_PRK_INSERV : Nat := 0x40090070
abbrev F_PRK_INSERV_M : Field := ⟨A_PRK_INSERV, 31, 0⟩
/-- PRK_SLPUB (10, Table 10.13). -/
abbrev A_PRK_SLPUB : Nat := 0x40090074
abbrev F_PRK_SLPUB_COUNT : Field := ⟨A_PRK_SLPUB, 7, 0⟩
/-- PRK_MIRROR (10, Table 10.13). -/
abbrev A_PRK_MIRROR : Nat := 0x40090078
abbrev F_PRK_MIRROR_MSEQ : Field := ⟨A_PRK_MIRROR, 15, 0⟩
/-- PRK_MTIME (10, Table 10.13). -/
abbrev A_PRK_MTIME : Nat := 0x4009007C
abbrev F_PRK_MTIME_TIME : Field := ⟨A_PRK_MTIME, 31, 0⟩
/-- PRK_WSETA (10, Table 10.13). -/
abbrev A_PRK_WSETA (i : Nat) : Nat := 0x40090080 + 0x10 * i
abbrev F_PRK_WSETA_WW (i : Nat) : Field := ⟨A_PRK_WSETA i, 31, 16⟩
abbrev F_PRK_WSETA_WR (i : Nat) : Field := ⟨A_PRK_WSETA i, 15, 0⟩
/-- PRK_WSETB (10, Table 10.13). -/
abbrev A_PRK_WSETB (i : Nat) : Nat := 0x40090084 + 0x10 * i
abbrev F_PRK_WSETB_WD (i : Nat) : Field := ⟨A_PRK_WSETB i, 31, 16⟩
abbrev F_PRK_WSETB_WS (i : Nat) : Field := ⟨A_PRK_WSETB i, 15, 0⟩
/-- PRK_WSETC (10, Table 10.13). -/
abbrev A_PRK_WSETC (i : Nat) : Nat := 0x40090088 + 0x10 * i
abbrev F_PRK_WSETC_WL (i : Nat) : Field := ⟨A_PRK_WSETC i, 15, 0⟩
/-- PRK_TTABD (10, Table 10.13). -/
abbrev A_PRK_TTABD (i : Nat) : Nat := 0x40090100 + 0x8 * i
abbrev F_PRK_TTABD_D (i : Nat) : Field := ⟨A_PRK_TTABD i, 31, 0⟩
/-- PRK_TTABT (10, Table 10.13). -/
abbrev A_PRK_TTABT (i : Nat) : Nat := 0x40090104 + 0x8 * i
abbrev F_PRK_TTABT_T (i : Nat) : Field := ⟨A_PRK_TTABT i, 15, 0⟩
/-- PRK_CNT0 (10, Table 10.13). -/
abbrev A_PRK_CNT0 : Nat := 0x40090200
abbrev F_PRK_CNT0_ASSIGNED : Field := ⟨A_PRK_CNT0, 31, 16⟩
abbrev F_PRK_CNT0_DELAYED : Field := ⟨A_PRK_CNT0, 15, 0⟩
/-- PRK_CNT1 (10, Table 10.13). -/
abbrev A_PRK_CNT1 : Nat := 0x40090204
abbrev F_PRK_CNT1_REDIRECT : Field := ⟨A_PRK_CNT1, 31, 16⟩
abbrev F_PRK_CNT1_REFUSED : Field := ⟨A_PRK_CNT1, 15, 0⟩
/-- PRK_CNT2 (10, Table 10.13). -/
abbrev A_PRK_CNT2 : Nat := 0x40090208
abbrev F_PRK_CNT2_REASSIGNED : Field := ⟨A_PRK_CNT2, 31, 16⟩
abbrev F_PRK_CNT2_REPEAT : Field := ⟨A_PRK_CNT2, 15, 0⟩
/-- PRK_LANDH (10, Table 10.13). -/
abbrev A_PRK_LANDH (i : Nat) : Nat := 0x40094000 + 0x10 * i
abbrev F_PRK_LANDH_HEIGHT (i : Nat) : Field := ⟨A_PRK_LANDH i, 31, 0⟩
/-- PRK_LANDC (10, Table 10.13). -/
abbrev A_PRK_LANDC (i : Nat) : Nat := 0x40094004 + 0x10 * i
abbrev F_PRK_LANDC_CARMASK (i : Nat) : Field := ⟨A_PRK_LANDC i, 31, 0⟩
/-- PRK_LANDX (10, Table 10.13). -/
abbrev A_PRK_LANDX (i : Nat) : Nat := 0x40094008 + 0x10 * i
abbrev F_PRK_LANDX_TLAND (i : Nat) : Field := ⟨A_PRK_LANDX i, 23, 16⟩
abbrev F_PRK_LANDX_RTARGET (i : Nat) : Field := ⟨A_PRK_LANDX i, 15, 8⟩
abbrev F_PRK_LANDX_CLASSOK (i : Nat) : Field := ⟨A_PRK_LANDX i, 7, 4⟩
abbrev F_PRK_LANDX_REDIRV (i : Nat) : Field := ⟨A_PRK_LANDX i, 2, 2⟩
abbrev F_PRK_LANDX_DECKPREF (i : Nat) : Field := ⟨A_PRK_LANDX i, 1, 1⟩
abbrev F_PRK_LANDX_LOCKED (i : Nat) : Field := ⟨A_PRK_LANDX i, 0, 0⟩

/-! ### SEB registers, base 0x400A0000 -/

/-- SEB_STAT (11, Table 11.9). -/
abbrev A_SEB_STAT : Nat := 0x400A0000
abbrev F_SEB_STAT_PS1 : Field := ⟨A_SEB_STAT, 31, 29⟩
abbrev F_SEB_STAT_PS0 : Field := ⟨A_SEB_STAT, 28, 26⟩
abbrev F_SEB_STAT_MODE : Field := ⟨A_SEB_STAT, 25, 24⟩
abbrev F_SEB_STAT_DIRP : Field := ⟨A_SEB_STAT, 23, 22⟩
abbrev F_SEB_STAT_STOP : Field := ⟨A_SEB_STAT, 21, 21⟩
abbrev F_SEB_STAT_BLOCK : Field := ⟨A_SEB_STAT, 20, 20⟩
abbrev F_SEB_STAT_NXLAND : Field := ⟨A_SEB_STAT, 19, 19⟩
abbrev F_SEB_STAT_PERM1 : Field := ⟨A_SEB_STAT, 18, 18⟩
abbrev F_SEB_STAT_PERM0 : Field := ⟨A_SEB_STAT, 17, 17⟩
abbrev F_SEB_STAT_ZIN1 : Field := ⟨A_SEB_STAT, 16, 16⟩
abbrev F_SEB_STAT_ZIN0 : Field := ⟨A_SEB_STAT, 15, 15⟩
abbrev F_SEB_STAT_W : Field := ⟨A_SEB_STAT, 14, 14⟩
abbrev F_SEB_STAT_DCS : Field := ⟨A_SEB_STAT, 13, 10⟩
abbrev F_SEB_STAT_LCB : Field := ⟨A_SEB_STAT, 9, 8⟩
abbrev F_SEB_STAT_ZLAND : Field := ⟨A_SEB_STAT, 7, 0⟩
/-- SEB_ACT (11, Table 11.12). -/
abbrev A_SEB_ACT : Nat := 0x400A0004
abbrev F_SEB_ACT_ACT : Field := ⟨A_SEB_ACT, 12, 0⟩
/-- SEB_LATCH (11, Table 11.10). -/
abbrev A_SEB_LATCH : Nat := 0x400A0008
abbrev F_SEB_LATCH_NXLAND : Field := ⟨A_SEB_LATCH, 22, 22⟩
abbrev F_SEB_LATCH_SELSTOP : Field := ⟨A_SEB_LATCH, 21, 21⟩
abbrev F_SEB_LATCH_SLIP : Field := ⟨A_SEB_LATCH, 20, 20⟩
abbrev F_SEB_LATCH_ENCDIS : Field := ⟨A_SEB_LATCH, 19, 19⟩
abbrev F_SEB_LATCH_ENCLOST : Field := ⟨A_SEB_LATCH, 18, 18⟩
abbrev F_SEB_LATCH_MODESPD : Field := ⟨A_SEB_LATCH, 17, 17⟩
abbrev F_SEB_LATCH_LC1_DISC : Field := ⟨A_SEB_LATCH, 16, 16⟩
abbrev F_SEB_LATCH_LC0_DISC : Field := ⟨A_SEB_LATCH, 15, 15⟩
abbrev F_SEB_LATCH_MODE_RET : Field := ⟨A_SEB_LATCH, 14, 14⟩
abbrev F_SEB_LATCH_MODE_DISC : Field := ⟨A_SEB_LATCH, 13, 13⟩
abbrev F_SEB_LATCH_XCMP : Field := ⟨A_SEB_LATCH, 12, 12⟩
abbrev F_SEB_LATCH_STO : Field := ⟨A_SEB_LATCH, 11, 11⟩
abbrev F_SEB_LATCH_OUTFLT1 : Field := ⟨A_SEB_LATCH, 10, 10⟩
abbrev F_SEB_LATCH_OUTFLT0 : Field := ⟨A_SEB_LATCH, 9, 9⟩
abbrev F_SEB_LATCH_FINAL : Field := ⟨A_SEB_LATCH, 6, 6⟩
abbrev F_SEB_LATCH_TERMSPD : Field := ⟨A_SEB_LATCH, 5, 5⟩
abbrev F_SEB_LATCH_OVS : Field := ⟨A_SEB_LATCH, 4, 4⟩
abbrev F_SEB_LATCH_UCM : Field := ⟨A_SEB_LATCH, 3, 3⟩
abbrev F_SEB_LATCH_DOOR_DISC : Field := ⟨A_SEB_LATCH, 2, 2⟩
abbrev F_SEB_LATCH_ESTOP_DISC : Field := ⟨A_SEB_LATCH, 1, 1⟩
/-- SEB_FLAG (11, Table 11.12). -/
abbrev A_SEB_FLAG : Nat := 0x400A000C
abbrev F_SEB_FLAG_LATREC_S : Field := ⟨A_SEB_FLAG, 6, 6⟩
abbrev F_SEB_FLAG_ENCFR_S : Field := ⟨A_SEB_FLAG, 5, 5⟩
abbrev F_SEB_FLAG_CFGLOAD_S : Field := ⟨A_SEB_FLAG, 4, 4⟩
abbrev F_SEB_FLAG_PWLOCK_S : Field := ⟨A_SEB_FLAG, 3, 3⟩
abbrev F_SEB_FLAG_RSTREF_S : Field := ⟨A_SEB_FLAG, 2, 2⟩
abbrev F_SEB_FLAG_RSTBTN_S : Field := ⟨A_SEB_FLAG, 1, 1⟩
abbrev F_SEB_FLAG_TWOHAND_S : Field := ⟨A_SEB_FLAG, 0, 0⟩
/-- SEB_REQ (11, Table 11.12). -/
abbrev A_SEB_REQ : Nat := 0x400A0010
abbrev F_SEB_REQ_SO1_ON : Field := ⟨A_SEB_REQ, 1, 1⟩
abbrev F_SEB_REQ_SO0_ON : Field := ⟨A_SEB_REQ, 0, 0⟩
/-- SEB_CMD (11, Table 11.11). -/
abbrev A_SEB_CMD : Nat := 0x400A0014
abbrev F_SEB_CMD_CMD : Field := ⟨A_SEB_CMD, 3, 0⟩
/-- SEB_SESS (11, Table 11.12). -/
abbrev A_SEB_SESS : Nat := 0x400A0018
abbrev F_SEB_SESS_STATE : Field := ⟨A_SEB_SESS, 31, 30⟩
abbrev F_SEB_SESS_STORE_FAIL : Field := ⟨A_SEB_SESS, 29, 29⟩
abbrev F_SEB_SESS_ENGINE : Field := ⟨A_SEB_SESS, 27, 24⟩
abbrev F_SEB_SESS_ERR : Field := ⟨A_SEB_SESS, 23, 16⟩
abbrev F_SEB_SESS_SEQ : Field := ⟨A_SEB_SESS, 15, 0⟩
/-- SEB_PWD (11, Table 11.12). -/
abbrev A_SEB_PWD : Nat := 0x400A001C
abbrev F_SEB_PWD_PWD : Field := ⟨A_SEB_PWD, 31, 0⟩
/-- SEB_PWNEW (11, Table 11.12). -/
abbrev A_SEB_PWNEW : Nat := 0x400A0020
abbrev F_SEB_PWNEW_PWNEW : Field := ⟨A_SEB_PWNEW, 31, 0⟩
/-- SEB_ZS (11, Table 11.12). -/
abbrev A_SEB_ZS : Nat := 0x400A0024
abbrev F_SEB_ZS_ZS : Field := ⟨A_SEB_ZS, 31, 0⟩
/-- SEB_VS (11, Table 11.12). -/
abbrev A_SEB_VS : Nat := 0x400A0028
abbrev F_SEB_VS_VS : Field := ⟨A_SEB_VS, 31, 0⟩
/-- SEB_CFGID (11, Table 11.12). -/
abbrev A_SEB_CFGID : Nat := 0x400A002C
abbrev F_SEB_CFGID_CFGID : Field := ⟨A_SEB_CFGID, 31, 0⟩
/-- SEB_OUTSTAT (11, Table 11.12). -/
abbrev A_SEB_OUTSTAT : Nat := 0x400A0030
abbrev F_SEB_OUTSTAT_CAUSE1 : Field := ⟨A_SEB_OUTSTAT, 7, 4⟩
abbrev F_SEB_OUTSTAT_CAUSE0 : Field := ⟨A_SEB_OUTSTAT, 3, 0⟩
/-- SEB_CNT (11, Table 11.12). -/
abbrev A_SEB_CNT : Nat := 0x400A0034
abbrev F_SEB_CNT_STOPS : Field := ⟨A_SEB_CNT, 31, 24⟩
abbrev F_SEB_CNT_TRIPS : Field := ⟨A_SEB_CNT, 23, 16⟩
abbrev F_SEB_CNT_RESETS : Field := ⟨A_SEB_CNT, 15, 8⟩
abbrev F_SEB_CNT_MISSED : Field := ⟨A_SEB_CNT, 7, 0⟩
/-- SEB_INMAP (11, Table 11.12). -/
abbrev A_SEB_INMAP (i : Nat) : Nat := 0x400A0040 + 0x4 * i
abbrev F_SEB_INMAP_MAP3 (i : Nat) : Field := ⟨A_SEB_INMAP i, 31, 31⟩
abbrev F_SEB_INMAP_IN3 (i : Nat) : Field := ⟨A_SEB_INMAP i, 28, 24⟩
abbrev F_SEB_INMAP_MAP2 (i : Nat) : Field := ⟨A_SEB_INMAP i, 23, 23⟩
abbrev F_SEB_INMAP_IN2 (i : Nat) : Field := ⟨A_SEB_INMAP i, 20, 16⟩
abbrev F_SEB_INMAP_MAP1 (i : Nat) : Field := ⟨A_SEB_INMAP i, 15, 15⟩
abbrev F_SEB_INMAP_IN1 (i : Nat) : Field := ⟨A_SEB_INMAP i, 12, 8⟩
abbrev F_SEB_INMAP_MAP0 (i : Nat) : Field := ⟨A_SEB_INMAP i, 7, 7⟩
abbrev F_SEB_INMAP_IN0 (i : Nat) : Field := ⟨A_SEB_INMAP i, 4, 0⟩
/-- SEB_FILT0 (11, Table 11.12). -/
abbrev A_SEB_FILT0 : Nat := 0x400A0060
abbrev F_SEB_FILT0_ESTOP : Field := ⟨A_SEB_FILT0, 30, 24⟩
abbrev F_SEB_FILT0_DOOR : Field := ⟨A_SEB_FILT0, 22, 16⟩
abbrev F_SEB_FILT0_MODE : Field := ⟨A_SEB_FILT0, 14, 8⟩
abbrev F_SEB_FILT0_BTN : Field := ⟨A_SEB_FILT0, 6, 0⟩
/-- SEB_FILT1 (11, Table 11.12). -/
abbrev A_SEB_FILT1 : Nat := 0x400A0064
abbrev F_SEB_FILT1_LC : Field := ⟨A_SEB_FILT1, 22, 16⟩
abbrev F_SEB_FILT1_FB : Field := ⟨A_SEB_FILT1, 14, 8⟩
abbrev F_SEB_FILT1_RST : Field := ⟨A_SEB_FILT1, 6, 0⟩
/-- SEB_DISC (11, Table 11.12). -/
abbrev A_SEB_DISC : Nat := 0x400A0068
abbrev F_SEB_DISC_ESTOP : Field := ⟨A_SEB_DISC, 31, 24⟩
abbrev F_SEB_DISC_DOOR : Field := ⟨A_SEB_DISC, 23, 16⟩
abbrev F_SEB_DISC_MODE : Field := ⟨A_SEB_DISC, 15, 8⟩
abbrev F_SEB_DISC_LC : Field := ⟨A_SEB_DISC, 7, 0⟩
/-- SEB_SPD0 (11, Table 11.12). -/
abbrev A_SEB_SPD0 : Nat := 0x400A0070
abbrev F_SEB_SPD0_OVS : Field := ⟨A_SEB_SPD0, 31, 16⟩
abbrev F_SEB_SPD0_VPRE : Field := ⟨A_SEB_SPD0, 15, 0⟩
/-- SEB_SPD1 (11, Table 11.12). -/
abbrev A_SEB_SPD1 : Nat := 0x400A0074
abbrev F_SEB_SPD1_VRLV : Field := ⟨A_SEB_SPD1, 31, 16⟩
abbrev F_SEB_SPD1_VSTAND : Field := ⟨A_SEB_SPD1, 15, 0⟩
/-- SEB_SPD2 (11, Table 11.12). -/
abbrev A_SEB_SPD2 : Nat := 0x400A0078
abbrev F_SEB_SPD2_VINS : Field := ⟨A_SEB_SPD2, 31, 16⟩
abbrev F_SEB_SPD2_VEEO : Field := ⟨A_SEB_SPD2, 15, 0⟩
/-- SEB_ZTSTOP (11, Table 11.12). -/
abbrev A_SEB_ZTSTOP : Nat := 0x400A0080
abbrev F_SEB_ZTSTOP_Z : Field := ⟨A_SEB_ZTSTOP, 31, 0⟩
/-- SEB_ZTSBOT (11, Table 11.12). -/
abbrev A_SEB_ZTSBOT : Nat := 0x400A0084
abbrev F_SEB_ZTSBOT_Z : Field := ⟨A_SEB_ZTSBOT, 31, 0⟩
/-- SEB_FINTOP (11, Table 11.12). -/
abbrev A_SEB_FINTOP : Nat := 0x400A0088
abbrev F_SEB_FINTOP_Z : Field := ⟨A_SEB_FINTOP, 31, 0⟩
/-- SEB_FINBOT (11, Table 11.12). -/
abbrev A_SEB_FINBOT : Nat := 0x400A008C
abbrev F_SEB_FINBOT_Z : Field := ⟨A_SEB_FINBOT, 31, 0⟩
/-- SEB_TERM (11, Table 11.12). -/
abbrev A_SEB_TERM : Nat := 0x400A0090
abbrev F_SEB_TERM_VT0 : Field := ⟨A_SEB_TERM, 31, 16⟩
abbrev F_SEB_TERM_ATS : Field := ⟨A_SEB_TERM, 15, 0⟩
/-- SEB_ZONE (11, Table 11.12). -/
abbrev A_SEB_ZONE : Nat := 0x400A0094
abbrev F_SEB_ZONE_PTOL : Field := ⟨A_SEB_ZONE, 31, 16⟩
abbrev F_SEB_ZONE_DECK1 : Field := ⟨A_SEB_ZONE, 1, 1⟩
abbrev F_SEB_ZONE_DECK0 : Field := ⟨A_SEB_ZONE, 0, 0⟩
/-- SEB_OUTCFG (11, Table 11.12). -/
abbrev A_SEB_OUTCFG : Nat := 0x400A0098
abbrev F_SEB_OUTCFG_STO0 : Field := ⟨A_SEB_OUTCFG, 31, 31⟩
abbrev F_SEB_OUTCFG_FBT : Field := ⟨A_SEB_OUTCFG, 15, 8⟩

/-! ### FIO registers, base 0x400B0000 -/

/-- FIO_STAT (12, Table 12.9). -/
abbrev A_FIO_STAT : Nat := 0x400B0000
abbrev F_FIO_STAT_VSTATE : Field := ⟨A_FIO_STAT, 31, 30⟩
abbrev F_FIO_STAT_FORCED : Field := ⟨A_FIO_STAT, 29, 29⟩
abbrev F_FIO_STAT_FCAUSE : Field := ⟨A_FIO_STAT, 28, 27⟩
abbrev F_FIO_STAT_CFGDIFF : Field := ⟨A_FIO_STAT, 26, 26⟩
abbrev F_FIO_STAT_DOOREN : Field := ⟨A_FIO_STAT, 25, 25⟩
abbrev F_FIO_STAT_SAFEVET_S : Field := ⟨A_FIO_STAT, 11, 11⟩
abbrev F_FIO_STAT_EDGEOVF_S : Field := ⟨A_FIO_STAT, 10, 10⟩
abbrev F_FIO_STAT_TESTMISS_S : Field := ⟨A_FIO_STAT, 9, 9⟩
abbrev F_FIO_STAT_OUTFLT_S : Field := ⟨A_FIO_STAT, 8, 8⟩
abbrev F_FIO_STAT_INFLT_S : Field := ⟨A_FIO_STAT, 7, 7⟩
abbrev F_FIO_STAT_HOOP_S : Field := ⟨A_FIO_STAT, 6, 6⟩
abbrev F_FIO_STAT_SILENCE_S : Field := ⟨A_FIO_STAT, 5, 5⟩
abbrev F_FIO_STAT_CUT_S : Field := ⟨A_FIO_STAT, 4, 4⟩
abbrev F_FIO_STAT_LOW_S : Field := ⟨A_FIO_STAT, 3, 3⟩
abbrev F_FIO_STAT_WARN_S : Field := ⟨A_FIO_STAT, 2, 2⟩
/-- FIO_VFLD (12, Table 12.12). -/
abbrev A_FIO_VFLD : Nat := 0x400B0004
abbrev F_FIO_VFLD_VFLD : Field := ⟨A_FIO_VFLD, 15, 0⟩
/-- FIO_CMD (12, Table 12.12). -/
abbrev A_FIO_CMD : Nat := 0x400B0008
abbrev F_FIO_CMD_MASK : Field := ⟨A_FIO_CMD, 31, 16⟩
abbrev F_FIO_CMD_CMD : Field := ⟨A_FIO_CMD, 3, 0⟩
/-- FIO_ACK (12, Table 12.12). -/
abbrev A_FIO_ACK : Nat := 0x400B000C
abbrev F_FIO_ACK_ACKCUT : Field := ⟨A_FIO_ACK, 0, 0⟩
/-- FIO_KEEPALIVE (12, Table 12.12). -/
abbrev A_FIO_KEEPALIVE : Nat := 0x400B0010
abbrev F_FIO_KEEPALIVE_KEY : Field := ⟨A_FIO_KEEPALIVE, 7, 0⟩
/-- FIO_WDCFG (12, Table 12.12). -/
abbrev A_FIO_WDCFG : Nat := 0x400B0014
abbrev F_FIO_WDCFG_TMO : Field := ⟨A_FIO_WDCFG, 6, 0⟩
/-- FIO_IN (12, Table 12.12). -/
abbrev A_FIO_IN : Nat := 0x400B0020
abbrev F_FIO_IN_IN : Field := ⟨A_FIO_IN, 23, 0⟩
/-- FIO_INST (12, Table 12.12). -/
abbrev A_FIO_INST (i : Nat) : Nat := 0x400B0024 + 0x4 * i
abbrev F_FIO_INST_ST (i : Nat) : Field := ⟨A_FIO_INST i, 31, 0⟩
/-- FIO_EDGESTAT (12, Table 12.12). -/
abbrev A_FIO_EDGESTAT : Nat := 0x400B0030
abbrev F_FIO_EDGESTAT_LOST : Field := ⟨A_FIO_EDGESTAT, 31, 16⟩
abbrev F_FIO_EDGESTAT_COUNT : Field := ⟨A_FIO_EDGESTAT, 6, 0⟩
/-- FIO_EDGEPOP (12, Table 12.12). -/
abbrev A_FIO_EDGEPOP : Nat := 0x400B0034
abbrev F_FIO_EDGEPOP_POP : Field := ⟨A_FIO_EDGEPOP, 0, 0⟩
/-- FIO_EDGEHEAD0 (12, Table 12.12). -/
abbrev A_FIO_EDGEHEAD0 : Nat := 0x400B0038
abbrev F_FIO_EDGEHEAD0_STAMP : Field := ⟨A_FIO_EDGEHEAD0, 31, 0⟩
/-- FIO_EDGEHEAD1 (12, Table 12.12). -/
abbrev A_FIO_EDGEHEAD1 : Nat := 0x400B003C
abbrev F_FIO_EDGEHEAD1_RISE : Field := ⟨A_FIO_EDGEHEAD1, 24, 24⟩
abbrev F_FIO_EDGEHEAD1_INPUT : Field := ⟨A_FIO_EDGEHEAD1, 20, 16⟩
abbrev F_FIO_EDGEHEAD1_STAMPH : Field := ⟨A_FIO_EDGEHEAD1, 15, 0⟩
/-- FIO_INCFG (12, Table 12.10). -/
abbrev A_FIO_INCFG (i : Nat) : Nat := 0x400B0040 + 0x4 * i
abbrev F_FIO_INCFG_MODE (i : Nat) : Field := ⟨A_FIO_INCFG i, 31, 30⟩
abbrev F_FIO_INCFG_SRC (i : Nat) : Field := ⟨A_FIO_INCFG i, 26, 24⟩
abbrev F_FIO_INCFG_GLITCH (i : Nat) : Field := ⟨A_FIO_INCFG i, 20, 16⟩
/-- FIO_OUT (12, Table 12.12). -/
abbrev A_FIO_OUT : Nat := 0x400B00A0
abbrev F_FIO_OUT_FO : Field := ⟨A_FIO_OUT, 7, 0⟩
/-- FIO_OUTCFG (12, Table 12.12). -/
abbrev A_FIO_OUTCFG : Nat := 0x400B00A4
abbrev F_FIO_OUTCFG_SAFE7 : Field := ⟨A_FIO_OUTCFG, 15, 14⟩
abbrev F_FIO_OUTCFG_SAFE6 : Field := ⟨A_FIO_OUTCFG, 13, 12⟩
abbrev F_FIO_OUTCFG_SAFE5 : Field := ⟨A_FIO_OUTCFG, 11, 10⟩
abbrev F_FIO_OUTCFG_SAFE4 : Field := ⟨A_FIO_OUTCFG, 9, 8⟩
abbrev F_FIO_OUTCFG_SAFE3 : Field := ⟨A_FIO_OUTCFG, 7, 6⟩
abbrev F_FIO_OUTCFG_SAFE2 : Field := ⟨A_FIO_OUTCFG, 5, 4⟩
abbrev F_FIO_OUTCFG_SAFE1 : Field := ⟨A_FIO_OUTCFG, 3, 2⟩
abbrev F_FIO_OUTCFG_SAFE0 : Field := ⟨A_FIO_OUTCFG, 1, 0⟩
/-- FIO_TPCFG0 (12, Table 12.12). -/
abbrev A_FIO_TPCFG0 : Nat := 0x400B00A8
abbrev F_FIO_TPCFG0_DIVFO : Field := ⟨A_FIO_TPCFG0, 25, 20⟩
abbrev F_FIO_TPCFG0_DIVSO : Field := ⟨A_FIO_TPCFG0, 19, 14⟩
abbrev F_FIO_TPCFG0_DIVTP : Field := ⟨A_FIO_TPCFG0, 13, 8⟩
abbrev F_FIO_TPCFG0_W : Field := ⟨A_FIO_TPCFG0, 7, 0⟩
/-- FIO_TPCFG1 (12, Table 12.12). -/
abbrev A_FIO_TPCFG1 : Nat := 0x400B00AC
abbrev F_FIO_TPCFG1_FOTEST : Field := ⟨A_FIO_TPCFG1, 7, 0⟩
/-- FIO_RBK (12, Table 12.12). -/
abbrev A_FIO_RBK : Nat := 0x400B00B0
abbrev F_FIO_RBK_RBK : Field := ⟨A_FIO_RBK, 15, 0⟩
/-- FIO_SWSTAT (12, Table 12.11). -/
abbrev A_FIO_SWSTAT : Nat := 0x400B00B4
abbrev F_FIO_SWSTAT_TRAIN3 : Field := ⟨A_FIO_SWSTAT, 30, 30⟩
abbrev F_FIO_SWSTAT_LASTOFF3 : Field := ⟨A_FIO_SWSTAT, 29, 28⟩
abbrev F_FIO_SWSTAT_STATE3 : Field := ⟨A_FIO_SWSTAT, 26, 24⟩
abbrev F_FIO_SWSTAT_TRAIN2 : Field := ⟨A_FIO_SWSTAT, 22, 22⟩
abbrev F_FIO_SWSTAT_LASTOFF2 : Field := ⟨A_FIO_SWSTAT, 21, 20⟩
abbrev F_FIO_SWSTAT_STATE2 : Field := ⟨A_FIO_SWSTAT, 18, 16⟩
abbrev F_FIO_SWSTAT_TRAIN1 : Field := ⟨A_FIO_SWSTAT, 14, 14⟩
abbrev F_FIO_SWSTAT_LASTOFF1 : Field := ⟨A_FIO_SWSTAT, 13, 12⟩
abbrev F_FIO_SWSTAT_STATE1 : Field := ⟨A_FIO_SWSTAT, 10, 8⟩
abbrev F_FIO_SWSTAT_TRAIN0 : Field := ⟨A_FIO_SWSTAT, 6, 6⟩
abbrev F_FIO_SWSTAT_LASTOFF0 : Field := ⟨A_FIO_SWSTAT, 5, 4⟩
abbrev F_FIO_SWSTAT_STATE0 : Field := ⟨A_FIO_SWSTAT, 2, 0⟩
/-- FIO_OUTFLT (12, Table 12.12). -/
abbrev A_FIO_OUTFLT (i : Nat) : Nat := 0x400B00B8 + 0x4 * i
abbrev F_FIO_OUTFLT_FLT (i : Nat) : Field := ⟨A_FIO_OUTFLT i, 31, 0⟩
/-- FIO_CROSS (12, Table 12.12). -/
abbrev A_FIO_CROSS : Nat := 0x400B00C0
abbrev F_FIO_CROSS_IV : Field := ⟨A_FIO_CROSS, 24, 24⟩
abbrev F_FIO_CROSS_TP : Field := ⟨A_FIO_CROSS, 23, 22⟩
abbrev F_FIO_CROSS_IN : Field := ⟨A_FIO_CROSS, 20, 16⟩
abbrev F_FIO_CROSS_OV : Field := ⟨A_FIO_CROSS, 8, 8⟩
abbrev F_FIO_CROSS_Y : Field := ⟨A_FIO_CROSS, 7, 4⟩
abbrev F_FIO_CROSS_X : Field := ⟨A_FIO_CROSS, 3, 0⟩
/-- FIO_MISS (12, Table 12.12). -/
abbrev A_FIO_MISS (i : Nat) : Nat := 0x400B00C4 + 0x4 * i
abbrev F_FIO_MISS_MISS (i : Nat) : Field := ⟨A_FIO_MISS i, 31, 0⟩

/-! ### LNK registers, base 0x400C0000 -/

/-- LNK_CTRL (13, Table 13.10). -/
abbrev A_LNK_CTRL : Nat := 0x400C0000
abbrev F_LNK_CTRL_CMD : Field := ⟨A_LNK_CTRL, 3, 0⟩
/-- LNK_STAT (13, Table 13.8). -/
abbrev A_LNK_STAT : Nat := 0x400C0004
abbrev F_LNK_STAT_STATE : Field := ⟨A_LNK_STAT, 31, 28⟩
abbrev F_LNK_STAT_PSTATE : Field := ⟨A_LNK_STAT, 27, 24⟩
abbrev F_LNK_STAT_HOLDER : Field := ⟨A_LNK_STAT, 23, 23⟩
abbrev F_LNK_STAT_SOLO : Field := ⟨A_LNK_STAT, 22, 22⟩
abbrev F_LNK_STAT_VALID : Field := ⟨A_LNK_STAT, 21, 21⟩
abbrev F_LNK_STAT_ELIGIBLE : Field := ⟨A_LNK_STAT, 20, 20⟩
abbrev F_LNK_STAT_RCAUSE : Field := ⟨A_LNK_STAT, 19, 16⟩
abbrev F_LNK_STAT_TAKEOVER_S : Field := ⟨A_LNK_STAT, 11, 11⟩
abbrev F_LNK_STAT_HBLOSS_S : Field := ⟨A_LNK_STAT, 10, 10⟩
abbrev F_LNK_STAT_EPDISC_S : Field := ⟨A_LNK_STAT, 9, 9⟩
abbrev F_LNK_STAT_EPOVF_S : Field := ⟨A_LNK_STAT, 8, 8⟩
abbrev F_LNK_STAT_DIVERGE_S : Field := ⟨A_LNK_STAT, 7, 7⟩
abbrev F_LNK_STAT_FSKEW_S : Field := ⟨A_LNK_STAT, 6, 6⟩
abbrev F_LNK_STAT_BULKFAIL_S : Field := ⟨A_LNK_STAT, 5, 5⟩
abbrev F_LNK_STAT_REPLMIS_S : Field := ⟨A_LNK_STAT, 4, 4⟩
abbrev F_LNK_STAT_TQCMP_S : Field := ⟨A_LNK_STAT, 3, 3⟩
abbrev F_LNK_STAT_COLD_S : Field := ⟨A_LNK_STAT, 2, 2⟩
/-- LNK_HEALTH (13, Table 13.10). -/
abbrev A_LNK_HEALTH : Nat := 0x400C0008
abbrev F_LNK_HEALTH_D : Field := ⟨A_LNK_HEALTH, 31, 0⟩
/-- LNK_PHEALTH (13, Table 13.10). -/
abbrev A_LNK_PHEALTH : Nat := 0x400C000C
abbrev F_LNK_PHEALTH_D : Field := ⟨A_LNK_PHEALTH, 31, 0⟩
/-- LNK_FWTEST (13, Table 13.10). -/
abbrev A_LNK_FWTEST : Nat := 0x400C0010
abbrev F_LNK_FWTEST_FAIL : Field := ⟨A_LNK_FWTEST, 1, 1⟩
abbrev F_LNK_FWTEST_OK : Field := ⟨A_LNK_FWTEST, 0, 0⟩
/-- LNK_EPOCH (13, Table 13.10). -/
abbrev A_LNK_EPOCH : Nat := 0x400C0014
abbrev F_LNK_EPOCH_SEQ : Field := ⟨A_LNK_EPOCH, 31, 0⟩
/-- LNK_CNT (13, Table 13.10). -/
abbrev A_LNK_CNT : Nat := 0x400C0018
abbrev F_LNK_CNT_HBMISS : Field := ⟨A_LNK_CNT, 31, 24⟩
abbrev F_LNK_CNT_EPDISC : Field := ⟨A_LNK_CNT, 23, 16⟩
abbrev F_LNK_CNT_CRC : Field := ⟨A_LNK_CNT, 15, 8⟩
abbrev F_LNK_CNT_SUPPRESS : Field := ⟨A_LNK_CNT, 7, 0⟩
/-- LNK_SWITCH (13, Table 13.10). -/
abbrev A_LNK_SWITCH : Nat := 0x400C001C
abbrev F_LNK_SWITCH_SWITCH : Field := ⟨A_LNK_SWITCH, 0, 0⟩
/-- LNK_SVC (13, Table 13.9). -/
abbrev A_LNK_SVC : Nat := 0x400C0020
abbrev F_LNK_SVC_CONT : Field := ⟨A_LNK_SVC, 31, 31⟩
abbrev F_LNK_SVC_TQTOL : Field := ⟨A_LNK_SVC, 23, 16⟩
abbrev F_LNK_SVC_STPER : Field := ⟨A_LNK_SVC, 15, 0⟩
/-- LNK_REPLB (13, Table 13.10). -/
abbrev A_LNK_REPLB (i : Nat) : Nat := 0x400C0040 + 0x8 * i
abbrev F_LNK_REPLB_BASE (i : Nat) : Field := ⟨A_LNK_REPLB i, 31, 0⟩
/-- LNK_REPLL (13, Table 13.10). -/
abbrev A_LNK_REPLL (i : Nat) : Nat := 0x400C0044 + 0x8 * i
abbrev F_LNK_REPLL_LEN (i : Nat) : Field := ⟨A_LNK_REPLL i, 31, 0⟩
/-- LNK_REPLID (13, Table 13.10). -/
abbrev A_LNK_REPLID : Nat := 0x400C00C0
abbrev F_LNK_REPLID_ID : Field := ⟨A_LNK_REPLID, 31, 0⟩
/-- LNK_SNAPDIFF (13, Table 13.10). -/
abbrev A_LNK_SNAPDIFF : Nat := 0x400C00C4
abbrev F_LNK_SNAPDIFF_COUNT : Field := ⟨A_LNK_SNAPDIFF, 31, 16⟩
abbrev F_LNK_SNAPDIFF_ITEM : Field := ⟨A_LNK_SNAPDIFF, 5, 0⟩
/-- LNK_HOOP (13, Table 13.10). -/
abbrev A_LNK_HOOP : Nat := 0x400C00C8
abbrev F_LNK_HOOP_GRANTS : Field := ⟨A_LNK_HOOP, 31, 16⟩
abbrev F_LNK_HOOP_STATE : Field := ⟨A_LNK_HOOP, 1, 0⟩
/-- LNK_TAKE0 (13, Table 13.10). -/
abbrev A_LNK_TAKE0 : Nat := 0x400C00CC
abbrev F_LNK_TAKE0_TIME : Field := ⟨A_LNK_TAKE0, 31, 0⟩
/-- LNK_TAKE1 (13, Table 13.10). -/
abbrev A_LNK_TAKE1 : Nat := 0x400C00D0
abbrev F_LNK_TAKE1_TIME : Field := ⟨A_LNK_TAKE1, 15, 0⟩
/-- LNK_UPD (13, Table 13.10). -/
abbrev A_LNK_UPD : Nat := 0x400C00E0
abbrev F_LNK_UPD_CMD : Field := ⟨A_LNK_UPD, 3, 0⟩
/-- LNK_UPDSTAT (13, Table 13.10). -/
abbrev A_LNK_UPDSTAT : Nat := 0x400C00E4
abbrev F_LNK_UPDSTAT_STATE : Field := ⟨A_LNK_UPDSTAT, 31, 29⟩
abbrev F_LNK_UPDSTAT_SLOT : Field := ⟨A_LNK_UPDSTAT, 28, 28⟩
abbrev F_LNK_UPDSTAT_BOOTFB : Field := ⟨A_LNK_UPDSTAT, 27, 27⟩
abbrev F_LNK_UPDSTAT_ERR : Field := ⟨A_LNK_UPDSTAT, 26, 26⟩
abbrev F_LNK_UPDSTAT_NOREC : Field := ⟨A_LNK_UPDSTAT, 25, 25⟩
abbrev F_LNK_UPDSTAT_LOADER : Field := ⟨A_LNK_UPDSTAT, 24, 24⟩
abbrev F_LNK_UPDSTAT_BLOCKS : Field := ⟨A_LNK_UPDSTAT, 9, 0⟩

/-! ### CAN registers, base 0x400D0000 -/

/-- CAN_CTRL (14, Table 14.6). -/
abbrev A_CAN_CTRL (i : Nat) : Nat := 0x400D0000 + 0x4000 * i
abbrev F_CAN_CTRL_MODE (i : Nat) : Field := ⟨A_CAN_CTRL i, 31, 29⟩
abbrev F_CAN_CTRL_FDEN (i : Nat) : Field := ⟨A_CAN_CTRL i, 28, 28⟩
abbrev F_CAN_CTRL_BOAUTO (i : Nat) : Field := ⟨A_CAN_CTRL i, 27, 27⟩
/-- CAN_STAT (14, Table 14.7). -/
abbrev A_CAN_STAT (i : Nat) : Nat := 0x400D0004 + 0x4000 * i
abbrev F_CAN_STAT_ESTATE (i : Nat) : Field := ⟨A_CAN_STAT i, 31, 30⟩
abbrev F_CAN_STAT_PSTATE (i : Nat) : Field := ⟨A_CAN_STAT i, 29, 27⟩
abbrev F_CAN_STAT_SHADOW (i : Nat) : Field := ⟨A_CAN_STAT i, 26, 26⟩
abbrev F_CAN_STAT_LONE (i : Nat) : Field := ⟨A_CAN_STAT i, 25, 25⟩
abbrev F_CAN_STAT_ABDONE (i : Nat) : Field := ⟨A_CAN_STAT i, 24, 24⟩
abbrev F_CAN_STAT_ABAUD_TMO (i : Nat) : Field := ⟨A_CAN_STAT i, 23, 23⟩
abbrev F_CAN_STAT_ABRATE (i : Nat) : Field := ⟨A_CAN_STAT i, 22, 21⟩
abbrev F_CAN_STAT_LONE_S (i : Nat) : Field := ⟨A_CAN_STAT i, 15, 15⟩
abbrev F_CAN_STAT_ABTMO_S (i : Nat) : Field := ⟨A_CAN_STAT i, 14, 14⟩
abbrev F_CAN_STAT_BUSOFF_S (i : Nat) : Field := ⟨A_CAN_STAT i, 13, 13⟩
abbrev F_CAN_STAT_PASSIVE_S (i : Nat) : Field := ⟨A_CAN_STAT i, 12, 12⟩
abbrev F_CAN_STAT_RXOVF_S (i : Nat) : Field := ⟨A_CAN_STAT i, 11, 11⟩
abbrev F_CAN_STAT_TRUNC_S (i : Nat) : Field := ⟨A_CAN_STAT i, 10, 10⟩
abbrev F_CAN_STAT_SHMIS_S (i : Nat) : Field := ⟨A_CAN_STAT i, 9, 9⟩
abbrev F_CAN_STAT_SPLIM_S (i : Nat) : Field := ⟨A_CAN_STAT i, 8, 8⟩
abbrev F_CAN_STAT_PEX_S (i : Nat) : Field := ⟨A_CAN_STAT i, 7, 7⟩
abbrev F_CAN_STAT_SILENT_S (i : Nat) : Field := ⟨A_CAN_STAT i, 6, 6⟩
/-- CAN_CMD (14, Table 14.8). -/
abbrev A_CAN_CMD (i : Nat) : Nat := 0x400D0008 + 0x4000 * i
abbrev F_CAN_CMD_CMD (i : Nat) : Field := ⟨A_CAN_CMD i, 3, 0⟩
/-- CAN_EC (14, Table 14.8). -/
abbrev A_CAN_EC (i : Nat) : Nat := 0x400D000C + 0x4000 * i
abbrev F_CAN_EC_TEC (i : Nat) : Field := ⟨A_CAN_EC i, 15, 8⟩
abbrev F_CAN_EC_REC (i : Nat) : Field := ⟨A_CAN_EC i, 7, 0⟩
/-- CAN_NBT (14, Table 14.8). -/
abbrev A_CAN_NBT (i : Nat) : Nat := 0x400D0010 + 0x4000 * i
abbrev F_CAN_NBT_NTSEG1 (i : Nat) : Field := ⟨A_CAN_NBT i, 31, 24⟩
abbrev F_CAN_NBT_NTSEG2 (i : Nat) : Field := ⟨A_CAN_NBT i, 23, 17⟩
abbrev F_CAN_NBT_NSJW (i : Nat) : Field := ⟨A_CAN_NBT i, 16, 10⟩
abbrev F_CAN_NBT_NBRP (i : Nat) : Field := ⟨A_CAN_NBT i, 4, 0⟩
/-- CAN_DBT (14, Table 14.8). -/
abbrev A_CAN_DBT (i : Nat) : Nat := 0x400D0014 + 0x4000 * i
abbrev F_CAN_DBT_DTSEG1 (i : Nat) : Field := ⟨A_CAN_DBT i, 31, 27⟩
abbrev F_CAN_DBT_DTSEG2 (i : Nat) : Field := ⟨A_CAN_DBT i, 26, 23⟩
abbrev F_CAN_DBT_DSJW (i : Nat) : Field := ⟨A_CAN_DBT i, 22, 19⟩
abbrev F_CAN_DBT_DBRP (i : Nat) : Field := ⟨A_CAN_DBT i, 18, 14⟩
abbrev F_CAN_DBT_TDCEN (i : Nat) : Field := ⟨A_CAN_DBT i, 13, 13⟩
abbrev F_CAN_DBT_TDCO (i : Nat) : Field := ⟨A_CAN_DBT i, 7, 0⟩
/-- CAN_SPCFG (14, Table 14.8). -/
abbrev A_CAN_SPCFG (i : Nat) : Nat := 0x400D0018 + 0x4000 * i
abbrev F_CAN_SPCFG_SPAD (i : Nat) : Field := ⟨A_CAN_SPCFG i, 31, 31⟩
abbrev F_CAN_SPCFG_SPMAX (i : Nat) : Field := ⟨A_CAN_SPCFG i, 20, 16⟩
abbrev F_CAN_SPCFG_SPMIN (i : Nat) : Field := ⟨A_CAN_SPCFG i, 12, 8⟩
abbrev F_CAN_SPCFG_MARGIN (i : Nat) : Field := ⟨A_CAN_SPCFG i, 3, 0⟩
/-- CAN_SPSTAT (14, Table 14.8). -/
abbrev A_CAN_SPSTAT (i : Nat) : Nat := 0x400D001C + 0x4000 * i
abbrev F_CAN_SPSTAT_DTSEG1 (i : Nat) : Field := ⟨A_CAN_SPSTAT i, 20, 16⟩
abbrev F_CAN_SPSTAT_SMAX (i : Nat) : Field := ⟨A_CAN_SPSTAT i, 12, 8⟩
/-- CAN_ABCFG (14, Table 14.8). -/
abbrev A_CAN_ABCFG (i : Nat) : Nat := 0x400D0020 + 0x4000 * i
abbrev F_CAN_ABCFG_MASK (i : Nat) : Field := ⟨A_CAN_ABCFG i, 31, 28⟩
abbrev F_CAN_ABCFG_DWELL (i : Nat) : Field := ⟨A_CAN_ABCFG i, 27, 16⟩
abbrev F_CAN_ABCFG_TMO (i : Nat) : Field := ⟨A_CAN_ABCFG i, 7, 0⟩
/-- CAN_LONECFG (14, Table 14.8). -/
abbrev A_CAN_LONECFG (i : Nat) : Nat := 0x400D0024 + 0x4000 * i
abbrev F_CAN_LONECFG_PROBE (i : Nat) : Field := ⟨A_CAN_LONECFG i, 9, 0⟩
/-- CAN_RXCFG (14, Table 14.8). -/
abbrev A_CAN_RXCFG (i : Nat) : Nat := 0x400D0028 + 0x4000 * i
abbrev F_CAN_RXCFG_PSIZE1 (i : Nat) : Field := ⟨A_CAN_RXCFG i, 9, 8⟩
abbrev F_CAN_RXCFG_PSIZE0 (i : Nat) : Field := ⟨A_CAN_RXCFG i, 5, 4⟩
abbrev F_CAN_RXCFG_UNK (i : Nat) : Field := ⟨A_CAN_RXCFG i, 1, 0⟩
/-- CAN_WAKECFG (14, Table 14.8). -/
abbrev A_CAN_WAKECFG (i : Nat) : Nat := 0x400D002C + 0x4000 * i
abbrev F_CAN_WAKECFG_WDLCEN (i : Nat) : Field := ⟨A_CAN_WAKECFG i, 12, 12⟩
abbrev F_CAN_WAKECFG_WDLC (i : Nat) : Field := ⟨A_CAN_WAKECFG i, 11, 8⟩
abbrev F_CAN_WAKECFG_STBPOL (i : Nat) : Field := ⟨A_CAN_WAKECFG i, 4, 4⟩
abbrev F_CAN_WAKECFG_WMODE (i : Nat) : Field := ⟨A_CAN_WAKECFG i, 1, 0⟩
/-- CAN_WAKEID (14, Table 14.8). -/
abbrev A_CAN_WAKEID (i : Nat) : Nat := 0x400D0030 + 0x4000 * i
abbrev F_CAN_WAKEID_IDE (i : Nat) : Field := ⟨A_CAN_WAKEID i, 29, 29⟩
abbrev F_CAN_WAKEID_ID (i : Nat) : Field := ⟨A_CAN_WAKEID i, 28, 0⟩
/-- CAN_WAKEIDM (14, Table 14.8). -/
abbrev A_CAN_WAKEIDM (i : Nat) : Nat := 0x400D0034 + 0x4000 * i
abbrev F_CAN_WAKEIDM_IDE (i : Nat) : Field := ⟨A_CAN_WAKEIDM i, 29, 29⟩
abbrev F_CAN_WAKEIDM_ID (i : Nat) : Field := ⟨A_CAN_WAKEIDM i, 28, 0⟩
/-- CAN_WAKEDATA (14, Table 14.8). -/
abbrev A_CAN_WAKEDATA (i : Nat) (j : Nat) : Nat := 0x400D0038 + 0x4000 * i + 0x4 * j
abbrev F_CAN_WAKEDATA_D (i : Nat) (j : Nat) : Field := ⟨A_CAN_WAKEDATA i j, 31, 0⟩
/-- CAN_WAKEDM (14, Table 14.8). -/
abbrev A_CAN_WAKEDM (i : Nat) (j : Nat) : Nat := 0x400D0040 + 0x4000 * i + 0x4 * j
abbrev F_CAN_WAKEDM_M (i : Nat) (j : Nat) : Field := ⟨A_CAN_WAKEDM i j, 31, 0⟩
/-- CAN_WAKESTAT (14, Table 14.8). -/
abbrev A_CAN_WAKESTAT (i : Nat) : Nat := 0x400D0048 + 0x4000 * i
abbrev F_CAN_WAKESTAT_CAUSE (i : Nat) : Field := ⟨A_CAN_WAKESTAT i, 2, 0⟩
/-- CAN_WAKEFRM (14, Table 14.8). -/
abbrev A_CAN_WAKEFRM (i : Nat) (j : Nat) : Nat := 0x400D004C + 0x4000 * i + 0x4 * j
abbrev F_CAN_WAKEFRM_W (i : Nat) (j : Nat) : Field := ⟨A_CAN_WAKEFRM i j, 31, 0⟩
/-- CAN_TELBAND (14, Table 14.8). -/
abbrev A_CAN_TELBAND (i : Nat) : Nat := 0x400D005C + 0x4000 * i
abbrev F_CAN_TELBAND_HI (i : Nat) : Field := ⟨A_CAN_TELBAND i, 26, 16⟩
abbrev F_CAN_TELBAND_LO (i : Nat) : Field := ⟨A_CAN_TELBAND i, 10, 0⟩
/-- CAN_ERRCNT0 (14, Table 14.8). -/
abbrev A_CAN_ERRCNT0 (i : Nat) : Nat := 0x400D0060 + 0x4000 * i
abbrev F_CAN_ERRCNT0_BIT (i : Nat) : Field := ⟨A_CAN_ERRCNT0 i, 31, 24⟩
abbrev F_CAN_ERRCNT0_STUFF (i : Nat) : Field := ⟨A_CAN_ERRCNT0 i, 23, 16⟩
abbrev F_CAN_ERRCNT0_FORM (i : Nat) : Field := ⟨A_CAN_ERRCNT0 i, 15, 8⟩
abbrev F_CAN_ERRCNT0_CRC (i : Nat) : Field := ⟨A_CAN_ERRCNT0 i, 7, 0⟩
/-- CAN_ERRCNT1 (14, Table 14.8). -/
abbrev A_CAN_ERRCNT1 (i : Nat) : Nat := 0x400D0064 + 0x4000 * i
abbrev F_CAN_ERRCNT1_ACK (i : Nat) : Field := ⟨A_CAN_ERRCNT1 i, 31, 24⟩
abbrev F_CAN_ERRCNT1_PEX (i : Nat) : Field := ⟨A_CAN_ERRCNT1 i, 23, 16⟩
abbrev F_CAN_ERRCNT1_RXOVF (i : Nat) : Field := ⟨A_CAN_ERRCNT1 i, 15, 8⟩
abbrev F_CAN_ERRCNT1_UNKNOWN (i : Nat) : Field := ⟨A_CAN_ERRCNT1 i, 7, 0⟩
/-- CAN_ERRCNT2 (14, Table 14.8). -/
abbrev A_CAN_ERRCNT2 (i : Nat) : Nat := 0x400D0068 + 0x4000 * i
abbrev F_CAN_ERRCNT2_SHMIS (i : Nat) : Field := ⟨A_CAN_ERRCNT2 i, 7, 0⟩
/-- CAN_DIRCTL (14, Table 14.8). -/
abbrev A_CAN_DIRCTL (i : Nat) : Nat := 0x400D0070 + 0x4000 * i
abbrev F_CAN_DIRCTL_EN (i : Nat) : Field := ⟨A_CAN_DIRCTL i, 31, 31⟩
abbrev F_CAN_DIRCTL_CMD (i : Nat) : Field := ⟨A_CAN_DIRCTL i, 3, 0⟩
/-- CAN_DIRSTAT (14, Table 14.8). -/
abbrev A_CAN_DIRSTAT (i : Nat) : Nat := 0x400D0074 + 0x4000 * i
abbrev F_CAN_DIRSTAT_BUSY (i : Nat) : Field := ⟨A_CAN_DIRSTAT i, 31, 31⟩
abbrev F_CAN_DIRSTAT_DIRERR (i : Nat) : Field := ⟨A_CAN_DIRSTAT i, 30, 28⟩
abbrev F_CAN_DIRSTAT_COUNT (i : Nat) : Field := ⟨A_CAN_DIRSTAT i, 26, 16⟩
abbrev F_CAN_DIRSTAT_DIRERRIDX (i : Nat) : Field := ⟨A_CAN_DIRSTAT i, 10, 0⟩
/-- CAN_DIRSTAT2 (14, Table 14.8). -/
abbrev A_CAN_DIRSTAT2 (i : Nat) : Nat := 0x400D0078 + 0x4000 * i
abbrev F_CAN_DIRSTAT2_NSILENT (i : Nat) : Field := ⟨A_CAN_DIRSTAT2 i, 10, 0⟩
/-- CAN_TXS0 (14, Table 14.9). -/
abbrev A_CAN_TXS0 (i : Nat) : Nat := 0x400D0080 + 0x4000 * i
abbrev F_CAN_TXS0_BRS (i : Nat) : Field := ⟨A_CAN_TXS0 i, 31, 31⟩
abbrev F_CAN_TXS0_FDF (i : Nat) : Field := ⟨A_CAN_TXS0 i, 30, 30⟩
abbrev F_CAN_TXS0_IDE (i : Nat) : Field := ⟨A_CAN_TXS0 i, 29, 29⟩
abbrev F_CAN_TXS0_ID (i : Nat) : Field := ⟨A_CAN_TXS0 i, 28, 0⟩
/-- CAN_TXS1 (14, Table 14.9). -/
abbrev A_CAN_TXS1 (i : Nat) : Nat := 0x400D0084 + 0x4000 * i
abbrev F_CAN_TXS1_NORETRY (i : Nat) : Field := ⟨A_CAN_TXS1 i, 5, 5⟩
abbrev F_CAN_TXS1_RTR (i : Nat) : Field := ⟨A_CAN_TXS1 i, 4, 4⟩
abbrev F_CAN_TXS1_DLC (i : Nat) : Field := ⟨A_CAN_TXS1 i, 3, 0⟩
/-- CAN_TXPUSH (14, Table 14.8). -/
abbrev A_CAN_TXPUSH (i : Nat) : Nat := 0x400D0088 + 0x4000 * i
abbrev F_CAN_TXPUSH_PUSH (i : Nat) : Field := ⟨A_CAN_TXPUSH i, 0, 0⟩
/-- CAN_TXQSTAT (14, Table 14.8). -/
abbrev A_CAN_TXQSTAT (i : Nat) : Nat := 0x400D008C + 0x4000 * i
abbrev F_CAN_TXQSTAT_NFREE (i : Nat) : Field := ⟨A_CAN_TXQSTAT i, 13, 8⟩
abbrev F_CAN_TXQSTAT_LAST (i : Nat) : Field := ⟨A_CAN_TXQSTAT i, 4, 0⟩
/-- CAN_TXDONE (14, Table 14.8). -/
abbrev A_CAN_TXDONE (i : Nat) : Nat := 0x400D0090 + 0x4000 * i
abbrev F_CAN_TXDONE_D (i : Nat) : Field := ⟨A_CAN_TXDONE i, 31, 0⟩
/-- CAN_TXPL (14, Table 14.8). -/
abbrev A_CAN_TXPL (i : Nat) (j : Nat) : Nat := 0x400D00C0 + 0x4000 * i + 0x4 * j
abbrev F_CAN_TXPL_D (i : Nat) (j : Nat) : Field := ⟨A_CAN_TXPL i j, 31, 0⟩
/-- CAN_RXPOP (14, Table 14.8). -/
abbrev A_CAN_RXPOP (i : Nat) (j : Nat) : Nat := 0x400D0180 + 0x4000 * i + 0x4 * j
abbrev F_CAN_RXPOP_POP (i : Nat) (j : Nat) : Field := ⟨A_CAN_RXPOP i j, 0, 0⟩
/-- CAN_RXSTAT (14, Table 14.8). -/
abbrev A_CAN_RXSTAT (i : Nat) (j : Nat) : Nat := 0x400D0190 + 0x4000 * i + 0x4 * j
abbrev F_CAN_RXSTAT_LEVEL (i : Nat) (j : Nat) : Field := ⟨A_CAN_RXSTAT i j, 5, 0⟩
/-- CAN_RXH0 (14, Table 14.4). -/
abbrev A_CAN_RXH0 (i : Nat) (j : Nat) : Nat := 0x400D0200 + 0x4000 * i + 0x100 * j
abbrev F_CAN_RXH0_W (i : Nat) (j : Nat) : Field := ⟨A_CAN_RXH0 i j, 31, 0⟩
/-- CAN_RXH1 (14, Table 14.4). -/
abbrev A_CAN_RXH1 (i : Nat) (j : Nat) : Nat := 0x400D0204 + 0x4000 * i + 0x100 * j
abbrev F_CAN_RXH1_W (i : Nat) (j : Nat) : Field := ⟨A_CAN_RXH1 i j, 31, 0⟩
/-- CAN_RXH2 (14, Table 14.4). -/
abbrev A_CAN_RXH2 (i : Nat) (j : Nat) : Nat := 0x400D0208 + 0x4000 * i + 0x100 * j
abbrev F_CAN_RXH2_W (i : Nat) (j : Nat) : Field := ⟨A_CAN_RXH2 i j, 31, 0⟩
/-- CAN_RXH3 (14, Table 14.4). -/
abbrev A_CAN_RXH3 (i : Nat) (j : Nat) : Nat := 0x400D020C + 0x4000 * i + 0x100 * j
abbrev F_CAN_RXH3_W (i : Nat) (j : Nat) : Field := ⟨A_CAN_RXH3 i j, 31, 0⟩
/-- CAN_RXD0 (14, Table 14.8). -/
abbrev A_CAN_RXD0 (i : Nat) (j : Nat) : Nat := 0x400D0210 + 0x4000 * i + 0x4 * j
abbrev F_CAN_RXD0_D (i : Nat) (j : Nat) : Field := ⟨A_CAN_RXD0 i j, 31, 0⟩
/-- CAN_RXD1 (14, Table 14.8). -/
abbrev A_CAN_RXD1 (i : Nat) (j : Nat) : Nat := 0x400D0310 + 0x4000 * i + 0x4 * j
abbrev F_CAN_RXD1_D (i : Nat) (j : Nat) : Field := ⟨A_CAN_RXD1 i j, 31, 0⟩
/-- CAN_OBJ0 (14, Table 14.9). -/
abbrev A_CAN_OBJ0 (i : Nat) (j : Nat) : Nat := 0x400D1000 + 0x4000 * i + 0x80 * j
abbrev F_CAN_OBJ0_W (i : Nat) (j : Nat) : Field := ⟨A_CAN_OBJ0 i j, 31, 0⟩
/-- CAN_OBJ1 (14, Table 14.9). -/
abbrev A_CAN_OBJ1 (i : Nat) (j : Nat) : Nat := 0x400D1004 + 0x4000 * i + 0x80 * j
abbrev F_CAN_OBJ1_W (i : Nat) (j : Nat) : Field := ⟨A_CAN_OBJ1 i j, 31, 0⟩
/-- CAN_OBJ2 (14, Table 14.9). -/
abbrev A_CAN_OBJ2 (i : Nat) (j : Nat) : Nat := 0x400D1008 + 0x4000 * i + 0x80 * j
abbrev F_CAN_OBJ2_W (i : Nat) (j : Nat) : Field := ⟨A_CAN_OBJ2 i j, 31, 0⟩
/-- CAN_OBJ3 (14, Table 14.9). -/
abbrev A_CAN_OBJ3 (i : Nat) (j : Nat) : Nat := 0x400D100C + 0x4000 * i + 0x80 * j
abbrev F_CAN_OBJ3_CMD (i : Nat) (j : Nat) : Field := ⟨A_CAN_OBJ3 i j, 3, 0⟩
/-- CAN_OBJD0 (14, Table 14.9). -/
abbrev A_CAN_OBJD0 (i : Nat) (j : Nat) : Nat := 0x400D1010 + 0x4000 * i + 0x80 * j
abbrev F_CAN_OBJD0_D (i : Nat) (j : Nat) : Field := ⟨A_CAN_OBJD0 i j, 31, 0⟩
/-- CAN_OBJD1 (14, Table 14.9). -/
abbrev A_CAN_OBJD1 (i : Nat) (j : Nat) : Nat := 0x400D1014 + 0x4000 * i + 0x80 * j
abbrev F_CAN_OBJD1_D (i : Nat) (j : Nat) : Field := ⟨A_CAN_OBJD1 i j, 31, 0⟩
/-- CAN_OBJD2 (14, Table 14.9). -/
abbrev A_CAN_OBJD2 (i : Nat) (j : Nat) : Nat := 0x400D1018 + 0x4000 * i + 0x80 * j
abbrev F_CAN_OBJD2_D (i : Nat) (j : Nat) : Field := ⟨A_CAN_OBJD2 i j, 31, 0⟩
/-- CAN_OBJD3 (14, Table 14.9). -/
abbrev A_CAN_OBJD3 (i : Nat) (j : Nat) : Nat := 0x400D101C + 0x4000 * i + 0x80 * j
abbrev F_CAN_OBJD3_D (i : Nat) (j : Nat) : Field := ⟨A_CAN_OBJD3 i j, 31, 0⟩
/-- CAN_OBJD4 (14, Table 14.9). -/
abbrev A_CAN_OBJD4 (i : Nat) (j : Nat) : Nat := 0x400D1020 + 0x4000 * i + 0x80 * j
abbrev F_CAN_OBJD4_D (i : Nat) (j : Nat) : Field := ⟨A_CAN_OBJD4 i j, 31, 0⟩
/-- CAN_OBJD5 (14, Table 14.9). -/
abbrev A_CAN_OBJD5 (i : Nat) (j : Nat) : Nat := 0x400D1024 + 0x4000 * i + 0x80 * j
abbrev F_CAN_OBJD5_D (i : Nat) (j : Nat) : Field := ⟨A_CAN_OBJD5 i j, 31, 0⟩
/-- CAN_OBJD6 (14, Table 14.9). -/
abbrev A_CAN_OBJD6 (i : Nat) (j : Nat) : Nat := 0x400D1028 + 0x4000 * i + 0x80 * j
abbrev F_CAN_OBJD6_D (i : Nat) (j : Nat) : Field := ⟨A_CAN_OBJD6 i j, 31, 0⟩
/-- CAN_OBJD7 (14, Table 14.9). -/
abbrev A_CAN_OBJD7 (i : Nat) (j : Nat) : Nat := 0x400D102C + 0x4000 * i + 0x80 * j
abbrev F_CAN_OBJD7_D (i : Nat) (j : Nat) : Field := ⟨A_CAN_OBJD7 i j, 31, 0⟩
/-- CAN_OBJD8 (14, Table 14.9). -/
abbrev A_CAN_OBJD8 (i : Nat) (j : Nat) : Nat := 0x400D1030 + 0x4000 * i + 0x80 * j
abbrev F_CAN_OBJD8_D (i : Nat) (j : Nat) : Field := ⟨A_CAN_OBJD8 i j, 31, 0⟩
/-- CAN_OBJD9 (14, Table 14.9). -/
abbrev A_CAN_OBJD9 (i : Nat) (j : Nat) : Nat := 0x400D1034 + 0x4000 * i + 0x80 * j
abbrev F_CAN_OBJD9_D (i : Nat) (j : Nat) : Field := ⟨A_CAN_OBJD9 i j, 31, 0⟩
/-- CAN_OBJD10 (14, Table 14.9). -/
abbrev A_CAN_OBJD10 (i : Nat) (j : Nat) : Nat := 0x400D1038 + 0x4000 * i + 0x80 * j
abbrev F_CAN_OBJD10_D (i : Nat) (j : Nat) : Field := ⟨A_CAN_OBJD10 i j, 31, 0⟩
/-- CAN_OBJD11 (14, Table 14.9). -/
abbrev A_CAN_OBJD11 (i : Nat) (j : Nat) : Nat := 0x400D103C + 0x4000 * i + 0x80 * j
abbrev F_CAN_OBJD11_D (i : Nat) (j : Nat) : Field := ⟨A_CAN_OBJD11 i j, 31, 0⟩
/-- CAN_OBJD12 (14, Table 14.9). -/
abbrev A_CAN_OBJD12 (i : Nat) (j : Nat) : Nat := 0x400D1040 + 0x4000 * i + 0x80 * j
abbrev F_CAN_OBJD12_D (i : Nat) (j : Nat) : Field := ⟨A_CAN_OBJD12 i j, 31, 0⟩
/-- CAN_OBJD13 (14, Table 14.9). -/
abbrev A_CAN_OBJD13 (i : Nat) (j : Nat) : Nat := 0x400D1044 + 0x4000 * i + 0x80 * j
abbrev F_CAN_OBJD13_D (i : Nat) (j : Nat) : Field := ⟨A_CAN_OBJD13 i j, 31, 0⟩
/-- CAN_OBJD14 (14, Table 14.9). -/
abbrev A_CAN_OBJD14 (i : Nat) (j : Nat) : Nat := 0x400D1048 + 0x4000 * i + 0x80 * j
abbrev F_CAN_OBJD14_D (i : Nat) (j : Nat) : Field := ⟨A_CAN_OBJD14 i j, 31, 0⟩
/-- CAN_OBJD15 (14, Table 14.9). -/
abbrev A_CAN_OBJD15 (i : Nat) (j : Nat) : Nat := 0x400D104C + 0x4000 * i + 0x80 * j
abbrev F_CAN_OBJD15_D (i : Nat) (j : Nat) : Field := ⟨A_CAN_OBJD15 i j, 31, 0⟩

/-! ### PIC registers, base 0x400E0000 -/

/-- PIC_CTRL (15, Table 15.7). -/
abbrev A_PIC_CTRL : Nat := 0x400E0000
abbrev F_PIC_CTRL_EN : Field := ⟨A_PIC_CTRL, 31, 31⟩
abbrev F_PIC_CTRL_CAND : Field := ⟨A_PIC_CTRL, 30, 30⟩
abbrev F_PIC_CTRL_TELRX : Field := ⟨A_PIC_CTRL, 29, 29⟩
abbrev F_PIC_CTRL_CMD : Field := ⟨A_PIC_CTRL, 3, 0⟩
/-- PIC_STAT (15, Table 15.8). -/
abbrev A_PIC_STAT : Nat := 0x400E0004
abbrev F_PIC_STAT_ROLE : Field := ⟨A_PIC_STAT, 31, 30⟩
abbrev F_PIC_STAT_MPOS : Field := ⟨A_PIC_STAT, 29, 25⟩
abbrev F_PIC_STAT_SPOS : Field := ⟨A_PIC_STAT, 24, 20⟩
abbrev F_PIC_STAT_MV : Field := ⟨A_PIC_STAT, 19, 19⟩
abbrev F_PIC_STAT_SV : Field := ⟨A_PIC_STAT, 18, 18⟩
abbrev F_PIC_STAT_UWRAP : Field := ⟨A_PIC_STAT, 17, 17⟩
abbrev F_PIC_STAT_DWRAP : Field := ⟨A_PIC_STAT, 16, 16⟩
abbrev F_PIC_STAT_TSYNC : Field := ⟨A_PIC_STAT, 15, 15⟩
abbrev F_PIC_STAT_PART : Field := ⟨A_PIC_STAT, 14, 14⟩
abbrev F_PIC_STAT_JOINED : Field := ⟨A_PIC_STAT, 13, 13⟩
abbrev F_PIC_STAT_POS : Field := ⟨A_PIC_STAT, 12, 8⟩
abbrev F_PIC_STAT_WRAP_S : Field := ⟨A_PIC_STAT, 7, 7⟩
abbrev F_PIC_STAT_PARTITION_S : Field := ⟨A_PIC_STAT, 6, 6⟩
abbrev F_PIC_STAT_DUPPOS_S : Field := ⟨A_PIC_STAT, 5, 5⟩
abbrev F_PIC_STAT_TSTEP_S : Field := ⟨A_PIC_STAT, 4, 4⟩
abbrev F_PIC_STAT_RXOVF_S : Field := ⟨A_PIC_STAT, 3, 3⟩
abbrev F_PIC_STAT_TRUNC_S : Field := ⟨A_PIC_STAT, 2, 2⟩
abbrev F_PIC_STAT_EQLIM_S : Field := ⟨A_PIC_STAT, 1, 1⟩
abbrev F_PIC_STAT_HOPS_S : Field := ⟨A_PIC_STAT, 0, 0⟩
/-- PIC_SEEN (15, Table 15.9). -/
abbrev A_PIC_SEEN : Nat := 0x400E0008
abbrev F_PIC_SEEN_M : Field := ⟨A_PIC_SEEN, 31, 0⟩
/-- PIC_CANDS (15, Table 15.9). -/
abbrev A_PIC_CANDS : Nat := 0x400E000C
abbrev F_PIC_CANDS_M : Field := ⟨A_PIC_CANDS, 31, 0⟩
/-- PIC_PORTS (15, Table 15.9). -/
abbrev A_PIC_PORTS : Nat := 0x400E0010
abbrev F_PIC_PORTS_EQU : Field := ⟨A_PIC_PORTS, 15, 12⟩
abbrev F_PIC_PORTS_EQD : Field := ⟨A_PIC_PORTS, 11, 8⟩
abbrev F_PIC_PORTS_URXOK : Field := ⟨A_PIC_PORTS, 1, 1⟩
abbrev F_PIC_PORTS_DRXOK : Field := ⟨A_PIC_PORTS, 0, 0⟩
/-- PIC_EQCFG (15, Table 15.9). -/
abbrev A_PIC_EQCFG : Nat := 0x400E0014
abbrev F_PIC_EQCFG_ADAPT : Field := ⟨A_PIC_EQCFG, 31, 31⟩
abbrev F_PIC_EQCFG_EQMAX : Field := ⟨A_PIC_EQCFG, 11, 8⟩
abbrev F_PIC_EQCFG_EQMIN : Field := ⟨A_PIC_EQCFG, 7, 4⟩
abbrev F_PIC_EQCFG_EQFIX : Field := ⟨A_PIC_EQCFG, 3, 0⟩
/-- PIC_TERR (15, Table 15.9). -/
abbrev A_PIC_TERR : Nat := 0x400E0018
abbrev F_PIC_TERR_ERR : Field := ⟨A_PIC_TERR, 31, 0⟩
/-- PIC_LOOP (15, Table 15.9). -/
abbrev A_PIC_LOOP (i : Nat) : Nat := 0x400E001C + 0x4 * i
abbrev F_PIC_LOOP_NS (i : Nat) : Field := ⟨A_PIC_LOOP i, 31, 0⟩
/-- PIC_PARTT0 (15, Table 15.9). -/
abbrev A_PIC_PARTT0 : Nat := 0x400E0024
abbrev F_PIC_PARTT0_TIME : Field := ⟨A_PIC_PARTT0, 31, 0⟩
/-- PIC_PARTT1 (15, Table 15.9). -/
abbrev A_PIC_PARTT1 : Nat := 0x400E0028
abbrev F_PIC_PARTT1_TIME : Field := ⟨A_PIC_PARTT1, 15, 0⟩
/-- PIC_CNT (15, Table 15.9). -/
abbrev A_PIC_CNT : Nat := 0x400E002C
abbrev F_PIC_CNT_CRC : Field := ⟨A_PIC_CNT, 31, 24⟩
abbrev F_PIC_CNT_CV : Field := ⟨A_PIC_CNT, 23, 16⟩
abbrev F_PIC_CNT_HOPS : Field := ⟨A_PIC_CNT, 15, 8⟩
abbrev F_PIC_CNT_LOST : Field := ⟨A_PIC_CNT, 7, 0⟩
/-- PIC_FWRATE (15, Table 15.9). -/
abbrev A_PIC_FWRATE : Nat := 0x400E0030
abbrev F_PIC_FWRATE_BURST : Field := ⟨A_PIC_FWRATE, 31, 16⟩
abbrev F_PIC_FWRATE_RATE : Field := ⟨A_PIC_FWRATE, 15, 0⟩
/-- PIC_UID (15, Table 15.9). -/
abbrev A_PIC_UID (i : Nat) : Nat := 0x400E0038 + 0x4 * i
abbrev F_PIC_UID_UID (i : Nat) : Field := ⟨A_PIC_UID i, 31, 0⟩
/-- PIC_TXH (15, Table 15.9). -/
abbrev A_PIC_TXH : Nat := 0x400E0040
abbrev F_PIC_TXH_LEN : Field := ⟨A_PIC_TXH, 24, 16⟩
abbrev F_PIC_TXH_DST : Field := ⟨A_PIC_TXH, 15, 8⟩
abbrev F_PIC_TXH_TYPE : Field := ⟨A_PIC_TXH, 7, 0⟩
/-- PIC_TXPUSH (15, Table 15.9). -/
abbrev A_PIC_TXPUSH : Nat := 0x400E0044
abbrev F_PIC_TXPUSH_PUSH : Field := ⟨A_PIC_TXPUSH, 0, 0⟩
/-- PIC_TXQSTAT (15, Table 15.9). -/
abbrev A_PIC_TXQSTAT : Nat := 0x400E0048
abbrev F_PIC_TXQSTAT_LEVEL : Field := ⟨A_PIC_TXQSTAT, 4, 0⟩
/-- PIC_TXDATA (15, Table 15.9). -/
abbrev A_PIC_TXDATA (i : Nat) : Nat := 0x400E0100 + 0x4 * i
abbrev F_PIC_TXDATA_D (i : Nat) : Field := ⟨A_PIC_TXDATA i, 31, 0⟩
/-- PIC_RXPOP (15, Table 15.9). -/
abbrev A_PIC_RXPOP : Nat := 0x400E0200
abbrev F_PIC_RXPOP_POP : Field := ⟨A_PIC_RXPOP, 0, 0⟩
/-- PIC_RXSTAT (15, Table 15.9). -/
abbrev A_PIC_RXSTAT : Nat := 0x400E0204
abbrev F_PIC_RXSTAT_LEVEL : Field := ⟨A_PIC_RXSTAT, 5, 0⟩
/-- PIC_RXHEAD (15, Table 15.9). -/
abbrev A_PIC_RXHEAD (i : Nat) : Nat := 0x400E0400 + 0x4 * i
abbrev F_PIC_RXHEAD_D (i : Nat) : Field := ⟨A_PIC_RXHEAD i, 31, 0⟩

/-! ### SYS registers, base 0x40000000 -/

/-- SYS_SESSCTL (16, Table 16.7). -/
abbrev A_SYS_SESSCTL (i : Nat) : Nat := 0x40000100 + 0x100 * i
abbrev F_SYS_SESSCTL_CMD (i : Nat) : Field := ⟨A_SYS_SESSCTL i, 31, 28⟩
abbrev F_SYS_SESSCTL_ROLE (i : Nat) : Field := ⟨A_SYS_SESSCTL i, 25, 24⟩
/-- SYS_SESSSTAT (16, Table 16.8). -/
abbrev A_SYS_SESSSTAT (i : Nat) : Nat := 0x40000104 + 0x100 * i
abbrev F_SYS_SESSSTAT_STATE (i : Nat) : Field := ⟨A_SYS_SESSSTAT i, 31, 30⟩
abbrev F_SYS_SESSSTAT_ROLE (i : Nat) : Field := ⟨A_SYS_SESSSTAT i, 29, 28⟩
abbrev F_SYS_SESSSTAT_ENGINE (i : Nat) : Field := ⟨A_SYS_SESSSTAT i, 27, 24⟩
abbrev F_SYS_SESSSTAT_CAUSE (i : Nat) : Field := ⟨A_SYS_SESSSTAT i, 23, 20⟩
abbrev F_SYS_SESSSTAT_CROLE (i : Nat) : Field := ⟨A_SYS_SESSSTAT i, 18, 17⟩
abbrev F_SYS_SESSSTAT_CHALV (i : Nat) : Field := ⟨A_SYS_SESSSTAT i, 16, 16⟩
abbrev F_SYS_SESSSTAT_IDLEREM (i : Nat) : Field := ⟨A_SYS_SESSSTAT i, 15, 0⟩
/-- SYS_CHAL (16, Table 16.9). -/
abbrev A_SYS_CHAL (i : Nat) (j : Nat) : Nat := 0x40000120 + 0x100 * i + 0x4 * j
abbrev F_SYS_CHAL_W (i : Nat) (j : Nat) : Field := ⟨A_SYS_CHAL i j, 31, 0⟩
/-- SYS_RESP (16, Table 16.9). -/
abbrev A_SYS_RESP (i : Nat) (j : Nat) : Nat := 0x40000160 + 0x100 * i + 0x4 * j
abbrev F_SYS_RESP_W (i : Nat) (j : Nat) : Field := ⟨A_SYS_RESP i j, 31, 0⟩
/-- SYS_CREDCTL (16, Table 16.9). -/
abbrev A_SYS_CREDCTL : Nat := 0x40000300
abbrev F_SYS_CREDCTL_CMD : Field := ⟨A_SYS_CREDCTL, 31, 28⟩
abbrev F_SYS_CREDCTL_ROLE : Field := ⟨A_SYS_CREDCTL, 25, 24⟩
/-- SYS_CREDDATA (16, Table 16.9). -/
abbrev A_SYS_CREDDATA (i : Nat) (j : Nat) : Nat := 0x40000320 + 0x40 * i + 0x4 * j
abbrev F_SYS_CREDDATA_W (i : Nat) (j : Nat) : Field := ⟨A_SYS_CREDDATA i j, 31, 0⟩
/-- SYS_DBGCTL (16, Table 16.9). -/
abbrev A_SYS_DBGCTL : Nat := 0x40000340
abbrev F_SYS_DBGCTL_EN : Field := ⟨A_SYS_DBGCTL, 31, 31⟩
abbrev F_SYS_DBGCTL_DBGON : Field := ⟨A_SYS_DBGCTL, 30, 30⟩
/-- SYS_SVCCFG (16, Table 16.9). -/
abbrev A_SYS_SVCCFG : Nat := 0x40000344
abbrev F_SYS_SVCCFG_IDLE : Field := ⟨A_SYS_SVCCFG, 15, 0⟩
/-- SYS_SVCSTAT (16, Table 16.9). -/
abbrev A_SYS_SVCSTAT : Nat := 0x40000348
abbrev F_SYS_SVCSTAT_LOCK_S : Field := ⟨A_SYS_SVCSTAT, 31, 31⟩
abbrev F_SYS_SVCSTAT_FAILS_MKR : Field := ⟨A_SYS_SVCSTAT, 23, 16⟩
abbrev F_SYS_SVCSTAT_FAILS_INS : Field := ⟨A_SYS_SVCSTAT, 15, 8⟩
abbrev F_SYS_SVCSTAT_FAILS_OPR : Field := ⟨A_SYS_SVCSTAT, 7, 0⟩

/-! ### MEA registers, base 0x40130000 -/

/-- MEA_CTRL (16, Table 16.9). -/
abbrev A_MEA_CTRL : Nat := 0x40130000
abbrev F_MEA_CTRL_CMD : Field := ⟨A_MEA_CTRL, 31, 28⟩
abbrev F_MEA_CTRL_NLEN : Field := ⟨A_MEA_CTRL, 13, 8⟩
abbrev F_MEA_CTRL_PCR : Field := ⟨A_MEA_CTRL, 2, 0⟩
/-- MEA_STAT (16, Table 16.9). -/
abbrev A_MEA_STAT : Nat := 0x40130004
abbrev F_MEA_STAT_BUSY : Field := ⟨A_MEA_STAT, 31, 31⟩
abbrev F_MEA_STAT_DONE : Field := ⟨A_MEA_STAT, 30, 30⟩
abbrev F_MEA_STAT_LOCK : Field := ⟨A_MEA_STAT, 29, 29⟩
abbrev F_MEA_STAT_RPTCNT : Field := ⟨A_MEA_STAT, 15, 0⟩
/-- MEA_CERTLEN (16, Table 16.9). -/
abbrev A_MEA_CERTLEN : Nat := 0x40130008
abbrev F_MEA_CERTLEN_LEN : Field := ⟨A_MEA_CERTLEN, 10, 0⟩
/-- MEA_NONCE (16, Table 16.9). -/
abbrev A_MEA_NONCE (i : Nat) : Nat := 0x40130010 + 0x4 * i
abbrev F_MEA_NONCE_D (i : Nat) : Field := ⟨A_MEA_NONCE i, 31, 0⟩
/-- MEA_EXTD (16, Table 16.9). -/
abbrev A_MEA_EXTD (i : Nat) : Nat := 0x40130030 + 0x4 * i
abbrev F_MEA_EXTD_D (i : Nat) : Field := ⟨A_MEA_EXTD i, 31, 0⟩
/-- MEA_PCR (16, Table 16.9). -/
abbrev A_MEA_PCR (i : Nat) (j : Nat) : Nat := 0x40130100 + 0x20 * i + 0x4 * j
abbrev F_MEA_PCR_W (i : Nat) (j : Nat) : Field := ⟨A_MEA_PCR i j, 31, 0⟩
/-- MEA_REPORT (16, Table 16.6). -/
abbrev A_MEA_REPORT (i : Nat) : Nat := 0x40130400 + 0x4 * i
abbrev F_MEA_REPORT_W (i : Nat) : Field := ⟨A_MEA_REPORT i, 31, 0⟩
/-- MEA_CERT (16, R481). -/
abbrev A_MEA_CERT (i : Nat) : Nat := 0x40130800 + 0x4 * i
abbrev F_MEA_CERT_W (i : Nat) : Field := ⟨A_MEA_CERT i, 31, 0⟩

/-! ### PWR registers, base 0x40140000 -/

/-- PWR_CTRL (17, Table 17.7). -/
abbrev A_PWR_CTRL : Nat := 0x40140000
abbrev F_PWR_CTRL_CMD : Field := ⟨A_PWR_CTRL, 3, 0⟩
/-- PWR_STAT (17, Table 17.8). -/
abbrev A_PWR_STAT : Nat := 0x40140004
abbrev F_PWR_STAT_STATE : Field := ⟨A_PWR_STAT, 31, 30⟩
abbrev F_PWR_STAT_PLW : Field := ⟨A_PWR_STAT, 29, 29⟩
abbrev F_PWR_STAT_HOLD : Field := ⟨A_PWR_STAT, 28, 28⟩
abbrev F_PWR_STAT_PLW_S : Field := ⟨A_PWR_STAT, 7, 7⟩
abbrev F_PWR_STAT_BOR_S : Field := ⟨A_PWR_STAT, 6, 6⟩
abbrev F_PWR_STAT_WAKE_S : Field := ⟨A_PWR_STAT, 5, 5⟩
abbrev F_PWR_STAT_ENTABT_S : Field := ⟨A_PWR_STAT, 4, 4⟩
abbrev F_PWR_STAT_RSTSTUCK_S : Field := ⟨A_PWR_STAT, 3, 3⟩
/-- PWR_WAKECFG (17, Table 17.9). -/
abbrev A_PWR_WAKECFG : Nat := 0x40140008
abbrev F_PWR_WAKECFG_FI : Field := ⟨A_PWR_WAKECFG, 23, 0⟩
abbrev F_PWR_WAKECFG_CAN : Field := ⟨A_PWR_WAKECFG, 27, 24⟩
abbrev F_PWR_WAKECFG_USB : Field := ⟨A_PWR_WAKECFG, 28, 28⟩
abbrev F_PWR_WAKECFG_WAKEL : Field := ⟨A_PWR_WAKECFG, 29, 29⟩
/-- PWR_WAKESTAT (17, Table 17.9). -/
abbrev A_PWR_WAKESTAT : Nat := 0x4014000C
abbrev F_PWR_WAKESTAT_CAUSE : Field := ⟨A_PWR_WAKESTAT, 3, 0⟩
abbrev F_PWR_WAKESTAT_INDEX : Field := ⟨A_PWR_WAKESTAT, 8, 4⟩
abbrev F_PWR_WAKESTAT_MORE : Field := ⟨A_PWR_WAKESTAT, 23, 16⟩
/-- PWR_PLW (17, Table 17.9). -/
abbrev A_PWR_PLW : Nat := 0x40140010
abbrev F_PWR_PLW_VPLW : Field := ⟨A_PWR_PLW, 7, 0⟩

/-! ### USB registers, base 0x400F0000 -/

/-- USB_CTRL (18, Table 18.6). -/
abbrev A_USB_CTRL : Nat := 0x400F0000
abbrev F_USB_CTRL_EN : Field := ⟨A_USB_CTRL, 31, 31⟩
/-- USB_STAT (18, Table 18.6). -/
abbrev A_USB_STAT : Nat := 0x400F0004
abbrev F_USB_STAT_VBUS : Field := ⟨A_USB_STAT, 31, 31⟩
abbrev F_USB_STAT_ATTACHED : Field := ⟨A_USB_STAT, 30, 30⟩
abbrev F_USB_STAT_CONFIGURED : Field := ⟨A_USB_STAT, 29, 29⟩
abbrev F_USB_STAT_TRUNC_S : Field := ⟨A_USB_STAT, 0, 0⟩
/-- USB_RXSTAT (18, Table 18.6). -/
abbrev A_USB_RXSTAT : Nat := 0x400F0010
abbrev F_USB_RXSTAT_LEVEL : Field := ⟨A_USB_RXSTAT, 2, 0⟩
abbrev F_USB_RXSTAT_LEN : Field := ⟨A_USB_RXSTAT, 14, 8⟩
/-- USB_RXPOP (18, Table 18.6). -/
abbrev A_USB_RXPOP : Nat := 0x400F0014
abbrev F_USB_RXPOP_POP : Field := ⟨A_USB_RXPOP, 0, 0⟩
/-- USB_TXH (18, Table 18.6). -/
abbrev A_USB_TXH : Nat := 0x400F0020
abbrev F_USB_TXH_LEN : Field := ⟨A_USB_TXH, 6, 0⟩
/-- USB_TXPUSH (18, Table 18.6). -/
abbrev A_USB_TXPUSH : Nat := 0x400F0024
abbrev F_USB_TXPUSH_PUSH : Field := ⟨A_USB_TXPUSH, 0, 0⟩
/-- USB_TXQSTAT (18, Table 18.6). -/
abbrev A_USB_TXQSTAT : Nat := 0x400F0028
abbrev F_USB_TXQSTAT_LEVEL : Field := ⟨A_USB_TXQSTAT, 2, 0⟩
/-- USB_RXWIN (18, Table 18.6). -/
abbrev A_USB_RXWIN (i : Nat) : Nat := 0x400F0100 + 0x4 * i
abbrev F_USB_RXWIN_D (i : Nat) : Field := ⟨A_USB_RXWIN i, 31, 0⟩
/-- USB_TXSTAGE (18, Table 18.6). -/
abbrev A_USB_TXSTAGE (i : Nat) : Nat := 0x400F0200 + 0x4 * i
abbrev F_USB_TXSTAGE_D (i : Nat) : Field := ⟨A_USB_TXSTAGE i, 31, 0⟩
/-- SPI_CFG (18, Table 18.6). -/
abbrev A_SPI_CFG : Nat := 0x400F8000
abbrev F_SPI_CFG_MODE : Field := ⟨A_SPI_CFG, 1, 0⟩
abbrev F_SPI_CFG_DIV : Field := ⟨A_SPI_CFG, 15, 8⟩
/-- SPI_CTRL (18, Table 18.6). -/
abbrev A_SPI_CTRL : Nat := 0x400F8004
abbrev F_SPI_CTRL_CMD : Field := ⟨A_SPI_CTRL, 31, 28⟩
abbrev F_SPI_CTRL_LEN : Field := ⟨A_SPI_CTRL, 3, 0⟩
/-- SPI_STAT (18, Table 18.6). -/
abbrev A_SPI_STAT : Nat := 0x400F8008
abbrev F_SPI_STAT_BUSY : Field := ⟨A_SPI_STAT, 31, 31⟩
abbrev F_SPI_STAT_DONE : Field := ⟨A_SPI_STAT, 30, 30⟩
abbrev F_SPI_STAT_WAITS : Field := ⟨A_SPI_STAT, 15, 0⟩
/-- SPI_TX (18, Table 18.6). -/
abbrev A_SPI_TX (i : Nat) : Nat := 0x400F8010 + 0x4 * i
abbrev F_SPI_TX_D (i : Nat) : Field := ⟨A_SPI_TX i, 31, 0⟩
/-- SPI_RX (18, Table 18.6). -/
abbrev A_SPI_RX (i : Nat) : Nat := 0x400F8018 + 0x4 * i
abbrev F_SPI_RX_D (i : Nat) : Field := ⟨A_SPI_RX i, 31, 0⟩

/-! ### NVM registers, base 0x40100000 -/

/-- NVM_CMD (18, Table 18.5). -/
abbrev A_NVM_CMD (i : Nat) : Nat := 0x40100000 + 0x20 * i
abbrev F_NVM_CMD_CMD (i : Nat) : Field := ⟨A_NVM_CMD i, 31, 28⟩
/-- NVM_ADDR (18, Table 18.5). -/
abbrev A_NVM_ADDR (i : Nat) : Nat := 0x40100004 + 0x20 * i
abbrev F_NVM_ADDR_ADDR (i : Nat) : Field := ⟨A_NVM_ADDR i, 31, 0⟩
/-- NVM_DATA (18, Table 18.5). -/
abbrev A_NVM_DATA (i : Nat) (j : Nat) : Nat := 0x40100008 + 0x20 * i + 0x4 * j
abbrev F_NVM_DATA_D (i : Nat) (j : Nat) : Field := ⟨A_NVM_DATA i j, 31, 0⟩
/-- NVM_STAT (18, Table 18.5). -/
abbrev A_NVM_STAT (i : Nat) : Nat := 0x40100018 + 0x20 * i
abbrev F_NVM_STAT_BUSY (i : Nat) : Field := ⟨A_NVM_STAT i, 31, 31⟩
abbrev F_NVM_STAT_DONE (i : Nat) : Field := ⟨A_NVM_STAT i, 30, 30⟩
abbrev F_NVM_STAT_STATUS (i : Nat) : Field := ⟨A_NVM_STAT i, 23, 16⟩
abbrev F_NVM_STAT_COUNT (i : Nat) : Field := ⟨A_NVM_STAT i, 15, 0⟩

end Sys2Proof.Machine
end

