-- ==== Sys2Proof/Config.lean ====
section
/-!
DEFINITION. What an implementation fixes and the manual leaves open: constants without a body, of which nothing can be
proved. A value the machine draws anew each time is such a constant applied to the counter `freeCtr` of the state.
-/
namespace Sys2Proof.Config

/-- The content of the boot ROM: vendor code the manual does not print (R59, R62). -/
opaque bootRom : Nat → Byte

/-- FAULT_ACK of the drive link's TX frame (Table 7.7): the manual names no source of it; by the period's F. -/
opaque drvFaultAck : Nat → Bool

/-- One sample through a band-pass filter of the notch's gradient tracker: the manual gives its centre frequency and neither its width nor its form
(R192); by the centre in 1/6553600 mHz, the filter's state and the sample: the output and the new state. -/
opaque notchBand : Int → Int × Int → Int → Int × (Int × Int)

/-- The host position of a call table entry's terminal, where the entry came by a mirror set, which does not carry it
(Table 10.6, R268); by the entry. -/
opaque prkHostpos : Nat → Nat

/-- The CAN port the reference firmware serves the service protocol on, from its maker configuration (R470). -/
opaque svcPort : Fin 4

/-- The words of the event-log entry of RESET_BTN_STUCK behind its number and time (R335 sends it, and names no format); by place (log 63). -/
opaque stuckEntry : Nat → BitVec 32

/-- The bytes of a mirror set ahead of its MSEQ, time and CRC-32 (R287 names what they carry, and no layout); by the set. -/
opaque mirrorBody : MirrorSet → List Byte

/-- The rate by which group time is trimmed toward an error (R446), in ppm before its limit of 500; the manual gives only the
direction and the limit; by the error in ns. -/
opaque picTrim : Int → Nat

/-- The two words of the part's identity (PIC_UID0, PIC_UID1), fixed at manufacture. -/
opaque partUid : Nat → BitVec 32

/-- The one-way check value of a safety password (R345): the manual does not name the function. -/
opaque sebPwCheck : BitVec 32 → BitVec 32

/-- Where in 119 to 127 the receive error counter falls from above 127 (ISO 11898-1 leaves it); by the use. -/
opaque canRec : Nat → Nat

/-- The words of a challenge from the lane's random source (R456); by the draw and the word. -/
opaque challenge : Nat → Nat → BitVec 32

/-- The attestation key of a lane, which never leaves the part (R481), and the secret number of an ECDSA signature, by the signature (log 103). -/
opaque attestKey : Nat → Nat
opaque signSecret : Nat → Nat

/-- The length and the words of a lane's certificate (R481), fixed at manufacture; by the lane, and the word. -/
opaque certLen : Nat → Nat
opaque cert : Nat → Nat → BitVec 32

/-- What a line of flash holds after a program that read back different from its data (R505); by the use and the byte. -/
opaque flashOver : Nat → Nat → BitVec 8

/-- The word TIDX returns for an entry whose address 32 bits do not hold (R95 lets it neither wrap nor clamp); by the exact address. -/
opaque tidxOver : Nat → BitVec 32

/-- Whether TSRCH with COUNT 0 is the no-op of R100, or does what the pseudocode of R104 shows. -/
opaque tsrchNoop : Bool

/-- What TINT returns from a breakpoint table of no entries (R104 names no value); by the key. -/
opaque tintEmpty : BitVec 32 → BitVec 32

/-- The entry address of a background engine's vendor code in the boot ROM (R62 names none); by the engine. -/
opaque bgEntry : Nat → BitVec 32

/-- How E11 forms its samples into CAN frames (R435 gives the identifiers' band alone): how many frames, and by the frame the identifier's place in the
band, the DLC and each byte; by the samples. -/
opaque telCount : List (BitVec 32) → Nat
opaque telId : List (BitVec 32) → Nat → Nat
opaque telDlc : List (BitVec 32) → Nat → Nat
opaque telByte : List (BitVec 32) → Nat → Nat → BitVec 8

/-- The payload of E11's Picot frame (Table 15.3 says samples alone): its length and its bytes; by the samples. -/
opaque telPicLen : List (BitVec 32) → Fin 257
opaque telPicByte : List (BitVec 32) → Nat → BitVec 8

/-- Words 3 to 7 of the event-log entry of an operator's action (R454 asks for the role and the group time, and gives no layout); by the command, the
role, the landing and the word. -/
opaque opLog : Nat → Nat → Nat → Nat → BitVec 32

end Sys2Proof.Config
end

