-- ==== Sys2Proof/Machine/Ops.lean ====
section
/-!
DEFINITION. Named operations on plain data: sparse maps in one canonical form, fields of words, saturating counters, byte order
and the check sums of the manual.
-/
namespace Sys2Proof.Machine

/-! ### Sparse maps -/

/-- The value a sparse map gives an address: the listed one, else the value `d` of an unlisted address. -/
def sget {α : Type} (d : α) : List (Nat × α) → Nat → α
  | [], _ => d
  | (k, v) :: m, i => if i = k then v else if i < k then d else sget d m i

/-- Writing one address of a sparse map; writing the value of an unlisted address removes the entry. -/
def sput {α : Type} [DecidableEq α] (d : α) : List (Nat × α) → Nat → α → List (Nat × α)
  | [], i, x => if x = d then [] else [(i, x)]
  | (k, v) :: m, i, x =>
    if i < k then (if x = d then (k, v) :: m else (i, x) :: (k, v) :: m)
    else if i = k then (if x = d then m.dropWhile (fun c => decide (c.1 ≤ i)) else (i, x) :: m)
    else (k, v) :: sput d m i x

/-- Every address of a sparse map is at least `lo`, they strictly rise, and no entry holds the value of an unlisted one. -/
def swf {α : Type} [DecidableEq α] (d : α) : Nat → List (Nat × α) → Bool
  | _, [] => true
  | lo, (k, v) :: m => decide (lo ≤ k) && decide (v ≠ d) && swf d (k + 1) m

/-- Keeping only the entries of a sparse map whose address satisfies a test. -/
def sfilter {α : Type} (p : Nat → Bool) (m : List (Nat × α)) : List (Nat × α) := m.filter fun c => p c.1

/-- Rewriting every listed value; an entry that becomes the unlisted value goes. -/
def smap {α : Type} [DecidableEq α] (d : α) (f : Nat → α → α) : List (Nat × α) → List (Nat × α)
  | [] => []
  | (k, v) :: m => if f k v = d then smap d f m else (k, f k v) :: smap d f m

/-! ### Words and their fields -/

/-- A register file: words by address, an unlisted one holding 0. -/
abbrev RegFile := List (Nat × Word)

/-- One word of a register file. -/
def rget (r : RegFile) (a : Nat) : Word := sget 0 r a

/-- Writing one word of a register file. -/
def rput (r : RegFile) (a : Nat) (v : Word) : RegFile := sput 0 r a v

/-- The bits of a field within its word. -/
def fmask (hi lo : Nat) : Word := ((1#32 <<< (hi + 1 - lo)) - 1#32) <<< lo

/-- The field `hi` to `lo` of a word, as a number. -/
def bits (w : Word) (hi lo : Nat) : Nat := (w.toNat >>> lo) % 2 ^ (hi + 1 - lo)

/-- A word with its field `hi` to `lo` replaced. -/
def setBits (w : Word) (hi lo v : Nat) : Word :=
  (w &&& ~~~ fmask hi lo) ||| ((BitVec.ofNat 32 v <<< lo) &&& fmask hi lo)

/-- A field of a register file, as a number. -/
def getF (r : RegFile) (f : Field) : Nat := bits (rget r f.addr) f.hi f.lo

/-- A field of a register file, as a signed number. -/
def getI (r : RegFile) (f : Field) : Int :=
  let n := getF r f
  if n < 2 ^ (f.hi - f.lo) then (n : Int) else (n : Int) - 2 ^ (f.hi + 1 - f.lo)

/-- A one-bit field of a register file. -/
def getB (r : RegFile) (f : Field) : Bool := getF r f != 0

/-- Writing a field of a register file; the other fields of its word stay. -/
def setF (r : RegFile) (f : Field) (v : Nat) : RegFile := rput r f.addr (setBits (rget r f.addr) f.hi f.lo v)

/-- Writing a signed number to a field, modulo its width. -/
def setI (r : RegFile) (f : Field) (v : Int) : RegFile := setF r f (v % 2 ^ (f.hi + 1 - f.lo)).toNat

/-- Writing a one-bit field. -/
def setB (r : RegFile) (f : Field) (b : Bool) : RegFile := setF r f (if b then 1 else 0)

/-- Raising a sticky bit. -/
def raise (r : RegFile) (f : Field) : RegFile := setF r f 1

/-- Raising a sticky bit where a condition holds. -/
def raiseIf (c : Bool) (r : RegFile) (f : Field) : RegFile := if c then raise r f else r

/-- Adding to a counting field, which saturates at its largest value (R8). -/
def addF (r : RegFile) (f : Field) (n : Nat) : RegFile :=
  setF r f (min (getF r f + n) (2 ^ (f.hi + 1 - f.lo) - 1))

/-- Adding to a counting field modulo its width (the wrapping sequence numbers of R8). -/
def wrapF (r : RegFile) (f : Field) (n : Nat) : RegFile :=
  setF r f ((getF r f + n) % 2 ^ (f.hi + 1 - f.lo))

/-- The bit `n` of a field. -/
def getBit (r : RegFile) (f : Field) (n : Nat) : Bool := (getF r f).testBit n

/-- Writing the bit `n` of a field. -/
def setBit (r : RegFile) (f : Field) (n : Nat) (b : Bool) : RegFile :=
  let v := getF r f
  setF r f (if v.testBit n = b then v else if b then v + 2 ^ n else v - 2 ^ n)

/-! ### Exact and saturating arithmetic -/

/-- A number clamped to the range `lo` to `hi`. -/
def clampI (lo hi x : Int) : Int := if x < lo then lo else if hi < x then hi else x

/-- Clamping to the signed range of n bits. -/
def satS (n : Nat) (x : Int) : Int := clampI (-(2 ^ (n - 1))) (2 ^ (n - 1) - 1) x

/-- Clamping to the unsigned range of n bits. -/
def satU (n : Nat) (x : Int) : Int := clampI 0 (2 ^ n - 1) x

/-- Clamping a number to a byte's range, and so on: the smaller of a number and `2 ^ n - 1`. -/
def satN (n x : Nat) : Nat := min x (2 ^ n - 1)

/-- The n low bits of a number, read as signed. -/
def signed (n x : Nat) : Int :=
  let y := x % 2 ^ n
  if y < 2 ^ (n - 1) then (y : Int) else (y : Int) - 2 ^ n

/-- The word of a number, modulo 2³². -/
def wOf (x : Int) : Word := BitVec.ofInt 32 x

/-- R97: adding half an output unit, then shifting right arithmetically; halves round toward positive infinity. -/
def rnd (x : Int) (sh : Nat) : Int := if sh = 0 then x else (x + 2 ^ (sh - 1)) / 2 ^ sh

/-- A quotient rounded to the nearest, halves toward positive infinity (R97 for a division by d > 0). -/
def rdiv (x : Int) (d : Int) : Int := if d = 0 then 0 else (2 * x + d).fdiv (2 * d)

/-- The absolute value of a number, as an integer. -/
def absI (x : Int) : Int := if x < 0 then -x else x

/-- The sign of a number. -/
def sgn (x : Int) : Int := if x < 0 then -1 else if 0 < x then 1 else 0

/-! ### Lists of bytes -/

/-- The four bytes of a word, least significant first. -/
def wordBytes (w : Word) : Bytes :=
  [w.extractLsb' 0 8, w.extractLsb' 8 8, w.extractLsb' 16 8, w.extractLsb' 24 8]

/-- The number little-endian bytes spell. -/
def leNat : Bytes → Nat
  | [] => 0
  | b :: r => b.toNat + 256 * leNat r

/-- The number big-endian bytes spell. -/
def beNat (b : Bytes) : Nat := b.foldl (fun n x => n * 256 + x.toNat) 0

/-- The `n` little-endian bytes of a number. -/
def leBytes : Nat → Nat → Bytes
  | 0, _ => []
  | n + 1, x => BitVec.ofNat 8 x :: leBytes n (x / 256)

/-- Reading `n` bytes of a sparse memory from an address. -/
def readBytes (d : Byte) (m : List (Nat × Byte)) (a : Nat) : Nat → Bytes
  | 0 => []
  | n + 1 => sget d m a :: readBytes d m (a + 1) n

/-- Writing bytes of a sparse memory from an address up. -/
def writeBytes (d : Byte) (m : List (Nat × Byte)) (a : Nat) : Bytes → List (Nat × Byte)
  | [] => m
  | b :: r => writeBytes d (sput d m a b) (a + 1) r

/-- Reading a little-endian word of a sparse memory (SRAM: an unlisted byte is 0). -/
def readWord (m : List (Nat × Byte)) (a : Nat) : Word := BitVec.ofNat 32 (leNat (readBytes 0 m a 4))

/-- Writing a little-endian word of a sparse memory. -/
def writeWord (m : List (Nat × Byte)) (a : Nat) (w : Word) : List (Nat × Byte) := writeBytes 0 m a (wordBytes w)

/-- Keeping the cells of a memory outside `n` bytes from an address: those then read as unlisted. -/
def clearRange {α : Type} (m : List (Nat × α)) (a n : Nat) : List (Nat × α) :=
  sfilter (fun i => decide (i < a) || decide (a + n ≤ i)) m

/-- The part of a list of an index, or the default. -/
def listGet {α : Type} (d : α) (l : List α) (i : Nat) : α := (l[i]?).getD d

/-! ### Check sums -/

/-- One byte of a reflected CRC of 32 bits with polynomial 0x04C1_1DB7 (reflected 0xEDB8_8320). -/
def crc32Byte (c : Word) (b : Byte) : Word :=
  let rec go : Nat → Word → Word
    | 0, x => x
    | n + 1, x => go n (if x.getLsbD 0 then (x >>> 1) ^^^ 0xEDB88320#32 else x >>> 1)
  go 8 (c ^^^ b.zeroExtend 32)

/-- A reflected CRC-32 continued over bytes, with no inversion before or after. -/
def crc32Cont (c : Word) (bs : Bytes) : Word := bs.foldl crc32Byte c

/-- CRC-32 of a record: all ones before, inverted after. -/
def crc32 (bs : Bytes) : Word := ~~~ crc32Cont 0xFFFFFFFF#32 bs

/-- One byte of CRC-16 with polynomial 0x1021, most significant bit first. -/
def crc16Byte (c : BitVec 16) (b : Byte) : BitVec 16 :=
  let rec go : Nat → BitVec 16 → BitVec 16
    | 0, x => x
    | n + 1, x => go n (if x.getLsbD 15 then (x <<< 1) ^^^ 0x1021#16 else x <<< 1)
  go 8 (c ^^^ (b.zeroExtend 16 <<< 8))

/-- CRC-16 with polynomial 0x1021 from 0xFFFF. -/
def crc16 (bs : Bytes) : BitVec 16 := bs.foldl crc16Byte 0xFFFF#16

/-- A byte string cut into pieces of n bytes, the last one shorter. -/
def chunks (n : Nat) (b : Bytes) : List Bytes := (List.range ((b.length + n - 1) / n)).map fun k => (b.drop (n * k)).take n

end Sys2Proof.Machine
end

