-- ==== Sys2Proof/Machine/RegMap.lean ====
section
/-!
DEFINITION. The register map as data: for every register its address, how often it is repeated, and for every field its
bounds, access code (Table 0.5), the lowest reset level that returns it to its reset value, that value, and the values the
manual lets a write carry (R14). Registers that hold other than 0 at reset are listed at the end.
-/
namespace Sys2Proof.Machine

/-- Registers of block SYS, part 0. -/
def regRowsSYS0 : List RegRow :=
  [
   ⟨0x40000040, 1, 0x4, 1, 0x4,
     [⟨23, 16, .ro, .lane, 0, .any⟩, ⟨14, 14, .w1c, .powerOn, 0, .any⟩, ⟨13, 13, .w1c, .powerOn, 0, .any⟩, ⟨12, 12, .w1c, .powerOn, 0, .any⟩, ⟨11, 8, .w1c, .powerOn, 0, .any⟩, ⟨7, 7, .w1c, .powerOn, 0, .any⟩, ⟨6, 6, .w1c, .powerOn, 0, .any⟩, ⟨5, 5, .w1c, .powerOn, 0, .any⟩, ⟨4, 4, .w1c, .powerOn, 0, .any⟩, ⟨3, 3, .w1c, .powerOn, 0, .any⟩, ⟨2, 2, .w1c, .powerOn, 0, .any⟩, ⟨1, 1, .w1c, .powerOn, 0, .any⟩, ⟨0, 0, .w1c, .powerOn, 1, .any⟩]⟩,
   ⟨0x40000044, 1, 0x4, 1, 0x4,
     [⟨31, 24, .cmd, .lane, 0, .key 0x5A⟩, ⟨3, 0, .cmd, .lane, 0, .le 5⟩]⟩,
   ⟨0x40000048, 1, 0x4, 1, 0x4,
     [⟨27, 0, .ro, .lane, 0, .any⟩]⟩,
   ⟨0x4000004C, 1, 0x4, 1, 0x4,
     [⟨31, 16, .ro, .lane, 0, .any⟩, ⟨15, 0, .ro, .lane, 0, .any⟩]⟩,
   ⟨0x40000060, 1, 0x4, 1, 0x4,
     [⟨31, 24, .cmd, .lane, 0, .key 0xA5⟩, ⟨11, 8, .ro, .lane, 0, .any⟩, ⟨7, 1, .rw, .lane, 0, .any⟩, ⟨0, 0, .ro, .lane, 1, .any⟩]⟩,
   ⟨0x40000080, 30, 0x4, 1, 0x4,
     [⟨31, 24, .ro, .lane, 0, .any⟩, ⟨23, 20, .ro, .lane, 0, .any⟩, ⟨19, 18, .ro, .lane, 0, .any⟩, ⟨15, 8, .ro, .lane, 0, .any⟩, ⟨7, 0, .ro, .lane, 0, .any⟩]⟩,
   ⟨0x40001000, 8, 0x100, 64, 0x4,
     [⟨31, 31, .rw, .lane, 0, .any⟩, ⟨30, 30, .rw, .lane, 0, .any⟩, ⟨21, 16, .rw, .lane, 0, .oneOf [(0, 8), (16, 43)]⟩, ⟨13, 8, .rw, .lane, 0, .any⟩]⟩,
   ⟨0x40000100, 2, 0x100, 1, 0x4,
     [⟨31, 28, .cmd, .lane, 0, .le 4⟩, ⟨25, 24, .cmd, .lane, 0, .any⟩]⟩,
   ⟨0x40000104, 2, 0x100, 1, 0x4,
     [⟨31, 30, .ro, .lane, 0, .any⟩, ⟨29, 28, .ro, .lane, 0, .any⟩, ⟨27, 24, .ro, .lane, 0, .any⟩, ⟨23, 20, .ro, .lane, 0, .any⟩, ⟨18, 17, .ro, .lane, 0, .any⟩, ⟨16, 16, .ro, .lane, 0, .any⟩, ⟨15, 0, .ro, .lane, 0, .any⟩]⟩,
   ⟨0x40000120, 2, 0x100, 12, 0x4,
     [⟨31, 0, .ro, .lane, 0, .any⟩]⟩,
   ⟨0x40000160, 2, 0x100, 16, 0x4,
     [⟨31, 0, .cmd, .lane, 0, .any⟩]⟩,
   ⟨0x40000300, 1, 0x4, 1, 0x4,
     [⟨31, 28, .cmd, .lane, 0, .le 1⟩, ⟨25, 24, .cmd, .lane, 0, .any⟩]⟩ ]

/-- Registers of block SYS, part 1. -/
def regRowsSYS1 : List RegRow :=
  [
   ⟨0x40000320, 2, 0x40, 8, 0x4,
     [⟨31, 0, .cmd, .lane, 0, .any⟩]⟩,
   ⟨0x40000340, 1, 0x4, 1, 0x4,
     [⟨31, 31, .mkr, .lane, 0, .any⟩, ⟨30, 30, .ro, .lane, 0, .any⟩]⟩,
   ⟨0x40000344, 1, 0x4, 1, 0x4,
     [⟨15, 0, .rwl, .lane, 900, .rng 10 3600⟩]⟩,
   ⟨0x40000348, 1, 0x4, 1, 0x4,
     [⟨31, 31, .rws, .lane, 0, .any⟩, ⟨23, 16, .ro, .lane, 0, .any⟩, ⟨15, 8, .ro, .lane, 0, .any⟩, ⟨7, 0, .ro, .lane, 0, .any⟩]⟩ ]

/-- Registers of block XCR, part 0. -/
def regRowsXCR0 : List RegRow :=
  [
   ⟨0x40010000, 1, 0x4, 1, 0x4,
     [⟨31, 0, .rws, .lane, 0, .any⟩]⟩,
   ⟨0x40010004, 1, 0x4, 1, 0x4,
     [⟨15, 0, .rws, .lane, 0, .any⟩]⟩,
   ⟨0x40010008, 1, 0x4, 1, 0x4,
     [⟨31, 0, .ro, .lane, 4294967295, .any⟩]⟩,
   ⟨0x4001000C, 1, 0x4, 1, 0x4,
     [⟨31, 0, .ro, .lane, 65535, .any⟩]⟩,
   ⟨0x40010010, 1, 0x4, 1, 0x4,
     [⟨31, 16, .ro, .lane, 0, .any⟩, ⟨15, 0, .ro, .lane, 0, .any⟩]⟩ ]

/-- Registers of block AVS, part 0. -/
def regRowsAVS0 : List RegRow :=
  [
   ⟨0x40020000, 1, 0x4, 1, 0x4,
     [⟨23, 16, .mkr, .lane, 25, .le 50⟩, ⟨15, 12, .mkr, .lane, 5, .rng 2 10⟩, ⟨7, 0, .mkr, .lane, 18, .rng 15 40⟩]⟩,
   ⟨0x40020004, 1, 0x4, 1, 0x4,
     [⟨15, 8, .mkr, .lane, 132, .le 132⟩, ⟨7, 0, .mkr, .lane, 0, .le 132⟩]⟩,
   ⟨0x40020008, 1, 0x4, 1, 0x4,
     [⟨26, 26, .rws, .lane, 0, .any⟩, ⟨25, 25, .rws, .lane, 0, .any⟩, ⟨24, 24, .ro, .lane, 0, .any⟩, ⟨23, 16, .ro, .lane, 100, .any⟩, ⟨15, 8, .ro, .lane, 0, .any⟩, ⟨7, 0, .ro, .lane, 132, .any⟩]⟩,
   ⟨0x4002000C, 1, 0x4, 1, 0x4,
     [⟨31, 24, .ro, .lane, 0, .any⟩, ⟨23, 16, .ro, .lane, 0, .any⟩, ⟨15, 8, .ro, .lane, 0, .any⟩, ⟨7, 0, .ro, .lane, 0, .any⟩]⟩,
   ⟨0x40020010, 1, 0x4, 1, 0x4,
     [⟨7, 0, .rw, .lane, 100, .any⟩]⟩ ]

/-- Registers of block KEEP, part 0. -/
def regRowsKEEP0 : List RegRow :=
  [
   ⟨0x40110000, 1, 0x4, 1, 0x4,
     [⟨15, 8, .mkr, .lane, 24, .rng 1 24⟩, ⟨3, 0, .mkr, .lane, 8, .rng 2 8⟩]⟩,
   ⟨0x40110004, 1, 0x4, 1, 0x4,
     [⟨31, 31, .rws, .lane, 0, .any⟩, ⟨30, 30, .rws, .lane, 0, .any⟩, ⟨29, 29, .rws, .lane, 0, .any⟩, ⟨23, 16, .ro, .lane, 0, .any⟩, ⟨15, 0, .ro, .lane, 0, .any⟩]⟩,
   ⟨0x40110008, 1, 0x4, 1, 0x4,
     [⟨31, 0, .ro, .lane, 0, .any⟩]⟩,
   ⟨0x40114000, 1, 0x4, 1, 0x4,
     [⟨15, 8, .ro, .lane, 0, .any⟩, ⟨5, 5, .rws, .lane, 0, .any⟩, ⟨4, 4, .rws, .lane, 0, .any⟩, ⟨3, 3, .rws, .lane, 0, .any⟩, ⟨2, 2, .rws, .lane, 0, .any⟩, ⟨1, 1, .rws, .lane, 0, .any⟩, ⟨0, 0, .rws, .lane, 0, .any⟩]⟩,
   ⟨0x40118000, 1, 0x4, 1, 0x4,
     [⟨0, 0, .cmd, .lane, 0, .any⟩]⟩,
   ⟨0x40118004, 1, 0x4, 1, 0x4,
     [⟨31, 31, .rws, .lane, 0, .any⟩, ⟨30, 30, .rws, .lane, 0, .any⟩, ⟨29, 29, .rws, .lane, 0, .any⟩, ⟨23, 17, .ro, .lane, 14, .any⟩, ⟨16, 0, .ro, .lane, 0, .any⟩]⟩,
   ⟨0x40118010, 8, 0x4, 1, 0x4,
     [⟨31, 0, .rw, .lane, 0, .any⟩]⟩,
   ⟨0x4011C000, 1, 0x4, 1, 0x4,
     [⟨31, 16, .rwl, .lane, 0, .oneOf [(0, 0), (10, 10000)]⟩, ⟨10, 10, .rwl, .lane, 0, .any⟩, ⟨9, 8, .rwl, .lane, 0, .any⟩, ⟨7, 7, .rwl, .lane, 0, .any⟩, ⟨6, 0, .rwl, .lane, 0, .le 64⟩]⟩,
   ⟨0x4011C100, 64, 0x4, 1, 0x4,
     [⟨31, 0, .rwl, .lane, 0, .any⟩]⟩ ]

/-- Registers of block TAT, part 0. -/
def regRowsTAT0 : List RegRow :=
  [
   ⟨0x40030000, 1, 0x4, 1, 0x4,
     [⟨0, 0, .rw, .quarter, 0, .any⟩]⟩,
   ⟨0x40030004, 1, 0x4, 1, 0x4,
     [⟨7, 0, .rws, .lane, 0, .any⟩]⟩,
   ⟨0x40030008, 1, 0x4, 1, 0x4,
     [⟨15, 8, .cmd, .quarter, 0, .any⟩, ⟨7, 0, .rw, .quarter, 0, .any⟩]⟩,
   ⟨0x40030040, 16, 0x4, 1, 0x4,
     [⟨31, 0, .rw, .quarter, 0, .any⟩]⟩,
   ⟨0x40030100, 1, 0x40, 1, 0x4,
     [⟨31, 31, .rw, .quarter, 0, .any⟩, ⟨30, 30, .rw, .quarter, 0, .any⟩, ⟨29, 28, .mkr, .quarter, 1, .le 2⟩, ⟨22, 20, .mkr, .quarter, 2, .any⟩, ⟨15, 0, .rw, .quarter, 20000, .oneOf [(0, 0), (2000, 65535)]⟩]⟩,
   ⟨0x40030140, 1, 0x40, 1, 0x4,
     [⟨31, 31, .rw, .quarter, 0, .any⟩, ⟨30, 30, .rw, .quarter, 0, .any⟩, ⟨29, 28, .mkr, .quarter, 2, .le 2⟩, ⟨22, 20, .mkr, .quarter, 2, .any⟩, ⟨15, 0, .rw, .quarter, 4000, .oneOf [(0, 0), (2000, 65535)]⟩]⟩,
   ⟨0x40030180, 1, 0x40, 1, 0x4,
     [⟨31, 31, .rw, .quarter, 0, .any⟩, ⟨30, 30, .rw, .quarter, 0, .any⟩, ⟨29, 28, .mkr, .quarter, 1, .le 2⟩, ⟨22, 20, .mkr, .quarter, 2, .any⟩, ⟨15, 0, .rw, .quarter, 40000, .oneOf [(0, 0), (2000, 65535)]⟩]⟩,
   ⟨0x400301C0, 1, 0x40, 1, 0x4,
     [⟨31, 31, .rw, .quarter, 0, .any⟩, ⟨30, 30, .rw, .quarter, 0, .any⟩, ⟨29, 28, .mkr, .quarter, 2, .le 2⟩, ⟨22, 20, .mkr, .quarter, 2, .any⟩, ⟨15, 0, .rw, .quarter, 4000, .oneOf [(0, 0), (2000, 65535)]⟩]⟩,
   ⟨0x40030200, 1, 0x40, 1, 0x4,
     [⟨31, 31, .rw, .quarter, 0, .any⟩, ⟨30, 30, .rw, .quarter, 0, .any⟩, ⟨29, 28, .mkr, .quarter, 1, .le 2⟩, ⟨22, 20, .mkr, .quarter, 2, .any⟩, ⟨15, 0, .rw, .quarter, 40000, .oneOf [(0, 0), (2000, 65535)]⟩]⟩,
   ⟨0x40030240, 1, 0x40, 1, 0x4,
     [⟨31, 31, .rw, .quarter, 0, .any⟩, ⟨30, 30, .rw, .quarter, 0, .any⟩, ⟨29, 28, .mkr, .quarter, 0, .le 2⟩, ⟨22, 20, .mkr, .quarter, 2, .any⟩, ⟨15, 0, .rw, .quarter, 0, .oneOf [(0, 0), (2000, 65535)]⟩]⟩,
   ⟨0x40030280, 1, 0x40, 1, 0x4,
     [⟨31, 31, .rw, .quarter, 0, .any⟩, ⟨30, 30, .rw, .quarter, 0, .any⟩, ⟨29, 28, .mkr, .quarter, 0, .le 2⟩, ⟨22, 20, .mkr, .quarter, 2, .any⟩, ⟨15, 0, .rw, .quarter, 0, .oneOf [(0, 0), (2000, 65535)]⟩]⟩,
   ⟨0x400302C0, 1, 0x40, 1, 0x4,
     [⟨31, 31, .rw, .quarter, 0, .any⟩, ⟨30, 30, .rw, .quarter, 0, .any⟩, ⟨29, 28, .mkr, .quarter, 0, .le 2⟩, ⟨22, 20, .mkr, .quarter, 2, .any⟩, ⟨15, 0, .rw, .quarter, 0, .oneOf [(0, 0), (2000, 65535)]⟩]⟩,
   ⟨0x40030104, 8, 0x40, 1, 0x4,
     [⟨15, 0, .rw, .quarter, 0, .any⟩]⟩,
   ⟨0x40030108, 8, 0x40, 1, 0x4,
     [⟨25, 16, .cmd, .quarter, 0, .any⟩, ⟨4, 4, .cmd, .quarter, 0, .any⟩, ⟨3, 0, .cmd, .quarter, 0, .le 3⟩]⟩,
   ⟨0x4003010C, 8, 0x40, 1, 0x4,
     [⟨31, 29, .ro, .quarter, 0, .any⟩, ⟨24, 24, .rws, .lane, 0, .any⟩, ⟨23, 23, .rws, .lane, 0, .any⟩, ⟨22, 22, .rws, .lane, 0, .any⟩, ⟨21, 21, .rws, .lane, 0, .any⟩, ⟨19, 16, .ro, .quarter, 0, .any⟩, ⟨15, 8, .ro, .quarter, 100, .any⟩, ⟨7, 4, .ro, .quarter, 0, .any⟩]⟩,
   ⟨0x40030110, 8, 0x40, 4, 0x4,
     [⟨31, 0, .rw, .quarter, 0, .any⟩]⟩,
   ⟨0x40030120, 1, 0x40, 1, 0x4,
     [⟨15, 0, .mkr, .quarter, 1, .any⟩]⟩,
   ⟨0x40030160, 1, 0x40, 1, 0x4,
     [⟨15, 0, .mkr, .quarter, 50, .any⟩]⟩,
   ⟨0x400301A0, 1, 0x40, 1, 0x4,
     [⟨15, 0, .mkr, .quarter, 0, .any⟩]⟩,
   ⟨0x400301E0, 1, 0x40, 1, 0x4,
     [⟨15, 0, .mkr, .quarter, 84, .any⟩]⟩,
   ⟨0x40030220, 1, 0x40, 1, 0x4,
     [⟨15, 0, .mkr, .quarter, 0, .any⟩]⟩,
   ⟨0x40030260, 1, 0x40, 1, 0x4,
     [⟨15, 0, .mkr, .quarter, 0, .any⟩]⟩,
   ⟨0x400302A0, 1, 0x40, 1, 0x4,
     [⟨15, 0, .mkr, .quarter, 0, .any⟩]⟩,
   ⟨0x400302E0, 1, 0x40, 1, 0x4,
     [⟨15, 0, .mkr, .quarter, 0, .any⟩]⟩,
   ⟨0x40030124, 8, 0x40, 1, 0x4,
     [⟨31, 28, .mkr, .quarter, 0, .any⟩, ⟨27, 24, .mkr, .quarter, 1, .any⟩, ⟨23, 22, .mkr, .quarter, 0, .any⟩, ⟨21, 20, .mkr, .quarter, 0, .any⟩, ⟨19, 12, .mkr, .quarter, 20, .any⟩, ⟨7, 0, .mkr, .quarter, 50, .rng 5 200⟩]⟩,
   ⟨0x40030128, 8, 0x40, 1, 0x4,
     [⟨31, 0, .mkr, .quarter, 0, .any⟩]⟩ ]

/-- Registers of block TAT, part 1. -/
def regRowsTAT1 : List RegRow :=
  [
   ⟨0x4003012C, 8, 0x40, 1, 0x4,
     [⟨31, 0, .mkr, .quarter, 0, .any⟩]⟩,
   ⟨0x40030130, 8, 0x40, 1, 0x4,
     [⟨31, 0, .mkr, .quarter, 0, .any⟩]⟩,
   ⟨0x40030134, 8, 0x40, 1, 0x4,
     [⟨31, 31, .ro, .block, 0, .any⟩, ⟨30, 30, .ro, .block, 0, .any⟩, ⟨29, 29, .ro, .block, 0, .any⟩, ⟨28, 25, .ro, .block, 0, .any⟩, ⟨24, 16, .ro, .block, 0, .any⟩]⟩,
   ⟨0x40030138, 8, 0x40, 1, 0x4,
     [⟨31, 16, .ro, .block, 0, .any⟩, ⟨15, 0, .ro, .block, 0, .any⟩]⟩,
   ⟨0x4003013C, 8, 0x40, 1, 0x4,
     [⟨31, 16, .ro, .quarter, 0, .any⟩, ⟨15, 7, .ro, .quarter, 0, .any⟩, ⟨3, 0, .ro, .quarter, 0, .any⟩]⟩,
   ⟨0x40030400, 8, 0x20, 4, 0x8,
     [⟨31, 0, .mkr, .quarter, 2147483648, .any⟩]⟩,
   ⟨0x40030404, 8, 0x20, 4, 0x8,
     [⟨31, 0, .mkr, .quarter, 2147483647, .any⟩]⟩,
   ⟨0x40030800, 8, 0x80, 4, 0x20,
     [⟨31, 0, .rw, .quarter, 1073741824, .any⟩]⟩,
   ⟨0x40030804, 8, 0x80, 4, 0x20,
     [⟨31, 0, .rw, .quarter, 0, .any⟩]⟩,
   ⟨0x40030808, 8, 0x80, 4, 0x20,
     [⟨31, 0, .rw, .quarter, 0, .any⟩]⟩,
   ⟨0x4003080C, 8, 0x80, 4, 0x20,
     [⟨31, 0, .rw, .quarter, 0, .any⟩]⟩,
   ⟨0x40030810, 8, 0x80, 4, 0x20,
     [⟨31, 0, .rw, .quarter, 0, .any⟩]⟩ ]

/-- Registers of block TAT, part 2. -/
def regRowsTAT2 : List RegRow :=
  [
   ⟨0x40034000, 8, 0x400, 256, 0x4,
     [⟨31, 0, .rw, .block, 0, .any⟩]⟩,
   ⟨0x40038000, 8, 0x1000, 1024, 0x4,
     [⟨31, 0, .rw, .block, 0, .any⟩]⟩ ]

/-- Registers of block TRC, part 0. -/
def regRowsTRC0 : List RegRow :=
  [
   ⟨0x40120000, 1, 0x4, 1, 0x4,
     [⟨31, 28, .cmd, .quarter, 0, .le 3⟩, ⟨23, 16, .rw, .quarter, 1, .rng 1 255⟩, ⟨15, 13, .rw, .quarter, 0, .any⟩, ⟨12, 0, .rw, .quarter, 4096, .any⟩]⟩,
   ⟨0x40120004, 1, 0x4, 1, 0x4,
     [⟨12, 0, .rw, .quarter, 0, .any⟩]⟩,
   ⟨0x40120008, 1, 0x4, 1, 0x4,
     [⟨31, 28, .rw, .quarter, 0, .le 5⟩, ⟨27, 24, .rw, .quarter, 0, .any⟩]⟩,
   ⟨0x4012000C, 1, 0x4, 1, 0x4,
     [⟨31, 0, .rw, .quarter, 0, .any⟩]⟩,
   ⟨0x40120010, 1, 0x4, 1, 0x4,
     [⟨31, 29, .ro, .quarter, 0, .any⟩, ⟨28, 28, .ro, .quarter, 0, .any⟩, ⟨27, 27, .ro, .quarter, 0, .any⟩, ⟨26, 26, .ro, .quarter, 0, .any⟩, ⟨25, 13, .ro, .quarter, 0, .any⟩, ⟨12, 0, .ro, .quarter, 0, .any⟩]⟩,
   ⟨0x40120014, 1, 0x4, 1, 0x4,
     [⟨31, 0, .ro, .quarter, 0, .any⟩]⟩,
   ⟨0x40120018, 1, 0x4, 1, 0x4,
     [⟨15, 0, .ro, .quarter, 0, .any⟩]⟩,
   ⟨0x40120040, 16, 0x4, 1, 0x4,
     [⟨31, 31, .rw, .quarter, 0, .any⟩, ⟨30, 28, .rw, .quarter, 0, .le 1⟩, ⟨26, 24, .rw, .quarter, 0, .any⟩, ⟨15, 8, .rw, .quarter, 0, .any⟩, ⟨7, 0, .rw, .quarter, 0, .any⟩]⟩ ]

/-- Registers of block BOB, part 0. -/
def regRowsBOB0 : List RegRow :=
  [
   ⟨0x40050000, 1, 0x4, 1, 0x4,
     [⟨31, 31, .rw, .quarter, 0, .any⟩, ⟨30, 30, .mkr, .quarter, 1, .any⟩, ⟨29, 29, .mkr, .quarter, 1, .any⟩, ⟨3, 0, .cmd, .quarter, 0, .le 1⟩]⟩,
   ⟨0x40050004, 1, 0x4, 1, 0x4,
     [⟨31, 29, .ro, .quarter, 0, .any⟩, ⟨28, 28, .ro, .quarter, 0, .any⟩, ⟨27, 27, .ro, .quarter, 0, .any⟩, ⟨26, 26, .ro, .quarter, 0, .any⟩, ⟨25, 25, .ro, .quarter, 0, .any⟩, ⟨24, 24, .ro, .quarter, 0, .any⟩, ⟨15, 15, .rws, .lane, 0, .any⟩, ⟨14, 14, .rws, .lane, 0, .any⟩, ⟨13, 13, .rws, .lane, 0, .any⟩, ⟨12, 12, .rws, .lane, 0, .any⟩, ⟨11, 11, .rws, .lane, 0, .any⟩, ⟨10, 10, .rws, .lane, 0, .any⟩, ⟨9, 9, .rws, .lane, 0, .any⟩, ⟨8, 8, .rws, .lane, 0, .any⟩, ⟨7, 7, .rws, .lane, 0, .any⟩, ⟨6, 6, .rws, .lane, 0, .any⟩, ⟨5, 5, .rws, .lane, 0, .any⟩, ⟨4, 4, .rws, .lane, 0, .any⟩]⟩,
   ⟨0x40050008, 1, 0x4, 1, 0x4,
     [⟨31, 24, .ro, .quarter, 0, .any⟩, ⟨23, 16, .ro, .quarter, 0, .any⟩, ⟨15, 8, .ro, .quarter, 0, .any⟩, ⟨7, 0, .ro, .quarter, 0, .any⟩]⟩,
   ⟨0x40050010, 1, 0x4, 1, 0x4,
     [⟨31, 30, .sebw, .lane, 2, .le 2⟩, ⟨29, 29, .sebw, .lane, 0, .any⟩, ⟨28, 27, .sebw, .lane, 0, .le 2⟩, ⟨26, 26, .sebw, .lane, 0, .any⟩, ⟨25, 20, .sebw, .lane, 0, .oneOf [(0, 0), (13, 40)]⟩, ⟨19, 14, .sebw, .lane, 0, .any⟩, ⟨13, 8, .sebw, .lane, 0, .any⟩, ⟨7, 7, .sebw, .lane, 0, .any⟩, ⟨6, 6, .sebw, .lane, 0, .any⟩, ⟨5, 0, .sebw, .lane, 0, .any⟩]⟩,
   ⟨0x40050014, 1, 0x4, 1, 0x4,
     [⟨31, 0, .sebw, .lane, 65536, .rng 1 0x100000⟩]⟩,
   ⟨0x40050018, 1, 0x4, 1, 0x4,
     [⟨31, 0, .sebw, .lane, 0, .any⟩]⟩,
   ⟨0x4005001C, 1, 0x4, 1, 0x4,
     [⟨7, 0, .sebw, .lane, 0, .any⟩]⟩,
   ⟨0x40050020, 1, 0x4, 1, 0x4,
     [⟨31, 0, .mkr, .quarter, 0, .any⟩]⟩,
   ⟨0x40050024, 1, 0x4, 1, 0x4,
     [⟨14, 14, .mkr, .quarter, 0, .any⟩, ⟨13, 12, .mkr, .quarter, 0, .any⟩, ⟨11, 8, .mkr, .quarter, 0, .oneOf [(0, 0), (2, 4)]⟩, ⟨7, 0, .mkr, .quarter, 0, .any⟩]⟩,
   ⟨0x40050028, 1, 0x4, 1, 0x4,
     [⟨31, 0, .mkr, .quarter, 0, .any⟩]⟩,
   ⟨0x40050030, 1, 0x4, 1, 0x4,
     [⟨31, 16, .mkr, .quarter, 256, .any⟩, ⟨15, 0, .mkr, .quarter, 8192, .any⟩]⟩,
   ⟨0x40050034, 1, 0x4, 1, 0x4,
     [⟨15, 0, .mkr, .quarter, 16384, .any⟩]⟩ ]

/-- Registers of block BOB, part 1. -/
def regRowsBOB1 : List RegRow :=
  [
   ⟨0x40050038, 1, 0x4, 1, 0x4,
     [⟨31, 0, .mkr, .quarter, 2621440, .any⟩]⟩,
   ⟨0x4005003C, 1, 0x4, 1, 0x4,
     [⟨31, 0, .mkr, .quarter, 131072, .any⟩]⟩,
   ⟨0x40050040, 1, 0x4, 1, 0x4,
     [⟨23, 16, .mkr, .quarter, 50, .any⟩, ⟨15, 0, .mkr, .quarter, 150, .any⟩]⟩,
   ⟨0x40050044, 1, 0x4, 1, 0x4,
     [⟨31, 16, .mkr, .quarter, 200, .any⟩, ⟨15, 0, .mkr, .quarter, 1000, .any⟩]⟩,
   ⟨0x40050048, 1, 0x4, 1, 0x4,
     [⟨31, 16, .mkr, .quarter, 2, .any⟩, ⟨15, 0, .mkr, .quarter, 655, .any⟩]⟩,
   ⟨0x4005004C, 1, 0x4, 1, 0x4,
     [⟨31, 0, .mkr, .quarter, 50000, .rng 1 0x7FFFFFFE⟩]⟩,
   ⟨0x40050050, 1, 0x4, 1, 0x4,
     [⟨31, 16, .sebw, .lane, 5000, .rng 1 65535⟩, ⟨15, 0, .sebw, .lane, 2000, .rng 1 65535⟩]⟩,
   ⟨0x40050054, 1, 0x4, 1, 0x4,
     [⟨31, 16, .sebw, .lane, 20000, .rng 1 20000⟩, ⟨15, 12, .sebw, .lane, 4, .rng 1 15⟩, ⟨11, 0, .sebw, .lane, 2000, .rng 1 4095⟩]⟩,
   ⟨0x40050060, 1, 0x4, 1, 0x4,
     [⟨31, 28, .cmd, .quarter, 0, .le 1⟩, ⟨24, 24, .sebw, .lane, 0, .any⟩, ⟨21, 21, .ro, .quarter, 0, .any⟩, ⟨20, 20, .ro, .quarter, 0, .any⟩, ⟨19, 19, .ro, .quarter, 0, .any⟩, ⟨18, 16, .ro, .quarter, 0, .any⟩, ⟨8, 0, .ro, .quarter, 0, .any⟩]⟩,
   ⟨0x40050064, 1, 0x4, 1, 0x4,
     [⟨31, 31, .rw, .quarter, 0, .any⟩, ⟨24, 16, .rw, .quarter, 0, .any⟩, ⟨7, 0, .rw, .quarter, 20, .rng 1 255⟩]⟩,
   ⟨0x40050068, 1, 0x4, 1, 0x4,
     [⟨31, 16, .rwl, .quarter, 3000, .rng 1 20000⟩, ⟨15, 0, .rwl, .quarter, 1000, .any⟩]⟩,
   ⟨0x4005006C, 1, 0x4, 1, 0x4,
     [⟨31, 31, .ro, .quarter, 0, .any⟩, ⟨30, 30, .ro, .quarter, 0, .any⟩, ⟨29, 29, .ro, .quarter, 0, .any⟩, ⟨28, 28, .ro, .quarter, 0, .any⟩, ⟨27, 27, .ro, .quarter, 0, .any⟩, ⟨26, 26, .ro, .quarter, 0, .any⟩, ⟨25, 25, .ro, .quarter, 0, .any⟩, ⟨24, 24, .ro, .quarter, 0, .any⟩, ⟨15, 8, .ro, .quarter, 0, .any⟩, ⟨7, 0, .ro, .quarter, 0, .any⟩]⟩ ]

/-- Registers of block BOB, part 2. -/
def regRowsBOB2 : List RegRow :=
  [
   ⟨0x40050070, 1, 0x4, 1, 0x4,
     [⟨31, 0, .ro, .quarter, 0, .any⟩]⟩,
   ⟨0x40050074, 1, 0x4, 1, 0x4,
     [⟨31, 0, .ro, .quarter, 0, .any⟩]⟩,
   ⟨0x40050078, 1, 0x4, 1, 0x4,
     [⟨31, 0, .ro, .quarter, 2147483647, .any⟩]⟩,
   ⟨0x4005007C, 1, 0x4, 1, 0x4,
     [⟨31, 0, .ro, .quarter, 0, .any⟩]⟩,
   ⟨0x40050080, 1, 0x4, 1, 0x4,
     [⟨31, 0, .ro, .quarter, 0, .any⟩]⟩,
   ⟨0x40050084, 1, 0x4, 1, 0x4,
     [⟨31, 0, .ro, .quarter, 0, .any⟩]⟩,
   ⟨0x40050088, 1, 0x4, 1, 0x4,
     [⟨31, 0, .ro, .quarter, 0, .any⟩]⟩,
   ⟨0x4005008C, 1, 0x4, 1, 0x4,
     [⟨31, 0, .ro, .quarter, 0, .any⟩]⟩,
   ⟨0x40050090, 1, 0x4, 1, 0x4,
     [⟨31, 0, .ro, .quarter, 0, .any⟩]⟩,
   ⟨0x400500A0, 4, 0x4, 1, 0x4,
     [⟨31, 31, .rw, .quarter, 0, .any⟩, ⟨29, 28, .rw, .quarter, 0, .any⟩, ⟨4, 0, .rw, .quarter, 0, .le 23⟩]⟩,
   ⟨0x400500B0, 1, 0x4, 1, 0x4,
     [⟨31, 31, .rws, .lane, 0, .any⟩, ⟨20, 16, .ro, .quarter, 0, .any⟩, ⟨15, 0, .ro, .quarter, 0, .any⟩]⟩,
   ⟨0x400500B4, 1, 0x4, 1, 0x4,
     [⟨0, 0, .cmd, .quarter, 0, .any⟩]⟩ ]

/-- Registers of block BOB, part 3. -/
def regRowsBOB3 : List RegRow :=
  [
   ⟨0x400500C0, 4, 0x4, 1, 0x4,
     [⟨31, 0, .ro, .quarter, 0, .any⟩]⟩ ]

/-- Registers of block SPG, part 0. -/
def regRowsSPG0 : List RegRow :=
  [
   ⟨0x40040000, 1, 0x4, 1, 0x4,
     [⟨31, 31, .rw, .quarter, 0, .any⟩, ⟨5, 0, .rw, .quarter, 0, .any⟩]⟩,
   ⟨0x40040004, 1, 0x4, 1, 0x4,
     [⟨31, 28, .ro, .quarter, 0, .any⟩, ⟨27, 26, .ro, .quarter, 0, .any⟩, ⟨25, 23, .ro, .quarter, 0, .any⟩, ⟨22, 22, .ro, .quarter, 0, .any⟩, ⟨21, 21, .ro, .quarter, 0, .any⟩, ⟨20, 20, .ro, .quarter, 0, .any⟩, ⟨19, 16, .ro, .quarter, 0, .any⟩, ⟨15, 15, .rws, .lane, 0, .any⟩, ⟨14, 14, .rws, .lane, 0, .any⟩, ⟨13, 13, .rws, .lane, 0, .any⟩, ⟨12, 12, .rws, .lane, 0, .any⟩, ⟨11, 11, .rws, .lane, 0, .any⟩, ⟨10, 10, .rws, .lane, 0, .any⟩, ⟨9, 9, .rws, .lane, 0, .any⟩, ⟨8, 8, .rws, .lane, 0, .any⟩, ⟨7, 7, .rws, .lane, 0, .any⟩]⟩,
   ⟨0x40040008, 1, 0x4, 1, 0x4,
     [⟨31, 28, .cmd, .quarter, 0, .le 6⟩, ⟨6, 4, .cmd, .quarter, 0, .any⟩, ⟨3, 3, .cmd, .quarter, 0, .any⟩, ⟨2, 2, .cmd, .quarter, 0, .any⟩]⟩,
   ⟨0x4004000C, 1, 0x4, 1, 0x4,
     [⟨31, 0, .rw, .quarter, 0, .any⟩]⟩,
   ⟨0x40040010, 1, 0x4, 1, 0x4,
     [⟨31, 0, .rw, .quarter, 24000000, .rng 1 24000000⟩]⟩,
   ⟨0x40040014, 1, 0x4, 1, 0x4,
     [⟨31, 0, .rw, .quarter, 0, .any⟩]⟩,
   ⟨0x40040018, 1, 0x4, 1, 0x4,
     [⟨31, 0, .rw, .quarter, 0, .any⟩]⟩,
   ⟨0x4004001C, 1, 0x4, 1, 0x4,
     [⟨31, 0, .rw, .quarter, 0, .any⟩]⟩,
   ⟨0x40040020, 1, 0x4, 1, 0x4,
     [⟨0, 0, .cmd, .quarter, 0, .any⟩]⟩,
   ⟨0x40040024, 1, 0x4, 1, 0x4,
     [⟨22, 16, .ro, .quarter, 0, .any⟩, ⟨15, 0, .ro, .quarter, 0, .any⟩]⟩,
   ⟨0x40040030, 1, 0x4, 1, 0x4,
     [⟨31, 0, .mkr, .lane, 24000000, .rng 1 24000000⟩]⟩,
   ⟨0x40040034, 1, 0x4, 1, 0x4,
     [⟨31, 0, .mkr, .lane, 2000000, .rng 1 2000000⟩]⟩ ]

/-- Registers of block SPG, part 1. -/
def regRowsSPG1 : List RegRow :=
  [
   ⟨0x40040038, 1, 0x4, 1, 0x4,
     [⟨31, 0, .mkr, .lane, 3000000, .rng 1 3000000⟩]⟩,
   ⟨0x4004003C, 1, 0x4, 1, 0x4,
     [⟨31, 0, .rwl, .lane, 1000000, .any⟩]⟩,
   ⟨0x40040040, 1, 0x4, 1, 0x4,
     [⟨31, 0, .rwl, .lane, 500000, .any⟩]⟩,
   ⟨0x40040044, 1, 0x4, 1, 0x4,
     [⟨31, 0, .rwl, .lane, 500000, .any⟩]⟩,
   ⟨0x40040048, 1, 0x4, 1, 0x4,
     [⟨31, 0, .mkr, .lane, 2500000, .rng 1 24000000⟩]⟩,
   ⟨0x4004004C, 1, 0x4, 1, 0x4,
     [⟨31, 0, .rwl, .lane, 100000, .rng 1 300000⟩]⟩,
   ⟨0x40040050, 1, 0x4, 1, 0x4,
     [⟨31, 24, .rwl, .lane, 20, .rng 5 200⟩, ⟨15, 0, .rwl, .lane, 50, .rng 1 65535⟩]⟩,
   ⟨0x40040054, 1, 0x4, 1, 0x4,
     [⟨31, 24, .rwl, .lane, 150, .rng 10 255⟩, ⟨23, 16, .rwl, .lane, 25, .rng 1 100⟩, ⟨15, 8, .rwl, .lane, 25, .rng 1 100⟩, ⟨7, 0, .rwl, .lane, 30, .rng 1 100⟩]⟩,
   ⟨0x40040058, 1, 0x4, 1, 0x4,
     [⟨15, 0, .rwl, .lane, 2000, .rng 100 20000⟩]⟩,
   ⟨0x4004005C, 1, 0x4, 1, 0x4,
     [⟨31, 24, .rwl, .lane, 50, .rng 10 255⟩, ⟨23, 16, .rwl, .lane, 100, .rng 1 255⟩, ⟨15, 0, .rwl, .lane, 1000, .rng 100 10000⟩]⟩,
   ⟨0x40040060, 1, 0x4, 1, 0x4,
     [⟨31, 24, .ro, .quarter, 0, .any⟩, ⟨22, 20, .ro, .quarter, 0, .any⟩, ⟨18, 16, .ro, .quarter, 0, .any⟩, ⟨15, 12, .ro, .quarter, 0, .any⟩]⟩,
   ⟨0x40040064, 1, 0x4, 1, 0x4,
     [⟨31, 0, .ro, .quarter, 0, .any⟩]⟩ ]

/-- Registers of block SPG, part 2. -/
def regRowsSPG2 : List RegRow :=
  [
   ⟨0x40040068, 1, 0x4, 1, 0x4,
     [⟨31, 0, .ro, .quarter, 0, .any⟩]⟩,
   ⟨0x4004006C, 1, 0x4, 1, 0x4,
     [⟨31, 0, .ro, .quarter, 0, .any⟩]⟩,
   ⟨0x40040070, 1, 0x4, 1, 0x4,
     [⟨31, 0, .ro, .quarter, 0, .any⟩]⟩,
   ⟨0x40040074, 1, 0x4, 1, 0x4,
     [⟨31, 0, .ro, .quarter, 0, .any⟩]⟩,
   ⟨0x40040080, 1, 0x4, 1, 0x4,
     [⟨31, 31, .mkr, .lane, 0, .any⟩, ⟨30, 30, .mkr, .lane, 0, .any⟩, ⟨29, 28, .mkr, .lane, 1, .any⟩, ⟨15, 0, .mkr, .lane, 328, .any⟩]⟩,
   ⟨0x40040084, 1, 0x4, 1, 0x4,
     [⟨15, 0, .mkr, .lane, 2000, .rng 500 50000⟩]⟩,
   ⟨0x40040088, 1, 0x4, 1, 0x4,
     [⟨31, 0, .mkr, .lane, 100000000, .rng 1000000 0xFFFFFFFF⟩]⟩,
   ⟨0x4004008C, 1, 0x4, 1, 0x4,
     [⟨31, 16, .mkr, .lane, 4000, .rng 1 65535⟩, ⟨15, 0, .mkr, .lane, 2000, .rng 1 65535⟩]⟩,
   ⟨0x40040090, 1, 0x4, 1, 0x4,
     [⟨31, 0, .mkr, .lane, 0, .any⟩]⟩,
   ⟨0x40040094, 1, 0x4, 1, 0x4,
     [⟨15, 0, .mkr, .lane, 800, .rng 100 20000⟩]⟩,
   ⟨0x40040098, 1, 0x4, 1, 0x4,
     [⟨31, 16, .ro, .quarter, 16384, .any⟩, ⟨15, 0, .ro, .quarter, 2000, .any⟩]⟩,
   ⟨0x400400A0, 1, 0x4, 1, 0x4,
     [⟨31, 0, .mkr, .lane, 65536, .any⟩]⟩ ]

/-- Registers of block SPG, part 3. -/
def regRowsSPG3 : List RegRow :=
  [
   ⟨0x400400A4, 1, 0x4, 1, 0x4,
     [⟨31, 0, .rwl, .lane, 0, .any⟩]⟩,
   ⟨0x400400A8, 1, 0x4, 1, 0x4,
     [⟨31, 0, .ro, .quarter, 0, .any⟩]⟩ ]

/-- Registers of block DRV, part 0. -/
def regRowsDRV0 : List RegRow :=
  [
   ⟨0x40060000, 1, 0x4, 1, 0x4,
     [⟨31, 31, .rw, .quarter, 0, .any⟩, ⟨23, 16, .mkr, .lane, 50, .rng 1 255⟩, ⟨11, 8, .mkr, .lane, 2, .rng 1 8⟩, ⟨7, 4, .mkr, .lane, 4, .rng 2 15⟩]⟩,
   ⟨0x40060004, 1, 0x4, 1, 0x4,
     [⟨31, 31, .ro, .quarter, 0, .any⟩, ⟨30, 30, .ro, .quarter, 0, .any⟩, ⟨29, 29, .ro, .quarter, 0, .any⟩, ⟨28, 28, .ro, .quarter, 0, .any⟩, ⟨27, 27, .ro, .quarter, 0, .any⟩, ⟨26, 26, .ro, .quarter, 0, .any⟩, ⟨25, 25, .ro, .quarter, 0, .any⟩, ⟨24, 24, .ro, .quarter, 0, .any⟩, ⟨23, 23, .ro, .quarter, 0, .any⟩, ⟨15, 15, .rws, .lane, 0, .any⟩, ⟨14, 14, .rws, .lane, 0, .any⟩, ⟨13, 13, .rws, .lane, 0, .any⟩, ⟨12, 12, .rws, .lane, 0, .any⟩, ⟨11, 11, .rws, .lane, 0, .any⟩, ⟨10, 10, .rws, .lane, 0, .any⟩, ⟨9, 9, .rws, .lane, 0, .any⟩, ⟨8, 8, .rws, .lane, 0, .any⟩, ⟨7, 0, .ro, .quarter, 0, .any⟩]⟩,
   ⟨0x40060008, 1, 0x4, 1, 0x4,
     [⟨31, 0, .mkr, .lane, 98304, .rng 1 0x40000⟩]⟩,
   ⟨0x40060010, 1, 0x4, 1, 0x4,
     [⟨31, 0, .ro, .quarter, 0, .any⟩]⟩,
   ⟨0x40060014, 1, 0x4, 1, 0x4,
     [⟨31, 0, .ro, .quarter, 0, .any⟩]⟩,
   ⟨0x40060018, 1, 0x4, 1, 0x4,
     [⟨31, 0, .ro, .quarter, 0, .any⟩]⟩,
   ⟨0x4006001C, 1, 0x4, 1, 0x4,
     [⟨31, 16, .ro, .quarter, 0, .any⟩, ⟨15, 0, .ro, .quarter, 0, .any⟩]⟩,
   ⟨0x40060020, 1, 0x4, 1, 0x4,
     [⟨15, 0, .ro, .quarter, 0, .any⟩]⟩,
   ⟨0x40060024, 1, 0x4, 1, 0x4,
     [⟨31, 24, .ro, .quarter, 0, .any⟩, ⟨23, 16, .ro, .quarter, 0, .any⟩, ⟨15, 8, .ro, .quarter, 0, .any⟩, ⟨7, 0, .ro, .quarter, 0, .any⟩]⟩ ]

/-- Registers of block SEL, part 0. -/
def regRowsSEL0 : List RegRow :=
  [
   ⟨0x40080000, 1, 0x4, 1, 0x4,
     [⟨0, 0, .rw, .quarter, 0, .any⟩]⟩,
   ⟨0x40080004, 1, 0x4, 1, 0x4,
     [⟨31, 30, .ro, .quarter, 0, .any⟩, ⟨29, 29, .ro, .quarter, 0, .any⟩, ⟨28, 28, .ro, .quarter, 0, .any⟩, ⟨27, 27, .ro, .quarter, 0, .any⟩, ⟨26, 26, .ro, .quarter, 0, .any⟩, ⟨25, 25, .ro, .quarter, 0, .any⟩, ⟨24, 24, .ro, .quarter, 0, .any⟩, ⟨23, 23, .ro, .quarter, 0, .any⟩, ⟨22, 22, .ro, .quarter, 0, .any⟩, ⟨15, 15, .rws, .lane, 0, .any⟩, ⟨14, 14, .rws, .lane, 0, .any⟩, ⟨13, 13, .rws, .lane, 0, .any⟩, ⟨12, 12, .rws, .lane, 0, .any⟩, ⟨11, 11, .rws, .lane, 0, .any⟩, ⟨10, 10, .rws, .lane, 0, .any⟩]⟩,
   ⟨0x40080010, 1, 0x4, 1, 0x4,
     [⟨31, 31, .sebw, .lane, 0, .any⟩, ⟨30, 30, .sebw, .lane, 0, .any⟩, ⟨29, 29, .sebw, .lane, 0, .any⟩, ⟨28, 24, .sebw, .lane, 0, .any⟩, ⟨20, 16, .sebw, .lane, 0, .any⟩, ⟨11, 8, .sebw, .lane, 0, .any⟩, ⟨1, 0, .sebw, .lane, 0, .any⟩]⟩,
   ⟨0x40080014, 1, 0x4, 1, 0x4,
     [⟨31, 0, .sebw, .lane, 0, .any⟩]⟩,
   ⟨0x40080018, 1, 0x4, 1, 0x4,
     [⟨31, 16, .sebw, .lane, 3600, .rng 1 20000⟩, ⟨15, 0, .sebw, .lane, 900, .rng 1 20000⟩]⟩,
   ⟨0x4008001C, 1, 0x4, 1, 0x4,
     [⟨31, 16, .sebw, .lane, 200, .rng 1 2000⟩, ⟨15, 0, .sebw, .lane, 2000, .rng 100 10000⟩]⟩,
   ⟨0x40080020, 1, 0x4, 1, 0x4,
     [⟨31, 16, .sebw, .lane, 24000, .rng 1 24000⟩, ⟨15, 0, .sebw, .lane, 2000, .rng 100 10000⟩]⟩,
   ⟨0x40080024, 1, 0x4, 1, 0x4,
     [⟨15, 0, .sebw, .lane, 200, .rng 1 2000⟩]⟩,
   ⟨0x40080028, 1, 0x4, 1, 0x4,
     [⟨31, 16, .rwl, .lane, 2000, .any⟩, ⟨15, 0, .rwl, .lane, 1000, .any⟩]⟩,
   ⟨0x4008002C, 1, 0x4, 1, 0x4,
     [⟨31, 16, .mkr, .lane, 500, .any⟩, ⟨15, 0, .sebw, .lane, 200, .rng 50 65535⟩]⟩,
   ⟨0x40080030, 1, 0x4, 1, 0x4,
     [⟨31, 0, .rw, .quarter, 0, .any⟩]⟩,
   ⟨0x40080034, 1, 0x4, 1, 0x4,
     [⟨31, 0, .ro, .quarter, 0, .any⟩]⟩ ]

/-- Registers of block SEL, part 1. -/
def regRowsSEL1 : List RegRow :=
  [
   ⟨0x40080040, 1, 0x4, 1, 0x4,
     [⟨31, 0, .ro, .quarter, 2147483648, .any⟩]⟩,
   ⟨0x40080044, 1, 0x4, 1, 0x4,
     [⟨31, 0, .ro, .quarter, 2147483647, .any⟩]⟩,
   ⟨0x40080048, 1, 0x4, 1, 0x4,
     [⟨31, 0, .ro, .quarter, 0, .any⟩]⟩,
   ⟨0x4008004C, 1, 0x4, 1, 0x4,
     [⟨31, 0, .ro, .quarter, 0, .any⟩]⟩,
   ⟨0x40080050, 1, 0x4, 1, 0x4,
     [⟨31, 16, .ro, .quarter, 32767, .any⟩, ⟨15, 0, .ro, .quarter, 32767, .any⟩]⟩,
   ⟨0x40080054, 1, 0x4, 1, 0x4,
     [⟨31, 16, .ro, .quarter, 32767, .any⟩, ⟨15, 0, .ro, .quarter, 32767, .any⟩]⟩,
   ⟨0x40080058, 1, 0x4, 1, 0x4,
     [⟨31, 16, .ro, .quarter, 65535, .any⟩, ⟨15, 0, .ro, .quarter, 65535, .any⟩]⟩,
   ⟨0x4008005C, 1, 0x4, 1, 0x4,
     [⟨31, 24, .ro, .quarter, 0, .any⟩, ⟨23, 16, .ro, .quarter, 0, .any⟩, ⟨15, 8, .ro, .quarter, 0, .any⟩, ⟨7, 0, .ro, .quarter, 0, .any⟩]⟩ ]

/-- Registers of block DOR, part 0. -/
def regRowsDOR0 : List RegRow :=
  [
   ⟨0x40070000, 2, 0x200, 1, 0x4,
     [⟨31, 31, .rw, .quarter, 0, .any⟩, ⟨30, 30, .rwl, .lane, 0, .any⟩]⟩,
   ⟨0x40070004, 2, 0x200, 1, 0x4,
     [⟨31, 28, .cmd, .quarter, 0, .le 8⟩]⟩,
   ⟨0x40070008, 2, 0x200, 1, 0x4,
     [⟨31, 28, .ro, .quarter, 0, .any⟩, ⟨27, 25, .ro, .quarter, 0, .any⟩, ⟨24, 24, .ro, .quarter, 0, .any⟩, ⟨23, 23, .ro, .quarter, 0, .any⟩, ⟨22, 22, .ro, .quarter, 0, .any⟩, ⟨21, 21, .ro, .quarter, 0, .any⟩, ⟨20, 20, .ro, .quarter, 0, .any⟩, ⟨19, 16, .ro, .quarter, 0, .any⟩, ⟨15, 15, .rws, .lane, 0, .any⟩, ⟨14, 14, .rws, .lane, 0, .any⟩, ⟨13, 13, .rws, .lane, 0, .any⟩, ⟨12, 12, .rws, .lane, 0, .any⟩, ⟨11, 11, .rws, .lane, 0, .any⟩, ⟨10, 10, .rws, .lane, 0, .any⟩, ⟨9, 9, .rws, .lane, 0, .any⟩, ⟨8, 8, .rws, .lane, 0, .any⟩, ⟨7, 7, .rws, .lane, 0, .any⟩, ⟨6, 6, .rws, .lane, 0, .any⟩, ⟨5, 5, .rws, .lane, 0, .any⟩, ⟨4, 4, .rws, .lane, 0, .any⟩]⟩,
   ⟨0x4007000C, 2, 0x200, 1, 0x4,
     [⟨31, 31, .mkr, .lane, 0, .any⟩, ⟨30, 30, .mkr, .lane, 0, .any⟩, ⟨27, 16, .mkr, .lane, 3800, .le 3999⟩, ⟨12, 8, .mkr, .lane, 4, .rng 1 31⟩, ⟨7, 0, .mkr, .lane, 40, .rng 8 80⟩]⟩,
   ⟨0x40070010, 2, 0x200, 1, 0x4,
     [⟨20, 3, .mkr, .lane, 120912, .any⟩]⟩,
   ⟨0x40070014, 2, 0x200, 1, 0x4,
     [⟨15, 0, .mkr, .lane, 0, .any⟩]⟩,
   ⟨0x40070018, 2, 0x200, 1, 0x4,
     [⟨31, 0, .mkr, .lane, 0, .any⟩]⟩,
   ⟨0x4007001C, 2, 0x200, 1, 0x4,
     [⟨31, 0, .rwl, .lane, 1000000, .rng 50000 3000000⟩]⟩,
   ⟨0x40070020, 2, 0x200, 1, 0x4,
     [⟨15, 0, .rwl, .lane, 1000, .rng 50 4000⟩]⟩,
   ⟨0x40070024, 2, 0x200, 1, 0x4,
     [⟨15, 0, .rwl, .lane, 1000, .rng 10 65535⟩]⟩,
   ⟨0x40070028, 2, 0x200, 1, 0x4,
     [⟨31, 0, .mkr, .lane, 655360, .any⟩]⟩,
   ⟨0x4007002C, 2, 0x200, 1, 0x4,
     [⟨31, 16, .mkr, .lane, 1500, .any⟩, ⟨15, 0, .mkr, .lane, 1000, .any⟩]⟩ ]

/-- Registers of block DOR, part 1. -/
def regRowsDOR1 : List RegRow :=
  [
   ⟨0x40070030, 2, 0x200, 1, 0x4,
     [⟨31, 16, .rwl, .lane, 1500, .rng 1 65535⟩, ⟨15, 0, .rwl, .lane, 1000, .rng 1 65535⟩]⟩,
   ⟨0x40070034, 2, 0x200, 1, 0x4,
     [⟨15, 0, .rwl, .lane, 400, .any⟩]⟩,
   ⟨0x40070038, 2, 0x200, 1, 0x4,
     [⟨31, 20, .rwl, .lane, 800, .any⟩, ⟨19, 8, .rwl, .lane, 1200, .any⟩, ⟨7, 4, .rwl, .lane, 3, .rng 1 15⟩]⟩,
   ⟨0x4007003C, 2, 0x200, 1, 0x4,
     [⟨31, 16, .rwl, .lane, 2000, .any⟩, ⟨15, 0, .rwl, .lane, 3000, .any⟩]⟩,
   ⟨0x40070040, 2, 0x200, 1, 0x4,
     [⟨31, 16, .rwl, .lane, 400, .rng 10 2000⟩, ⟨15, 0, .rwl, .lane, 800, .rng 100 5000⟩]⟩,
   ⟨0x40070044, 2, 0x200, 1, 0x4,
     [⟨31, 16, .rwl, .lane, 800, .rng 100 5000⟩, ⟨15, 8, .rwl, .lane, 20, .any⟩, ⟨7, 0, .rwl, .lane, 50, .rng 1 255⟩]⟩,
   ⟨0x40070048, 2, 0x200, 1, 0x4,
     [⟨31, 16, .rwl, .lane, 300, .rng 10 2000⟩, ⟨15, 0, .rwl, .lane, 500, .rng 100 5000⟩]⟩,
   ⟨0x4007004C, 2, 0x200, 1, 0x4,
     [⟨31, 16, .rwl, .lane, 500, .rng 100 5000⟩, ⟨15, 8, .rwl, .lane, 30, .any⟩, ⟨7, 0, .rwl, .lane, 40, .rng 1 255⟩]⟩,
   ⟨0x40070050, 2, 0x200, 1, 0x4,
     [⟨31, 16, .rwl, .lane, 150, .rng 10 2000⟩, ⟨15, 0, .rwl, .lane, 300, .rng 100 5000⟩]⟩,
   ⟨0x40070054, 2, 0x200, 1, 0x4,
     [⟨31, 16, .rwl, .lane, 300, .rng 100 5000⟩, ⟨15, 8, .rwl, .lane, 30, .any⟩, ⟨7, 0, .rwl, .lane, 40, .rng 1 255⟩]⟩,
   ⟨0x40070058, 2, 0x200, 1, 0x4,
     [⟨31, 16, .rwl, .lane, 250, .rng 10 2000⟩, ⟨15, 0, .rwl, .lane, 500, .rng 100 5000⟩]⟩,
   ⟨0x4007005C, 2, 0x200, 1, 0x4,
     [⟨31, 16, .rwl, .lane, 800, .rng 100 5000⟩, ⟨15, 8, .rwl, .lane, 20, .any⟩, ⟨7, 0, .rwl, .lane, 50, .rng 1 255⟩]⟩ ]

/-- Registers of block DOR, part 2. -/
def regRowsDOR2 : List RegRow :=
  [
   ⟨0x40070060, 2, 0x200, 1, 0x4,
     [⟨31, 16, .rwl, .lane, 1500, .rng 100 10000⟩, ⟨15, 8, .rwl, .lane, 50, .rng 1 255⟩]⟩,
   ⟨0x40070064, 2, 0x200, 1, 0x4,
     [⟨31, 16, .rwl, .lane, 0, .any⟩, ⟨15, 0, .rwl, .lane, 0, .any⟩]⟩,
   ⟨0x40070068, 2, 0x200, 1, 0x4,
     [⟨31, 16, .mkr, .lane, 20000, .any⟩, ⟨15, 0, .mkr, .lane, 12000, .any⟩]⟩,
   ⟨0x4007006C, 2, 0x200, 1, 0x4,
     [⟨31, 16, .rwl, .lane, 30, .rng 10 100⟩, ⟨15, 0, .rwl, .lane, 2000, .any⟩]⟩,
   ⟨0x40070070, 2, 0x200, 1, 0x4,
     [⟨15, 0, .rwl, .lane, 100, .rng 20 300⟩]⟩,
   ⟨0x40070074, 2, 0x200, 1, 0x4,
     [⟨31, 0, .mkr, .lane, 65536, .any⟩]⟩,
   ⟨0x40070080, 2, 0x200, 1, 0x4,
     [⟨31, 0, .ro, .quarter, 0, .any⟩]⟩,
   ⟨0x40070084, 2, 0x200, 1, 0x4,
     [⟨31, 0, .ro, .quarter, 0, .any⟩]⟩,
   ⟨0x40070088, 2, 0x200, 1, 0x4,
     [⟨31, 0, .ro, .quarter, 0, .any⟩]⟩,
   ⟨0x4007008C, 2, 0x200, 1, 0x4,
     [⟨31, 0, .ro, .quarter, 0, .any⟩]⟩,
   ⟨0x40070090, 2, 0x200, 1, 0x4,
     [⟨31, 0, .ro, .quarter, 0, .any⟩]⟩,
   ⟨0x40070094, 2, 0x200, 1, 0x4,
     [⟨31, 0, .ro, .quarter, 0, .any⟩]⟩ ]

/-- Registers of block DOR, part 3. -/
def regRowsDOR3 : List RegRow :=
  [
   ⟨0x40070098, 2, 0x200, 1, 0x4,
     [⟨31, 0, .ro, .quarter, 0, .any⟩]⟩,
   ⟨0x4007009C, 2, 0x200, 1, 0x4,
     [⟨31, 24, .ro, .quarter, 0, .any⟩, ⟨23, 16, .ro, .quarter, 0, .any⟩, ⟨15, 8, .ro, .quarter, 0, .any⟩, ⟨7, 0, .ro, .quarter, 0, .any⟩]⟩ ]

/-- Registers of block PRK, part 0. -/
def regRowsPRK0 : List RegRow :=
  [
   ⟨0x40090000, 1, 0x4, 1, 0x4,
     [⟨31, 31, .rw, .quarter, 0, .any⟩]⟩,
   ⟨0x40090004, 1, 0x4, 1, 0x4,
     [⟨31, 30, .ro, .quarter, 0, .any⟩, ⟨29, 25, .ro, .quarter, 0, .any⟩, ⟨24, 19, .ro, .quarter, 0, .any⟩, ⟨18, 12, .ro, .quarter, 0, .any⟩, ⟨11, 11, .ro, .quarter, 0, .any⟩, ⟨7, 7, .rws, .lane, 0, .any⟩, ⟨6, 6, .rws, .lane, 0, .any⟩, ⟨5, 5, .rws, .lane, 0, .any⟩, ⟨4, 4, .rws, .lane, 0, .any⟩, ⟨3, 3, .rws, .lane, 0, .any⟩, ⟨2, 2, .rws, .lane, 0, .any⟩, ⟨1, 1, .rws, .lane, 0, .any⟩, ⟨0, 0, .rws, .lane, 0, .any⟩]⟩,
   ⟨0x40090008, 1, 0x4, 1, 0x4,
     [⟨2, 0, .rw, .quarter, 0, .le 5⟩, ⟨23, 16, .rwl, .lane, 228, .any⟩]⟩,
   ⟨0x40090010, 4, 0x4, 1, 0x4,
     [⟨31, 0, .rw, .quarter, 0, .any⟩]⟩,
   ⟨0x40090020, 1, 0x4, 1, 0x4,
     [⟨0, 0, .cmd, .quarter, 0, .any⟩]⟩,
   ⟨0x40090030, 4, 0x4, 1, 0x4,
     [⟨31, 0, .ro, .quarter, 0, .any⟩]⟩,
   ⟨0x40090040, 1, 0x4, 1, 0x4,
     [⟨0, 0, .cmd, .quarter, 0, .any⟩]⟩,
   ⟨0x40090044, 4, 0x4, 1, 0x4,
     [⟨31, 0, .rw, .quarter, 0, .any⟩]⟩,
   ⟨0x40090054, 1, 0x4, 1, 0x4,
     [⟨31, 24, .rwl, .lane, 60, .rng 1 255⟩, ⟨23, 16, .rwl, .lane, 10, .rng 1 100⟩, ⟨15, 8, .rwl, .lane, 32, .any⟩, ⟨7, 0, .rwl, .lane, 50, .rng 1 255⟩]⟩,
   ⟨0x40090058, 1, 0x4, 1, 0x4,
     [⟨31, 24, .rwl, .lane, 80, .rng 50 100⟩, ⟨23, 16, .rwl, .lane, 10, .rng 1 30⟩, ⟨15, 8, .rwl, .lane, 70, .le 100⟩, ⟨7, 0, .rwl, .lane, 50, .rng 1 255⟩]⟩,
   ⟨0x4009005C, 1, 0x4, 1, 0x4,
     [⟨31, 31, .rwl, .lane, 1, .any⟩, ⟨30, 30, .rwl, .lane, 0, .any⟩, ⟨27, 24, .rwl, .lane, 1, .any⟩, ⟨23, 16, .rwl, .lane, 15, .le 100⟩, ⟨15, 8, .rwl, .lane, 20, .any⟩, ⟨7, 0, .rwl, .lane, 10, .rng 5 50⟩]⟩,
   ⟨0x40090060, 1, 0x4, 1, 0x4,
     [⟨31, 24, .rwl, .lane, 40, .rng 1 255⟩, ⟨23, 16, .rwl, .lane, 60, .rng 1 255⟩, ⟨15, 8, .rwl, .lane, 40, .rng 1 255⟩]⟩ ]

/-- Registers of block PRK, part 1. -/
def regRowsPRK1 : List RegRow :=
  [
   ⟨0x40090064, 1, 0x4, 1, 0x4,
     [⟨31, 24, .rwl, .lane, 240, .rng 1 255⟩, ⟨23, 16, .rwl, .lane, 48, .rng 1 255⟩, ⟨15, 8, .rwl, .lane, 32, .rng 1 255⟩, ⟨7, 0, .rwl, .lane, 16, .rng 1 255⟩]⟩,
   ⟨0x40090068, 1, 0x4, 1, 0x4,
     [⟨31, 0, .rwl, .lane, 4294967295, .any⟩]⟩,
   ⟨0x4009006C, 1, 0x4, 1, 0x4,
     [⟨31, 0, .ro, .quarter, 0, .any⟩]⟩,
   ⟨0x40090070, 1, 0x4, 1, 0x4,
     [⟨31, 0, .ro, .quarter, 0, .any⟩]⟩,
   ⟨0x40090074, 1, 0x4, 1, 0x4,
     [⟨7, 0, .rw, .quarter, 0, .any⟩]⟩,
   ⟨0x40090078, 1, 0x4, 1, 0x4,
     [⟨15, 0, .ro, .quarter, 0, .any⟩]⟩,
   ⟨0x4009007C, 1, 0x4, 1, 0x4,
     [⟨31, 0, .ro, .quarter, 0, .any⟩]⟩,
   ⟨0x40090080, 4, 0x10, 1, 0x4,
     [⟨31, 16, .rwl, .lane, 256, .any⟩, ⟨15, 0, .rwl, .lane, 128, .any⟩]⟩,
   ⟨0x40090084, 4, 0x10, 1, 0x4,
     [⟨31, 16, .rwl, .lane, 64, .any⟩, ⟨15, 0, .rwl, .lane, 300, .any⟩]⟩,
   ⟨0x40090088, 4, 0x10, 1, 0x4,
     [⟨15, 0, .rwl, .lane, 5120, .any⟩]⟩,
   ⟨0x40090100, 32, 0x8, 1, 0x4,
     [⟨31, 0, .rwl, .lane, 0, .any⟩]⟩,
   ⟨0x40090104, 32, 0x8, 1, 0x4,
     [⟨15, 0, .rwl, .lane, 0, .any⟩]⟩ ]

/-- Registers of block PRK, part 2. -/
def regRowsPRK2 : List RegRow :=
  [
   ⟨0x40090200, 1, 0x4, 1, 0x4,
     [⟨31, 16, .ro, .quarter, 0, .any⟩, ⟨15, 0, .ro, .quarter, 0, .any⟩]⟩,
   ⟨0x40090204, 1, 0x4, 1, 0x4,
     [⟨31, 16, .ro, .quarter, 0, .any⟩, ⟨15, 0, .ro, .quarter, 0, .any⟩]⟩,
   ⟨0x40090208, 1, 0x4, 1, 0x4,
     [⟨31, 16, .ro, .quarter, 0, .any⟩, ⟨15, 0, .ro, .quarter, 0, .any⟩]⟩,
   ⟨0x40094000, 256, 0x10, 1, 0x4,
     [⟨31, 0, .rwl, .lane, 0, .any⟩]⟩,
   ⟨0x40094004, 256, 0x10, 1, 0x4,
     [⟨31, 0, .rwl, .lane, 0, .any⟩]⟩,
   ⟨0x40094008, 256, 0x10, 1, 0x4,
     [⟨23, 16, .rwl, .lane, 0, .any⟩, ⟨15, 8, .rwl, .lane, 0, .any⟩, ⟨7, 4, .rwl, .lane, 15, .any⟩, ⟨2, 2, .rwl, .lane, 0, .any⟩, ⟨1, 1, .rwl, .lane, 0, .any⟩, ⟨0, 0, .rw, .quarter, 0, .any⟩]⟩ ]

/-- Registers of block SEB, part 0. -/
def regRowsSEB0 : List RegRow :=
  [
   ⟨0x400A0000, 1, 0x4, 1, 0x4,
     [⟨31, 29, .ro, .lane, 0, .any⟩, ⟨28, 26, .ro, .lane, 0, .any⟩, ⟨25, 24, .ro, .lane, 0, .any⟩, ⟨23, 22, .ro, .lane, 0, .any⟩, ⟨21, 21, .ro, .lane, 1, .any⟩, ⟨20, 20, .ro, .lane, 1, .any⟩, ⟨19, 19, .ro, .lane, 0, .any⟩, ⟨18, 18, .ro, .lane, 0, .any⟩, ⟨17, 17, .ro, .lane, 0, .any⟩, ⟨16, 16, .ro, .lane, 0, .any⟩, ⟨15, 15, .ro, .lane, 0, .any⟩, ⟨14, 14, .ro, .lane, 0, .any⟩, ⟨13, 10, .ro, .lane, 0, .any⟩, ⟨9, 8, .ro, .lane, 0, .any⟩, ⟨7, 0, .ro, .lane, 0, .any⟩]⟩,
   ⟨0x400A0004, 1, 0x4, 1, 0x4,
     [⟨12, 0, .ro, .lane, 0, .any⟩]⟩,
   ⟨0x400A0008, 1, 0x4, 1, 0x4,
     [⟨22, 22, .ro, .fixed, 0, .any⟩, ⟨21, 21, .ro, .fixed, 0, .any⟩, ⟨20, 20, .ro, .fixed, 0, .any⟩, ⟨19, 19, .ro, .fixed, 0, .any⟩, ⟨18, 18, .ro, .fixed, 0, .any⟩, ⟨17, 17, .ro, .fixed, 0, .any⟩, ⟨16, 16, .ro, .fixed, 0, .any⟩, ⟨15, 15, .ro, .fixed, 0, .any⟩, ⟨14, 14, .ro, .fixed, 0, .any⟩, ⟨13, 13, .ro, .fixed, 0, .any⟩, ⟨12, 12, .ro, .fixed, 0, .any⟩, ⟨11, 11, .ro, .fixed, 0, .any⟩, ⟨10, 10, .ro, .fixed, 0, .any⟩, ⟨9, 9, .ro, .fixed, 0, .any⟩, ⟨6, 6, .ro, .fixed, 0, .any⟩, ⟨5, 5, .ro, .fixed, 0, .any⟩, ⟨4, 4, .ro, .fixed, 0, .any⟩, ⟨3, 3, .ro, .fixed, 0, .any⟩, ⟨2, 2, .ro, .fixed, 0, .any⟩, ⟨1, 1, .ro, .fixed, 0, .any⟩]⟩,
   ⟨0x400A000C, 1, 0x4, 1, 0x4,
     [⟨6, 6, .rws, .lane, 0, .any⟩, ⟨5, 5, .rws, .lane, 0, .any⟩, ⟨4, 4, .rws, .lane, 0, .any⟩, ⟨3, 3, .rws, .lane, 0, .any⟩, ⟨2, 2, .rws, .lane, 0, .any⟩, ⟨1, 1, .rws, .lane, 0, .any⟩, ⟨0, 0, .rws, .lane, 0, .any⟩]⟩,
   ⟨0x400A0010, 1, 0x4, 1, 0x4,
     [⟨1, 1, .rw, .lane, 0, .any⟩, ⟨0, 0, .rw, .lane, 0, .any⟩]⟩,
   ⟨0x400A0014, 1, 0x4, 1, 0x4,
     [⟨3, 0, .rwl, .lane, 0, .le 4⟩]⟩,
   ⟨0x400A0018, 1, 0x4, 1, 0x4,
     [⟨31, 30, .ro, .lane, 0, .any⟩, ⟨29, 29, .ro, .lane, 0, .any⟩, ⟨27, 24, .ro, .lane, 0, .any⟩, ⟨23, 16, .ro, .lane, 0, .any⟩, ⟨15, 0, .ro, .lane, 0, .any⟩]⟩,
   ⟨0x400A001C, 1, 0x4, 1, 0x4,
     [⟨31, 0, .rw, .lane, 0, .any⟩]⟩,
   ⟨0x400A0020, 1, 0x4, 1, 0x4,
     [⟨31, 0, .sebw, .lane, 0, .any⟩]⟩,
   ⟨0x400A0024, 1, 0x4, 1, 0x4,
     [⟨31, 0, .ro, .lane, 0, .any⟩]⟩,
   ⟨0x400A0028, 1, 0x4, 1, 0x4,
     [⟨31, 0, .ro, .lane, 0, .any⟩]⟩,
   ⟨0x400A002C, 1, 0x4, 1, 0x4,
     [⟨31, 0, .ro, .fixed, 0, .any⟩]⟩ ]

/-- Registers of block SEB, part 1. -/
def regRowsSEB1 : List RegRow :=
  [
   ⟨0x400A0030, 1, 0x4, 1, 0x4,
     [⟨7, 4, .ro, .fixed, 0, .any⟩, ⟨3, 0, .ro, .fixed, 0, .any⟩]⟩,
   ⟨0x400A0034, 1, 0x4, 1, 0x4,
     [⟨31, 24, .ro, .lane, 0, .any⟩, ⟨23, 16, .ro, .lane, 0, .any⟩, ⟨15, 8, .ro, .lane, 0, .any⟩, ⟨7, 0, .ro, .lane, 0, .any⟩]⟩,
   ⟨0x400A0040, 6, 0x4, 1, 0x4,
     [⟨31, 31, .sebw, .lane, 0, .any⟩, ⟨28, 24, .sebw, .lane, 0, .le 23⟩, ⟨23, 23, .sebw, .lane, 0, .any⟩, ⟨20, 16, .sebw, .lane, 0, .le 23⟩, ⟨15, 15, .sebw, .lane, 0, .any⟩, ⟨12, 8, .sebw, .lane, 0, .le 23⟩, ⟨7, 7, .sebw, .lane, 0, .any⟩, ⟨4, 0, .sebw, .lane, 0, .le 23⟩]⟩,
   ⟨0x400A0060, 1, 0x4, 1, 0x4,
     [⟨30, 24, .sebw, .lane, 8, .rng 2 80⟩, ⟨22, 16, .sebw, .lane, 8, .rng 2 80⟩, ⟨14, 8, .sebw, .lane, 8, .rng 2 80⟩, ⟨6, 0, .sebw, .lane, 8, .rng 2 80⟩]⟩,
   ⟨0x400A0064, 1, 0x4, 1, 0x4,
     [⟨22, 16, .sebw, .lane, 8, .rng 5 51⟩, ⟨14, 8, .sebw, .lane, 8, .rng 2 80⟩, ⟨6, 0, .sebw, .lane, 8, .rng 2 80⟩]⟩,
   ⟨0x400A0068, 1, 0x4, 1, 0x4,
     [⟨31, 24, .sebw, .lane, 10, .rng 1 100⟩, ⟨23, 16, .sebw, .lane, 5, .rng 1 100⟩, ⟨15, 8, .sebw, .lane, 5, .rng 1 100⟩, ⟨7, 0, .sebw, .lane, 10, .rng 2 50⟩]⟩,
   ⟨0x400A0070, 1, 0x4, 1, 0x4,
     [⟨31, 16, .sebw, .lane, 1150, .rng 100 27600⟩, ⟨15, 0, .sebw, .lane, 700, .rng 1 800⟩]⟩,
   ⟨0x400A0074, 1, 0x4, 1, 0x4,
     [⟨31, 16, .sebw, .lane, 300, .rng 1 300⟩, ⟨15, 0, .sebw, .lane, 10, .rng 1 50⟩]⟩,
   ⟨0x400A0078, 1, 0x4, 1, 0x4,
     [⟨31, 16, .sebw, .lane, 630, .rng 1 630⟩, ⟨15, 0, .sebw, .lane, 300, .rng 1 300⟩]⟩,
   ⟨0x400A0080, 1, 0x4, 1, 0x4,
     [⟨31, 0, .sebw, .lane, 0, .any⟩]⟩,
   ⟨0x400A0084, 1, 0x4, 1, 0x4,
     [⟨31, 0, .sebw, .lane, 0, .any⟩]⟩,
   ⟨0x400A0088, 1, 0x4, 1, 0x4,
     [⟨31, 0, .sebw, .lane, 0, .any⟩]⟩ ]

/-- Registers of block SEB, part 2. -/
def regRowsSEB2 : List RegRow :=
  [
   ⟨0x400A008C, 1, 0x4, 1, 0x4,
     [⟨31, 0, .sebw, .lane, 0, .any⟩]⟩,
   ⟨0x400A0090, 1, 0x4, 1, 0x4,
     [⟨31, 16, .sebw, .lane, 1000, .rng 100 6000⟩, ⟨15, 0, .sebw, .lane, 1000, .rng 100 3000⟩]⟩,
   ⟨0x400A0094, 1, 0x4, 1, 0x4,
     [⟨31, 16, .sebw, .lane, 10000, .rng 1000 50000⟩, ⟨1, 1, .sebw, .lane, 0, .any⟩, ⟨0, 0, .sebw, .lane, 0, .any⟩]⟩,
   ⟨0x400A0098, 1, 0x4, 1, 0x4,
     [⟨31, 31, .sebw, .lane, 0, .any⟩, ⟨15, 8, .sebw, .lane, 20, .rng 1 100⟩]⟩ ]

/-- Registers of block FIO, part 0. -/
def regRowsFIO0 : List RegRow :=
  [
   ⟨0x400B0000, 1, 0x4, 1, 0x4,
     [⟨31, 30, .ro, .carrier, 3, .any⟩, ⟨29, 29, .ro, .carrier, 1, .any⟩, ⟨28, 27, .ro, .carrier, 1, .any⟩, ⟨26, 26, .ro, .carrier, 0, .any⟩, ⟨25, 25, .ro, .carrier, 0, .any⟩, ⟨11, 11, .w1c, .carrier, 0, .any⟩, ⟨10, 10, .w1c, .carrier, 0, .any⟩, ⟨9, 9, .w1c, .carrier, 0, .any⟩, ⟨8, 8, .w1c, .carrier, 0, .any⟩, ⟨7, 7, .w1c, .carrier, 0, .any⟩, ⟨6, 6, .w1c, .carrier, 0, .any⟩, ⟨5, 5, .w1c, .carrier, 0, .any⟩, ⟨4, 4, .w1c, .carrier, 0, .any⟩, ⟨3, 3, .w1c, .carrier, 0, .any⟩, ⟨2, 2, .w1c, .carrier, 0, .any⟩]⟩,
   ⟨0x400B0004, 1, 0x4, 1, 0x4,
     [⟨15, 0, .ro, .carrier, 0, .any⟩]⟩,
   ⟨0x400B0008, 1, 0x4, 1, 0x4,
     [⟨31, 16, .cmd, .carrier, 0, .any⟩, ⟨3, 0, .cmd, .carrier, 0, .le 2⟩]⟩,
   ⟨0x400B000C, 1, 0x4, 1, 0x4,
     [⟨0, 0, .rwl, .carrier, 0, .any⟩]⟩,
   ⟨0x400B0010, 1, 0x4, 1, 0x4,
     [⟨7, 0, .rw, .carrier, 0, .any⟩]⟩,
   ⟨0x400B0014, 1, 0x4, 1, 0x4,
     [⟨6, 0, .mkr, .carrier, 20, .rng 5 100⟩]⟩,
   ⟨0x400B0020, 1, 0x4, 1, 0x4,
     [⟨23, 0, .ro, .carrier, 0, .any⟩]⟩,
   ⟨0x400B0024, 3, 0x4, 1, 0x4,
     [⟨31, 0, .ro, .carrier, 0, .any⟩]⟩,
   ⟨0x400B0030, 1, 0x4, 1, 0x4,
     [⟨31, 16, .ro, .carrier, 0, .any⟩, ⟨6, 0, .ro, .carrier, 0, .any⟩]⟩,
   ⟨0x400B0034, 1, 0x4, 1, 0x4,
     [⟨0, 0, .cmd, .carrier, 0, .any⟩]⟩,
   ⟨0x400B0038, 1, 0x4, 1, 0x4,
     [⟨31, 0, .ro, .carrier, 0, .any⟩]⟩,
   ⟨0x400B003C, 1, 0x4, 1, 0x4,
     [⟨24, 24, .ro, .carrier, 0, .any⟩, ⟨20, 16, .ro, .carrier, 0, .any⟩, ⟨15, 0, .ro, .carrier, 0, .any⟩]⟩ ]

/-- Registers of block FIO, part 1. -/
def regRowsFIO1 : List RegRow :=
  [
   ⟨0x400B0040, 24, 0x4, 1, 0x4,
     [⟨31, 30, .sebw, .carrier, 0, .le 2⟩, ⟨26, 24, .sebw, .carrier, 0, .le 4⟩, ⟨20, 16, .sebw, .carrier, 5, .rng 1 20⟩]⟩,
   ⟨0x400B00A0, 1, 0x4, 1, 0x4,
     [⟨7, 0, .rw, .carrier, 0, .any⟩]⟩,
   ⟨0x400B00A4, 1, 0x4, 1, 0x4,
     [⟨15, 14, .rwl, .carrier, 0, .le 2⟩, ⟨13, 12, .rwl, .carrier, 0, .le 2⟩, ⟨11, 10, .rwl, .carrier, 0, .le 2⟩, ⟨9, 8, .rwl, .carrier, 0, .le 2⟩, ⟨7, 6, .rwl, .carrier, 0, .le 2⟩, ⟨5, 4, .rwl, .carrier, 0, .le 2⟩, ⟨3, 2, .rwl, .carrier, 0, .le 2⟩, ⟨1, 0, .rwl, .carrier, 0, .le 2⟩]⟩,
   ⟨0x400B00A8, 1, 0x4, 1, 0x4,
     [⟨25, 20, .rwl, .carrier, 8, .rng 1 63⟩, ⟨19, 14, .rwl, .carrier, 4, .rng 1 63⟩, ⟨13, 8, .rwl, .carrier, 1, .rng 1 63⟩, ⟨7, 0, .rwl, .carrier, 200, .rng 100 250⟩]⟩,
   ⟨0x400B00AC, 1, 0x4, 1, 0x4,
     [⟨7, 0, .rwl, .carrier, 0, .any⟩]⟩,
   ⟨0x400B00B0, 1, 0x4, 1, 0x4,
     [⟨15, 0, .ro, .carrier, 0, .any⟩]⟩,
   ⟨0x400B00B4, 1, 0x4, 1, 0x4,
     [⟨30, 30, .ro, .carrier, 0, .any⟩, ⟨29, 28, .ro, .carrier, 0, .any⟩, ⟨26, 24, .ro, .carrier, 0, .any⟩, ⟨22, 22, .ro, .carrier, 0, .any⟩, ⟨21, 20, .ro, .carrier, 0, .any⟩, ⟨18, 16, .ro, .carrier, 0, .any⟩, ⟨14, 14, .ro, .carrier, 0, .any⟩, ⟨13, 12, .ro, .carrier, 0, .any⟩, ⟨10, 8, .ro, .carrier, 0, .any⟩, ⟨6, 6, .ro, .carrier, 0, .any⟩, ⟨5, 4, .ro, .carrier, 0, .any⟩, ⟨2, 0, .ro, .carrier, 0, .any⟩]⟩,
   ⟨0x400B00B8, 2, 0x4, 1, 0x4,
     [⟨31, 0, .ro, .carrier, 0, .any⟩]⟩,
   ⟨0x400B00C0, 1, 0x4, 1, 0x4,
     [⟨24, 24, .ro, .carrier, 0, .any⟩, ⟨23, 22, .ro, .carrier, 0, .any⟩, ⟨20, 16, .ro, .carrier, 0, .any⟩, ⟨8, 8, .ro, .carrier, 0, .any⟩, ⟨7, 4, .ro, .carrier, 0, .any⟩, ⟨3, 0, .ro, .carrier, 0, .any⟩]⟩,
   ⟨0x400B00C4, 2, 0x4, 1, 0x4,
     [⟨31, 0, .ro, .carrier, 0, .any⟩]⟩ ]

/-- Registers of block LNK, part 0. -/
def regRowsLNK0 : List RegRow :=
  [
   ⟨0x400C0000, 1, 0x4, 1, 0x4,
     [⟨3, 0, .cmd, .lane, 0, .le 4⟩]⟩,
   ⟨0x400C0004, 1, 0x4, 1, 0x4,
     [⟨31, 28, .ro, .lane, 0, .any⟩, ⟨27, 24, .ro, .lane, 15, .any⟩, ⟨23, 23, .ro, .lane, 0, .any⟩, ⟨22, 22, .ro, .lane, 0, .any⟩, ⟨21, 21, .ro, .lane, 0, .any⟩, ⟨20, 20, .ro, .lane, 0, .any⟩, ⟨19, 16, .ro, .lane, 0, .any⟩, ⟨11, 11, .rws, .lane, 0, .any⟩, ⟨10, 10, .rws, .lane, 0, .any⟩, ⟨9, 9, .rws, .lane, 0, .any⟩, ⟨8, 8, .rws, .lane, 0, .any⟩, ⟨7, 7, .rws, .lane, 0, .any⟩, ⟨6, 6, .rws, .lane, 0, .any⟩, ⟨5, 5, .rws, .lane, 0, .any⟩, ⟨4, 4, .rws, .lane, 0, .any⟩, ⟨3, 3, .rws, .lane, 0, .any⟩, ⟨2, 2, .rws, .lane, 0, .any⟩]⟩,
   ⟨0x400C0008, 1, 0x4, 1, 0x4,
     [⟨31, 0, .ro, .lane, 0, .any⟩]⟩,
   ⟨0x400C000C, 1, 0x4, 1, 0x4,
     [⟨31, 0, .ro, .lane, 0, .any⟩]⟩,
   ⟨0x400C0010, 1, 0x4, 1, 0x4,
     [⟨1, 1, .cmd, .lane, 0, .any⟩, ⟨0, 0, .cmd, .lane, 0, .any⟩]⟩,
   ⟨0x400C0014, 1, 0x4, 1, 0x4,
     [⟨31, 0, .ro, .lane, 0, .any⟩]⟩,
   ⟨0x400C0018, 1, 0x4, 1, 0x4,
     [⟨31, 24, .ro, .lane, 0, .any⟩, ⟨23, 16, .ro, .lane, 0, .any⟩, ⟨15, 8, .ro, .lane, 0, .any⟩, ⟨7, 0, .ro, .lane, 0, .any⟩]⟩,
   ⟨0x400C001C, 1, 0x4, 1, 0x4,
     [⟨0, 0, .rwl, .lane, 0, .any⟩]⟩,
   ⟨0x400C0020, 1, 0x4, 1, 0x4,
     [⟨31, 31, .mkr, .lane, 0, .any⟩, ⟨23, 16, .mkr, .lane, 13, .rng 1 255⟩, ⟨15, 0, .mkr, .lane, 1000, .rng 100 10000⟩]⟩,
   ⟨0x400C0040, 16, 0x8, 1, 0x4,
     [⟨31, 0, .mkr, .lane, 0, .any⟩]⟩,
   ⟨0x400C0044, 16, 0x8, 1, 0x4,
     [⟨31, 0, .mkr, .lane, 0, .any⟩]⟩,
   ⟨0x400C00C0, 1, 0x4, 1, 0x4,
     [⟨31, 0, .ro, .lane, 0, .any⟩]⟩ ]

/-- Registers of block LNK, part 1. -/
def regRowsLNK1 : List RegRow :=
  [
   ⟨0x400C00C4, 1, 0x4, 1, 0x4,
     [⟨31, 16, .ro, .lane, 0, .any⟩, ⟨5, 0, .ro, .lane, 0, .any⟩]⟩,
   ⟨0x400C00C8, 1, 0x4, 1, 0x4,
     [⟨31, 16, .ro, .carrier, 0, .any⟩, ⟨1, 0, .ro, .carrier, 0, .any⟩]⟩,
   ⟨0x400C00CC, 1, 0x4, 1, 0x4,
     [⟨31, 0, .ro, .lane, 0, .any⟩]⟩,
   ⟨0x400C00D0, 1, 0x4, 1, 0x4,
     [⟨15, 0, .ro, .lane, 0, .any⟩]⟩,
   ⟨0x400C00E0, 1, 0x4, 1, 0x4,
     [⟨3, 0, .mkr, .lane, 0, .le 3⟩]⟩,
   ⟨0x400C00E4, 1, 0x4, 1, 0x4,
     [⟨31, 29, .ro, .lane, 0, .any⟩, ⟨28, 28, .ro, .lane, 0, .any⟩, ⟨27, 27, .ro, .lane, 0, .any⟩, ⟨26, 26, .ro, .lane, 0, .any⟩, ⟨25, 25, .ro, .lane, 0, .any⟩, ⟨24, 24, .ro, .lane, 0, .any⟩, ⟨9, 0, .ro, .lane, 0, .any⟩]⟩ ]

/-- Registers of block CAN, part 0. -/
def regRowsCAN0 : List RegRow :=
  [
   ⟨0x400D0000, 4, 0x4000, 1, 0x4,
     [⟨31, 29, .rw, .block, 0, .le 5⟩, ⟨28, 28, .rw, .block, 1, .any⟩, ⟨27, 27, .rwl, .lane, 1, .any⟩]⟩,
   ⟨0x400D0004, 4, 0x4000, 1, 0x4,
     [⟨31, 30, .ro, .block, 0, .any⟩, ⟨29, 27, .ro, .block, 0, .any⟩, ⟨26, 26, .ro, .block, 0, .any⟩, ⟨25, 25, .ro, .block, 0, .any⟩, ⟨24, 24, .ro, .block, 0, .any⟩, ⟨23, 23, .ro, .block, 0, .any⟩, ⟨22, 21, .ro, .block, 0, .any⟩, ⟨15, 15, .rws, .lane, 0, .any⟩, ⟨14, 14, .rws, .lane, 0, .any⟩, ⟨13, 13, .rws, .lane, 0, .any⟩, ⟨12, 12, .rws, .lane, 0, .any⟩, ⟨11, 11, .rws, .lane, 0, .any⟩, ⟨10, 10, .rws, .lane, 0, .any⟩, ⟨9, 9, .rws, .lane, 0, .any⟩, ⟨8, 8, .rws, .lane, 0, .any⟩, ⟨7, 7, .rws, .lane, 0, .any⟩, ⟨6, 6, .rws, .lane, 0, .any⟩]⟩,
   ⟨0x400D0008, 4, 0x4000, 1, 0x4,
     [⟨3, 0, .cmd, .block, 0, .le 3⟩]⟩,
   ⟨0x400D000C, 4, 0x4000, 1, 0x4,
     [⟨15, 8, .ro, .block, 0, .any⟩, ⟨7, 0, .ro, .block, 0, .any⟩]⟩,
   ⟨0x400D0010, 4, 0x4000, 1, 0x4,
     [⟨31, 24, .rwl, .lane, 63, .rng 1 255⟩, ⟨23, 17, .rwl, .lane, 16, .rng 1 127⟩, ⟨16, 10, .rwl, .lane, 16, .rng 1 127⟩, ⟨4, 0, .rwl, .lane, 2, .rng 1 31⟩]⟩,
   ⟨0x400D0014, 4, 0x4000, 1, 0x4,
     [⟨31, 27, .rwl, .lane, 6, .rng 1 31⟩, ⟨26, 23, .rwl, .lane, 3, .rng 1 15⟩, ⟨22, 19, .rwl, .lane, 3, .rng 1 15⟩, ⟨18, 14, .rwl, .lane, 1, .rng 1 31⟩, ⟨13, 13, .rwl, .lane, 1, .any⟩, ⟨7, 0, .rwl, .lane, 7, .le 127⟩]⟩,
   ⟨0x400D0018, 4, 0x4000, 1, 0x4,
     [⟨31, 31, .rwl, .lane, 1, .any⟩, ⟨20, 16, .rwl, .lane, 8, .any⟩, ⟨12, 8, .rwl, .lane, 4, .any⟩, ⟨3, 0, .rwl, .lane, 1, .any⟩]⟩,
   ⟨0x400D001C, 4, 0x4000, 1, 0x4,
     [⟨20, 16, .ro, .block, 0, .any⟩, ⟨12, 8, .ro, .block, 0, .any⟩]⟩,
   ⟨0x400D0020, 4, 0x4000, 1, 0x4,
     [⟨31, 28, .rw, .block, 15, .any⟩, ⟨27, 16, .rw, .block, 200, .rng 10 2000⟩, ⟨7, 0, .rw, .block, 10, .rng 1 255⟩]⟩,
   ⟨0x400D0024, 4, 0x4000, 1, 0x4,
     [⟨9, 0, .rwl, .lane, 100, .rng 10 1000⟩]⟩,
   ⟨0x400D0028, 4, 0x4000, 1, 0x4,
     [⟨9, 8, .rw, .block, 3, .any⟩, ⟨5, 4, .rw, .block, 3, .any⟩, ⟨1, 0, .rw, .block, 1, .le 2⟩]⟩,
   ⟨0x400D002C, 4, 0x4000, 1, 0x4,
     [⟨12, 12, .rwl, .lane, 0, .any⟩, ⟨11, 8, .rwl, .lane, 0, .any⟩, ⟨4, 4, .rwl, .lane, 1, .any⟩, ⟨1, 0, .rwl, .lane, 1, .le 2⟩]⟩ ]

/-- Registers of block CAN, part 1. -/
def regRowsCAN1 : List RegRow :=
  [
   ⟨0x400D0030, 4, 0x4000, 1, 0x4,
     [⟨29, 29, .rwl, .lane, 0, .any⟩, ⟨28, 0, .rwl, .lane, 0, .any⟩]⟩,
   ⟨0x400D0034, 4, 0x4000, 1, 0x4,
     [⟨29, 29, .rwl, .lane, 0, .any⟩, ⟨28, 0, .rwl, .lane, 0, .any⟩]⟩,
   ⟨0x400D0038, 4, 0x4000, 2, 0x4,
     [⟨31, 0, .rwl, .lane, 0, .any⟩]⟩,
   ⟨0x400D0040, 4, 0x4000, 2, 0x4,
     [⟨31, 0, .rwl, .lane, 0, .any⟩]⟩,
   ⟨0x400D0048, 4, 0x4000, 1, 0x4,
     [⟨2, 0, .ro, .block, 0, .any⟩]⟩,
   ⟨0x400D004C, 4, 0x4000, 4, 0x4,
     [⟨31, 0, .ro, .block, 0, .any⟩]⟩,
   ⟨0x400D005C, 4, 0x4000, 1, 0x4,
     [⟨26, 16, .mkr, .lane, 2047, .any⟩, ⟨10, 0, .mkr, .lane, 2032, .any⟩]⟩,
   ⟨0x400D0060, 4, 0x4000, 1, 0x4,
     [⟨31, 24, .ro, .block, 0, .any⟩, ⟨23, 16, .ro, .block, 0, .any⟩, ⟨15, 8, .ro, .block, 0, .any⟩, ⟨7, 0, .ro, .block, 0, .any⟩]⟩,
   ⟨0x400D0064, 4, 0x4000, 1, 0x4,
     [⟨31, 24, .ro, .block, 0, .any⟩, ⟨23, 16, .ro, .block, 0, .any⟩, ⟨15, 8, .ro, .block, 0, .any⟩, ⟨7, 0, .ro, .block, 0, .any⟩]⟩,
   ⟨0x400D0068, 4, 0x4000, 1, 0x4,
     [⟨7, 0, .ro, .block, 0, .any⟩]⟩,
   ⟨0x400D0070, 4, 0x4000, 1, 0x4,
     [⟨31, 31, .rw, .block, 0, .any⟩, ⟨3, 0, .cmd, .block, 0, .le 1⟩]⟩,
   ⟨0x400D0074, 4, 0x4000, 1, 0x4,
     [⟨31, 31, .ro, .block, 0, .any⟩, ⟨30, 28, .ro, .block, 0, .any⟩, ⟨26, 16, .ro, .block, 0, .any⟩, ⟨10, 0, .ro, .block, 0, .any⟩]⟩ ]

/-- Registers of block CAN, part 2. -/
def regRowsCAN2 : List RegRow :=
  [
   ⟨0x400D0078, 4, 0x4000, 1, 0x4,
     [⟨10, 0, .ro, .block, 0, .any⟩]⟩,
   ⟨0x400D0080, 4, 0x4000, 1, 0x4,
     [⟨31, 31, .rw, .block, 0, .any⟩, ⟨30, 30, .rw, .block, 0, .any⟩, ⟨29, 29, .rw, .block, 0, .any⟩, ⟨28, 0, .rw, .block, 0, .any⟩]⟩,
   ⟨0x400D0084, 4, 0x4000, 1, 0x4,
     [⟨5, 5, .rw, .block, 0, .any⟩, ⟨4, 4, .rw, .block, 0, .any⟩, ⟨3, 0, .rw, .block, 0, .any⟩]⟩,
   ⟨0x400D0088, 4, 0x4000, 1, 0x4,
     [⟨0, 0, .cmd, .block, 0, .any⟩]⟩,
   ⟨0x400D008C, 4, 0x4000, 1, 0x4,
     [⟨13, 8, .ro, .block, 28, .any⟩, ⟨4, 0, .ro, .block, 0, .any⟩]⟩,
   ⟨0x400D0090, 4, 0x4000, 1, 0x4,
     [⟨31, 0, .ro, .block, 0, .any⟩]⟩,
   ⟨0x400D00C0, 4, 0x4000, 16, 0x4,
     [⟨31, 0, .rw, .block, 0, .any⟩]⟩,
   ⟨0x400D0180, 4, 0x4000, 2, 0x4,
     [⟨0, 0, .cmd, .block, 0, .any⟩]⟩,
   ⟨0x400D0190, 4, 0x4000, 2, 0x4,
     [⟨5, 0, .ro, .block, 0, .any⟩]⟩,
   ⟨0x400D0200, 4, 0x4000, 2, 0x100,
     [⟨31, 0, .ro, .block, 0, .any⟩]⟩,
   ⟨0x400D0204, 4, 0x4000, 2, 0x100,
     [⟨31, 0, .ro, .block, 0, .any⟩]⟩,
   ⟨0x400D0208, 4, 0x4000, 2, 0x100,
     [⟨31, 0, .ro, .block, 0, .any⟩]⟩ ]

/-- Registers of block CAN, part 3. -/
def regRowsCAN3 : List RegRow :=
  [
   ⟨0x400D020C, 4, 0x4000, 2, 0x100,
     [⟨31, 0, .ro, .block, 0, .any⟩]⟩,
   ⟨0x400D0210, 4, 0x4000, 16, 0x4,
     [⟨31, 0, .ro, .block, 0, .any⟩]⟩,
   ⟨0x400D0310, 4, 0x4000, 16, 0x4,
     [⟨31, 0, .ro, .block, 0, .any⟩]⟩,
   ⟨0x400D1000, 4, 0x4000, 32, 0x80,
     [⟨31, 0, .ro, .block, 0, .any⟩]⟩,
   ⟨0x400D1004, 4, 0x4000, 32, 0x80,
     [⟨31, 0, .ro, .block, 0, .any⟩]⟩,
   ⟨0x400D1008, 4, 0x4000, 32, 0x80,
     [⟨31, 0, .ro, .block, 0, .any⟩]⟩,
   ⟨0x400D100C, 4, 0x4000, 32, 0x80,
     [⟨3, 0, .cmd, .block, 0, .le 2⟩]⟩,
   ⟨0x400D1010, 4, 0x4000, 32, 0x80,
     [⟨31, 0, .ro, .block, 0, .any⟩]⟩,
   ⟨0x400D1014, 4, 0x4000, 32, 0x80,
     [⟨31, 0, .ro, .block, 0, .any⟩]⟩,
   ⟨0x400D1018, 4, 0x4000, 32, 0x80,
     [⟨31, 0, .ro, .block, 0, .any⟩]⟩,
   ⟨0x400D101C, 4, 0x4000, 32, 0x80,
     [⟨31, 0, .ro, .block, 0, .any⟩]⟩,
   ⟨0x400D1020, 4, 0x4000, 32, 0x80,
     [⟨31, 0, .ro, .block, 0, .any⟩]⟩ ]

/-- Registers of block CAN, part 4. -/
def regRowsCAN4 : List RegRow :=
  [
   ⟨0x400D1024, 4, 0x4000, 32, 0x80,
     [⟨31, 0, .ro, .block, 0, .any⟩]⟩,
   ⟨0x400D1028, 4, 0x4000, 32, 0x80,
     [⟨31, 0, .ro, .block, 0, .any⟩]⟩,
   ⟨0x400D102C, 4, 0x4000, 32, 0x80,
     [⟨31, 0, .ro, .block, 0, .any⟩]⟩,
   ⟨0x400D1030, 4, 0x4000, 32, 0x80,
     [⟨31, 0, .ro, .block, 0, .any⟩]⟩,
   ⟨0x400D1034, 4, 0x4000, 32, 0x80,
     [⟨31, 0, .ro, .block, 0, .any⟩]⟩,
   ⟨0x400D1038, 4, 0x4000, 32, 0x80,
     [⟨31, 0, .ro, .block, 0, .any⟩]⟩,
   ⟨0x400D103C, 4, 0x4000, 32, 0x80,
     [⟨31, 0, .ro, .block, 0, .any⟩]⟩,
   ⟨0x400D1040, 4, 0x4000, 32, 0x80,
     [⟨31, 0, .ro, .block, 0, .any⟩]⟩,
   ⟨0x400D1044, 4, 0x4000, 32, 0x80,
     [⟨31, 0, .ro, .block, 0, .any⟩]⟩,
   ⟨0x400D1048, 4, 0x4000, 32, 0x80,
     [⟨31, 0, .ro, .block, 0, .any⟩]⟩,
   ⟨0x400D104C, 4, 0x4000, 32, 0x80,
     [⟨31, 0, .ro, .block, 0, .any⟩]⟩ ]

/-- Registers of block PIC, part 0. -/
def regRowsPIC0 : List RegRow :=
  [
   ⟨0x400E0000, 1, 0x4, 1, 0x4,
     [⟨31, 31, .rw, .quarter, 0, .any⟩, ⟨30, 30, .rw, .quarter, 0, .any⟩, ⟨29, 29, .rw, .quarter, 0, .any⟩, ⟨3, 0, .cmd, .quarter, 0, .le 1⟩]⟩,
   ⟨0x400E0004, 1, 0x4, 1, 0x4,
     [⟨31, 30, .ro, .quarter, 0, .any⟩, ⟨29, 25, .ro, .quarter, 0, .any⟩, ⟨24, 20, .ro, .quarter, 0, .any⟩, ⟨19, 19, .ro, .quarter, 0, .any⟩, ⟨18, 18, .ro, .quarter, 0, .any⟩, ⟨17, 17, .ro, .quarter, 1, .any⟩, ⟨16, 16, .ro, .quarter, 1, .any⟩, ⟨15, 15, .ro, .quarter, 0, .any⟩, ⟨14, 14, .ro, .quarter, 0, .any⟩, ⟨13, 13, .ro, .quarter, 0, .any⟩, ⟨12, 8, .ro, .fixed, 0, .any⟩, ⟨7, 7, .rws, .lane, 0, .any⟩, ⟨6, 6, .rws, .lane, 0, .any⟩, ⟨5, 5, .rws, .lane, 0, .any⟩, ⟨4, 4, .rws, .lane, 0, .any⟩, ⟨3, 3, .rws, .lane, 0, .any⟩, ⟨2, 2, .rws, .lane, 0, .any⟩, ⟨1, 1, .rws, .lane, 0, .any⟩, ⟨0, 0, .rws, .lane, 0, .any⟩]⟩,
   ⟨0x400E0008, 1, 0x4, 1, 0x4,
     [⟨31, 0, .ro, .quarter, 0, .any⟩]⟩,
   ⟨0x400E000C, 1, 0x4, 1, 0x4,
     [⟨31, 0, .ro, .quarter, 0, .any⟩]⟩,
   ⟨0x400E0010, 1, 0x4, 1, 0x4,
     [⟨15, 12, .ro, .quarter, 0, .any⟩, ⟨11, 8, .ro, .quarter, 0, .any⟩, ⟨1, 1, .ro, .quarter, 0, .any⟩, ⟨0, 0, .ro, .quarter, 0, .any⟩]⟩,
   ⟨0x400E0014, 1, 0x4, 1, 0x4,
     [⟨31, 31, .rwl, .lane, 1, .any⟩, ⟨11, 8, .rwl, .lane, 15, .any⟩, ⟨7, 4, .rwl, .lane, 0, .any⟩, ⟨3, 0, .rwl, .lane, 6, .any⟩]⟩,
   ⟨0x400E0018, 1, 0x4, 1, 0x4,
     [⟨31, 0, .ro, .quarter, 0, .any⟩]⟩,
   ⟨0x400E001C, 2, 0x4, 1, 0x4,
     [⟨31, 0, .ro, .quarter, 0, .any⟩]⟩,
   ⟨0x400E0024, 1, 0x4, 1, 0x4,
     [⟨31, 0, .ro, .quarter, 0, .any⟩]⟩,
   ⟨0x400E0028, 1, 0x4, 1, 0x4,
     [⟨15, 0, .ro, .quarter, 0, .any⟩]⟩,
   ⟨0x400E002C, 1, 0x4, 1, 0x4,
     [⟨31, 24, .ro, .quarter, 0, .any⟩, ⟨23, 16, .ro, .quarter, 0, .any⟩, ⟨15, 8, .ro, .quarter, 0, .any⟩, ⟨7, 0, .ro, .quarter, 0, .any⟩]⟩,
   ⟨0x400E0030, 1, 0x4, 1, 0x4,
     [⟨31, 16, .rwl, .lane, 1024, .rng 256 4096⟩, ⟨15, 0, .rwl, .lane, 60, .le 1000⟩]⟩ ]

/-- Registers of block PIC, part 1. -/
def regRowsPIC1 : List RegRow :=
  [
   ⟨0x400E0038, 2, 0x4, 1, 0x4,
     [⟨31, 0, .ro, .fixed, 0, .any⟩]⟩,
   ⟨0x400E0040, 1, 0x4, 1, 0x4,
     [⟨24, 16, .rw, .quarter, 0, .any⟩, ⟨15, 8, .rw, .quarter, 0, .any⟩, ⟨7, 0, .rw, .quarter, 0, .any⟩]⟩,
   ⟨0x400E0044, 1, 0x4, 1, 0x4,
     [⟨0, 0, .cmd, .quarter, 0, .any⟩]⟩,
   ⟨0x400E0048, 1, 0x4, 1, 0x4,
     [⟨4, 0, .ro, .quarter, 0, .any⟩]⟩,
   ⟨0x400E0100, 64, 0x4, 1, 0x4,
     [⟨31, 0, .rw, .quarter, 0, .any⟩]⟩,
   ⟨0x400E0200, 1, 0x4, 1, 0x4,
     [⟨0, 0, .cmd, .quarter, 0, .any⟩]⟩,
   ⟨0x400E0204, 1, 0x4, 1, 0x4,
     [⟨5, 0, .ro, .quarter, 0, .any⟩]⟩,
   ⟨0x400E0400, 68, 0x4, 1, 0x4,
     [⟨31, 0, .ro, .quarter, 0, .any⟩]⟩ ]

/-- Registers of block MEA, part 0. -/
def regRowsMEA0 : List RegRow :=
  [
   ⟨0x40130000, 1, 0x4, 1, 0x4,
     [⟨31, 28, .cmd, .lane, 0, .le 2⟩, ⟨13, 8, .cmd, .lane, 0, .any⟩, ⟨2, 0, .cmd, .lane, 0, .any⟩]⟩,
   ⟨0x40130004, 1, 0x4, 1, 0x4,
     [⟨31, 31, .ro, .lane, 0, .any⟩, ⟨30, 30, .ro, .lane, 0, .any⟩, ⟨29, 29, .ro, .lane, 0, .any⟩, ⟨15, 0, .ro, .lane, 0, .any⟩]⟩,
   ⟨0x40130008, 1, 0x4, 1, 0x4,
     [⟨10, 0, .ro, .fixed, 0, .any⟩]⟩,
   ⟨0x40130010, 8, 0x4, 1, 0x4,
     [⟨31, 0, .rw, .lane, 0, .any⟩]⟩,
   ⟨0x40130030, 8, 0x4, 1, 0x4,
     [⟨31, 0, .rw, .lane, 0, .any⟩]⟩,
   ⟨0x40130100, 8, 0x20, 8, 0x4,
     [⟨31, 0, .ro, .lane, 0, .any⟩]⟩,
   ⟨0x40130400, 96, 0x4, 1, 0x4,
     [⟨31, 0, .ro, .lane, 0, .any⟩]⟩,
   ⟨0x40130800, 256, 0x4, 1, 0x4,
     [⟨31, 0, .ro, .fixed, 0, .any⟩]⟩ ]

/-- Registers of block PWR, part 0. -/
def regRowsPWR0 : List RegRow :=
  [
   ⟨0x40140000, 1, 0x4, 1, 0x4,
     [⟨3, 0, .cmd, .lane, 0, .le 3⟩]⟩,
   ⟨0x40140004, 1, 0x4, 1, 0x4,
     [⟨31, 30, .ro, .lane, 0, .any⟩, ⟨29, 29, .ro, .carrier, 0, .any⟩, ⟨28, 28, .ro, .carrier, 0, .any⟩, ⟨7, 7, .w1c, .carrier, 0, .any⟩, ⟨6, 6, .w1c, .carrier, 0, .any⟩, ⟨5, 5, .w1c, .carrier, 0, .any⟩, ⟨4, 4, .w1c, .carrier, 0, .any⟩, ⟨3, 3, .w1c, .carrier, 0, .any⟩]⟩,
   ⟨0x40140008, 1, 0x4, 1, 0x4,
     [⟨23, 0, .rwl, .carrier, 0, .any⟩, ⟨27, 24, .rwl, .carrier, 15, .any⟩, ⟨28, 28, .rwl, .carrier, 1, .any⟩, ⟨29, 29, .rwl, .carrier, 1, .any⟩]⟩,
   ⟨0x4014000C, 1, 0x4, 1, 0x4,
     [⟨3, 0, .rw, .carrier, 0, .any⟩, ⟨8, 4, .rw, .carrier, 0, .any⟩, ⟨23, 16, .rw, .carrier, 0, .any⟩]⟩,
   ⟨0x40140010, 1, 0x4, 1, 0x4,
     [⟨7, 0, .rwl, .carrier, 27, .rng 27 50⟩]⟩ ]

/-- Registers of block USB, part 0. -/
def regRowsUSB0 : List RegRow :=
  [
   ⟨0x400F0000, 1, 0x4, 1, 0x4,
     [⟨31, 31, .rw, .block, 0, .any⟩]⟩,
   ⟨0x400F0004, 1, 0x4, 1, 0x4,
     [⟨31, 31, .ro, .block, 0, .any⟩, ⟨30, 30, .ro, .block, 0, .any⟩, ⟨29, 29, .ro, .block, 0, .any⟩, ⟨0, 0, .rws, .lane, 0, .any⟩]⟩,
   ⟨0x400F0010, 1, 0x4, 1, 0x4,
     [⟨2, 0, .ro, .block, 0, .any⟩, ⟨14, 8, .ro, .block, 0, .any⟩]⟩,
   ⟨0x400F0014, 1, 0x4, 1, 0x4,
     [⟨0, 0, .cmd, .block, 0, .any⟩]⟩,
   ⟨0x400F0020, 1, 0x4, 1, 0x4,
     [⟨6, 0, .rw, .block, 0, .any⟩]⟩,
   ⟨0x400F0024, 1, 0x4, 1, 0x4,
     [⟨0, 0, .cmd, .block, 0, .any⟩]⟩,
   ⟨0x400F0028, 1, 0x4, 1, 0x4,
     [⟨2, 0, .ro, .block, 0, .any⟩]⟩,
   ⟨0x400F0100, 16, 0x4, 1, 0x4,
     [⟨31, 0, .ro, .block, 0, .any⟩]⟩,
   ⟨0x400F0200, 16, 0x4, 1, 0x4,
     [⟨31, 0, .rw, .block, 0, .any⟩]⟩,
   ⟨0x400F8000, 1, 0x4, 1, 0x4,
     [⟨1, 0, .rw, .block, 0, .any⟩, ⟨15, 8, .rw, .block, 8, .rng 4 40⟩]⟩,
   ⟨0x400F8004, 1, 0x4, 1, 0x4,
     [⟨31, 28, .cmd, .block, 0, .le 1⟩, ⟨3, 0, .cmd, .block, 0, .any⟩]⟩,
   ⟨0x400F8008, 1, 0x4, 1, 0x4,
     [⟨31, 31, .ro, .block, 0, .any⟩, ⟨30, 30, .ro, .block, 0, .any⟩, ⟨15, 0, .ro, .block, 0, .any⟩]⟩ ]

/-- Registers of block USB, part 1. -/
def regRowsUSB1 : List RegRow :=
  [
   ⟨0x400F8010, 2, 0x4, 1, 0x4,
     [⟨31, 0, .rw, .block, 0, .any⟩]⟩,
   ⟨0x400F8018, 2, 0x4, 1, 0x4,
     [⟨31, 0, .ro, .block, 0, .any⟩]⟩ ]

/-- Registers of block NVM, part 0. -/
def regRowsNVM0 : List RegRow :=
  [
   ⟨0x40100000, 4, 0x20, 1, 0x4,
     [⟨31, 28, .cmd, .block, 0, .le 2⟩]⟩,
   ⟨0x40100004, 4, 0x20, 1, 0x4,
     [⟨31, 0, .rw, .block, 0, .any⟩]⟩,
   ⟨0x40100008, 4, 0x20, 4, 0x4,
     [⟨31, 0, .rw, .block, 0, .any⟩]⟩,
   ⟨0x40100018, 4, 0x20, 1, 0x4,
     [⟨31, 31, .ro, .block, 0, .any⟩, ⟨30, 30, .ro, .block, 0, .any⟩, ⟨23, 16, .ro, .block, 0, .any⟩, ⟨15, 0, .ro, .block, 0, .any⟩]⟩ ]

/-- The rows of the register block an address lies in (Table 18.1). -/
def blockRows (a : Nat) : List RegRow :=
  match a / 0x10000 with
  | 0x4000 => regRowsSYS0 ++ regRowsSYS1
  | 0x4001 => regRowsXCR0
  | 0x4002 => regRowsAVS0
  | 0x4003 => regRowsTAT0 ++ regRowsTAT1 ++ regRowsTAT2
  | 0x4004 => regRowsSPG0 ++ regRowsSPG1 ++ regRowsSPG2 ++ regRowsSPG3
  | 0x4005 => regRowsBOB0 ++ regRowsBOB1 ++ regRowsBOB2 ++ regRowsBOB3
  | 0x4006 => regRowsDRV0
  | 0x4007 => regRowsDOR0 ++ regRowsDOR1 ++ regRowsDOR2 ++ regRowsDOR3
  | 0x4008 => regRowsSEL0 ++ regRowsSEL1
  | 0x4009 => regRowsPRK0 ++ regRowsPRK1 ++ regRowsPRK2
  | 0x400A => regRowsSEB0 ++ regRowsSEB1 ++ regRowsSEB2
  | 0x400B => regRowsFIO0 ++ regRowsFIO1
  | 0x400C => regRowsLNK0 ++ regRowsLNK1
  | 0x400D => regRowsCAN0 ++ regRowsCAN1 ++ regRowsCAN2 ++ regRowsCAN3 ++ regRowsCAN4
  | 0x400E => regRowsPIC0 ++ regRowsPIC1
  | 0x400F => regRowsUSB0 ++ regRowsUSB1
  | 0x4010 => regRowsNVM0
  | 0x4011 => regRowsKEEP0
  | 0x4012 => regRowsTRC0
  | 0x4013 => regRowsMEA0
  | 0x4014 => regRowsPWR0
  | _ => []

/-- Registers of a lane that the manual resets to other than 0, part 0. -/
def laneResetRegs0 : List (Nat × Word) :=
  [(0x40000060, 0x1),
   (0x40000344, 0x384),
   (0x40010008, 0xFFFFFFFF),
   (0x4001000C, 0xFFFF),
   (0x40020000, 0x195012),
   (0x40020004, 0x8400),
   (0x40020008, 0x640084),
   (0x40020010, 0x64),
   (0x40030100, 0x10204E20),
   (0x4003010C, 0x6400),
   (0x40030120, 0x1),
   (0x40030124, 0x1014032),
   (0x40030140, 0x20200FA0),
   (0x4003014C, 0x6400),
   (0x40030160, 0x32),
   (0x40030164, 0x1014032),
   (0x40030180, 0x10209C40),
   (0x4003018C, 0x6400),
   (0x400301A4, 0x1014032),
   (0x400301C0, 0x20200FA0),
   (0x400301CC, 0x6400),
   (0x400301E0, 0x54),
   (0x400301E4, 0x1014032),
   (0x40030200, 0x10209C40),
   (0x4003020C, 0x6400),
   (0x40030224, 0x1014032),
   (0x40030240, 0x200000),
   (0x4003024C, 0x6400),
   (0x40030264, 0x1014032),
   (0x40030280, 0x200000),
   (0x4003028C, 0x6400),
   (0x400302A4, 0x1014032),
   (0x400302C0, 0x200000),
   (0x400302CC, 0x6400),
   (0x400302E4, 0x1014032),
   (0x40030400, 0x80000000),
   (0x40030404, 0x7FFFFFFF),
   (0x40030408, 0x80000000),
   (0x4003040C, 0x7FFFFFFF),
   (0x40030410, 0x80000000)]

/-- Registers of a lane that the manual resets to other than 0, part 1. -/
def laneResetRegs1 : List (Nat × Word) :=
  [(0x40030414, 0x7FFFFFFF),
   (0x40030418, 0x80000000),
   (0x4003041C, 0x7FFFFFFF),
   (0x40030420, 0x80000000),
   (0x40030424, 0x7FFFFFFF),
   (0x40030428, 0x80000000),
   (0x4003042C, 0x7FFFFFFF),
   (0x40030430, 0x80000000),
   (0x40030434, 0x7FFFFFFF),
   (0x40030438, 0x80000000),
   (0x4003043C, 0x7FFFFFFF),
   (0x40030440, 0x80000000),
   (0x40030444, 0x7FFFFFFF),
   (0x40030448, 0x80000000),
   (0x4003044C, 0x7FFFFFFF),
   (0x40030450, 0x80000000),
   (0x40030454, 0x7FFFFFFF),
   (0x40030458, 0x80000000),
   (0x4003045C, 0x7FFFFFFF),
   (0x40030460, 0x80000000),
   (0x40030464, 0x7FFFFFFF),
   (0x40030468, 0x80000000),
   (0x4003046C, 0x7FFFFFFF),
   (0x40030470, 0x80000000),
   (0x40030474, 0x7FFFFFFF),
   (0x40030478, 0x80000000),
   (0x4003047C, 0x7FFFFFFF),
   (0x40030480, 0x80000000),
   (0x40030484, 0x7FFFFFFF),
   (0x40030488, 0x80000000),
   (0x4003048C, 0x7FFFFFFF),
   (0x40030490, 0x80000000),
   (0x40030494, 0x7FFFFFFF),
   (0x40030498, 0x80000000),
   (0x4003049C, 0x7FFFFFFF),
   (0x400304A0, 0x80000000),
   (0x400304A4, 0x7FFFFFFF),
   (0x400304A8, 0x80000000),
   (0x400304AC, 0x7FFFFFFF),
   (0x400304B0, 0x80000000)]

/-- Registers of a lane that the manual resets to other than 0, part 2. -/
def laneResetRegs2 : List (Nat × Word) :=
  [(0x400304B4, 0x7FFFFFFF),
   (0x400304B8, 0x80000000),
   (0x400304BC, 0x7FFFFFFF),
   (0x400304C0, 0x80000000),
   (0x400304C4, 0x7FFFFFFF),
   (0x400304C8, 0x80000000),
   (0x400304CC, 0x7FFFFFFF),
   (0x400304D0, 0x80000000),
   (0x400304D4, 0x7FFFFFFF),
   (0x400304D8, 0x80000000),
   (0x400304DC, 0x7FFFFFFF),
   (0x400304E0, 0x80000000),
   (0x400304E4, 0x7FFFFFFF),
   (0x400304E8, 0x80000000),
   (0x400304EC, 0x7FFFFFFF),
   (0x400304F0, 0x80000000),
   (0x400304F4, 0x7FFFFFFF),
   (0x400304F8, 0x80000000),
   (0x400304FC, 0x7FFFFFFF),
   (0x40030800, 0x40000000),
   (0x40030820, 0x40000000),
   (0x40030840, 0x40000000),
   (0x40030860, 0x40000000),
   (0x40030880, 0x40000000),
   (0x400308A0, 0x40000000),
   (0x400308C0, 0x40000000),
   (0x400308E0, 0x40000000),
   (0x40030900, 0x40000000),
   (0x40030920, 0x40000000),
   (0x40030940, 0x40000000),
   (0x40030960, 0x40000000),
   (0x40030980, 0x40000000),
   (0x400309A0, 0x40000000),
   (0x400309C0, 0x40000000),
   (0x400309E0, 0x40000000),
   (0x40030A00, 0x40000000),
   (0x40030A20, 0x40000000),
   (0x40030A40, 0x40000000),
   (0x40030A60, 0x40000000),
   (0x40030A80, 0x40000000)]

/-- Registers of a lane that the manual resets to other than 0, part 3. -/
def laneResetRegs3 : List (Nat × Word) :=
  [(0x40030AA0, 0x40000000),
   (0x40030AC0, 0x40000000),
   (0x40030AE0, 0x40000000),
   (0x40030B00, 0x40000000),
   (0x40030B20, 0x40000000),
   (0x40030B40, 0x40000000),
   (0x40030B60, 0x40000000),
   (0x40030B80, 0x40000000),
   (0x40030BA0, 0x40000000),
   (0x40030BC0, 0x40000000),
   (0x40030BE0, 0x40000000),
   (0x40040010, 0x16E3600),
   (0x40040030, 0x16E3600),
   (0x40040034, 0x1E8480),
   (0x40040038, 0x2DC6C0),
   (0x4004003C, 0xF4240),
   (0x40040040, 0x7A120),
   (0x40040044, 0x7A120),
   (0x40040048, 0x2625A0),
   (0x4004004C, 0x186A0),
   (0x40040050, 0x14000032),
   (0x40040054, 0x9619191E),
   (0x40040058, 0x7D0),
   (0x4004005C, 0x326403E8),
   (0x40040080, 0x10000148),
   (0x40040084, 0x7D0),
   (0x40040088, 0x5F5E100),
   (0x4004008C, 0xFA007D0),
   (0x40040094, 0x320),
   (0x40040098, 0x400007D0),
   (0x400400A0, 0x10000),
   (0x40050000, 0x60000000),
   (0x40050010, 0x80000000),
   (0x40050014, 0x10000),
   (0x40050030, 0x1002000),
   (0x40050034, 0x4000),
   (0x40050038, 0x280000),
   (0x4005003C, 0x20000),
   (0x40050040, 0x320096),
   (0x40050044, 0xC803E8)]

/-- Registers of a lane that the manual resets to other than 0, part 4. -/
def laneResetRegs4 : List (Nat × Word) :=
  [(0x40050048, 0x2028F),
   (0x4005004C, 0xC350),
   (0x40050050, 0x138807D0),
   (0x40050054, 0x4E2047D0),
   (0x40050064, 0x14),
   (0x40050068, 0xBB803E8),
   (0x40050078, 0x7FFFFFFF),
   (0x40060000, 0x320240),
   (0x40060008, 0x18000),
   (0x4007000C, 0xED80428),
   (0x40070010, 0xEC280),
   (0x4007001C, 0xF4240),
   (0x40070020, 0x3E8),
   (0x40070024, 0x3E8),
   (0x40070028, 0xA0000),
   (0x4007002C, 0x5DC03E8),
   (0x40070030, 0x5DC03E8),
   (0x40070034, 0x190),
   (0x40070038, 0x3204B030),
   (0x4007003C, 0x7D00BB8),
   (0x40070040, 0x1900320),
   (0x40070044, 0x3201432),
   (0x40070048, 0x12C01F4),
   (0x4007004C, 0x1F41E28),
   (0x40070050, 0x96012C),
   (0x40070054, 0x12C1E28),
   (0x40070058, 0xFA01F4),
   (0x4007005C, 0x3201432),
   (0x40070060, 0x5DC3200),
   (0x40070068, 0x4E202EE0),
   (0x4007006C, 0x1E07D0),
   (0x40070070, 0x64),
   (0x40070074, 0x10000),
   (0x4007020C, 0xED80428),
   (0x40070210, 0xEC280),
   (0x4007021C, 0xF4240),
   (0x40070220, 0x3E8),
   (0x40070224, 0x3E8),
   (0x40070228, 0xA0000),
   (0x4007022C, 0x5DC03E8)]

/-- Registers of a lane that the manual resets to other than 0, part 5. -/
def laneResetRegs5 : List (Nat × Word) :=
  [(0x40070230, 0x5DC03E8),
   (0x40070234, 0x190),
   (0x40070238, 0x3204B030),
   (0x4007023C, 0x7D00BB8),
   (0x40070240, 0x1900320),
   (0x40070244, 0x3201432),
   (0x40070248, 0x12C01F4),
   (0x4007024C, 0x1F41E28),
   (0x40070250, 0x96012C),
   (0x40070254, 0x12C1E28),
   (0x40070258, 0xFA01F4),
   (0x4007025C, 0x3201432),
   (0x40070260, 0x5DC3200),
   (0x40070268, 0x4E202EE0),
   (0x4007026C, 0x1E07D0),
   (0x40070270, 0x64),
   (0x40070274, 0x10000),
   (0x40080018, 0xE100384),
   (0x4008001C, 0xC807D0),
   (0x40080020, 0x5DC007D0),
   (0x40080024, 0xC8),
   (0x40080028, 0x7D003E8),
   (0x4008002C, 0x1F400C8),
   (0x40080040, 0x80000000),
   (0x40080044, 0x7FFFFFFF),
   (0x40080050, 0x7FFF7FFF),
   (0x40080054, 0x7FFF7FFF),
   (0x40080058, 0xFFFFFFFF),
   (0x40090008, 0xE40000),
   (0x40090054, 0x3C0A2032),
   (0x40090058, 0x500A4632),
   (0x4009005C, 0x810F140A),
   (0x40090060, 0x283C2800),
   (0x40090064, 0xF0302010),
   (0x40090068, 0xFFFFFFFF),
   (0x40090080, 0x1000080),
   (0x40090084, 0x40012C),
   (0x40090088, 0x1400),
   (0x40090090, 0x1000080),
   (0x40090094, 0x40012C)]

/-- Registers of a lane that the manual resets to other than 0, part 6. -/
def laneResetRegs6 : List (Nat × Word) :=
  [(0x40090098, 0x1400),
   (0x400900A0, 0x1000080),
   (0x400900A4, 0x40012C),
   (0x400900A8, 0x1400),
   (0x400900B0, 0x1000080),
   (0x400900B4, 0x40012C),
   (0x400900B8, 0x1400),
   (0x40094008, 0xF0),
   (0x40094018, 0xF0),
   (0x40094028, 0xF0),
   (0x40094038, 0xF0),
   (0x40094048, 0xF0),
   (0x40094058, 0xF0),
   (0x40094068, 0xF0),
   (0x40094078, 0xF0),
   (0x40094088, 0xF0),
   (0x40094098, 0xF0),
   (0x400940A8, 0xF0),
   (0x400940B8, 0xF0),
   (0x400940C8, 0xF0),
   (0x400940D8, 0xF0),
   (0x400940E8, 0xF0),
   (0x400940F8, 0xF0),
   (0x40094108, 0xF0),
   (0x40094118, 0xF0),
   (0x40094128, 0xF0),
   (0x40094138, 0xF0),
   (0x40094148, 0xF0),
   (0x40094158, 0xF0),
   (0x40094168, 0xF0),
   (0x40094178, 0xF0),
   (0x40094188, 0xF0),
   (0x40094198, 0xF0),
   (0x400941A8, 0xF0),
   (0x400941B8, 0xF0),
   (0x400941C8, 0xF0),
   (0x400941D8, 0xF0),
   (0x400941E8, 0xF0),
   (0x400941F8, 0xF0),
   (0x40094208, 0xF0)]

/-- Registers of a lane that the manual resets to other than 0, part 7. -/
def laneResetRegs7 : List (Nat × Word) :=
  [(0x40094218, 0xF0),
   (0x40094228, 0xF0),
   (0x40094238, 0xF0),
   (0x40094248, 0xF0),
   (0x40094258, 0xF0),
   (0x40094268, 0xF0),
   (0x40094278, 0xF0),
   (0x40094288, 0xF0),
   (0x40094298, 0xF0),
   (0x400942A8, 0xF0),
   (0x400942B8, 0xF0),
   (0x400942C8, 0xF0),
   (0x400942D8, 0xF0),
   (0x400942E8, 0xF0),
   (0x400942F8, 0xF0),
   (0x40094308, 0xF0),
   (0x40094318, 0xF0),
   (0x40094328, 0xF0),
   (0x40094338, 0xF0),
   (0x40094348, 0xF0),
   (0x40094358, 0xF0),
   (0x40094368, 0xF0),
   (0x40094378, 0xF0),
   (0x40094388, 0xF0),
   (0x40094398, 0xF0),
   (0x400943A8, 0xF0),
   (0x400943B8, 0xF0),
   (0x400943C8, 0xF0),
   (0x400943D8, 0xF0),
   (0x400943E8, 0xF0),
   (0x400943F8, 0xF0),
   (0x40094408, 0xF0),
   (0x40094418, 0xF0),
   (0x40094428, 0xF0),
   (0x40094438, 0xF0),
   (0x40094448, 0xF0),
   (0x40094458, 0xF0),
   (0x40094468, 0xF0),
   (0x40094478, 0xF0),
   (0x40094488, 0xF0)]

/-- Registers of a lane that the manual resets to other than 0, part 8. -/
def laneResetRegs8 : List (Nat × Word) :=
  [(0x40094498, 0xF0),
   (0x400944A8, 0xF0),
   (0x400944B8, 0xF0),
   (0x400944C8, 0xF0),
   (0x400944D8, 0xF0),
   (0x400944E8, 0xF0),
   (0x400944F8, 0xF0),
   (0x40094508, 0xF0),
   (0x40094518, 0xF0),
   (0x40094528, 0xF0),
   (0x40094538, 0xF0),
   (0x40094548, 0xF0),
   (0x40094558, 0xF0),
   (0x40094568, 0xF0),
   (0x40094578, 0xF0),
   (0x40094588, 0xF0),
   (0x40094598, 0xF0),
   (0x400945A8, 0xF0),
   (0x400945B8, 0xF0),
   (0x400945C8, 0xF0),
   (0x400945D8, 0xF0),
   (0x400945E8, 0xF0),
   (0x400945F8, 0xF0),
   (0x40094608, 0xF0),
   (0x40094618, 0xF0),
   (0x40094628, 0xF0),
   (0x40094638, 0xF0),
   (0x40094648, 0xF0),
   (0x40094658, 0xF0),
   (0x40094668, 0xF0),
   (0x40094678, 0xF0),
   (0x40094688, 0xF0),
   (0x40094698, 0xF0),
   (0x400946A8, 0xF0),
   (0x400946B8, 0xF0),
   (0x400946C8, 0xF0),
   (0x400946D8, 0xF0),
   (0x400946E8, 0xF0),
   (0x400946F8, 0xF0),
   (0x40094708, 0xF0)]

/-- Registers of a lane that the manual resets to other than 0, part 9. -/
def laneResetRegs9 : List (Nat × Word) :=
  [(0x40094718, 0xF0),
   (0x40094728, 0xF0),
   (0x40094738, 0xF0),
   (0x40094748, 0xF0),
   (0x40094758, 0xF0),
   (0x40094768, 0xF0),
   (0x40094778, 0xF0),
   (0x40094788, 0xF0),
   (0x40094798, 0xF0),
   (0x400947A8, 0xF0),
   (0x400947B8, 0xF0),
   (0x400947C8, 0xF0),
   (0x400947D8, 0xF0),
   (0x400947E8, 0xF0),
   (0x400947F8, 0xF0),
   (0x40094808, 0xF0),
   (0x40094818, 0xF0),
   (0x40094828, 0xF0),
   (0x40094838, 0xF0),
   (0x40094848, 0xF0),
   (0x40094858, 0xF0),
   (0x40094868, 0xF0),
   (0x40094878, 0xF0),
   (0x40094888, 0xF0),
   (0x40094898, 0xF0),
   (0x400948A8, 0xF0),
   (0x400948B8, 0xF0),
   (0x400948C8, 0xF0),
   (0x400948D8, 0xF0),
   (0x400948E8, 0xF0),
   (0x400948F8, 0xF0),
   (0x40094908, 0xF0),
   (0x40094918, 0xF0),
   (0x40094928, 0xF0),
   (0x40094938, 0xF0),
   (0x40094948, 0xF0),
   (0x40094958, 0xF0),
   (0x40094968, 0xF0),
   (0x40094978, 0xF0),
   (0x40094988, 0xF0)]

/-- Registers of a lane that the manual resets to other than 0, part 10. -/
def laneResetRegs10 : List (Nat × Word) :=
  [(0x40094998, 0xF0),
   (0x400949A8, 0xF0),
   (0x400949B8, 0xF0),
   (0x400949C8, 0xF0),
   (0x400949D8, 0xF0),
   (0x400949E8, 0xF0),
   (0x400949F8, 0xF0),
   (0x40094A08, 0xF0),
   (0x40094A18, 0xF0),
   (0x40094A28, 0xF0),
   (0x40094A38, 0xF0),
   (0x40094A48, 0xF0),
   (0x40094A58, 0xF0),
   (0x40094A68, 0xF0),
   (0x40094A78, 0xF0),
   (0x40094A88, 0xF0),
   (0x40094A98, 0xF0),
   (0x40094AA8, 0xF0),
   (0x40094AB8, 0xF0),
   (0x40094AC8, 0xF0),
   (0x40094AD8, 0xF0),
   (0x40094AE8, 0xF0),
   (0x40094AF8, 0xF0),
   (0x40094B08, 0xF0),
   (0x40094B18, 0xF0),
   (0x40094B28, 0xF0),
   (0x40094B38, 0xF0),
   (0x40094B48, 0xF0),
   (0x40094B58, 0xF0),
   (0x40094B68, 0xF0),
   (0x40094B78, 0xF0),
   (0x40094B88, 0xF0),
   (0x40094B98, 0xF0),
   (0x40094BA8, 0xF0),
   (0x40094BB8, 0xF0),
   (0x40094BC8, 0xF0),
   (0x40094BD8, 0xF0),
   (0x40094BE8, 0xF0),
   (0x40094BF8, 0xF0),
   (0x40094C08, 0xF0)]

/-- Registers of a lane that the manual resets to other than 0, part 11. -/
def laneResetRegs11 : List (Nat × Word) :=
  [(0x40094C18, 0xF0),
   (0x40094C28, 0xF0),
   (0x40094C38, 0xF0),
   (0x40094C48, 0xF0),
   (0x40094C58, 0xF0),
   (0x40094C68, 0xF0),
   (0x40094C78, 0xF0),
   (0x40094C88, 0xF0),
   (0x40094C98, 0xF0),
   (0x40094CA8, 0xF0),
   (0x40094CB8, 0xF0),
   (0x40094CC8, 0xF0),
   (0x40094CD8, 0xF0),
   (0x40094CE8, 0xF0),
   (0x40094CF8, 0xF0),
   (0x40094D08, 0xF0),
   (0x40094D18, 0xF0),
   (0x40094D28, 0xF0),
   (0x40094D38, 0xF0),
   (0x40094D48, 0xF0),
   (0x40094D58, 0xF0),
   (0x40094D68, 0xF0),
   (0x40094D78, 0xF0),
   (0x40094D88, 0xF0),
   (0x40094D98, 0xF0),
   (0x40094DA8, 0xF0),
   (0x40094DB8, 0xF0),
   (0x40094DC8, 0xF0),
   (0x40094DD8, 0xF0),
   (0x40094DE8, 0xF0),
   (0x40094DF8, 0xF0),
   (0x40094E08, 0xF0),
   (0x40094E18, 0xF0),
   (0x40094E28, 0xF0),
   (0x40094E38, 0xF0),
   (0x40094E48, 0xF0),
   (0x40094E58, 0xF0),
   (0x40094E68, 0xF0),
   (0x40094E78, 0xF0),
   (0x40094E88, 0xF0)]

/-- Registers of a lane that the manual resets to other than 0, part 12. -/
def laneResetRegs12 : List (Nat × Word) :=
  [(0x40094E98, 0xF0),
   (0x40094EA8, 0xF0),
   (0x40094EB8, 0xF0),
   (0x40094EC8, 0xF0),
   (0x40094ED8, 0xF0),
   (0x40094EE8, 0xF0),
   (0x40094EF8, 0xF0),
   (0x40094F08, 0xF0),
   (0x40094F18, 0xF0),
   (0x40094F28, 0xF0),
   (0x40094F38, 0xF0),
   (0x40094F48, 0xF0),
   (0x40094F58, 0xF0),
   (0x40094F68, 0xF0),
   (0x40094F78, 0xF0),
   (0x40094F88, 0xF0),
   (0x40094F98, 0xF0),
   (0x40094FA8, 0xF0),
   (0x40094FB8, 0xF0),
   (0x40094FC8, 0xF0),
   (0x40094FD8, 0xF0),
   (0x40094FE8, 0xF0),
   (0x40094FF8, 0xF0),
   (0x400A0000, 0x300000),
   (0x400A0060, 0x8080808),
   (0x400A0064, 0x80808),
   (0x400A0068, 0xA05050A),
   (0x400A0070, 0x47E02BC),
   (0x400A0074, 0x12C000A),
   (0x400A0078, 0x276012C),
   (0x400A0090, 0x3E803E8),
   (0x400A0094, 0x27100000),
   (0x400A0098, 0x1400),
   (0x400C0004, 0xF000000),
   (0x400C0020, 0xD03E8),
   (0x400D0000, 0x18000000),
   (0x400D0010, 0x3F204002),
   (0x400D0014, 0x31986007),
   (0x400D0018, 0x80080401),
   (0x400D0020, 0xF0C8000A)]

/-- Registers of a lane that the manual resets to other than 0, part 13. -/
def laneResetRegs13 : List (Nat × Word) :=
  [(0x400D0024, 0x64),
   (0x400D0028, 0x331),
   (0x400D002C, 0x11),
   (0x400D005C, 0x7FF07F0),
   (0x400D008C, 0x1C00),
   (0x400D4000, 0x18000000),
   (0x400D4010, 0x3F204002),
   (0x400D4014, 0x31986007),
   (0x400D4018, 0x80080401),
   (0x400D4020, 0xF0C8000A),
   (0x400D4024, 0x64),
   (0x400D4028, 0x331),
   (0x400D402C, 0x11),
   (0x400D405C, 0x7FF07F0),
   (0x400D408C, 0x1C00),
   (0x400D8000, 0x18000000),
   (0x400D8010, 0x3F204002),
   (0x400D8014, 0x31986007),
   (0x400D8018, 0x80080401),
   (0x400D8020, 0xF0C8000A),
   (0x400D8024, 0x64),
   (0x400D8028, 0x331),
   (0x400D802C, 0x11),
   (0x400D805C, 0x7FF07F0),
   (0x400D808C, 0x1C00),
   (0x400DC000, 0x18000000),
   (0x400DC010, 0x3F204002),
   (0x400DC014, 0x31986007),
   (0x400DC018, 0x80080401),
   (0x400DC020, 0xF0C8000A),
   (0x400DC024, 0x64),
   (0x400DC028, 0x331),
   (0x400DC02C, 0x11),
   (0x400DC05C, 0x7FF07F0),
   (0x400DC08C, 0x1C00),
   (0x400E0004, 0x30000),
   (0x400E0014, 0x80000F06),
   (0x400E0030, 0x400003C),
   (0x400F8000, 0x800),
   (0x40110000, 0x1808)]

/-- Registers of a lane that the manual resets to other than 0, part 14. -/
def laneResetRegs14 : List (Nat × Word) :=
  [(0x40118004, 0x1C0000),
   (0x40120000, 0x11000)]

/-- Registers of a lane that the manual resets to other than 0, by address. -/
def laneResetRegs : List (Nat × Word) :=
  laneResetRegs0 ++ laneResetRegs1 ++ laneResetRegs2 ++ laneResetRegs3 ++ laneResetRegs4 ++ laneResetRegs5 ++ laneResetRegs6 ++ laneResetRegs7 ++ laneResetRegs8 ++ laneResetRegs9 ++ laneResetRegs10 ++ laneResetRegs11 ++ laneResetRegs12 ++ laneResetRegs13 ++ laneResetRegs14

/-- Registers of the field die that the manual resets to other than 0, part 0. -/
def fieldResetRegs0 : List (Nat × Word) :=
  [(0x400B0000, 0xE8000000),
   (0x400B0014, 0x14),
   (0x400B00A8, 0x8101C8)]

/-- Registers of the field die that the manual resets to other than 0, by address. -/
def fieldResetRegs : List (Nat × Word) :=
  fieldResetRegs0

/-- Registers of the supervisor that the manual resets to other than 0, part 0. -/
def supResetRegs0 : List (Nat × Word) :=
  [(0x40140008, 0x3F000000),
   (0x40140010, 0x1B)]

/-- Registers of the supervisor that the manual resets to other than 0, by address. -/
def supResetRegs : List (Nat × Word) :=
  supResetRegs0

/-- Registers of the copies the field die keeps per lane that the manual resets to other than 0, part 0. -/
def fieldLaneResetRegs0 : List (Nat × Word) :=
  [(0x400B0040, 0x50000),
   (0x400B0044, 0x50000),
   (0x400B0048, 0x50000),
   (0x400B004C, 0x50000),
   (0x400B0050, 0x50000),
   (0x400B0054, 0x50000),
   (0x400B0058, 0x50000),
   (0x400B005C, 0x50000),
   (0x400B0060, 0x50000),
   (0x400B0064, 0x50000),
   (0x400B0068, 0x50000),
   (0x400B006C, 0x50000),
   (0x400B0070, 0x50000),
   (0x400B0074, 0x50000),
   (0x400B0078, 0x50000),
   (0x400B007C, 0x50000),
   (0x400B0080, 0x50000),
   (0x400B0084, 0x50000),
   (0x400B0088, 0x50000),
   (0x400B008C, 0x50000),
   (0x400B0090, 0x50000),
   (0x400B0094, 0x50000),
   (0x400B0098, 0x50000),
   (0x400B009C, 0x50000)]

/-- Registers of the copies the field die keeps per lane that the manual resets to other than 0, by address. -/
def fieldLaneResetRegs : List (Nat × Word) :=
  fieldLaneResetRegs0

/-- The registers with SEBW fields, by address, and the bits those fields take (R339, R342, R344). -/
def sebwRegs : List (Nat × Word) :=
  [(0x40050010, 0xFFFFFFFF),
   (0x40050014, 0xFFFFFFFF),
   (0x40050018, 0xFFFFFFFF),
   (0x4005001C, 0xFF),
   (0x40050050, 0xFFFFFFFF),
   (0x40050054, 0xFFFFFFFF),
   (0x40050060, 0x1000000),
   (0x40080010, 0xFF1F0F03),
   (0x40080014, 0xFFFFFFFF),
   (0x40080018, 0xFFFFFFFF),
   (0x4008001C, 0xFFFFFFFF),
   (0x40080020, 0xFFFFFFFF),
   (0x40080024, 0xFFFF),
   (0x4008002C, 0xFFFF),
   (0x400A0040, 0x9F9F9F9F),
   (0x400A0044, 0x9F9F9F9F),
   (0x400A0048, 0x9F9F9F9F),
   (0x400A004C, 0x9F9F9F9F),
   (0x400A0050, 0x9F9F9F9F),
   (0x400A0054, 0x9F9F9F9F),
   (0x400A0060, 0x7F7F7F7F),
   (0x400A0064, 0x7F7F7F),
   (0x400A0068, 0xFFFFFFFF),
   (0x400A0070, 0xFFFFFFFF),
   (0x400A0074, 0xFFFFFFFF),
   (0x400A0078, 0xFFFFFFFF),
   (0x400A0080, 0xFFFFFFFF),
   (0x400A0084, 0xFFFFFFFF),
   (0x400A0088, 0xFFFFFFFF),
   (0x400A008C, 0xFFFFFFFF),
   (0x400A0090, 0xFFFFFFFF),
   (0x400A0094, 0xFFFF0003),
   (0x400A0098, 0x8000FF00),
   (0x400B0040, 0xC71F0000),
   (0x400B0044, 0xC71F0000),
   (0x400B0048, 0xC71F0000),
   (0x400B004C, 0xC71F0000),
   (0x400B0050, 0xC71F0000),
   (0x400B0054, 0xC71F0000),
   (0x400B0058, 0xC71F0000),
   (0x400B005C, 0xC71F0000),
   (0x400B0060, 0xC71F0000),
   (0x400B0064, 0xC71F0000),
   (0x400B0068, 0xC71F0000),
   (0x400B006C, 0xC71F0000),
   (0x400B0070, 0xC71F0000),
   (0x400B0074, 0xC71F0000),
   (0x400B0078, 0xC71F0000),
   (0x400B007C, 0xC71F0000),
   (0x400B0080, 0xC71F0000),
   (0x400B0084, 0xC71F0000),
   (0x400B0088, 0xC71F0000),
   (0x400B008C, 0xC71F0000),
   (0x400B0090, 0xC71F0000),
   (0x400B0094, 0xC71F0000),
   (0x400B0098, 0xC71F0000),
   (0x400B009C, 0xC71F0000)]

end Sys2Proof.Machine
end

