-- ==== Sys2Proof/Machine/State.lean ====
section
/-!
DEFINITION. The state of the part as plain data: two lanes, the field die, the always-on supervisor, and the queue of
commands that wait. A register the manual shows has its home in a register file; the structures below hold what no register
shows.
-/
namespace Sys2Proof.Machine

/-- Why a command stops. No command of the manual stops the part, so there is no reason: nothing raises a fault. -/
inductive Fault where
deriving DecidableEq, Repr

/-- Why a command has no meaning. -/
inductive Refusal where
  /-- A command whose meaning is not written yet, by its mnemonic; raised by the dispatcher alone; safe. -/
  | notModelled (mnemonic : String)
deriving DecidableEq, Repr

/-! ### Engines (spec 03, 04) -/

/-- What an engine is doing (R59 to R63): stopped, copying its section of the image (R60, R61), or running. -/
inductive EngPhase where
  | stopped
  | reloading
  | running
deriving DecidableEq, Repr

/-- The channel operation an engine waits in (R106, R108). -/
inductive KWait where
  | send (ch : ChNo)
  | recv (ch : ChNo)
  | sel (m0 m1 : Word)
deriving DecidableEq, Repr

/-- A channel endpoint: the received words, oldest first; the reset of the peer not yet reported (R107); whether an operation that waited on it was
ended as UNBOUND and has not yet met that (R105); and the events of a hardware source that found the words full (their codes together and how many, at
most 15). -/
structure Endpoint where
  fifo : List Word := []
  peerReset : Option Nat := none
  cut : Bool := false
  evCode : Nat := 0
  evCount : Nat := 0
deriving DecidableEq, Repr

/-- The registers the arithmetic of Krevia works on: w0 to w15, a0 to a3 and KSR (Tables 4.1, 4.3). TAT runs the loop subset
on such a set of its own (R119). -/
structure KCore where
  w : Vector Word 16 := Vector.replicate 16 0
  a : Vector Acc 4 := Vector.replicate 4 0
  ksr : Word := 0
deriving DecidableEq, Repr

/-- The programmer's model of one engine (Tables 4.1, 4.2) and what its lane holds for it. `kvbr`, `krole`, `klast` and
the rest are the control registers of those names; `sbuf` the store buffer of R99, oldest first; `ram` its local SRAM by byte
offset; `qdata` its copy of WER_QDATA (R504); `halted` a debug halt (R483); `report` its entry of the boot report, TRUNC (R75). -/
structure Engine where
  core : KCore := {}
  kepc : Word := 0
  kesr : Word := 0
  kcause : Word := 0
  keaddr : Word := 0
  kvbr : Word := 0
  krole : Role := .none
  klast : Nat := 0
  ktper : Nat := 0
  ktimeh : Nat := 0
  pc : Word := 0
  phase : EngPhase := .stopped
  wait : Option KWait := none
  halted : Bool := false
  sbuf : List (Nat × Word) := []
  ep : Vector Endpoint 64 := Vector.replicate 64 {}
  ram : List (Nat × Byte) := []
  qdata : Vector Word 8 := Vector.replicate 8 0
  trunc : Bool := false
deriving DecidableEq, Repr

/-- An engine as a reset of its block leaves it: KVBR at its window's base (Table 4.2). -/
def Engine.fresh (n : Eng) : Engine := { kvbr := BitVec.ofNat 32 (0x20000000 + 0x20000 * n.val) }

/-- One crossing between the core and a clocked island (R49 to R54): whether a transfer or toggle is in flight, the
events its accumulator counts, their codes, and which of its sides are in reset. -/
structure Crossing where
  busy : Bool := false
  acc : Nat := 0
  code : Nat := 0
  coreReset : Bool := false
  islandReset : Bool := false
deriving DecidableEq, Repr

/-! ### Loop coprocessor (spec 05) -/

/-- One biquad section: its coefficients in use and its states, scaled by 2³⁰ (R126). -/
structure Biquad where
  b0 : Int := 2 ^ 30
  b1 : Int := 0
  b2 : Int := 0
  a1 : Int := 0
  a2 : Int := 0
  s1 : Int := 0
  s2 : Int := 0
deriving DecidableEq, Repr

/-- What TAT keeps for a slot beside its registers. `inputs`, `ticks`, `late`, `first`, `banksw`, `clmp` are what a run reads (Table 5.2); `clmpRun`
the limit pairs the present run has hit; `ports` the applied port values and `nextPorts` those of the next sample instant (R129); `pending` a run that
has not started (R119) and `sent` the result words of a run whose result has not been accepted; `ticksLast` the TICKS of the last run. `insel`,
`outdst`, `gpcfg`, `bank`, `gsel` are the copies in use (R132, R134, R67). `guardReq` the cause of a pending entry into GUARD (R137). `entering`,
`r0`, `k`, `kLen`, `integ`, `guardOut` are the guard path's (R138), `kb` the accepted results of a resume (R139). `bqClr` a state clear that waits for
the commit (R126), `due` the deadline edge of the pending run (R56), `lims` the limit pairs as of the last sample instant (R238). -/
structure TatSlot where
  inputs : Vector Word 16 := Vector.replicate 16 0
  ticks : Nat := 0
  ticksRun : Nat := 0
  ticksLast : Nat := 0
  late : Bool := false
  first : Bool := false
  banksw : Bool := false
  clmp : Nat := 0
  clmpRun : Nat := 0
  ports : Vector Word 4 := Vector.replicate 4 0
  nextPorts : Vector Word 4 := Vector.replicate 4 0
  pending : Bool := false
  sent : Option (List (AccNo × Word)) := none
  insel : Vector Word 4 := Vector.replicate 4 0
  outdst : Word := 0
  gpcfg : Word := 0
  bank : Bool := false
  gsel : Bool := false
  guardReq : Option Nat := none
  entering : Bool := false
  r0 : Int := 0
  k : Nat := 0
  kLen : Nat := 0
  integ : Int := 0
  guardOut : Int := 0
  kb : Nat := 0
  bqClr : Bool := false
  due : Nat := 0
  lims : Vector (Int × Int) 4 := Vector.replicate 4 (-2 ^ 31, 2 ^ 31 - 1)
  bq : Vector Biquad 4 := Vector.replicate 4 {}
deriving DecidableEq, Repr

/-- The working registers of TAT, the slot whose run they belong to, the result words written in the run (the last
written first), and the slots. -/
structure Tat where
  core : KCore := {}
  cur : Option Slot := none
  outs : List (AccNo × Word) := []
  slots : Vector TatSlot 8 := Vector.replicate 8 {}
deriving DecidableEq, Repr

/-- The trace recorder (R141 to R143): samples recorded, the ring index of the next sample, the samples still wanted after the trigger,
the tested channel's value in the last record, the commands that wait for the next trace sample, the length and pre-length in use, whether the clock
slot has had an event, the clock slot's instants since the last trace sample, and the channels latched for a trace sample that is due. -/
structure Trc where
  taken : Nat := 0
  wr : Nat := 0
  after : Nat := 0
  lastVal : Option Int := none
  arm : Bool := false
  force : Bool := false
  stop : Bool := false
  len : Nat := 0
  pre : Nat := 0
  slotEvent : Bool := false
  insts : Nat := 0
  latched : Option (Vector Word 16) := none
deriving DecidableEq, Repr

/-! ### Position estimator (spec 06) -/

/-- One absolute channel: the sample of the present period (decoded position, capture time, faulty), its last
non-faulty position, whether it is VALID, its runs of usable and unusable samples, whether the vote made it INVALID
and how long it has agreed since, and its usable sample of the last period (R154 to R157, R159). -/
structure BobCh where
  cur : Option (Int × Int × Bool) := none
  zref : Option Int := none
  valid : Bool := false
  good : Nat := 0
  bad : Nat := 0
  voted : Bool := false
  recov : Nat := 0
  prev : Option Int := none
deriving DecidableEq, Repr

/-- A publication of the estimator: position, velocity, bound, sequence number, state, and the estimate behind it. -/
structure BobPub where
  pos : Int := 0
  vel : Int := 0
  bound : Nat := 0x7FFFFFFF
  seq : Nat := 0
  state : Nat := 0
deriving DecidableEq, Repr

/-- A capture waiting for a publication, or stored: the words of Table 6.6 it will show once its position is known. -/
structure BobCap where
  ch : Nat
  rising : Bool
  ts : Bool
  fi : Nat
  te : Int
  gte : Nat
  known : Option (Int × Nat × Nat)
deriving DecidableEq, Repr

/-- The estimate of a sample, from which captures near it are worked out (R172): its instant in clocks of F, p, v, am in Q32.16, the bound and the state. -/
structure BobEst where
  tk : Int
  p : Int
  v : Int
  am : Int
  bnd : Nat
  st : Nat
deriving DecidableEq, Repr

/-- The estimator. `p`, `v`, `s`, `b` are Q32.16 (µm, µm/s, µm, µm/s²), `am` the acceleration of the last update, `bnd` the bound; `st` the state of
Table 6.4; `tk` the sample instant in clocks of F; `window` the gather window is open and `updated` the update of this sample is done. `acc` the
accelerometer sample of the period (raw), `accGood`, `accBad` its runs. `mot*` the latest motor frame and the accumulated count `m`, `mofs` in Q16
(R149, R150). `disN` the run of disagreeing samples; `rep*` what the next report to the SEB carries (R162); `pub` the last publication; `ltAct` the
buffer in use; `ltChk` the buffer a VALIDATE checks, `ltDue` the part's own check of the selected buffer waits for it to end (R175); `caps` the stored
captures, `capWait` those not yet stored; `evs` event bits since the last word; `ticks` the sample ticks delivered and not taken (R49); `hist` the
last estimates, newest first; `rst` a Block reset lasts (R534). -/
structure Bob where
  p : Int := 0
  v : Int := 0
  s : Int := 0
  b : Int := 0
  am : Int := 0
  bnd : Nat := 0x7FFFFFFF
  st : Nat := 0
  tk : Nat := 0
  window : Bool := false
  updated : Bool := true
  ch : Vector BobCh 2 := Vector.replicate 2 {}
  acc : Option Int := none
  accGood : Nat := 0
  accBad : Nat := 0
  motCount : Option Nat := none
  motVel : Int := 0
  motTc : Nat := 0
  motNew : Bool := false
  motMiss : Nat := 0
  motGood : Nat := 0
  m : Int := 0
  mofs : Int := 0
  disN : Nat := 0
  repDis : Bool := false
  repSlip : Bool := false
  pub : BobPub := {}
  ltAct : Bool := false
  ltChk : Bool := false
  ltDue : Bool := false
  caps : List BobCap := []
  capWait : List BobCap := []
  evs : Nat := 0
  ticks : Nat := 0
  hist : List BobEst := []
  rst : Bool := false
deriving DecidableEq, Repr

/-- The report BOB sends its SEB at a publication (R162). -/
structure BobReport where
  state : Nat := 0
  posv : Bool := false
  bound : Nat := 0x7FFFFFFF
  pos : Int := 0
  vel : Int := 0
  encDis : Bool := false
  slip : Bool := false
  lost : Bool := false
deriving DecidableEq, Repr

/-! ### Car motion (spec 07) -/

/-- A stream entry: position, velocity, acceleration, END (R177). -/
structure SpgEntry where
  p : Int
  v : Int
  a : Int
  last : Bool
deriving DecidableEq, Repr

/-- A mode handover (R195): its phase (0 none, 1 requested, 2 latched by slot 0, 3 blending), the modes, KEEP, the
value u_g it started from, the first accepted result u_p and the results counted. -/
structure Handover where
  phase : Nat := 0
  src : Nat := 0
  dst : Nat := 0
  keep : Bool := true
  ug : Int := 0
  up : Int := 0
  kb : Nat := 0
  kLen : Nat := 0
deriving DecidableEq, Repr

/-- The set-point generator beside its registers. `fifo` the stream, oldest first; `prev` the last source entry and `fresh` the stream has taken none;
`lims` the latched Veff, Aeff, Jeff and `mlims` the maker's A and J latched with them (R182); `hold` p_hold; `step` the step of the start or stop
sequence, `relevel`, `src` the command accepted, `tripCount` whether the trip or relevel is still to be counted (R84); `stopX` what STOPPING
publishes. The capture ramp (R187): `capReq` begins at the next publication, `dp`, `dv`, `capN`, of `capK` samples. The HPG (R189): position in
1/(6·10¹⁸) µm, velocity in 1/(2·10¹²) µm/s and acceleration in 10⁻⁶ µm/s², which one step of 1 µs advances exactly; its goal `goalX`, its velocity
limit `vset`, and whether it has passed the goal (R191). `ho` the handover; `so0`, `so1` the switch requests of the sequences (R198, R199); `notchNew`
coefficients of the notch that wait for slot 0's next instant, `c` the tracker's factor in Q.16, `nf` the notch frequency in 1/65536 mHz, `bpHi`,
`bpLo` the states of the twin band-pass filters and `pwHi`, `pwLo` their powers P+ and P− (R192); `ticks` the sample ticks delivered and not taken
(R49). -/
structure Spg where
  fifo : List SpgEntry := []
  prev : Int × Int × Int := (0, 0, 0)
  fresh : Bool := true
  lims : Nat × Nat × Nat := (0, 0, 0)
  mlims : Nat × Nat := (0, 0)
  hold : Int := 0
  step : Nat := 0
  relevel : Bool := false
  src : Bool := false
  tripCount : Bool := false
  stopX : Int := 0
  capReq : Bool := false
  dp : Int := 0
  dv : Int := 0
  capN : Nat := 0
  capK : Nat := 0
  hp : Int := 0
  hv : Int := 0
  ha : Int := 0
  goalX : Int := 0
  vset : Nat := 0
  passed : Bool := false
  ho : Handover := {}
  so0 : Bool := false
  so1 : Bool := false
  notchNew : Vector Bool 4 := Vector.replicate 4 false
  c : Int := 65536
  nf : Int := 131072000
  bpHi : Int × Int := (0, 0)
  bpLo : Int × Int := (0, 0)
  pwHi : Int := 0
  pwLo : Int := 0
  ticks : Nat := 0
deriving DecidableEq, Repr

/-- The drive link beside its registers: good and missed periods in a row (R204), the period's number and DL_SYNC instant, whether the
period has had a frame and a good one, FAULT of the last good frame, TREF and whether it was
clamped, the last frame formed, and the standby's run of differing periods (R380); whether SPG wants TQEN, LIMIT of the last good
frame, whether no good frame has come since LINK rose, whether the period's window has closed, whether a DL_SYNC has risen since EN was set (R532), and whether
the lane drives DL_TXD with its frame (R205). -/
structure Drv where
  good : Nat := 0
  missed : Nat := 0
  seq : Nat := 0
  tf : Nat := 0
  gotAny : Bool := false
  gotGood : Bool := false
  lastFault : Option Bool := none
  tref : Int := 0
  clamped : Bool := false
  tx : Bytes := []
  differ : Nat := 0
  tqReq : Bool := false
  rxLimit : Bool := false
  linkNew : Bool := false
  closed : Bool := true
  sync : Bool := false
  txd : Bool := false
deriving DecidableEq, Repr

/-! ### Separation guard (spec 08) -/

/-- A neighbour's separation record (Table 8.1); edges and positions in µm of shaft coordinates. -/
structure SelRec where
  stamp : Nat := 0
  posv : Bool := false
  parked : Bool := false
  pend : Bool := false
  order : Nat := 0
  p : Int := 0
  v : Int := 0
  b : Nat := 0
  claimLo : Int := 0
  claimHi : Int := 0
  ecLo : Int := 0
  ecHi : Int := 0
  esLo : Int := 0
  esHi : Int := 0
  top : Nat := 0
  bot : Nat := 0
deriving DecidableEq, Repr

/-- SEL's view of one neighbour: the group position, SHAFT and ORDER its records were taken for, its newest accepted record, and the last of them with
POSV 1 (R211 to R214). -/
structure SelNb where
  src : Nat × Nat × Nat := (0, 0, 0)
  newest : Option SelRec := none
  known : Option SelRec := none
deriving DecidableEq, Repr

/-- The separation guard beside its registers: a claim written since the last cycle, the pending claim (own coordinates) with the
stamp of the first cycle that carried it, the granted claim, the neighbours, the group time at which SEL left OFF, the cycles spent in INIT and
those in a row with every neighbour seen, the record of the last cycle (Table 8.1), and the number of its report to the SEB. -/
structure Sel where
  newClaim : Option Int := none
  pending : Option (Int × Nat) := none
  granted : Option Int := none
  above : SelNb := {}
  below : SelNb := {}
  since : Nat := 0
  initN : Nat := 0
  okN : Nat := 0
  record : Option (List Word) := none
  repSeq : Nat := 0
deriving DecidableEq, Repr

/-! ### Door operators (spec 09) -/

/-- What the learning run has gathered in one bin: the sum in µN and the number of samples, opening and closing. -/
structure LearnBin where
  so : Int := 0
  no : Nat := 0
  sc : Int := 0
  nc : Nat := 0
deriving DecidableEq, Repr

/-- A door operator beside its registers. The Hall decoding (R235, R236): the present sector, the sector count N and the way of its last change, the
clock of the last edge, the last sector time, whether x takes no fraction until the next edge (R244), whether the last code was in error and the times
of recent errors. `iu`, `iv`, `iw`, `oc` the last current sample; `iqs` the last ten iq values; `theta` the rotor angle of that sample in 1/65536
turn; `duty` the vd and vq the island has; `cmp` the compare values. The reference (R247): `xr` in 1/8000 µm, `vr` in half µm/s, `ar` in µm/s², `prof`
the profile of the last motion. `fr` the filtered residual, `fm` the thrust and `tc` T_close, in µN; `nObs`, `nCap`, `nKe`, `nRef` the runs of R252,
R254, R255, R244; `lowZero` the low limit held at 0 (R252). `lc`, `dc`, `locks` what the lane's SEB reports (R312, R313), `perm` the permission of
both SEBs. `cmd` the command of the present instant (R241). `opened` it has been OPENED since it left CLOSED, `lockWait` LOCKT runs, `newWord` the
next door word carries NEW, `loopDue` the current slot has been lost and the gates fall at the next turning point (R239); `bins`, `back` the learning
run; `fsel` the friction buffer in use (R66). -/
structure DoorOp where
  sector : Option Nat := none
  n : Int := 0
  fwd : Bool := true
  edgeAt : Nat := 0
  sectTime : Option Nat := none
  xHold : Bool := false
  hallBad : Bool := false
  hallErrs : List Nat := []
  iu : Int := 0
  iv : Int := 0
  iw : Int := 0
  oc : Bool := false
  iqs : List Int := []
  theta : Nat := 0
  duty : Int × Int := (0, 0)
  cmp : List Nat := [0, 0, 0]
  xr : Int := 0
  vr : Int := 0
  ar : Int := 0
  prof : Nat := 1
  fr : Int := 0
  fm : Int := 0
  tc : Int := 0
  nObs : Nat := 0
  nCap : Nat := 0
  nKe : Nat := 0
  nRef : Nat := 0
  lowZero : Bool := false
  lc : Bool := false
  dc : Bool := false
  locks : Bool := false
  perm : Bool := false
  cmd : Option Nat := none
  opened : Bool := false
  lockWait : Bool := false
  newWord : Bool := false
  loopDue : Bool := false
  bins : List (Nat × LearnBin) := []
  back : Bool := false
  fsel : Bool := false
deriving DecidableEq, Repr

/-! ### Group dispatch (spec 10) -/

/-- A remembered answer (R270): NODE, host position and TSEQ, its four words, and the group time it was given. -/
structure PrkAnswer where
  node : Nat
  host : Nat
  tseq : Nat
  words : List Word
  time : Nat
deriving DecidableEq, Repr

/-- A mirror set as it was sent (R287). -/
abbrev PrkSet := MirrorSet

/-- PRK beside its registers: the submission queue, answer FIFO and hold list, oldest first, each record of four words; the recent answers, newest
first; the entries that wait for a forced reallocation; the next index of the sweep in progress and whether another is due; the last SSEQ seen of each
car; the cars whose views are stale; the publication SEQ and buffer; host positions of the entries' terminals; the entries changed since the last
mirror set, the last set sent, whether a first set has been applied, how many entries of a full transfer have come from index 0 on, the group time of
the last set sent or applied, the next index of a full transfer to a new standby master (R288), the assignments that wait for a place in a full
stop list (R264), the mode in force since the last evaluation, and the entries among those forced that it no longer accepts (R286). -/
structure Prk where
  subs : List (List Word) := []
  answers : List (List Word) := []
  hold : List (List Word) := []
  cache : List PrkAnswer := []
  forced : List Nat := []
  sweep : Option Nat := none
  sweepDue : Bool := false
  sseq : Vector (Option Nat) 32 := Vector.replicate 32 none
  seq : Nat := 0
  pub : List Word := []
  hostOf : List (Nat × Nat) := []
  changed : List (Nat × Bool) := []
  sentSet : Option PrkSet := none
  mirSync : Bool := false
  fullGot : Nat := 0
  setTime : Nat := 0
  fullAt : Option Nat := none
  waiting : List (Pickup × Nat) := []
  mode : Nat := 0
  denied : List Nat := []
deriving DecidableEq, Repr

/-! ### Safety evaluation (spec 11) -/

/-- The report of the separation guard (R224): its number, STATE, and the safety gaps above and below in µm; the request stands beside it. -/
structure SelReport where
  seq : Nat := 0
  state : Nat := 0
  gsAbove : Int := 0
  gsBelow : Int := 0
deriving DecidableEq, Repr

/-- A partner word (R322): its number, the sender's demand and permit for each pair, its latched causes, SELREP, its SEB_CFGID, and
whether a reset acted in the cycle. -/
structure PartnerWord where
  seq : Nat
  dem : Vector Bool 2
  permit : Vector Bool 2
  latch : Word
  selrep : Bool
  cfgid : Word
  reset : Bool
deriving DecidableEq, Repr

/-- An entry of a zone bank (R307): the effective sill, the zone's extents below and above in µm, landing, deck, and the doors. -/
structure SebZone where
  sill : Int
  below : Int
  above : Int
  land : Nat
  deck : Nat
  door0 : Bool
  door1 : Bool
deriving DecidableEq, Repr

/-- A state frame of the field die (R353): the state code of every input (Table 12.3), the readback of every output, the switch states (Table 12.11),
the VFLD state and the forced safe state. -/
structure StateFrame where
  code : Vector Nat 24 := Vector.replicate 24 0
  rbk : Vector Bool 16 := Vector.replicate 16 false
  sw : Vector Nat 4 := Vector.replicate 4 0
  vstate : Nat := 3
  forced : Bool := true
deriving DecidableEq, Repr

/-- The SEB beside its registers. `up` the self-test has passed, `live` a cycle has run since. `frame` the last state frame, and what the SEB works
with of it: `inp` the values of FI0 to FI23, `rbk` the readbacks, `sw` the switch states, `vlow`, `forced`, `rbf` a readback fault of each pair not
yet taken. `maps` the input map in use; `filt`, `seen`, `acted` the filtered state of each logical signal, that of the last latch, and the one acted
on (R296, R297). `disc` the groups with a discrepancy, `discSeen` how far the sequence of R299 has come. Two-hand control (R302): 500 ms since the
first press have passed, and of each direction whether its permission is barred and whether its two buttons were down. The own sample of the period (z
and faulty), the last usable one, the last four samples, the run of unusable ones (R315, R316). The BOB and SEL reports and the cycles without a new
one. The partner's latest word, whether it is new, cycles without a new one, good cycles since, PARTNER, the run of differing demands of each pair
(R324), and the own word's number. `req` the accepted requests, `reqWait` the Hoop has moved and the new holder has not spoken (R328). `drive` the
pulse trains, `dem` the demand, `fbN` the cycles with feedback 1 while ON. `doPrev`, `wPrev`, `doTrip`, `rest`, `rested` are those of R310;
`finBeyond` the car was beyond a final limit, `spdNow` MODESPD's condition holds. `zones0`, `zones1` the zone banks, `lt` the buffer in use. The latch
record (R334): an entry is due, its number, the entries in the active sector, which sector is active, and whether the other is being erased. The
configuration: CFG_INVALID, the sector of the newest record, the check value of the password (none: the factory's), SEB_PWD, a new password, refused
passwords and the lockout (R345), and the lane's FIO copies (R349). `resetEv` a reset has acted since the last cycle; `stuck` the RESET_BTN_STUCK
entries that wait for room in the event-log queue (R335, R9). -/
structure Seb where
  up : Bool := false
  live : Bool := false
  frame : StateFrame := {}
  inp : Vector Bool 24 := Vector.replicate 24 false
  rbk : Vector Bool 4 := Vector.replicate 4 false
  sw : Vector Bool 4 := Vector.replicate 4 false
  vlow : Bool := false
  forced : Bool := false
  rbf : Vector Nat 2 := Vector.replicate 2 0
  maps : List Word := []
  filt : Vector Bool 24 := Vector.replicate 24 false
  seen : Vector Bool 24 := Vector.replicate 24 false
  acted : Vector Bool 24 := Vector.replicate 24 false
  disc : Vector Bool 9 := Vector.replicate 9 false
  discSeen : Vector Nat 9 := Vector.replicate 9 0
  thAge : Vector Nat 3 := Vector.replicate 3 0
  thOver : Vector Bool 3 := Vector.replicate 3 false
  thBar : Vector Bool 2 := Vector.replicate 2 false
  thBoth : Vector Bool 2 := Vector.replicate 2 false
  enc : Option (Int × Bool) := none
  zLast : Option Int := none
  zHist : List (Option Int) := []
  encBad : Nat := 0
  bobNew : Bool := false
  bobRep : Option BobReport := none
  bobMiss : Nat := 0
  selNew : Bool := false
  selReq : Bool := false
  selRep : SelReport := {}
  selMiss : Nat := 0
  pw : Option PartnerWord := none
  pwFresh : Bool := false
  pwMiss : Nat := 0
  pwGood : Nat := 0
  pwLost : Bool := false
  mism : Vector Nat 2 := Vector.replicate 2 0
  pwSeq : Nat := 0
  req : Vector Bool 2 := Vector.replicate 2 false
  reqWait : Bool := false
  drive : Vector Bool 2 := Vector.replicate 2 false
  dem : Vector Bool 2 := Vector.replicate 2 false
  fbN : Vector Nat 2 := Vector.replicate 2 0
  doPrev : Bool := false
  wPrev : Bool := false
  doTrip : Bool := false
  rest : Nat := 0
  rested : Bool := false
  finBeyond : Bool := false
  spdNow : Bool := false
  zones0 : List SebZone := []
  zones1 : List SebZone := []
  lt : Bool := false
  latDue : List (Word × Word) := []
  latSeq : Nat := 0
  latUsed : Nat := 0
  latSector : Bool := false
  latErase : Bool := false
  cfgBad : Bool := false
  cfgSector : Bool := false
  pwChk : Option Word := none
  pwd : Word := 0
  pwdNew : Option Word := none
  pwFails : List Nat := []
  pwLock : Bool := false
  fioCfg : List Word := []
  resetEv : Bool := false
  stuck : Nat := 0
deriving DecidableEq, Repr

/-! ### The field die (spec 12) and the Hoop (spec 13) -/

/-- An edge in an edge FIFO: its stamp in the lane's group time, the input, and whether it rises (R358). -/
structure FioEdge where
  stamp : Nat
  input : Nat
  rise : Bool
deriving DecidableEq, Repr

/-- A field input: the MODE, SRC and GLITCH applied (R350), the measured state (Table 12.3), the last supervised measurement in 1/10000
(R355), when the mode began (R533), TPFAIL with its run of passed tests (R361), and the output the input crosses with, with its run of
tests without a repetition (R362). -/
structure FioIn where
  mode : Nat := 0
  src : Nat := 0
  glitch : Nat := 5
  meas : Nat := 0
  last : Option Nat := none
  since : Nat := 0
  tpfail : Bool := false
  tpRun : Nat := 0
  cross : Option Nat := none
  crossRun : Nat := 0
deriving DecidableEq, Repr

/-- The field die beside its registers; `laneRegs` are the copies it keeps for each lane (R349). `edges` the edge FIFO of each lane. `thr` the rising
threshold in mV (R352). The test frame: its number, the next slot, the dividers in use, the sources whose missed test is due (R359, R363). `on` the
sources that are on, `dev` those whose readback differs from that, `hot` those whose junction is above 150 °C. `safeDem` what the general outputs are
to do in a forced safe state (R372), `cutOff` the outputs are off after a cut and `cutDue` will be (R370). `pairForced` the pairs held off after a
fault, `pairSeen` an SEB has latched it, `report` the readback faults not yet sent to each lane (R368). `train` the pulse trains the die sees (R17).
The causes of the forced state; `goodAt` since when VFLD has been above 19.5 V; `ack` a cut is acknowledged. The watchdog: running, the next key is
0x3C, keep-alives in time since the grant, and the time of the last (or of the grant). The Hoop: its state as LNK_HOOP codes it. -/
structure FieldDie where
  regs : RegFile := fieldResetRegs
  laneRegs : Vector RegFile 2 := Vector.replicate 2 fieldLaneResetRegs
  inp : Vector FioIn 24 := Vector.replicate 24 {}
  edges : Vector (List FioEdge) 2 := Vector.replicate 2 []
  thr : Nat := 7220
  frame : Nat := 0
  slot : Nat := 0
  div : Vector Nat 3 := #v[1, 4, 8]
  retest : Vector Bool 16 := Vector.replicate 16 false
  on : Vector Bool 16 := Vector.replicate 16 false
  held : Vector (Option Bool) 16 := Vector.replicate 16 none
  hot : Vector Bool 16 := Vector.replicate 16 false
  safeDem : Vector Bool 8 := Vector.replicate 8 false
  cutDue : Bool := false
  cutOff : Bool := true
  pairForced : Vector Bool 2 := Vector.replicate 2 false
  pairSeen : Vector Bool 2 := Vector.replicate 2 false
  report : Vector (Vector Nat 4) 2 := Vector.replicate 2 (Vector.replicate 4 0)
  train : Vector Bool 4 := Vector.replicate 4 false
  fSilence : Bool := true
  fHoop : Bool := false
  fCut : Bool := false
  goodAt : Option Nat := none
  ack : Bool := false
  wdRun : Bool := false
  wdLow : Bool := true
  kaN : Nat := 0
  kaAt : Nat := 0
  hoop : Nat := 0
deriving DecidableEq, Repr

/-- The always-on supervisor (spec 17): its registers, and the copies of the latches of each SEB (SEB_LATCH, SEB_OUTSTAT) it keeps while VLOG is
present (R333). `seqGen`, `seqSaf` the next SEQ of each lane's change-log regions (R464). The part is `off` (VLOG below VPOR); a brown-out holds the
lanes (R488); XRES_L holds a Carrier reset (R497); Hush is being entered or in force, with the wake settings it copied (R493) and the decoders' error
counters; whether the lanes start after a wake (R494); the levels of STRAP4 to STRAP0 (R443); the pin WAKE_L and USB_VBUS are not kept. `rstCause` the
Power-on bits of SYS_RSTCAUSE of each lane. -/
structure Supervisor where
  regs : RegFile := supResetRegs
  rstCause : Vector Word 2 := Vector.replicate 2 1
  latch : Vector (Option (Word × Word)) 2 := Vector.replicate 2 none
  seqGen : Vector Nat 2 := Vector.replicate 2 0
  seqSaf : Vector Nat 2 := Vector.replicate 2 0
  off : Bool := false
  bor : Bool := false
  xres : Bool := false
  entering : Bool := false
  hush : Bool := false
  waking : Bool := false
  wake : RegFile := []
  wakeDec : Vector Nat 4 := Vector.replicate 4 0
  straps : Fin 32 := 0
deriving DecidableEq, Repr

/-! ### Lane link (spec 13) -/

/-- The CTRL messages of Table 13.1. -/
inductive CtrlMsg where
  | switch
  | updateStart
  | updateCommit
  | updateAbort
  | debugOn
  | debugOff
  | restart
deriving DecidableEq, Repr

/-- A heartbeat (Table 13.1): sequence, F at the send edge, health word, last epoch applied, the Hoop's state. -/
structure Heartbeat where
  seq : Nat
  fclk : Nat
  health : Word
  applied : Nat
  hoop : Nat
deriving DecidableEq, Repr

/-- The lane link beside its registers. `dirty` the lines and `regDirty` the registers written since the last acknowledged epoch (R391), each with the
number of the seal edge that will carry it (and the role of the write); `regRole` the role of the last write of each such register; `seals` the seal
edges so far. `train` the hold train is driven; `ready` E0 has written READY; `cold` the lane has been in START since a Carrier reset (R387). The last
heartbeat's number, whether the other lane's heartbeat is lost, when the last one came, when the last one that showed a holder did (R387), and since
when they come without a break, and the skewed ones in a row (R378). `fWait` F waits for a heartbeat (R377). The health word's bits. The messages on
their way to the other lane: newest only, or oldest first. The epoch being sent: its length, the roles of its register records, the bytes sent, the
seal that follows; the epochs not yet acknowledged, each with its seal edge, and the last one acknowledged. The epoch being received: bytes received
and whether none is missing; epochs discarded in a row; the own snapshot, the one last applied, and how often each item has differed in a row (R392).
The register records refused so far, each with its role and the time of its first refusal (R395). The bulk being sent: the next item, the length and
CRC-32 so far; the bulk being received: length, CRC-32, the lines delivered, failures in a row, and the last SEQ sealed before a good BULKEND. The
update: in the holder, whether one runs, the block on its way (offset, data, CRC-32) and how much of it has been sent (R375); in the other lane the
bytes of the block received, whether none is missing, the acknowledgement on its way (offset, whether good) and the failed checks of the present
block. A train for a cold grant; a planned switchover that still hides SOLO, and one about to come (R402); whether the self-test of SUSPECT has passed
(R384). -/
structure Lnk where
  dirty : List (Nat × Nat) := []
  regDirty : List (Nat × Nat × Nat) := []
  regRole : List (Nat × Nat) := []
  seals : Nat := 0
  train : Bool := false
  ready : Bool := false
  cold : Bool := true
  hbSeq : Nat := 0
  hbSeen : Option Nat := none
  hbLost : Bool := true
  hbAt : Option Nat := none
  heldAt : Option Nat := none
  hbSince : Option Nat := none
  skew : Nat := 0
  fWait : Bool := false
  fskew : Bool := false
  ue : Bool := false
  fwfail : Bool := false
  fwstale : Bool := false
  diverge : Bool := false
  tqcmp : Bool := false
  hbOut : Option Heartbeat := none
  ssiOut : Option (Int × Int × Nat × Bool) := none
  accOut : Option (Nat × Option Int) := none
  partnerOut : Option PartnerWord := none
  sebreqOut : Option (Bool × Bool) := none
  ctrlOut : List CtrlMsg := []
  epLen : Nat := 0
  epRoles : List Nat := []
  epPos : Nat := 0
  sealOut : Option (Nat × Word) := none
  carried : List (Nat × Nat) := []
  acked : Nat := 0
  rxLen : Nat := 0
  rxOk : Bool := true
  epBad : Nat := 0
  ownSnap : List Word := []
  lastSnap : List Word := []
  diffs : List Nat := []
  refused : List (Nat × Word × Nat × Nat) := []
  bulkActive : Bool := false
  bulkPos : Nat := 0
  bulkLen : Nat := 0
  bulkCrc : Word := 0xFFFFFFFF
  bulkRxLen : Nat := 0
  bulkRxCrc : Word := 0xFFFFFFFF
  bulkGot : List (Nat × Bool) := []
  bulkFails : Nat := 0
  bulkDone : Option Nat := none
  updOut : Option (Nat × Bytes × Word) := none
  updPos : Nat := 0
  updRx : Bytes := []
  updRxOk : Bool := true
  updAckOut : Option (Nat × Bool) := none
  updFails : Nat := 0
  updActive : Bool := false
  coldTrain : Bool := false
  switching : Bool := false
  switchIn : Bool := false
  testOk : Bool := false
deriving DecidableEq, Repr
/-! ### CAN ports (spec 14) -/

/-- A transmit object (Table 14.9): STATE (0 FREE, 1 PENDING, 2 ACTIVE, 3 DONE), RESULT, CANCEL_LATE, SHADOW, ACKRUN, the two header words,
the data; whether a CANCEL waits for the end of the attempt, and came after arbitration was won (R415). -/
structure CanObj where
  st : Nat := 0
  result : Nat := 0
  late : Bool := false
  shadow : Bool := false
  run : Nat := 0
  h0 : Word := 0
  h1 : Word := 0
  data : Bytes := []
  cancel : Bool := false
  cancelWon : Bool := false
  esi : Bool := false
deriving DecidableEq, Repr

/-- A receive entry (Table 14.4): its header words and its payload. -/
structure CanRx where
  h0 : Word
  h1 : Word
  h2 : Word
  h3 : Word
  data : Bytes
deriving DecidableEq, Repr

/-- A CAN controller beside its registers: the objects, the receive FIFOs, the index (NODE numbers in order); the mode in force, and whether the mode
written waits for the bus idle (R426), or SLEEP does (R432); another node's frame that has won arbitration is on the bus; the probe object (R416); the
autobaud candidate being tried and its good frames in a row (R428); the frames of the sample-point round and their largest settle time (R410); the
low-power decoder's counter (R434); whether the controller of the holder drives (R431); whether the recovery from bus-off has begun (R427). -/
structure Can where
  objs : Vector CanObj 32 := Vector.replicate 32 {}
  rx : Vector (List CanRx) 2 := Vector.replicate 2 []
  index : List Nat := []
  mode : Nat := 0
  wait : Bool := false
  sleepDue : Bool := false
  busy : Bool := false
  probe : Option (Fin 32) := none
  cand : Option Nat := none
  good : Nat := 0
  spN : Nat := 0
  spMax : Nat := 0
  dec : Nat := 0
  drive : Bool := false
  recov : Bool := false
deriving DecidableEq, Repr

/-! ### Picot ring (spec 15) -/

/-- What the latest STATE of a part says (Table 15.4): its UID, CAND, ROLE, PARTED, the time of its last partition, the group time it
arrived. -/
structure PicPart where
  uid0 : Word
  uid1 : Word
  cand : Bool
  role : Nat
  parted : Bool
  partT : Nat
  time : Nat
deriving DecidableEq, Repr

/-- A frame in the receive FIFO, with its ring (true: B) and arrival group time. -/
structure PicRx where
  frame : PicFrame
  ringB : Bool
  time : Nat
deriving DecidableEq, Repr

/-- A port: since when both ends have reported RXOK without a break, the switch time it proposed, and the one that is agreed (R449); whether it is
judged broken (R448). -/
structure PicPort where
  okAt : Option Nat := none
  asked : Option Nat := none
  agreed : Option Nat := none
  broken : Bool := false
deriving DecidableEq, Repr

/-- A frame that waits for a ring's transmitter: its place in the list of R439, the ring it belongs to (true: B), and the controller's time when it came. -/
structure PicOut where
  rank : Nat
  frame : PicFrame
  ringB : Bool
  since : Nat
deriving DecidableEq, Repr

/-- A ring's transmitter (R439): the time of its next frame boundary, and the frames that wait for it in the order in which it takes them. -/
structure PicTx where
  freeAt : Nat := 0
  queue : List PicOut := []
deriving DecidableEq, Repr

/-- The ring controller beside its registers. The arrival group time of each position's last STATE, its SEQ (R441) and what it said; the parts
recorded as lost in a partition (R450); `dup` own frames are stopped (R443). The queues, oldest first; the token bucket in 1/1000 byte and when it was
last filled; the own SEQ of each TYPE; fragments of PUBs held, by sender. The first sighting of a mark, the last error, skipped and good ones, the
trim in ppm and the fraction of a µs, in ps, by which the counter is ahead of its whole µs (R446); when the own last mark left on each ring, in ns of
group time. The ports, the boosts begun (R451); `leaving` LEAVE was given; the last frame put on each ring, and whether it was ended with K30.7
(R437). The controller's own time in ns, and the transmitters of ring A and ring B. -/
structure Pic where
  arr : Vector (Option Nat) 32 := Vector.replicate 32 none
  stSeq : Vector (Option Nat) 32 := Vector.replicate 32 none
  parts : Vector (Option PicPart) 32 := Vector.replicate 32 none
  lost : List Nat := []
  dup : Bool := false
  txq : List PicFrame := []
  rxq : List PicRx := []
  bucket : Nat := 0
  bucketAt : Nat := 0
  seqs : List (Nat × Nat) := []
  pubs : Vector (Option (Nat × Bytes × Bytes)) 32 := Vector.replicate 32 none
  first : Option (Nat × Int × Nat) := none
  errLast : Int := 0
  skipped : Nat := 0
  good : Nat := 0
  trim : Int := 0
  frac : Int := 0
  markA : Nat := 0
  markB : Nat := 0
  up : PicPort := {}
  down : PicPort := {}
  eqBegun : Bool := false
  leaving : Bool := false
  lastA : Option PicFrame := none
  lastB : Option PicFrame := none
  cutA : Bool := false
  cutB : Bool := false
  clk : Nat := 0
  txA : PicTx := {}
  txB : PicTx := {}
deriving DecidableEq, Repr

/-! ### Resets that wait (spec 01, 13) -/

/-- A reset that is due and waits until the lane no longer holds the Hoop (R23, R25, R390). -/
inductive ResetDue where
  | quarter (q : Quarter)
  | restart
  | halt
deriving DecidableEq, Repr

/-! ### Logs (spec 03, 16) -/

/-- The two queues in the shared table SRAM (Table 3.4): the slot of the oldest entry and the number of entries of the log queue and of the
change-log queue; how many of the latter belong to the safety region; whether one is the outcome of the open session (R530); whether an ARCHIVE runs
(R469), and the engine that asked for it. -/
structure LogQ where
  evHead : Nat := 0
  evN : Nat := 0
  clHead : Nat := 0
  clN : Nat := 0
  clSafe : Nat := 0
  clOutcome : Bool := false
  archiving : Bool := false
  archSrc : Nat := 0
deriving DecidableEq, Repr

/-- What E10 keeps of the log bank through every reset: the physical sector of each logical one (0 to 3 safety region, 4 to 15 general region, 16 and 17
counters, 18 to 113 event log), the free pool, the erase counts (0 where unlisted); entries ever written to the general region and the event log, and
those now in the safety region; the last link of each region (none before its first entry); counter records ever written; whether a power-loss
commit is outstanding (R86); the events numbered so far; the physical sectors E8 has reported for relocation (R80). -/
structure Wer where
  map : List Nat := List.range 114
  pool : List Nat := List.range' 114 14
  erases : List (Nat × Nat) := []
  genN : Nat := 0
  safN : Nat := 0
  evN : Nat := 0
  genLink : Option Bytes := none
  safLink : Option Bytes := none
  genSeq : Option Nat := none
  safSeq : Option Nat := none
  cntN : Nat := 0
  plDue : Bool := false
  evSeq : Nat := 0
  weak : List Nat := []
deriving DecidableEq, Repr

/-! ### Sessions, service, measurement, USB (spec 16, 18) -/

/-- A service session beside its registers: the response window, whether its challenge is pending, and since when its idle time runs (R460). -/
structure Session where
  resp : Vector Word 16 := Vector.replicate 16 0
  pending : Bool := false
  idleAt : Nat := 0
deriving DecidableEq, Repr

/-- What the role grant unit keeps: the times of the AUTH_FAIL results of OPR, INS and MKR and their lockouts (R458), SYS_CREDDATA, the sessions that
started the update and the debug enable (R462). -/
structure Auth where
  fails : Vector (List Nat) 3 := Vector.replicate 3 []
  locked : Vector Bool 3 := Vector.replicate 3 false
  cred : Vector Word 16 := Vector.replicate 16 0
  updSess : Option (Fin 2) := none
  dbgSess : Option (Fin 2) := none
deriving DecidableEq, Repr

/-- The latest answer of the service protocol in a session, or on the debug port (Table 16.3): TAG, OP, STATUS, FLAGS, payload; requests discarded
(R471); the request in progress, by TAG and OP (R472); the nonce of an ATTEST that waits for MEA; the packets or segments of responses that are still
to be handed to the port (R470). -/
structure Svc where
  tag : Nat := 0
  op : Nat := 0
  status : Nat := 0
  flags : Nat := 0
  payload : Bytes := []
  discarded : Nat := 0
  busy : Option (Nat × Nat) := none
  nonce : Option Bytes := none
  out : List Bytes := []
deriving DecidableEq, Repr

/-- An image on its way through the service protocol (R474): its announced length, the offsets acknowledged, the block being sent and since when. -/
structure Img where
  active : Bool := false
  len : Nat := 0
  acked : List Nat := []
  sent : Option Nat := none
  sentAt : Nat := 0
deriving DecidableEq, Repr

/-- The measurement unit beside its registers: the report being formed (R480), and the Lane resets since power-on (Table 16.6). -/
structure Mea where
  forming : Option Bytes := none
  bootCnt : Nat := 0
deriving DecidableEq, Repr

/-- The USB and SPI controllers beside their registers: the packets received and to be sent, oldest first; whether a Hoop grant still keeps the device
off the bus (R463); USB_VBUS above 4.0 V for 10 ms; VLOG too low for USB (R522); the SPI transfer in progress, and the sample instant after which its
turn comes where it waits (R508). -/
structure Usb where
  rx : List Bytes := []
  tx : List Bytes := []
  wait : Bool := true
  vbus : Bool := false
  low : Bool := true
  spiLen : Nat := 0
  spiWait : Option Nat := none
deriving DecidableEq, Repr

/-- What the background engines keep (R69 to R90): the flash sectors E8 has relocated per region, where its sweep stands (addresses found
uncorrectable in the sweep), the shadow copies E11 reads and the registers of the field die, LNK_HOOP among them, as of the last state frame (R512),
the gains E9 has published in ppm from the factory trim and the offsets of the door currents (R82), the sets published that wait for their users' next
sample instants, each flash region's command with its address's line under way (R505), and whether E10 has started since the Lane reset (R84). -/
structure Bg where
  spares : Vector Nat 4 := Vector.replicate 4 4
  sweepUe : List Nat := []
  shadow : List (Nat × Word) := []
  fio : RegFile := []
  fioOwn : RegFile := []
  fioHoop : Word := 0
  cal : Vector Int 5 := Vector.replicate 5 0
  calOfs : Vector Int 2 := Vector.replicate 2 0
  calNext : Vector (Option (Int × Int)) 5 := Vector.replicate 5 none
  nvm : Vector (Option Nat) 4 := Vector.replicate 4 none
  e10 : Bool := false
deriving DecidableEq, Repr

/-! ### A lane, the field die, the supervisor, the part -/

/-- Where a lane stands between its supply and its firmware (R26, R45, R495): unpowered, held in reset, out of reset
with its clocked islands waiting for PLL lock, or running. -/
inductive LanePhase where
  | off
  | reset
  | waitPll
  | run
deriving DecidableEq, Repr

/-- One lane. `regs` holds every register of its own blocks by address; `tsram` the shared table SRAM by offset; `flash` the embedded flash by offset;
`ue` the addresses of words known to be uncorrectable and `post` E8's correction post queue (R69 to R71); `gtime` group time and `fclk` the island
frame counter F (R117), which does not wrap (DESIGN CHOICE, log 145); `tags` the reset epoch of each block (R30); `xing` the crossings, `tick` the
timer ticks of each engine that crossings 46 and 47 hold (R49); `blkHist`, `qHist` the times of fault-caused resets and `lastRestart` that of the last
fault-caused lane-logic restart (R24, R25); `coreLow` the consecutive AVS iterations below 8 % (R42); `dlMargin` the smallest deadline margin reported
since the last iteration (R40); `due` the resets that wait until the Hoop is released (R390). -/
structure Lane where
  regs : RegFile := laneResetRegs
  phase : LanePhase := .reset
  eng : Vector Engine 12 := Vector.ofFn fun n => Engine.fresh n
  tsram : List (Nat × Byte) := []
  flash : List (Nat × Byte) := []
  ue : List Nat := []
  post : List Nat := []
  gtime : Nat := 0
  fclk : Nat := 0
  tags : Vector Nat 30 := Vector.replicate 30 0
  xing : Vector Crossing 48 := Vector.replicate 48 {}
  tick : Vector Nat 12 := Vector.replicate 12 0
  blkHist : Vector (List Nat) 30 := Vector.replicate 30 []
  qHist : Vector (List Nat) 4 := Vector.replicate 4 []
  lastRestart : Option Nat := none
  coreLow : Nat := 0
  dlMargin : Option Nat := none
  tat : Tat := {}
  trc : Trc := {}
  bob : Bob := {}
  spg : Spg := {}
  drv : Drv := {}
  sel : Sel := {}
  door : Vector DoorOp 2 := Vector.replicate 2 {}
  prk : Prk := {}
  can : Vector Can 4 := Vector.replicate 4 {}
  seb : Seb := {}
  pic : Pic := {}
  lnk : Lnk := {}
  due : List ResetDue := []
  log : LogQ := {}
  wer : Wer := {}
  sess : Vector Session 2 := Vector.replicate 2 {}
  auth : Auth := {}
  svc : Vector Svc 2 := Vector.replicate 2 {}
  dbgp : Svc := {}
  img : Img := {}
  mea : Mea := {}
  usb : Usb := {}
  bg : Bg := {}
deriving DecidableEq, Repr

/-- Everything the part holds but the queue of commands. -/
structure World where
  laneA : Lane := {}
  laneB : Lane := {}
  fd : FieldDie := {}
  sup : Supervisor := {}
  time : Nat := 0
  freeCtr : Nat := 0
deriving DecidableEq, Repr

/-- The state: the part, and the commands that wait, first in, first out. -/
structure State extends World where
  pending : List Instr := []
deriving DecidableEq, Repr

/-- The part right after power-on. -/
def State.reset : State := {}

end Sys2Proof.Machine
end

