-- ==== Sys2Proof/Machine/Flags.lean ====
section
/-!
DEFINITION. The flags of KSR (Table 4.3) and every flag computation of Table 4.15.
-/
namespace Sys2Proof.Machine

/-- KSR bit Z. -/
def ksrZ : Nat := 0
/-- KSR bit N. -/
def ksrN : Nat := 1
/-- KSR bit C. -/
def ksrC : Nat := 2
/-- KSR bit V. -/
def ksrV : Nat := 3
/-- KSR sticky bit SAT_S. -/
def ksrSat : Nat := 8
/-- KSR sticky bit DIVZ_S. -/
def ksrDivz : Nat := 9
/-- KSR sticky bit CHAN_S. -/
def ksrChan : Nat := 10
/-- KSR bit EXC. -/
def ksrExc : Nat := 16

/-- A word with one bit written. -/
def putBit (w : Word) (n : Nat) (b : Bool) : Word :=
  if b then w ||| (1#32 <<< n) else w &&& ~~~ (1#32 <<< n)

/-- One flag of a core. -/
def KCore.flag (c : KCore) (n : Nat) : Bool := c.ksr.getLsbD n

/-- A core with one flag written. -/
def KCore.setFlag (c : KCore) (n : Nat) (b : Bool) : KCore := { c with ksr := putBit c.ksr n b }

/-- A core with a sticky flag raised where a condition holds. -/
def KCore.stick (c : KCore) (n : Nat) (b : Bool) : KCore := if b then c.setFlag n true else c

/-- Z and N from an exact result. -/
def KCore.flagsZN (c : KCore) (r : Int) : KCore := (c.setFlag ksrZ (r == 0)).setFlag ksrN (r < 0)

/-- The flags of a saturating instruction: Z, N of the result, V and SAT_S from whether it was clamped (R95). -/
def KCore.flagsSat (c : KCore) (r : Int) (clamped : Bool) : KCore :=
  ((c.flagsZN r).setFlag ksrV clamped).stick ksrSat clamped

/-- The flags of CMP and CMPI (Table 4.6). -/
def KCore.flagsCmp (c : KCore) (x y : Word) : KCore :=
  (((c.setFlag ksrZ (x == y)).setFlag ksrN (x.slt y)).setFlag ksrC (x.ult y)).setFlag ksrV false

/-- The flags of ADDM and SUBM: Z and N of the wrapped result, C the carry or borrow, V 0. -/
def KCore.flagsMod (c : KCore) (r : Word) (carry : Bool) : KCore :=
  ((c.flagsZN r.toInt).setFlag ksrC carry).setFlag ksrV false

/-- The flags of a table instruction (R104): Z exact match, C not found or out of range, V an invalid descriptor or table. -/
def KCore.flagsTable (c : KCore) (z cc v : Bool) : KCore :=
  ((c.setFlag ksrZ z).setFlag ksrC cc).setFlag ksrV v

end Sys2Proof.Machine
end

