-- ==== Sys2Proof/Machine/Operands.lean ====
section
/-!
DEFINITION. The operand forms of the instruction set: immediates, shift counts, branch targets, addresses and condition codes
(spec 04, Tables 4.4, 4.5).
-/
namespace Sys2Proof.Machine

/-- A general register. -/
def KCore.get (c : KCore) (r : RegNo) : Word := c.w[r]

/-- Writing a general register. -/
def KCore.put (c : KCore) (r : RegNo) (v : Word) : KCore := { c with w := c.w.set r v }

/-- A general register as a signed number. -/
def KCore.geti (c : KCore) (r : RegNo) : Int := (c.get r).toInt

/-- A general register as an unsigned number. -/
def KCore.getn (c : KCore) (r : RegNo) : Nat := (c.get r).toNat

/-- An accumulator as a signed number. -/
def KCore.acci (c : KCore) (a : AccNo) : Int := c.a[a].toInt

/-- Writing an accumulator. -/
def KCore.putAcc (c : KCore) (a : AccNo) (v : Acc) : KCore := { c with a := c.a.set a v }

/-- The signed immediate of format I. -/
def immS (i : Imm17) : Word := i.signExtend 32

/-- The zero-extended immediate of ANDI, ORI and XORI. -/
def immZ (i : Imm17) : Word := i.zeroExtend 32

/-- The count of a shift: rt read as unsigned, or imm5 (after Table 4.8). -/
def KCore.shift (c : KCore) : ShiftBy → Nat
  | .reg rt => c.getn rt
  | .imm n => n.val

/-- The address of a load or store: rs + imm, exact (R95: no more than the instructions it names wrap). A sum below 0 or from 2³² on lies in no
region; it is held with its low 32 bits as they are, from 2³² on (DEDUCED, log 158). -/
def KCore.addrOf (c : KCore) (rs : RegNo) (i : Imm17) : Nat := (((c.get rs).toNat + (immS i).toInt) % 2 ^ 33).toNat

/-- The target of a branch of format B: counted in words from the branch itself. -/
def target17 (pc : Word) (o : Off17) : Word := pc + (o.signExtend 32 <<< 2)

/-- The target of a branch of format J. -/
def target25 (pc : Word) (o : Off25) : Word := pc + (o.signExtend 32 <<< 2)

/-- Condition codes 13 to 15 are illegal encodings (Table 4.5, R94). -/
def condLegal (n : Nat) : Bool := n ≤ 12

/-- Table 4.5. -/
def KCore.cond (c : KCore) (n : Nat) : Bool :=
  let z := c.flag ksrZ
  let ng := c.flag ksrN
  let cy := c.flag ksrC
  let v := c.flag ksrV
  match n with
  | 0 => z
  | 1 => !z
  | 2 => ng
  | 3 => !ng
  | 4 => cy
  | 5 => !cy
  | 6 => !ng && !z
  | 7 => ng || z
  | 8 => v
  | 9 => !v
  | 10 => cy
  | 11 => !cy
  | _ => true

/-- A bit field the encoding allows: length up to 32 and within the word (R94). -/
def fieldLegal (pos len : Nat) : Bool := decide (len ≤ 32) && decide (pos + len ≤ 32) && decide (pos < 32)

/-- The control registers MFK may name (R93). -/
def mfkLegal (k : Nat) : Bool := k < 12

/-- The control registers MTK may name: KSR, KEPC, KESR, KVBR, KROLE and KTPER (Table 4.2, R93). -/
def mtkLegal (k : Nat) : Bool := k == 0 || k == 1 || k == 2 || k == 5 || k == 7 || k == 9

/-- LDA and RDA take RAW 1 only with sh 0 (Table 4.12, R94); RAW 1 with another sh is an illegal OPERAND (DEDUCED, log 9). -/
def rawLegal (sh : ShAmt) (raw : Bool) : Bool := !raw || sh.val == 0

/-- The registers a mask of PUSHM or POPM names, lowest first. -/
def maskRegs (m : Imm16) : List RegNo := (List.finRange 16).filter fun r => m.getLsbD r.val

/-- PUSHM and POPM may not name w14 (R102). -/
def maskLegal (m : Imm16) : Bool := !m.getLsbD 14

end Sys2Proof.Machine
end

