-- ==== Sys2Proof/Machine/KreviaCore.lean ====
section
/-!
DEFINITION. What each arithmetic, logic, move and accumulator instruction of Krevia does to the registers and flags it works on
(spec 04, Tables 4.6 to 4.9 and 4.12). Engines and TAT share these.
-/
namespace Sys2Proof.Machine

/-! ### Shared forms -/

/-- A signed result into a register, clamped to 32 bits, with its flags (R95). -/
def KCore.resS (c : KCore) (rd : RegNo) (x : Int) : KCore :=
  (c.put rd (wOf (satS 32 x))).flagsSat (satS 32 x) (satS 32 x != x)

/-- An unsigned result into a register, clamped to 0 to 2³² − 1, with its flags (R95). -/
def KCore.resU (c : KCore) (rd : RegNo) (x : Int) : KCore :=
  (c.put rd (wOf (satU 32 x))).flagsSat (satU 32 x) (satU 32 x != x)

/-- A result into an accumulator, clamped to 48 bits, with its flags (R95). -/
def KCore.resA (c : KCore) (ad : AccNo) (x : Int) : KCore :=
  (c.putAcc ad (BitVec.ofInt 48 (satS 48 x))).flagsSat (satS 48 x) (satS 48 x != x)

/-! ### Table 4.6 -/

/-- ADD. -/
def kAdd (rd rs rt : RegNo) (c : KCore) : KCore := c.resS rd (c.geti rs + c.geti rt)
/-- SUB. -/
def kSub (rd rs rt : RegNo) (c : KCore) : KCore := c.resS rd (c.geti rs - c.geti rt)
/-- ADDU. -/
def kAddu (rd rs rt : RegNo) (c : KCore) : KCore := c.resU rd ((c.getn rs : Int) + c.getn rt)
/-- SUBU. -/
def kSubu (rd rs rt : RegNo) (c : KCore) : KCore := c.resU rd ((c.getn rs : Int) - c.getn rt)
/-- NEG. -/
def kNeg (rd rs : RegNo) (c : KCore) : KCore := c.resS rd (- c.geti rs)
/-- ABS. -/
def kAbs (rd rs : RegNo) (c : KCore) : KCore := c.resS rd (absI (c.geti rs))
/-- MUL. -/
def kMul (rd rs rt : RegNo) (c : KCore) : KCore := c.resS rd (c.geti rs * c.geti rt)
/-- MULH: bits [63:32] of the exact product; nothing to clamp. -/
def kMulh (rd rs rt : RegNo) (c : KCore) : KCore := c.resS rd ((c.geti rs * c.geti rt) / 2 ^ 32)

/-- DIV (R96): the quotient truncated toward 0; a zero divisor gives the largest number of the dividend's sign. -/
def kDiv (rd rs rt : RegNo) (c : KCore) : KCore :=
  let x := c.geti rs
  if c.geti rt = 0 then
    let r : Int := if 0 < x then 2 ^ 31 - 1 else if x < 0 then -(2 ^ 31) else 0
    (((c.put rd (wOf r)).flagsZN r).setFlag ksrV true).stick ksrDivz true
  else c.resS rd (x.tdiv (c.geti rt))

/-- REM (R96): the remainder of the truncated division; a zero divisor gives rs. -/
def kRem (rd rs rt : RegNo) (c : KCore) : KCore :=
  let x := c.geti rs
  if c.geti rt = 0 then (((c.put rd (c.get rs)).flagsZN x).setFlag ksrV true).stick ksrDivz true
  else c.resS rd (x - c.geti rt * x.tdiv (c.geti rt))

/-- MIN. -/
def kMin (rd rs rt : RegNo) (c : KCore) : KCore := c.resS rd (min (c.geti rs) (c.geti rt))
/-- MAX. -/
def kMax (rd rs rt : RegNo) (c : KCore) : KCore := c.resS rd (max (c.geti rs) (c.geti rt))

/-- CLAMP: rd between rs and rt; rs where rs > rt. DEDUCED (log 7): V tells of the range of the destination only. -/
def kClamp (rd rs rt : RegNo) (c : KCore) : KCore :=
  c.resS rd (if c.geti rt < c.geti rs then c.geti rs else min (max (c.geti rd) (c.geti rs)) (c.geti rt))

/-- ADDI. -/
def kAddi (rd rs : RegNo) (i : Imm17) (c : KCore) : KCore := c.resS rd (c.geti rs + (immS i).toInt)
/-- MULI. -/
def kMuli (rd rs : RegNo) (i : Imm17) (c : KCore) : KCore := c.resS rd (c.geti rs * (immS i).toInt)
/-- CMP. -/
def kCmp (rs rt : RegNo) (c : KCore) : KCore := c.flagsCmp (c.get rs) (c.get rt)
/-- CMPI. -/
def kCmpi (rs : RegNo) (i : Imm17) (c : KCore) : KCore := c.flagsCmp (c.get rs) (immS i)

/-! ### Table 4.7 -/

/-- ADDM. -/
def kAddm (rd rs rt : RegNo) (c : KCore) : KCore :=
  let r := c.get rs + c.get rt
  (c.put rd r).flagsMod r (decide (2 ^ 32 ≤ c.getn rs + c.getn rt))
/-- SUBM. -/
def kSubm (rd rs rt : RegNo) (c : KCore) : KCore :=
  let r := c.get rs - c.get rt
  (c.put rd r).flagsMod r (decide (c.getn rs < c.getn rt))
/-- ADDMI; no flag changes. -/
def kAddmi (rd rs : RegNo) (i : Imm17) (c : KCore) : KCore := c.put rd (c.get rs + immS i)
/-- MULM; no flag changes. -/
def kMulm (rd rs rt : RegNo) (c : KCore) : KCore := c.put rd (c.get rs * c.get rt)
/-- STEPM: (rs + 1) mod rt, unsigned, or rs when rt is 0; no flag changes. -/
def kStepm (rd rs rt : RegNo) (c : KCore) : KCore :=
  c.put rd (if c.getn rt = 0 then c.get rs else BitVec.ofNat 32 ((c.getn rs + 1) % c.getn rt))

/-! ### Table 4.8 -/

/-- AND. -/
def kAnd (rd rs rt : RegNo) (c : KCore) : KCore := c.put rd (c.get rs &&& c.get rt)
/-- OR. -/
def kOr (rd rs rt : RegNo) (c : KCore) : KCore := c.put rd (c.get rs ||| c.get rt)
/-- XOR. -/
def kXor (rd rs rt : RegNo) (c : KCore) : KCore := c.put rd (c.get rs ^^^ c.get rt)
/-- ANDI. -/
def kAndi (rd rs : RegNo) (i : Imm17) (c : KCore) : KCore := c.put rd (c.get rs &&& immZ i)
/-- ORI. -/
def kOri (rd rs : RegNo) (i : Imm17) (c : KCore) : KCore := c.put rd (c.get rs ||| immZ i)
/-- XORI. -/
def kXori (rd rs : RegNo) (i : Imm17) (c : KCore) : KCore := c.put rd (c.get rs ^^^ immZ i)
/-- SHL: a count of 32 or more gives 0. -/
def kShl (rd rs : RegNo) (n : ShiftBy) (c : KCore) : KCore :=
  c.put rd (if 32 ≤ c.shift n then 0 else c.get rs <<< c.shift n)
/-- SHR: a count of 32 or more gives 0. -/
def kShr (rd rs : RegNo) (n : ShiftBy) (c : KCore) : KCore :=
  c.put rd (if 32 ≤ c.shift n then 0 else c.get rs >>> c.shift n)
/-- SRA: a count of 32 or more gives the sign in all bits. -/
def kSra (rd rs : RegNo) (n : ShiftBy) (c : KCore) : KCore :=
  c.put rd ((c.get rs).sshiftRight (min 31 (c.shift n)))
/-- SHLS: sat32(rs × 2ⁿ); beyond n = 32 every non-zero rs saturates alike. -/
def kShls (rd rs : RegNo) (n : ShiftBy) (c : KCore) : KCore :=
  c.resS rd (c.geti rs * 2 ^ (min 32 (c.shift n)))
/-- ROR: by n mod 32. -/
def kRor (rd rs : RegNo) (n : ShiftBy) (c : KCore) : KCore := c.put rd ((c.get rs).rotateRight (c.shift n % 32))

/-- Leading zeros of a word: looking down from a bit. -/
def clzFrom (w : Word) : Nat → Nat
  | 0 => 0
  | n + 1 => if w.getLsbD n then 0 else 1 + clzFrom w n

/-- The 1 bits of the low n bits of a word. -/
def popFrom (w : Word) : Nat → Nat
  | 0 => 0
  | n + 1 => (if w.getLsbD n then 1 else 0) + popFrom w n

/-- CLZ. -/
def kClz (rd rs : RegNo) (c : KCore) : KCore := c.put rd (BitVec.ofNat 32 (clzFrom (c.get rs) 32))
/-- POPC. -/
def kPopc (rd rs : RegNo) (c : KCore) : KCore := c.put rd (BitVec.ofNat 32 (popFrom (c.get rs) 32))
/-- BFX: len 0 gives 0. -/
def kBfx (rd rs : RegNo) (pos len : Nat) (c : KCore) : KCore :=
  c.put rd (if len = 0 then 0 else BitVec.ofNat 32 (bits (c.get rs) (pos + len - 1) pos))
/-- BFI: len 0 leaves rd unchanged. -/
def kBfi (rd rs : RegNo) (pos len : Nat) (c : KCore) : KCore :=
  c.put rd (if len = 0 then c.get rd else setBits (c.get rd) (pos + len - 1) pos (c.getn rs))
/-- SEXT: from bit b. -/
def kSext (rd rs : RegNo) (b : Nat) (c : KCore) : KCore := c.put rd (wOf (signed (b + 1) (c.getn rs)))
/-- CRC: the CRC-32 of the word rs, least significant byte first, continued from rd. -/
def kCrc (rd rs : RegNo) (c : KCore) : KCore := c.put rd (crc32Cont (c.get rd) (wordBytes (c.get rs)))

/-! ### Table 4.9 -/

/-- MOV. -/
def kMov (rd rs : RegNo) (c : KCore) : KCore := c.put rd (c.get rs)
/-- MOVI. -/
def kMovi (rd : RegNo) (i : Imm17) (c : KCore) : KCore := c.put rd (immS i)
/-- MOVHI: the low halfword stays. -/
def kMovhi (rd : RegNo) (i : Imm16) (c : KCore) : KCore := c.put rd (setBits (c.get rd) 31 16 i.toNat)
/-- SEL. -/
def kSel (rd rs rt : RegNo) (cond : Nat) (c : KCore) : KCore := c.put rd (if c.cond cond then c.get rs else c.get rt)

/-! ### Table 4.12 -/

/-- MAC. -/
def kMac (ad : AccNo) (rs rt : RegNo) (sh : ShAmt) (c : KCore) : KCore :=
  c.resA ad (c.acci ad + rnd (c.geti rs * c.geti rt) sh.val)
/-- MSU. -/
def kMsu (ad : AccNo) (rs rt : RegNo) (sh : ShAmt) (c : KCore) : KCore :=
  c.resA ad (c.acci ad - rnd (c.geti rs * c.geti rt) sh.val)
/-- MULA. -/
def kMula (ad : AccNo) (rs rt : RegNo) (sh : ShAmt) (c : KCore) : KCore :=
  c.resA ad (rnd (c.geti rs * c.geti rt) sh.val)
/-- LDA: RAW moves the low word and clears V; Z and N are of the accumulator it leaves. -/
def kLda (ad : AccNo) (rs : RegNo) (sh : ShAmt) (raw : Bool) (c : KCore) : KCore :=
  if raw then
    let v : Acc := (c.a[ad].extractLsb' 32 16 ++ c.get rs).zeroExtend 48
    ((c.putAcc ad v).flagsZN v.toInt).setFlag ksrV false
  else c.resA ad (c.geti rs * 2 ^ sh.val)
/-- LDAH; no flag changes. -/
def kLdah (ad : AccNo) (rs : RegNo) (c : KCore) : KCore :=
  c.putAcc ad (((c.get rs).extractLsb' 0 16 ++ c.a[ad].extractLsb' 0 32).zeroExtend 48)
/-- RDA: RAW moves the low word and clears V. -/
def kRda (rd : RegNo) (ad : AccNo) (sh : ShAmt) (raw : Bool) (c : KCore) : KCore :=
  if raw then
    let v : Word := c.a[ad].extractLsb' 0 32
    ((c.put rd v).flagsZN v.toInt).setFlag ksrV false
  else c.resS rd (rnd (c.acci ad) sh.val)
/-- RDAH; no flag changes. -/
def kRdah (rd : RegNo) (ad : AccNo) (c : KCore) : KCore :=
  c.put rd ((c.a[ad].extractLsb' 32 16).signExtend 32)
/-- ADDA. -/
def kAdda (ad ae : AccNo) (c : KCore) : KCore := c.resA ad (c.acci ad + c.acci ae)
/-- SHRA. -/
def kShra (ad : AccNo) (sh : ShAmt) (c : KCore) : KCore := c.resA ad (rnd (c.acci ad) sh.val)
/-- CLRA: clears V and N and sets Z. -/
def kClra (ad : AccNo) (c : KCore) : KCore := c.resA ad 0

end Sys2Proof.Machine
end

