-- ==== Sys2Proof/Machine/KDecode.lean ====
section
/-!
DEFINITION. The instruction words of Krevia (spec 04, Tables 4.4 to 4.14): their fields, the reserved bits each encoding requires
to be 0 (R94), and the command each word stands for. An engine's debug step (R483) and TAT's slot programs (R123) read words
through this.
-/
namespace Sys2Proof.Machine

/-- The opcode field [31:25]. -/
def kOp (w : Word) : Nat := bits w 31 25
/-- The field [24:21] as a register. -/
def kRd (w : Word) : RegNo := ⟨bits w 24 21, by unfold bits; exact Nat.mod_lt _ (by decide)⟩
/-- The field [20:17] as a register. -/
def kRs (w : Word) : RegNo := ⟨bits w 20 17, by unfold bits; exact Nat.mod_lt _ (by decide)⟩
/-- The field [16:13] as a register. -/
def kRt (w : Word) : RegNo := ⟨bits w 16 13, by unfold bits; exact Nat.mod_lt _ (by decide)⟩
/-- The field [12:0] of format W. -/
def kX (w : Word) : Nat := bits w 12 0
/-- imm17 or off17. -/
def kImm (w : Word) : BitVec 17 := w.extractLsb' 0 17
/-- imm16. -/
def kImm16 (w : Word) : BitVec 16 := w.extractLsb' 0 16
/-- off25. -/
def kOff25 (w : Word) : BitVec 25 := w.extractLsb' 0 25
/-- The accumulator in [24:23]. -/
def kAd (w : Word) : AccNo := ⟨bits w 24 23, by unfold bits; exact Nat.mod_lt _ (by decide)⟩
/-- The accumulator in [22:21]. -/
def kAe (w : Word) : AccNo := ⟨bits w 22 21, by unfold bits; exact Nat.mod_lt _ (by decide)⟩
/-- The shift amount in [12:8] of format A. -/
def kSh (w : Word) : ShAmt := ⟨bits w 12 8, by unfold bits; exact Nat.mod_lt _ (by decide)⟩
/-- RAW of format A. -/
def kRaw (w : Word) : Bool := w.getLsbD 7
/-- The channel in [16:11] of format C. -/
def kCh (w : Word) : ChNo := ⟨bits w 16 11, by unfold bits; exact Nat.mod_lt _ (by decide)⟩

/-- A shift count: X[12] selects imm5 in place of rt. -/
def kShift (w : Word) : ShiftBy :=
  if w.getLsbD 12 then .imm ⟨bits w 4 0, by unfold bits; exact Nat.mod_lt _ (by decide)⟩ else .reg (kRt w)

/-- The bits of a field are all 0. -/
def kZero (w : Word) (hi lo : Nat) : Bool := bits w hi lo == 0

/-- What a word is: an instruction, an unassigned opcode, or an assigned one with a reserved bit set (R94). -/
inductive KWord where
  | ok (i : Instr)
  | badOpcode
  | badBits
deriving DecidableEq, Repr

/-- An instruction where its reserved bits are 0. -/
def kIf (c : Bool) (i : Instr) : KWord := if c then .ok i else .badBits

/-- The words of Tables 4.6 to 4.9. -/
def kDecodeArith (l : LaneId) (e : Eng) (w : Word) : KWord :=
  let rd := kRd w
  let rs := kRs w
  let rt := kRt w
  let i := kImm w
  let x0 := kX w == 0
  let d0 := rd.val == 0
  let s0 := rs.val == 0
  let shOk := kZero w 11 5 && (w.getLsbD 12 || kZero w 4 0)
  match kOp w with
  | 0x00 => kIf x0 (.add l e rd rs rt)
  | 0x01 => kIf x0 (.sub l e rd rs rt)
  | 0x02 => kIf x0 (.addu l e rd rs rt)
  | 0x03 => kIf x0 (.subu l e rd rs rt)
  | 0x04 => kIf x0 (.neg l e rd rs)
  | 0x05 => kIf x0 (.abs l e rd rs)
  | 0x06 => kIf x0 (.mul l e rd rs rt)
  | 0x07 => kIf x0 (.mulh l e rd rs rt)
  | 0x08 => kIf x0 (.div l e rd rs rt)
  | 0x09 => kIf x0 (.rem l e rd rs rt)
  | 0x0A => kIf x0 (.min l e rd rs rt)
  | 0x0B => kIf x0 (.max l e rd rs rt)
  | 0x0C => kIf x0 (.clamp l e rd rs rt)
  | 0x0D => .ok (.addi l e rd rs i)
  | 0x0E => .ok (.muli l e rd rs i)
  | 0x0F => kIf (x0 && d0) (.cmp l e rs rt)
  | 0x10 => kIf d0 (.cmpi l e rs i)
  | 0x11 => kIf x0 (.addm l e rd rs rt)
  | 0x12 => kIf x0 (.subm l e rd rs rt)
  | 0x13 => .ok (.addmi l e rd rs i)
  | 0x14 => kIf x0 (.mulm l e rd rs rt)
  | 0x15 => kIf x0 (.stepm l e rd rs rt)
  | 0x16 => kIf x0 (.and l e rd rs rt)
  | 0x17 => kIf x0 (.or l e rd rs rt)
  | 0x18 => kIf x0 (.xor l e rd rs rt)
  | 0x19 => .ok (.andi l e rd rs i)
  | 0x1A => .ok (.ori l e rd rs i)
  | 0x1B => .ok (.xori l e rd rs i)
  | 0x1C => kIf shOk (.shl l e rd rs (kShift w))
  | 0x1D => kIf shOk (.shr l e rd rs (kShift w))
  | 0x1E => kIf shOk (.sra l e rd rs (kShift w))
  | 0x1F => kIf shOk (.shls l e rd rs (kShift w))
  | 0x20 => kIf shOk (.ror l e rd rs (kShift w))
  | 0x21 => kIf x0 (.clz l e rd rs)
  | 0x22 => kIf x0 (.popc l e rd rs)
  | 0x23 => kIf (kZero w 12 11) (.bfx l e rd rs (bits w 4 0) (bits w 10 5))
  | 0x24 => kIf (kZero w 12 11) (.bfi l e rd rs (bits w 4 0) (bits w 10 5))
  | 0x25 => kIf (kZero w 12 5) (.sext l e rd rs (bits w 4 0))
  | 0x26 => kIf x0 (.crc l e rd rs)
  | 0x27 => kIf x0 (.mov l e rd rs)
  | 0x28 => kIf s0 (.movi l e rd i)
  | 0x29 => kIf (s0 && kZero w 16 16) (.movhi l e rd (kImm16 w))
  | 0x2A => kIf (kZero w 12 4) (.sel l e rd rs rt (bits w 3 0))
  | 0x2B => kIf (kZero w 15 0) (.mfk l e rd (bits w 20 16))
  | 0x2C => kIf (kZero w 15 0) (.mtk l e (bits w 20 16) rd)
  | _ => .badOpcode

/-- The words of Tables 4.10 to 4.12. -/
def kDecodeMem (l : LaneId) (e : Eng) (ecc : Ecc) (w : Word) : KWord :=
  let rd := kRd w
  let rs := kRs w
  let rt := kRt w
  let i := kImm w
  let x0 := kX w == 0
  let d0 := rd.val == 0
  let s0 := rs.val == 0
  let t0 := rt.val == 0
  let a0 := kZero w 6 0
  match kOp w with
  | 0x2D => .ok (.ldw l e rd rs i ecc)
  | 0x2E => .ok (.ldh l e rd rs i ecc)
  | 0x2F => .ok (.ldhu l e rd rs i ecc)
  | 0x30 => .ok (.ldb l e rd rs i ecc)
  | 0x31 => .ok (.ldbu l e rd rs i ecc)
  | 0x32 => .ok (.stw l e rd rs i)
  | 0x33 => .ok (.sth l e rd rs i ecc)
  | 0x34 => .ok (.stb l e rd rs i ecc)
  | 0x35 => kIf (d0 && s0 && kZero w 16 16) (.pushm l e (kImm16 w))
  | 0x36 => kIf (d0 && s0 && kZero w 16 16) (.popm l e (kImm16 w) ecc)
  | 0x37 => kIf (x0 && t0) (.xchg l e rd rs ecc)
  | 0x38 => kIf x0 (.cas l e rd rs rt ecc)
  | 0x39 => kIf x0 (.copy l e rd rs rt ecc)
  | 0x3A => kIf x0 (.fill l e rd rs rt)
  | 0x3B => kIf x0 (.tidx l e rd rs rt ecc)
  | 0x3C => kIf x0 (.tsrch l e rd rs rt ecc)
  | 0x3D => kIf x0 (.tscan l e rd rs rt ecc)
  | 0x3E => kIf x0 (.tint l e rd rs rt ecc)
  | 0x3F => kIf (a0 && !kRaw w) (.mac l e (kAd w) rs rt (kSh w))
  | 0x40 => kIf (a0 && !kRaw w) (.msu l e (kAd w) rs rt (kSh w))
  | 0x41 => kIf (a0 && !kRaw w) (.mula l e (kAd w) rs rt (kSh w))
  | 0x42 => kIf (a0 && t0) (.lda l e (kAd w) rs (kSh w) (kRaw w))
  | 0x43 => kIf (a0 && t0 && (kSh w).val == 0 && !kRaw w) (.ldah l e (kAd w) rs)
  | 0x44 => kIf a0 (.rda l e rs (kAd w) (kSh w) (kRaw w))
  | 0x45 => kIf (a0 && !kRaw w) (.rdah l e rs (kAd w))
  | 0x46 => kIf (a0 && !kRaw w) (.adda l e (kAd w) (kAe w))
  | 0x47 => kIf (a0 && !kRaw w) (.shra l e (kAd w) (kSh w))
  | 0x48 => kIf (a0 && !kRaw w) (.clra l e (kAd w))
  | _ => .badOpcode

/-- The words of Tables 4.13 and 4.14. -/
def kDecodeFlow (l : LaneId) (e : Eng) (w : Word) : KWord :=
  let rd := kRd w
  let rs := kRs w
  let rt := kRt w
  let i := kImm w
  let x0 := kX w == 0
  let d0 := rd.val == 0
  let s0 := rs.val == 0
  let t0 := rt.val == 0
  let c0 := kZero w 10 0
  match kOp w with
  | 0x49 => .ok (.b l e (kOff25 w))
  | 0x4A => .ok (.bl l e (kOff25 w))
  | 0x4B => kIf (x0 && d0 && t0) (.br l e rs)
  | 0x4C => kIf (x0 && d0 && t0) (.blr l e rs)
  | 0x4D => .ok (.beq l e rd rs i)
  | 0x4E => .ok (.bne l e rd rs i)
  | 0x4F => .ok (.blt l e rd rs i)
  | 0x50 => .ok (.bge l e rd rs i)
  | 0x51 => .ok (.bltu l e rd rs i)
  | 0x52 => .ok (.bgeu l e rd rs i)
  | 0x53 => kIf s0 (.bcc l e (bits w 24 21) i)
  | 0x54 => kIf s0 (.loop l e rd i)
  | 0x55 => kIf (kZero w 24 0) (.eret l e)
  | 0x56 => kIf (kZero w 24 0) (.fence l e)
  | 0x57 => kIf (c0 && s0) (.send l e (kCh w) rd)
  | 0x58 => kIf (c0 && s0) (.recv l e rd (kCh w))
  | 0x59 => kIf c0 (.sendnb l e rd rs (kCh w))
  | 0x5A => kIf (c0 && s0) (.recvnb l e rd (kCh w))
  | 0x5B => kIf x0 (.chsel l e rd rs rt)
  | 0x5C => kIf (c0 && s0) (.chstat l e rd (kCh w))
  | 0x5D => kIf (x0 && s0) (.rgld l e rd rt)
  | 0x5E => kIf x0 (.rgst l e rd rs rt)
  | 0x5F => kIf (x0 && s0) (.rgchk l e rd rt)
  | _ => .badOpcode

/-- The instruction of a word, for the engine that meets it; opcodes 0x60 to 0x7F are not assigned (R94). -/
def kDecode (l : LaneId) (e : Eng) (ecc : Ecc) (w : Word) : KWord :=
  if kOp w ≤ 0x2C then kDecodeArith l e w
  else if kOp w ≤ 0x48 then kDecodeMem l e ecc w
  else kDecodeFlow l e w

/-- The operand values an encoding forbids beside its reserved bits (R93, R94, R102). -/
def operandsLegal : Instr → Bool
  | .bfx _ _ _ _ p n => fieldLegal p n
  | .bfi _ _ _ _ p n => fieldLegal p n
  | .sext _ _ _ _ b => decide (b < 32)
  | .sel _ _ _ _ _ c => condLegal c
  | .bcc _ _ c _ => condLegal c
  | .mfk _ _ _ k => mfkLegal k
  | .mtk _ _ k _ => mtkLegal k
  | .lda _ _ _ _ sh raw => rawLegal sh raw
  | .rda _ _ _ _ sh raw => rawLegal sh raw
  | .pushm _ _ m => maskLegal m
  | .popm _ _ m _ => maskLegal m
  | _ => true

/-- What an instruction of Tables 4.6 to 4.9 and 4.12 does to a core, where it is one of the loop subset (the Loop
columns of Tables 4.6 to 4.12). -/
def loopCore : Instr → Option (KCore → KCore)
  | .add _ _ rd rs rt => some (kAdd rd rs rt)
  | .sub _ _ rd rs rt => some (kSub rd rs rt)
  | .addu _ _ rd rs rt => some (kAddu rd rs rt)
  | .subu _ _ rd rs rt => some (kSubu rd rs rt)
  | .neg _ _ rd rs => some (kNeg rd rs)
  | .abs _ _ rd rs => some (kAbs rd rs)
  | .mul _ _ rd rs rt => some (kMul rd rs rt)
  | .mulh _ _ rd rs rt => some (kMulh rd rs rt)
  | .min _ _ rd rs rt => some (kMin rd rs rt)
  | .max _ _ rd rs rt => some (kMax rd rs rt)
  | .clamp _ _ rd rs rt => some (kClamp rd rs rt)
  | .addi _ _ rd rs i => some (kAddi rd rs i)
  | .muli _ _ rd rs i => some (kMuli rd rs i)
  | .cmp _ _ rs rt => some (kCmp rs rt)
  | .cmpi _ _ rs i => some (kCmpi rs i)
  | .and _ _ rd rs rt => some (kAnd rd rs rt)
  | .or _ _ rd rs rt => some (kOr rd rs rt)
  | .xor _ _ rd rs rt => some (kXor rd rs rt)
  | .andi _ _ rd rs i => some (kAndi rd rs i)
  | .ori _ _ rd rs i => some (kOri rd rs i)
  | .xori _ _ rd rs i => some (kXori rd rs i)
  | .shl _ _ rd rs n => some (kShl rd rs n)
  | .shr _ _ rd rs n => some (kShr rd rs n)
  | .sra _ _ rd rs n => some (kSra rd rs n)
  | .shls _ _ rd rs n => some (kShls rd rs n)
  | .ror _ _ rd rs n => some (kRor rd rs n)
  | .clz _ _ rd rs => some (kClz rd rs)
  | .popc _ _ rd rs => some (kPopc rd rs)
  | .bfx _ _ rd rs p n => some (kBfx rd rs p n)
  | .bfi _ _ rd rs p n => some (kBfi rd rs p n)
  | .sext _ _ rd rs b => some (kSext rd rs b)
  | .mov _ _ rd rs => some (kMov rd rs)
  | .movi _ _ rd i => some (kMovi rd i)
  | .movhi _ _ rd i => some (kMovhi rd i)
  | .sel _ _ rd rs rt c => some (kSel rd rs rt c)
  | .mac _ _ ad rs rt sh => some (kMac ad rs rt sh)
  | .msu _ _ ad rs rt sh => some (kMsu ad rs rt sh)
  | .mula _ _ ad rs rt sh => some (kMula ad rs rt sh)
  | .lda _ _ ad rs sh raw => some (kLda ad rs sh raw)
  | .rda _ _ rd ad sh raw => some (kRda rd ad sh raw)
  | .adda _ _ ad ae => some (kAdda ad ae)
  | .shra _ _ ad sh => some (kShra ad sh)
  | .clra _ _ ad => some (kClra ad)
  | _ => none

/-- The branches of the loop subset: whether the branch is taken, and its offset in words. -/
def loopBranch (c : KCore) : Instr → Option (Bool × Int)
  | .b _ _ o => some (true, o.toInt)
  | .beq _ _ rs rt o => some (c.get rs == c.get rt, o.toInt)
  | .bne _ _ rs rt o => some (c.get rs != c.get rt, o.toInt)
  | .blt _ _ rs rt o => some ((c.get rs).slt (c.get rt), o.toInt)
  | .bge _ _ rs rt o => some (!(c.get rs).slt (c.get rt), o.toInt)
  | .bltu _ _ rs rt o => some ((c.get rs).ult (c.get rt), o.toInt)
  | .bgeu _ _ rs rt o => some (!(c.get rs).ult (c.get rt), o.toInt)
  | .bcc _ _ n o => some (c.cond n, o.toInt)
  | _ => none

/-- The handshake steps of a word of the loop subset (Tables 4.6 to 4.14, 5.3); a branch counts as taken. -/
def loopSteps (w : Word) : Nat :=
  let op := kOp w
  if op = 0x06 ∨ op = 0x07 ∨ op = 0x0E ∨ op = 0x3F ∨ op = 0x40 ∨ op = 0x41 then 5
  else if op = 0x2D ∨ (0x49 ≤ op ∧ op ≤ 0x53) ∨ op = 0x63 then 4
  else if op = 0x60 then 68
  else if op = 0x61 then 8
  else 3

/-- The four loop-only operations (Table 5.3). -/
inductive LoopOnly where
  | lgain (rd rs : RegNo)
  | bqd (rd rs : RegNo) (s : AccNo)
  | lclmp (rd rs : RegNo) (p : AccNo)
  | out (rs : RegNo) (p : AccNo) (last : Bool)
deriving DecidableEq, Repr

/-- The section, pair or port in X[1:0]. -/
def kSel2 (w : Word) : AccNo := ⟨bits w 1 0, by unfold bits; exact Nat.mod_lt _ (by decide)⟩

/-- A loop-only word whose reserved bits are 0. -/
def kDecodeLoop (w : Word) : Option LoopOnly :=
  let t0 := (kRt w).val == 0
  let x2 := kZero w 12 2
  match kOp w with
  | 0x60 => if t0 && kX w == 0 then some (.lgain (kRd w) (kRs w)) else none
  | 0x61 => if t0 && x2 then some (.bqd (kRd w) (kRs w) (kSel2 w)) else none
  | 0x62 => if t0 && x2 then some (.lclmp (kRd w) (kRs w) (kSel2 w)) else none
  | 0x63 => if (kRd w).val == 0 && t0 && kZero w 12 9 && kZero w 7 2 then
      some (.out (kRs w) (kSel2 w) (w.getLsbD 8)) else none
  | _ => none

end Sys2Proof.Machine
end

