-- ==== Sys2Proof/Machine/Fixed.lean ====
section
/-!
DEFINITION. Square roots and circular functions in fixed point, where the manual's formulas are over real numbers.
-/
namespace Sys2Proof.Machine

/-- The integer square root of a number below 2¹²⁸, bit by bit from the k-th down. -/
def isqrtFrom (n : Nat) : Nat → Nat → Nat
  | 0, r => r
  | k + 1, r => isqrtFrom n k (if (r + 2 ^ k) * (r + 2 ^ k) ≤ n then r + 2 ^ k else r)

/-- The integer square root of a number below 2¹²⁸. -/
def isqrt (n : Nat) : Nat := isqrtFrom n 64 0

/-- One, in the fixed point these functions work in. -/
def fx : Int := 2 ^ 60
/-- π in that fixed point. -/
def fxPi : Int := 3622009729038561421
/-- A product in that fixed point. -/
def fxMul (a b : Int) : Int := a * b / fx

/-- The sine of an angle from 0 to π/2, by its series to the nineteenth power. -/
def fxSinQ (x : Int) : Int :=
  let q := fxMul x x
  let rec go : Nat → Int → Int → Int
    | 0, _, acc => acc
    | n + 1, term, acc =>
      let k : Int := 2 * (9 - n) + 2
      let t := -(fxMul term q) / (k * (k + 1))
      go n t (acc + t)
  go 9 x x

/-- The sine of an angle in 2⁻³² of a turn. -/
def fxSin (t : Int) : Int :=
  let u := t % 2 ^ 32
  let r := fun x : Int => fxSinQ (x * 2 * fxPi / 2 ^ 32)
  if u < 2 ^ 30 then r u
  else if u < 2 ^ 31 then r (2 ^ 31 - u)
  else if u < 3 * 2 ^ 30 then -(r (u - 2 ^ 31))
  else -(r (2 ^ 32 - u))

/-- The cosine of an angle in 2⁻³² of a turn. -/
def fxCosT (t : Int) : Int := fxSin (t + 2 ^ 30)

end Sys2Proof.Machine
end

