-- ==== Sys2Proof/Machine/Access.lean ====
section
/-!
DEFINITION. How a meaning reaches the parts of the state: the lanes, their blocks and engines, the gates that hold a block, and
the events a block sends to the engines.
-/
namespace Sys2Proof.Machine

/-! ### The world and its commands -/

/-- One lane of the part. -/
def World.lane (w : World) : LaneId → Lane
  | .a => w.laneA
  | .b => w.laneB

/-- The part with one lane replaced. -/
def World.setLane (w : World) : LaneId → Lane → World
  | .a, x => { w with laneA := x }
  | .b, x => { w with laneB := x }

/-- The part with one lane updated. -/
def World.updLane (w : World) (l : LaneId) (f : Lane → Lane) : World := w.setLane l (f (w.lane l))

/-- A command that always completes, by what it does to the part; the queue is the step's. -/
def lift (f : World → World) (s : State) : Host.Outcome State Fault Refusal :=
  .next { s with toWorld := f s.toWorld }

/-- What an input of a shared pad does: it reaches both lanes (R22). -/
def World.pads (f : LaneId → World → World) (w : World) : World := f .b (f .a w)

/-! ### Gates, and whether a block acts -/

/-- The STATE of a domain gate (Table 1.10). -/
def Lane.gateState (L : Lane) (n : Nat) : Nat := bits (rget L.regs A_SYS_DGSTAT) (4 * n + 1) (4 * n)

/-- The CAUSE of a domain gate (Table 1.10). -/
def Lane.gateCause (L : Lane) (n : Nat) : Nat := bits (rget L.regs A_SYS_DGSTAT) (4 * n + 3) (4 * n + 2)

/-- A lane with one domain gate set. -/
def Lane.setGate (L : Lane) (n st cause : Nat) : Lane :=
  let w := setBits (setBits (rget L.regs A_SYS_DGSTAT) (4 * n + 1) (4 * n) st) (4 * n + 3) (4 * n + 2) cause
  { L with regs := rput L.regs A_SYS_DGSTAT w }

/-- Gate STATE codes: OPEN, CLOSING, CLOSED, REOPENING. -/
def gOpen : Nat := 0
def gClosing : Nat := 1
def gClosed : Nat := 2
def gReopening : Nat := 3
/-- Gate CAUSE codes: none, RESET, UPDATE, POWER_DOWN. -/
def gcReset : Nat := 1
def gcUpdate : Nat := 2
def gcPower : Nat := 3

/-- PWR_STAT.STATE codes (Table 17.8). -/
def pwrRun : Nat := 0
def pwrDoze : Nat := 1
def pwrEntering : Nat := 2
def pwrHush : Nat := 3

/-- The lane is in Doze (R491). -/
def Lane.dozing (L : Lane) : Bool := getF L.regs F_PWR_STAT_STATE == pwrDoze

/-- A quarter is held in reset: it has not announced READY, so its gate is CLOSED with cause RESET (R25, R31). -/
def Lane.held (L : Lane) (q : Quarter) : Bool :=
  L.gateState q.num == gClosed && L.gateCause q.num == gcReset

/-- The lane's engines are held: in UPDATE (R405), and in SUSPECT while its self-test runs (R384). -/
def Lane.engsHeld (L : Lane) : Bool :=
  let st := getF L.regs F_LNK_STAT_STATE
  st == 5 || (st == 4 && !L.lnk.testOk)

/-- A block is held in retention (R35, R491). -/
def Lane.retains (L : Lane) (b : Block) : Bool :=
  L.dozing && (match b with
    | .tat | .dor => true
    | .eng n => decide (1 ≤ n.val ∧ n.val ≤ 7)
    | _ => false)

/-- A block acts: its lane runs, its quarter is not held in reset, the block is not in retention, and an engine is not held. -/
def Lane.up (L : Lane) (b : Block) : Bool :=
  decide (L.phase = .run) && !L.held b.quarter &&
  !(L.engsHeld && (match b with
    | .eng _ => true
    | _ => false)) &&
  !L.retains b

/-- The spine of a lane acts: the lane runs. -/
def Lane.spine (L : Lane) : Bool := decide (L.phase = .run)

/-- What a block of a lane does when it acts; otherwise nothing. -/
def onBlock (l : LaneId) (b : Block) (f : Lane → Lane) (w : World) : World :=
  if (w.lane l).up b then w.updLane l f else w

/-- What the spine of a lane does when it runs; otherwise nothing. -/
def onSpine (l : LaneId) (f : Lane → Lane) (w : World) : World :=
  if (w.lane l).spine then w.updLane l f else w

/-- The clock of F, from 0, at which an instant of a period and phase lies within the present microsecond (DEDUCED, log 141): the clocks from F to it. -/
def instantIn (fclk period phase : Nat) : Option Nat :=
  let off := (phase + (period - fclk % period)) % period
  if off < 80 then some off else none

/-! ### Shorthands on a lane -/

/-- A field of a lane's registers. -/
def Lane.f (L : Lane) (f : Field) : Nat := getF L.regs f
/-- A field of a lane's registers, signed. -/
def Lane.i (L : Lane) (f : Field) : Int := getI L.regs f
/-- A one-bit field of a lane's registers. -/
def Lane.b (L : Lane) (f : Field) : Bool := getB L.regs f
/-- Writing a field of a lane's registers. -/
def Lane.s (L : Lane) (f : Field) (v : Nat) : Lane := { L with regs := setF L.regs f v }
/-- Writing a signed field of a lane's registers. -/
def Lane.si (L : Lane) (f : Field) (v : Int) : Lane := { L with regs := setI L.regs f v }
/-- Writing a one-bit field of a lane's registers. -/
def Lane.sb (L : Lane) (f : Field) (v : Bool) : Lane := { L with regs := setB L.regs f v }
/-- Adding to a saturating counter of a lane's registers. -/
def Lane.inc (L : Lane) (f : Field) (n : Nat := 1) : Lane := { L with regs := addF L.regs f n }
/-- Raising a sticky bit where a condition holds. -/
def Lane.stick (L : Lane) (c : Bool) (f : Field) : Lane := if c then L.s f 1 else L
/-- A posted write toward a domain: performed where its gate is open, else discarded and counted (R28). -/
def Lane.posted (L : Lane) (g : Nat) (f : Lane → Lane) : Lane :=
  if L.gateState g = gOpen then f L else L.inc F_SYS_DGCNT_ABORTS
/-- A write at a block's own port: discarded and counted where the block is in retention (R35). -/
def Lane.atPort (L : Lane) (b : Block) (f : Lane → Lane) : Lane := if L.retains b then L.inc F_SYS_DGCNT_ABORTS else f L
/-- A step taken only where a condition holds. -/
def Lane.ifDo (L : Lane) (c : Bool) (f : Lane → Lane) : Lane := if c then f L else L

/-- A lane with one engine updated. -/
def Lane.updEng (L : Lane) (e : Eng) (f : Engine → Engine) : Lane := { L with eng := L.eng.set e (f L.eng[e]) }

/-- A foreground engine's number among the twelve. -/
def fgEng (n : FgEng) : Eng := ⟨n.val, by omega⟩

/-- An index clamped into a finite range, for a number a register supplies. -/
def fin (n : Nat) (h : 0 < n) (i : Nat) : Fin n := ⟨i % n, Nat.mod_lt i h⟩

/-- Does the code report an uncorrectable error at the k-th word read? -/
def eccBad (e : Ecc) (k : Nat) : Bool := decide (e.kind = .uncorrectable) && decide (e.pos = k)

/-- Does the code report a corrected error at the k-th word read? -/
def eccFixed (e : Ecc) (k : Nat) : Bool := decide (e.kind = .corrected) && decide (e.pos = k)

/-- The block whose ECC status counts the events at an address (R503, Table 18.3): a block's own macros, the engine's local SRAM, flash with NVM, the
shared table SRAM. -/
def eccBlock (a : Nat) : Nat :=
  if a < 0x20000000 then 26
  else if a < 0x20180000 then (a - 0x20000000) / 0x20000
  else if a < 0x40000000 then 29
  else match a / 0x10000 with
    | 0x4003 => 12
    | 0x4004 => 13
    | 0x4005 => 14
    | 0x4006 => 15
    | 0x4007 => 16
    | 0x4008 => 17
    | 0x4009 => 18
    | 0x400D => 20 + (a - 0x400D0000) / 0x4000 % 4
    | 0x400E => 19
    | 0x400F => 24
    | 0x4010 => 26
    | 0x4012 => 27
    | 0x4013 => 28
    | _ => 29

/-- A corrected error: counted, and its word posted to E8 (R69, R70). -/
def eccCorrected (a : Nat) (L : Lane) : Lane :=
  let L := L.inc (F_SYS_BLKSTAT_CE (eccBlock a))
  if L.post.length < 8 then { L with post := L.post ++ [a] }
  else L.s F_SCR_STAT_CQ_OVF_S 1

/-- An uncorrectable error: counted, and the word stays so until it is written in full (R71). -/
def eccLost (a : Nat) (L : Lane) : Lane :=
  let L := L.inc (F_SYS_BLKSTAT_UE (eccBlock a))
  if L.ue.contains a then L else { L with ue := a :: L.ue }

/-- Words a block reads one after the other, the first of them the k-th of its reads (R69, R71): corrected ones counted and posted; at an
uncorrectable one it stops. -/
def eccReads (c : Ecc) : Nat → List Nat → Lane → Lane × Bool
  | _, [], L => (L, true)
  | k, a :: r, L =>
    if eccBad c k || L.ue.contains a then (eccLost a L, false)
    else eccReads c (k + 1) r (L.ifDo (eccFixed c k) (eccCorrected a))

/-- Words written in full are no longer wrong (R72): n bytes from an address. -/
def Lane.healed (L : Lane) (a n : Nat) : Lane := { L with ue := L.ue.filter fun x => !(decide (a ≤ x) && decide (x < a + n)) }

/-- Whole words written by a block into the table SRAM, from an offset up. -/
def Lane.tsPut (L : Lane) (off : Nat) (b : Bytes) : Lane :=
  ({ L with tsram := writeBytes 0 L.tsram off b }).healed (0x30000000 + off) b.length

/-- Bytes written into the flash, from an offset up; the lines they fill are good again (R72). -/
def Lane.flashPut (L : Lane) (off : Nat) (b : Bytes) : Lane :=
  ({ L with flash := writeBytes 0xFF L.flash off b }).healed (0x08000000 + off) b.length

/-- A range of the flash erased; its lines are good again (R72). -/
def Lane.flashErase (L : Lane) (off n : Nat) : Lane := ({ L with flash := clearRange L.flash off n }).healed (0x08000000 + off) n

/-- A sample instant of the user of a calibrated item (R82): the gain and, of a door's currents, the offset that wait take effect. -/
def Lane.calTake (L : Lane) (i : Fin 5) : Lane :=
  match L.bg.calNext[i] with
  | none => L
  | some (g, o) => { L with bg := { L.bg with
      cal := L.bg.cal.set i g, calNext := L.bg.calNext.set i none,
      calOfs := if h : i.val < 2 then L.bg.calOfs.set i.val o else L.bg.calOfs } }

/-- A reading after the gain of E9, given in ppm from the factory trim (R82); rounded as R97 rounds. -/
def Lane.calGain (L : Lane) (i : Fin 5) (x : Int) : Int := rdiv (x * (1000000 + L.bg.cal[i])) 1000000

/-! ### Waits of the engines (R105 to R108) -/

/-- An endpoint is among two masks. -/
def inMasks (m0 m1 : Word) (ch : ChNo) : Bool := if ch.val < 32 then m0.getLsbD ch.val else m1.getLsbD (ch.val - 32)

/-- An engine waits in an operation on an endpoint. -/
def waitsOn (w : Option KWait) (ch : ChNo) : Bool :=
  match w with
  | some (.send c) => c == ch
  | some (.recv c) => c == ch
  | some (.sel m0 m1) => inMasks m0 m1 ch
  | none => false

/-! ### Events from the hardware to the engines (R105, R49) -/

/-- The word of an event: its code in [31:16] and how many it stands for in [3:0]. -/
def evWord (code count : Nat) : Word := BitVec.ofNat 32 (code * 65536 + count)

/-- The code of event bit k (16 to 31). -/
def evBit (k : Nat) : Nat := 2 ^ (k - 16)

/-- An event arriving at an endpoint: stored where a word is free, else counted with the ones that wait, at most 15
(R49, R50). -/
def Endpoint.event (p : Endpoint) (code count : Nat) : Endpoint :=
  if p.fifo.length < 4 ∧ p.evCount = 0 then { p with fifo := p.fifo ++ [evWord code count] }
  else { p with evCode := p.evCode ||| code, evCount := min 15 (p.evCount + count) }

/-- Taking the oldest word of an endpoint; the events that waited move into the word that is freed. -/
def Endpoint.take (p : Endpoint) : Endpoint :=
  let q := { p with fifo := p.fifo.drop 1 }
  if q.evCount = 0 then q
  else { q with fifo := q.fifo ++ [evWord q.evCode q.evCount], evCode := 0, evCount := 0 }

/-- The enabled receive endpoints bound to a hardware source: engine and endpoint, read off the listed SYS_CHCFG words. -/
def Lane.boundTo (L : Lane) (peer : Nat) : List (Eng × ChNo) :=
  L.regs.filterMap fun (a, w) =>
    if A_SYS_CHCFG 0 0 ≤ a ∧ a < A_SYS_CHCFG 0 0 + 0x800 ∧ w.getLsbD 31 ∧ w.getLsbD 30 ∧ bits w 21 16 = peer
    then some (fin 12 (by decide) ((a - A_SYS_CHCFG 0 0) / 0x100), fin 64 (by decide) ((a - A_SYS_CHCFG 0 0) % 0x100 / 4))
    else none

/-- Is crossing n open? (Table 2.14) -/
def Lane.xOpen (L : Lane) (n : Nat) : Bool :=
  if n < 32 then getBit L.regs F_XCR_OPEN0_OPEN n else getBit L.regs F_XCR_OPEN1_OPEN (n - 32)

/-- Raising a crossing's overflow bit (R50). -/
def Lane.xOvf (L : Lane) (n : Nat) : Lane :=
  if n < 32 then { L with regs := setBit L.regs F_XCR_OVF0_OVF_S n true }
  else { L with regs := setBit L.regs F_XCR_OVF1_OVF_S (n - 32) true }

/-- The pulse-to-toggle crossing a hardware source's events take (Table 2.10), where it has one. -/
def peerCrossing (peer : Nat) : Option (Fin 48) :=
  if peer = 32 then some 30 else if peer = 33 then some 31 else if peer = 34 then some 32 else if peer = 35 then some 33
  else if peer = 36 then some 35 else if peer = 37 then some 37 else if peer = 38 then some 42
  else if peer = 39 then some 44 else none

/-- Events that arrive at an endpoint; those that wait there beyond 15 saturate the count of their crossing (R50, R105). -/
def Lane.epEvent (L : Lane) (x : Option (Fin 48)) (code count : Nat) (e : Eng) (ch : ChNo) : Lane :=
  let p := L.eng[e].ep[ch]
  let M := L.updEng e fun g => { g with ep := g.ep.set ch (g.ep[ch].event code count) }
  match x with
  | some n => if (4 ≤ p.fifo.length ∨ 0 < p.evCount) ∧ 15 < p.evCount + count then M.xOvf n.val else M
  | none => M

/-- A word of event codes and count delivered to every endpoint bound to a source. -/
def Lane.deliver (L : Lane) (peer code count : Nat) : Lane :=
  (L.boundTo peer).foldl (fun L (e, ch) => L.epEvent (peerCrossing peer) code count e ch) L

/-- The crossing of an engine's timer ticks (Table 2.10). -/
def timerXing (e : Eng) : Fin 48 := if e.val < 8 then 46 else 47

/-- The endpoints of an engine that its timer feeds: ch63, and those bound to it (R105); E8 to E11 have no channels (R62). -/
def Lane.timerHears (L : Lane) (e : Eng) (ch : ChNo) : Bool :=
  let w := rget L.regs (A_SYS_CHCFG e.val ch.val)
  decide (e.val < 8) && (ch.val == 63 || (w.getLsbD 31 && w.getLsbD 30 && bits w 21 16 == 8))

/-- The ticks that a toggle of crossing 46 or 47 brings, to each engine its own (DESIGN CHOICE, log 138); none to a timer that has been stopped. -/
def Lane.ticksThrough (L : Lane) (n : Fin 48) : Lane :=
  (List.finRange 12).foldl (fun (L : Lane) (e : Eng) =>
    let k := L.tick[e]
    if k = 0 ∨ timerXing e ≠ n then L
    else
      let M : Lane := { L with tick := L.tick.set e 0 }
      if M.eng[e].ktper = 0 then M
      else ((List.finRange 64).filter fun ch => M.timerHears e ch).foldl (fun L ch => L.epEvent (some n) 0 k e ch) M) L

/-- The hardware source behind a pulse-to-toggle crossing. -/
def crossingPeer (n : Nat) : Option Nat :=
  if n = 30 then some 32 else if n = 31 then some 33 else if n = 32 then some 34 else if n = 33 then some 35
  else if n = 35 then some 36 else if n = 37 then some 37 else if n = 42 then some 38 else if n = 44 then some 39
  else none

/-- Sample ticks that reach a slot's program (R119, R120): one run covers them. -/
def Lane.slotTicks (L : Lane) (n : Fin 8) (count : Nat) : Lane :=
  let st := getF L.regs (F_TAT_SLOTSTAT_STATE n.val)
  if st = 1 ∨ st = 3 then
    { L with tat := { L.tat with slots := L.tat.slots.set n { L.tat.slots[n] with ticks := L.tat.slots[n].ticks + count, pending := true } } }
  else L

/-- What a toggle brings to the destination of a pulse-to-toggle crossing (Table 2.10): ticks to a loop slot, SPG or BOB, a word to the endpoints bound to
a block, the ticks of the engines' timers. -/
def Lane.crossed (L : Lane) (n : Fin 48) (code count : Nat) : Lane :=
  if h : n.val < 8 then L.slotTicks ⟨n.val, h⟩ count
  else if n.val = 16 then { L with spg := { L.spg with ticks := L.spg.ticks + count } }
  else if n.val = 17 then { L with bob := { L.bob with ticks := L.bob.ticks + count } }
  else if 46 ≤ n.val then L.ticksThrough n
  else match crossingPeer n.val with
    | some p => L.deliver p code count
    | none => L

/-- An event at the source of a pulse-to-toggle crossing (R49, R50): a toggle with count 1 from idle, else counted. -/
def Lane.crossEvent (L : Lane) (n : Fin 48) (code : Nat) : Lane :=
  let c := L.xing[n]
  if !L.xOpen n.val then L
  else if !c.busy then
    ({ L with xing := L.xing.set n { c with busy := true } }).crossed n code 1
  else if c.acc < 15 then { L with xing := L.xing.set n { c with acc := c.acc + 1, code := c.code ||| code } }
  else L.xOvf n.val

/-- The toggle of a pulse-to-toggle crossing returns (R49): the accumulated count is sent, or the source goes idle. -/
def Lane.toggleBack (L : Lane) (n : Fin 48) : Lane :=
  let c := L.xing[n]
  if !c.busy then L
  else if 0 < c.acc then
    ({ L with xing := L.xing.set n { c with acc := 0, code := 0 } }).crossed n c.code c.acc
  else { L with xing := L.xing.set n { c with busy := false } }

/-- A block's event, with the source codes of its chapter, to the engines that listen (R105). -/
def Lane.event (L : Lane) (peer code : Nat) : Lane :=
  match peerCrossing peer with
  | some n => L.crossEvent n code
  | none => L.deliver peer code 1

/-- An event sent where a condition holds. -/
def Lane.eventIf (L : Lane) (c : Bool) (peer code : Nat) : Lane := if c then L.event peer code else L

/-! ### Status codes (Table 4.18) -/

def stOk : Nat := 0x00
def stQfull : Nat := 0x01
def stBadValue : Nat := 0x02
def stRoleDenied : Nat := 0x03
def stNotHolder : Nat := 0x04
def stNoop : Nat := 0x05
def stLogFull : Nat := 0x06
def stAbortReset : Nat := 0x07
def stPeerReset : Nat := 0x08
def stUnbound : Nat := 0x09

end Sys2Proof.Machine
end

