-- ==== Sys2Proof/Machine/RegAccess.lean ====
section
/-!
DEFINITION. Registers by their map: the row of an address, what a write of a value would change, which values a field accepts,
the word a write leaves (Table 0.5, R11 to R15), and what a reset of a level leaves (R4).
-/
namespace Sys2Proof.Machine

/-- Does an address name a copy of this row's register? -/
def rowHas (r : RegRow) (a : Nat) : Bool :=
  decide (r.addr ≤ a) &&
  (let o := a - r.addr
   if r.n = 1 then decide (o % r.t = 0) && decide (o / r.t < r.m)
   else if r.s < r.t * r.m ∧ r.t ≥ r.s then decide (o % r.t % r.s = 0) && decide (o / r.t < r.m) && decide (o % r.t / r.s < r.n)
   else decide (o / r.s < r.n) && decide (o % r.s % r.t = 0) && decide (o % r.s / r.t < r.m))

/-- The row of an address, if it names a register (R109). -/
def rowOf (a : Nat) : Option RegRow := (blockRows a).find? fun r => rowHas r a

/-- The fields of a register; none where the address names none. -/
def fieldsOf (a : Nat) : List FieldRow := match rowOf a with
  | some r => r.fields
  | none => []

/-- Does a field accept a value? (R14) -/
def legalOk (g : Legal) (x : Nat) : Bool :=
  match g with
  | .any => true
  | .le n => decide (x ≤ n)
  | .rng a b => decide (a ≤ x) && decide (x ≤ b)
  | .key k => decide (x = k)
  | .mul a b k => decide (a ≤ x) && decide (x ≤ b) && decide (x % k = 0)
  | .oneOf l => l.any fun p => decide (p.1 ≤ x) && decide (x ≤ p.2)

/-- Every field of the register accepts the value a write carries. -/
def legalWord (a : Nat) (v : Word) : Bool := (fieldsOf a).all fun f => legalOk f.legal (bits v f.hi f.lo)

/-- Would a write of v change this field, whose register holds w? RO fields never; a sticky or W1C bit where it is 1 and 1 is
written; a command field where it is not 0. -/
def fieldChanges (f : FieldRow) (w v : Word) : Bool :=
  let o := bits w f.hi f.lo
  let n := bits v f.hi f.lo
  match f.acc with
  | .ro => false
  | .w1c | .rws => o &&& n != 0
  | .cmd => n != 0
  | _ => o != n

/-- The fields a write of v to the address would change (R110). -/
def changed (a : Nat) (w v : Word) : List FieldRow := (fieldsOf a).filter fun f => fieldChanges f w v

/-- What a field holds after the write of v. -/
def fieldAfter (f : FieldRow) (w v : Word) : Nat :=
  let o := bits w f.hi f.lo
  let n := bits v f.hi f.lo
  match f.acc with
  | .ro => o
  | .w1c | .rws => o - (o &&& n)
  | .cmd => 0
  | _ => n

/-- The word a register holds after a write of v to it: every field at once (R15), reserved bits 0 (R13). -/
def mergeWord (a : Nat) (w v : Word) : Word :=
  (fieldsOf a).foldl (fun x f => setBits x f.hi f.lo (fieldAfter f w v)) w

/-- The word that written keeps every field a write may set, and clears no sticky bit. -/
def Lane.rwWord (L : Lane) (a : Nat) : Word := mergeWord a 0 (rget L.regs a)

/-- A register file after a write accepted without further ado. -/
def rstore (r : RegFile) (a : Nat) (v : Word) : RegFile := rput r a (mergeWord a (rget r a) v)

/-- A lane after a write to one of its registers accepted without further ado. -/
def Lane.store (L : Lane) (a : Nat) (v : Word) : Lane := { L with regs := rstore L.regs a v }

/-- The order of the reset levels (Table 0.3). -/
def domLevel : Domain → Nat
  | .block => 0
  | .quarter => 1
  | .lane => 2
  | .carrier => 3
  | .powerOn => 4
  | .fixed => 5

/-- What a word holds after a reset of a level: the fields whose domain lies at or below it take their reset value. -/
def resetWord (lvl : Nat) (a : Nat) (w : Word) : Word :=
  (fieldsOf a).foldl (fun x f => if domLevel f.dom ≤ lvl then setBits x f.hi f.lo f.rst else x) w

/-- The registers of one block, at and above an address and below another, after a reset of a level. Every register
that holds other than 0 now, or is reset to other than 0, is visited. -/
def resetRange (lvl lo hi : Nat) (r : RegFile) : RegFile :=
  let inR := fun a => decide (lo ≤ a) && decide (a < hi)
  let r1 := smap 0 (fun a w => if inR a then resetWord lvl a w else w) r
  (laneResetRegs.filter fun c => inR c.1).foldl (fun r c => rput r c.1 (resetWord lvl c.1 (rget r c.1))) r1

end Sys2Proof.Machine
end

