-- ==== Sys2Proof/Machine/Table.lean ====
section
/-!
DEFINITION. The shared table SRAM (Table 3.4) as the blocks read and write it: the replicated regions a lane without the Hoop
does not write (R395), and the dirty lines the holder replicates (R391).
-/
namespace Sys2Proof.Machine

/-- Start of the shared table SRAM. -/
def tsBase : Nat := 0x30000000

/-- The lane holds the Hoop, as its LNK_STAT shows. -/
def Lane.holder (L : Lane) : Bool := L.b F_LNK_STAT_HOLDER

/-- The tables of Table 3.4 that are replicated, by offset: call table, stop list, landing, gain and friction tables, node
directory. -/
def replTable (off : Nat) : Bool := decide (off < 0x2B000) || (decide (0x30000 ≤ off) && decide (off < 0x38000))

/-- A firmware region of LNK_REPLn holds the address. -/
def replRegion (L : Lane) (a : Nat) : Bool :=
  (List.range 16).any fun n =>
    let b := L.f (F_LNK_REPLB_BASE n)
    decide (b ≤ a) && decide (a < b + L.f (F_LNK_REPLL_LEN n))

/-- The address lies in a replicated region (before R391). -/
def Lane.replicated (L : Lane) (a : Nat) : Bool :=
  (decide (tsBase ≤ a) && replTable (a - tsBase)) || replRegion L a

/-- The dirty mark of the line of an address (R391): the number of the next seal edge. -/
def Lane.dirty (L : Lane) (a : Nat) : Lane := { L with lnk := { L.lnk with dirty := sput 0 L.lnk.dirty (a / 64) (L.lnk.seals + 1) } }

/-- The words of a block's write to the table SRAM, from an offset up: performed and marked in the holder, or where the
region is not replicated; otherwise counted in LNK_CNT.SUPPRESS (R395). -/
def Lane.tsWrite (L : Lane) (off : Nat) (ws : List Word) : Lane :=
  let repl := L.replicated (tsBase + off)
  if repl && !L.holder then L.inc F_LNK_CNT_SUPPRESS
  else
    let L := L.tsPut off (ws.flatMap wordBytes)
    if repl then (List.range (ws.length / 16 + 2)).foldl (fun L k => if 64 * k < 4 * ws.length + off % 64 then L.dirty (tsBase + off + 64 * k - off % 64) else L) L
    else L

/-- A word of the table SRAM. -/
def Lane.ts (L : Lane) (off : Nat) : Word := readWord L.tsram off

/-- An effective sill of the landing table and its zone, of an entry that is in use: sill, zone below, zone above (µm) and
the entry's status word. -/
def ltEntry (L : Lane) (buf : Bool) (k : Nat) : Option (Int × Int × Int × Word) :=
  let a := 0x21000 + (if buf then 0x2000 else 0) + 16 * k
  let w2 := readWord L.tsram (a + 8)
  if !w2.getLsbD 31 || L.ue.any (fun x => decide (0x30000000 + a ≤ x) && decide (x < 0x30000000 + a + 16)) then none
  else
    let w1 := readWord L.tsram (a + 4)
    some ((readWord L.tsram a).toInt + signed 16 (bits (readWord L.tsram (a + 12)) 31 16),
      10 * (bits w1 15 0 : Int), 10 * (bits w1 31 16 : Int), w2)

end Sys2Proof.Machine
end

