-- ==== Sys2Proof/Machine/SpgCore.lean ====
section
/-!
DEFINITION. The parts of the set-point generator that other blocks reach into (spec 07): its states, the profile generator's
seed and stop distance, the mode word and the handover of slot 0.
-/
namespace Sys2Proof.Machine

/-! ### Codes -/

/-- SPG_STAT.STATE (Table 7.2): OFF, IDLE, STARTING, STREAM, PROFILE, STOPPING. -/
def spgOff : Nat := 0
def spgIdle : Nat := 1
def spgStarting : Nat := 2
def spgStream : Nat := 3
def spgProfile : Nat := 4
def spgStopping : Nat := 5
/-- SPG_STAT.GOAL: TARGET, HALT, RELEVEL. -/
def goalTarget : Nat := 1
def goalHalt : Nat := 2
def goalRelevel : Nat := 3
/-- SPG_STAT.CAUSE (Table 7.9). -/
def scEnd : Nat := 1
def scStarve : Nat := 2
def scStreamFault : Nat := 3
def scGuard : Nat := 4
def scCommand : Nat := 5
def scHoRefused : Nat := 6
def scRollback : Nat := 7
def scBrkFb : Nat := 8
def scDrive : Nat := 9
def scSel : Nat := 10
/-- Car control modes of the mode word (R193). -/
def cmOff : Nat := 0
def cmHold : Nat := 1
def cmRun : Nat := 2
def cmLevel : Nat := 3
/-- SPG_HOSTAT.RESULT: BUSY, DONE, REFUSED_KEPT, REFUSED_STOP, ABANDONED. -/
def hrBusy : Nat := 1
def hrDone : Nat := 2
def hrKept : Nat := 3
def hrStop : Nat := 4
def hrAbandoned : Nat := 5
/-- PEER number of SPG's events. -/
def peerSpg : Nat := 24

/-- A slot of a lane. -/
def Lane.slot (L : Lane) (n : Slot) : TatSlot := L.tat.slots[n]

/-- A lane with one slot updated. -/
def Lane.updSlot (L : Lane) (n : Slot) (f : TatSlot → TatSlot) : Lane :=
  { L with tat := { L.tat with slots := L.tat.slots.set n (f L.tat.slots[n]) } }

/-- The state of a slot. -/
def Lane.slotState (L : Lane) (n : Slot) : Nat := L.f (F_TAT_SLOTSTAT_STATE n.val)

/-- TAT_SLOTSTAT.STATE (Table 5.13): OFF, RUN, GUARD, BLEND. -/
def slOff : Nat := 0
def slRun : Nat := 1
def slGuard : Nat := 2
def slBlend : Nat := 3
/-- TAT_SLOTSTAT.GCAUSE: OVERRUN, PROG_FAULT, FORCED, TAT_RESET. -/
def gcOverrun : Nat := 1
def gcProgFault : Nat := 2
def gcForced : Nat := 3
def gcTatReset : Nat := 4

/-- A lane with its set-point generator updated. -/
def Lane.updSpg (L : Lane) (f : Spg → Spg) : Lane := { L with spg := f L.spg }

/-- SPG's wish that the drive link send TQEN. -/
def Lane.updDrvReq (L : Lane) (b : Bool) : Lane := { L with drv := { L.drv with tqReq := b } }

/-- The state of SPG. -/
def Lane.spgSt (L : Lane) : Nat := L.f F_SPG_STAT_STATE

/-- Counting one of the wear counters of table SRAM (R84): a word at 0x3002_B000 and up, saturating. -/
def Lane.wear (L : Lane) (off : Nat) : Lane :=
  let n := (readWord L.tsram (0x2B000 + off)).toNat
  L.tsPut (0x2B000 + off) (leBytes 4 (min (n + 1) 0xFFFFFFFF))

/-! ### Exact stop distances (R189) -/

/-- The distance to rest of R189, in 1/(6·10¹⁸·J²) µm, from a velocity in 1/(2·10¹²) µm/s and an acceleration in
10⁻⁶ µm/s², with limits A (µm/s²) and J (µm/s³). Every step is exact but the root and one quotient, which round down. -/
def dstop (A J : Nat) (v a : Int) : Int :=
  let j : Int := J
  let full : Int := (A : Int) * 1000000
  let ad : Int := if j * v + a * a < 2 * full * full then (isqrt ((j * v + a * a) / 2).toNat : Int) else full
  if a < -ad then
    let t := -a
    3 * j * v * t + 3 * a * t * t + t * t * t
  else
    let t1 := a + ad
    let v1 := j * v + 2 * a * t1 - t1 * t1
    let s1 := 3 * j * v * t1 + 3 * a * t1 * t1 - t1 * t1 * t1
    let n := v1 - ad * ad
    let s2 := if ad = 0 then 0 else (3 * n * (2 * v1 - n)) / (4 * ad)
    s1 + s2 + ad * ad * ad

/-- Micrometres in the unit of the HPG's position. -/
def hpgP : Int := 6 * 10 ^ 18
/-- Micrometres per second in the unit of the HPG's velocity. -/
def hpgV : Int := 2 * 10 ^ 12
/-- Micrometres per second squared in the unit of the HPG's acceleration. -/
def hpgA : Int := 10 ^ 6

/-! ### The separation guard's clip (R220) -/

/-- A target clamped to the clip limits SEL published last; SEL in OFF gives the full range (Table 8.2). -/
def selClamp (L : Lane) (x : Int) : Int :=
  if L.f F_SEL_STAT_STATE = 0 then x else clampI (L.i F_SEL_CLIPLO_D) (L.i F_SEL_CLIPHI_D) x

/-- SEL shows a clip (R220): CLIP, counted, and event [16]. -/
def selClipShow (L : Lane) : Lane := ((L.s F_SEL_STAT_CLIP 1).inc F_SEL_CNT_CLIP).event 29 (evBit 16)

/-- A clip of SPG's target (R220): SPG_TGT written, and the clip shown. -/
def spgClip (x : Int) (L : Lane) : Lane := selClipShow (L.si F_SPG_TGT_TGT x)

/-- SPG takes its target, clamped (R220). -/
def spgTakeTarget (L : Lane) : Lane :=
  let x := L.i F_SPG_TGT_TGT
  let y := selClamp L x
  if x = y then L else spgClip y L

/-! ### Entering PROFILE and STOPPING (R184, R188) -/

/-- A change of state, reported in STAT and by an event (R184); IDLE ends a guard stop (R221). -/
def Lane.spgGo (L : Lane) (st : Nat) : Lane :=
  ((if st = spgIdle then L.s F_SEL_STAT_GSTOP 0 else L).s F_SPG_STAT_STATE st).event peerSpg (evBit 16)

/-- Entry into PROFILE: the HPG seeded with the last publication, its goal set, a capture begun (R187, R188). -/
def spgEnterProfile (goal cause : Nat) (x : Int) (vset : Nat) (L : Lane) : Lane :=
  let L := L.updSpg fun g => { g with
    hp := L.i F_SPG_PUBP_D * hpgP, hv := L.i F_SPG_PUBV_D * hpgV, ha := L.i F_SPG_PUBA_D * hpgA,
    goalX := x, vset := vset, passed := false, capReq := true }
  ((L.s F_SPG_STAT_GOAL goal).s F_SPG_STAT_CAUSE cause).spgGo spgProfile

/-- Entry into PROFILE with goal TARGET (R188). -/
def spgToTarget (cause : Nat) (L : Lane) : Lane :=
  let L := spgTakeTarget L
  spgEnterProfile goalTarget cause (L.i F_SPG_TGT_TGT) L.spg.lims.1 L

/-- The halt point of a car at the last publication: whole µm, rounded as R97. -/
def spgHaltPoint (L : Lane) : Int :=
  let p := L.i F_SPG_PUBP_D
  let v := L.i F_SPG_PUBV_D
  let a := L.i F_SPG_PUBA_D
  let s : Int := if v < 0 then -1 else 1
  let (_, A, J) := L.spg.lims
  p + s * rdiv (dstop A J (absI v * hpgV) (s * a * hpgA)) (hpgP * (J * J : Nat))

/-- Entry into PROFILE with goal HALT (R188). -/
def spgToHalt (cause : Nat) (L : Lane) : Lane :=
  spgEnterProfile goalHalt cause (spgHaltPoint L) L.spg.lims.1 L

/-- The switch requests of the lane: its SPG's while that is enabled, else those of SEB_REQ (R327). -/
def Lane.switchReq (L : Lane) : Bool × Bool :=
  if L.b F_SPG_CTRL_EN then (L.spg.so0, L.spg.so1) else (L.b F_SEB_REQ_SO0_ON, L.b F_SEB_REQ_SO1_ON)

/-- The holder's requests, for the other lane (SEBREQ of Table 13.1). -/
def Lane.sebReqSend (L : Lane) : Lane := if L.holder then { L with lnk := { L.lnk with sebreqOut := some L.switchReq } } else L

/-- A change of the requests that an operation has made goes to the other lane at once (R327, Table 13.1). -/
def Lane.reqChange (f : Lane → Lane) (L : Lane) : Lane := if (f L).switchReq = L.switchReq then f L else (f L).sebReqSend

/-- Entry into STOPPING at a step of the stop sequence, publishing X; what followed a START counts as a trip once it has moved, what followed a RELEVEL as a
relevel (R84). -/
def spgEnterStopping (cause step : Nat) (x : Int) (L : Lane) : Lane :=
  let moving := L.spgSt = spgStream ∨ L.spgSt = spgProfile
  let count := L.spg.tripCount ∧ (L.spg.relevel ∨ moving)
  let L := if count then L.wear (if L.spg.relevel then 0x14 else 0x10) else L
  let L := L.reqChange fun L => L.updSpg fun g => { g with
    stopX := x, step := step, capReq := false, capN := 0, tripCount := if count then false else g.tripCount,
    so1 := if step = 4 then false else g.so1 }
  (((L.s F_SPG_STAT_CAPT 0).s F_SPG_STAT_MLIM 0).s F_SPG_STAT_CAUSE cause).spgGo spgStopping

/-- A start abort (R198): SO1 off requested, and the stop sequence from step 4 at the held position. -/
def spgAbort (cause : Nat) (L : Lane) : Lane := spgEnterStopping cause 4 L.spg.hold L

/-! ### The mode word and the handover (R193 to R196) -/

/-- The mode word of TAT_FWIN15. -/
def modeWord (mode : Nat) (ho revert : Bool) (seq : Nat) : Word :=
  BitVec.ofNat 32 (mode % 8 + (if ho then 8 else 0) + (if revert then 16 else 0) + seq % 256 * 256)

/-- SPG writes the mode word, at TAT's own port (R35); STAT.MODE shows its mode. -/
def Lane.spgMode (L : Lane) (mode : Nat) (ho revert : Bool) : Lane :=
  let L := L.s F_SPG_STAT_MODE mode
  L.atPort .tat fun L => { L with regs := rput L.regs (A_TAT_FWIN 15) (modeWord mode ho revert (L.f F_SPG_HOSTAT_HOSEQ)) }

/-- A handover requested (Table 7.4, step 1); without one where the mode is the present one, and at once without a blend
where slot 0 is not in RUN. -/
def spgHandover (mode : Nat) (keep : Bool) (L : Lane) : Lane :=
  let old := L.f F_SPG_STAT_MODE
  if mode = old then L
  else
    let L := { L with regs := wrapF L.regs F_SPG_HOSTAT_HOSEQ 1 }
    let L := (L.s F_SPG_HOSTAT_FROM old).s F_SPG_HOSTAT_TO mode
    if L.slotState 0 = slRun then
      let L := L.updSpg fun g => { g with ho := { phase := 1, src := old, dst := mode, keep := keep } }
      (L.s F_SPG_HOSTAT_RESULT hrBusy).spgMode mode true false
    else (L.s F_SPG_HOSTAT_RESULT hrAbandoned).spgMode mode false false

/-- A handover's end with its result, and the event that reports it. -/
def spgHoEnd (result : Nat) (L : Lane) : Lane :=
  ((L.updSpg fun g => { g with ho := {} }).s F_SPG_HOSTAT_RESULT result).event peerSpg (evBit 19)

/-- The coefficients of a section as TAT_BQ holds them. -/
def bqCoefs (L : Lane) (n s : Nat) (q : Biquad) : Biquad :=
  { q with b0 := L.i (F_TAT_BQB0_COEF n s), b1 := L.i (F_TAT_BQB1_COEF n s), b2 := L.i (F_TAT_BQB2_COEF n s),
           a1 := L.i (F_TAT_BQA1_COEF n s), a2 := L.i (F_TAT_BQA2_COEF n s) }

/-- The notch scheduler's coefficients take effect, by themselves and with the section's states kept (R192): of each section it has written since. -/
def spgNotchCommit (L : Lane) : Lane :=
  let L := L.updSlot 0 fun s => { s with
    bq := Vector.ofFn fun i : Fin 4 => if L.spg.notchNew[i] then bqCoefs L 0 i.val s.bq[i] else s.bq[i] }
  L.updSpg fun g => { g with notchNew := Vector.replicate 4 false }

/-- A sample at the input of slot 0's notch section, through the twin band-pass filters of the tracker (R192). -/
def spgNotchSense (sec : Nat) (x : Int) (L : Lane) : Lane :=
  if !L.b F_SPG_NCFG_EN || !L.b F_SPG_NCFG_TREN || L.f F_SPG_NCFG_SEC != sec then L
  else L.updSpg fun g =>
    let hi := Config.notchBand (105 * g.nf) g.bpHi x
    let lo := Config.notchBand (95 * g.nf) g.bpLo x
    { g with bpHi := hi.2, bpLo := lo.2, pwHi := g.pwHi + hi.1 * hi.1, pwLo := g.pwLo + lo.1 * lo.1 }

/-- Slot 0 latches the mode word at its sample instant (Table 7.4, step 2): the value on port 0 is u_g, and HO and REVERT
are for this run only. -/
def spgSlotSample (L : Lane) : Lane :=
  let L := spgNotchCommit L
  if !L.b F_SPG_CTRL_EN then L
  else
    let L := if L.spg.ho.phase = 1 then
        L.updSpg fun g => { g with ho := { g.ho with phase := 2, ug := ((L.slot 0).ports[0]).toInt } }
      else L
    L.spgMode (L.f F_SPG_STAT_MODE) false false

/-- Port 0's value for the next sample instant. -/
def Lane.setPort0 (L : Lane) (v : Int) : Lane :=
  L.updSlot 0 fun s => { s with nextPorts := s.nextPorts.set 0 (wOf v) }

/-- An accepted result of slot 0 in RUN, in a handover (R195): compared at first, then blended over what the slot latched of
TAT_GPCFG (R134). -/
def spgSlotAccept (L : Lane) : Lane :=
  let h := L.spg.ho
  if h.phase < 2 then L
  else
    let ends := h.src = cmOff ∨ h.dst = cmOff
    let first := h.phase = 2
    let u := ((L.slot 0).nextPorts[0]).toInt
    let dis := absI (u - h.ug)
    let L := if first then L.s F_SPG_HODIS_D (satU 32 dis).toNat else L
    if first ∧ ¬ ends ∧ (L.f (F_TAT_BLMAX_BLMAX 0) : Int) < dis then
      let L := ((L.setPort0 h.ug).spgMode h.src false true).s F_SPG_STAT_HOREF_S 1
      let L := spgHoEnd (if h.keep then hrKept else hrStop) L
      if h.keep then L
      else
        let L := if L.spgSt = spgStream ∨ L.spgSt = spgProfile then spgToHalt scHoRefused L else L
        L.updSlot 0 fun s => { s with guardReq := some gcForced }
    else
      let ug := if h.src = cmOff then 0 else h.ug
      let up := if h.dst = cmOff then 0 else if first then u else h.up
      let kLen := if ends then 4 * L.f F_SPG_BRK0_PRERAMP else 4 * bits (L.slot 0).gpcfg 7 0
      let kb := h.kb + 1
      let L := if kLen ≤ kb then L.setPort0 up else L.setPort0 (ug + rdiv ((up - ug) * kb) kLen)
      let L := L.updSpg fun g => { g with ho := { h with phase := 3, ug := ug, up := up, kb := kb, kLen := kLen } }
      if kLen ≤ kb then spgHoEnd hrDone L else L

/-- Slot 0 enters GUARD (R186, R196, R198). -/
def spgSlotGuard (L : Lane) : Lane :=
  let L := if L.spg.ho.phase ≠ 0 then spgHoEnd hrAbandoned L else L
  let st := L.spgSt
  let L := if spgStarting ≤ st then L.s F_SPG_STAT_GLIM 1 else L
  if st = spgStarting then spgAbort scGuard L
  else if st = spgStream then spgToTarget scGuard L
  else L

end Sys2Proof.Machine
end

