-- ==== Sys2Proof/Machine/Dor.lean ====
section
/-!
DEFINITION. The door operators DOR (spec 09): currents, modulation, Hall decoding, states and commands, profiles, force and
energy.
-/
namespace Sys2Proof.Machine

/-! ### Codes -/

/-- Door states (Table 9.2). -/
def dsOff : Nat := 0
def dsUnref : Nat := 1
def dsReferencing : Nat := 2
def dsClosed : Nat := 3
def dsOpening : Nat := 4
def dsOpened : Nat := 5
def dsClosing : Nat := 6
def dsReversing : Nat := 7
def dsStopped : Nat := 8
def dsLearning : Nat := 9
def dsDropped : Nat := 10
def dsFault : Nat := 11
/-- DOR_STAT.MOVE (Table 9.8). -/
def dmOpen : Nat := 1
def dmClose : Nat := 2
def dmNudge : Nat := 3
def dmPreopen : Nat := 4
def dmReverse : Nat := 5
def dmReference : Nat := 6
def dmLearn : Nat := 7
/-- DOR_STAT.FCAUSE (Table 9.8). -/
def fcOver : Nat := 1
def fcHall : Nat := 2
def fcCap : Nat := 3
def fcLoop : Nat := 4
def fcRefTmo : Nat := 5
/-- Door commands (Table 9.3). -/
def dcOpen : Nat := 1
def dcClose : Nat := 2
def dcNudge : Nat := 3
def dcPreopen : Nat := 4
def dcStop : Nat := 5
def dcReference : Nat := 6
def dcLearn : Nat := 7
def dcClrflt : Nat := 8
/-- Status codes of DOR. -/
def dorNoPerm : Nat := 0x40
def dorNotRef : Nat := 0x41
def dorNotCert : Nat := 0x42
def dorBusy : Nat := 0x43
def dorFault : Nat := 0x44
def dorLcBlocked : Nat := 0x45
/-- PEER number of a door's events. -/
def peerDor (d : Door) : Nat := 27 + d.val

/-- A lane with one door updated. -/
def Lane.updDoor (L : Lane) (d : Door) (f : DoorOp → DoorOp) : Lane := { L with door := L.door.set d (f L.door[d]) }

/-- The state of a door. -/
def Lane.dorSt (L : Lane) (d : Door) : Nat := L.f (F_DOR_STAT_STATE d.val)

/-- A field of a door's profile (Table 9.4): A the first word, B the second. -/
def profF (d : Door) (p : Nat) (word hi lo : Nat) : Field := ⟨A_DOR_PROF0A d.val + 8 * (p % 4) + 4 * word, hi, lo⟩

/-- The profile a movement uses: OPEN 0, CLOSE 1, NUDGE 2, PREOPEN 3. -/
def moveProf (mv prev : Nat) : Nat :=
  if mv = dmOpen then 0 else if mv = dmClose then 1 else if mv = dmNudge then 2 else if mv = dmPreopen then 3
  else if mv = dmReference then 1 else prev

/-! ### Angle, position and velocity (R236) -/

/-- The time since the last sector edge, in island clocks. -/
def hallSince (L : Lane) (o : DoorOp) : Nat := L.fclk - o.edgeAt

/-- The fraction of the present sector passed, in 1/65536: the rotor is taken to turn on as in the last sector, to the boundary at most (R236). -/
def hallFrac (L : Lane) (o : DoorOp) : Nat :=
  match o.sectTime with
  | some t => if t = 0 then 65536 else min 65536 (hallSince L o * 65536 / t)
  | none => 0

/-- Does N rise with the present direction of the rotor? -/
def hallUp (L : Lane) (d : Door) (o : DoorOp) : Bool := o.fwd != L.b (F_DOR_CFG_DIR d.val)

/-- The position x in µm: whole sectors and the fraction in the direction of motion; from N := 0 to the next edge N alone, so that x is 0 there (R244). -/
def hallX (L : Lane) (d : Door) (o : DoorOp) : Int :=
  let f : Int := hallFrac L o
  let n := if hallUp L d o then o.n * 65536 + f else (o.n + 1) * 65536 - f
  satS 32 (rdiv ((if o.sectTime.isNone ∨ o.xHold then o.n * 65536 else n) * L.f (F_DOR_SCALE_SCALE d.val))
    (6 * 65536 * 65536))

/-- The velocity v in µm/s, 0 once no edge has come for 100 ms. -/
def hallV (L : Lane) (d : Door) (o : DoorOp) : Int :=
  match o.sectTime with
  | some t =>
    if t = 0 ∨ 8000000 ≤ hallSince L o then 0
    else
      let v := rdiv ((L.f (F_DOR_SCALE_SCALE d.val) : Int) * 80000000) (6 * 65536 * t)
      satS 32 (if hallUp L d o then v else -v)
  | none => 0

/-- The rotor angle in 2⁻³² of a turn: the sector, the offset, and the fraction turned since its edge. -/
def hallTheta (L : Lane) (d : Door) (o : DoorOp) : Int :=
  let s : Int := o.sector.getD 0
  let f : Int := hallFrac L o
  let n := if o.fwd then s * 65536 + f else (s + 1) * 65536 - f
  let n := if o.sectTime.isNone then s * 65536 else n
  n * 65536 / 6 + L.f (F_DOR_HOFS_HOFS d.val) * 65536

/-- The position of a door, at the present clock (R236). -/
def Lane.dorX (L : Lane) (d : Door) : Int := hallX L d L.door[d]
/-- The velocity of a door, at the present clock (R236). -/
def Lane.dorV (L : Lane) (d : Door) : Int := hallV L d L.door[d]
/-- The rotor angle of a door in 1/65536 turn, at the present clock (R236). -/
def Lane.dorTheta (L : Lane) (d : Door) : Nat := ((hallTheta L d L.door[d] / 65536) % 65536).toNat

/-- Position and velocity kept with the registers, which a read brings up to the present clock. -/
def dorShowX (d : Door) (L : Lane) : Lane :=
  (L.si (F_DOR_POS_D d.val) (hallX L d L.door[d])).si (F_DOR_VEL_D d.val) (hallV L d L.door[d])

/-! ### Gates and states (R233, R239, R240) -/

/-- The gates follow EN, the permission and the state (R233). -/
def dorGates (d : Door) (L : Lane) : Lane :=
  let st := L.dorSt d
  let on := L.b (F_DOR_CTRL_EN d.val) && L.door[d].perm && decide (dsReferencing ≤ st ∧ st ≤ dsLearning) &&
    !(st == dsClosed && L.f (F_DOR_HOLD_HOLDC d.val) == 0)
  (L.sb (F_DOR_STAT_GATES d.val) on).sb (F_DOR_STAT_PERM d.val) L.door[d].perm

/-- The reference brought to the measured position, at rest. -/
def dorRest (d : Door) (L : Lane) : Lane :=
  L.updDoor d fun o => { o with xr := L.dorX d * 8000, vr := 0, ar := 0 }

/-- A change of state and movement, shown and reported (R240), with what entering the state does. -/
def dorGo (d : Door) (st mv : Nat) (L : Lane) : Lane :=
  let old := L.dorSt d
  if old = st ∧ L.f (F_DOR_STAT_MOVE d.val) = mv then L
  else
  let L := (L.s (F_DOR_STAT_STATE d.val) st).s (F_DOR_STAT_MOVE d.val) mv
  let L := L.updDoor d fun o => { o with
    newWord := true, prof := moveProf mv o.prof, nRef := 0, nObs := if old = st then o.nObs else 0,
    opened := if st = dsOpened then true else if old = dsClosed then false else o.opened,
    lockWait := st == dsClosed && old == dsClosing,
    lowZero := if st = dsReversing then o.lowZero else false,
    bins := if st = dsLearning then [] else o.bins, back := if st = dsLearning then false else o.back }
  let L := if st = dsClosed ∧ old = dsClosing ∧ L.door[d].opened then L.wear (4 * d.val) else L
  let L := if st = dsReversing then L.wear (8 + 4 * d.val) else L
  let L := if st = dsUnref then L.s (F_DOR_STAT_REFD d.val) 0 else L
  let L := if st = dsLearning then L.s (F_DOR_STAT_LRNOK d.val) 0 else L
  let L := if old ≤ dsUnref ∨ old = dsDropped ∨ old = dsFault then dorRest d L else L
  dorGates d (L.event (peerDor d) (evBit 16))

/-- FAULT with its cause: the gates fall (R233); a door in FAULT does not enter it again, and keeps its first cause (DEDUCED, log 149). -/
def dorToFault (d : Door) (cause : Nat) (L : Lane) : Lane :=
  if L.dorSt d = dsOff ∨ L.dorSt d = dsFault then L
  else (dorGo d dsFault 0 (L.s (F_DOR_STAT_FCAUSE d.val) cause)).event (peerDor d) (evBit 20)

/-- The current slot of a door has left RUN or BLEND (R239): with the gates on, the fault is due at the carrier's next turning point. -/
def dorLoopLost (d : Door) (L : Lane) : Lane :=
  if L.b (F_DOR_STAT_GATES d.val) then L.updDoor d fun o => { o with loopDue := true } else L

/-- The carrier's turning point after that: the gates fall with the entry into FAULT. -/
def dorLoopFault (d : Door) (L : Lane) : Lane :=
  if !L.door[d].loopDue then L
  else
    let L := L.updDoor d fun o => { o with loopDue := false }
    if L.dorSt d = dsOff then L else dorToFault d fcLoop (L.s (F_DOR_STAT_LOOP_S d.val) 1)

/-- The permission of both SEBs, changed (R246). -/
def dorPerm (d : Door) (perm : Bool) (L : Lane) : Lane :=
  let was := L.door[d].perm
  let L := dorGates d (L.updDoor d fun o => { o with perm := perm })
  let st := L.dorSt d
  if was ∧ ¬ perm ∧ st ≠ dsOff ∧ st ≠ dsUnref ∧ st ≠ dsFault then
    dorGo d dsDropped 0 ((L.s (F_DOR_STAT_DROP_S d.val) 1).event (peerDor d) (evBit 19))
  else if perm ∧ st = dsDropped then
    if L.b (F_DOR_STAT_REFD d.val) then dorGo d dsStopped 0 L else dorGo d dsUnref 0 L
  else L

/-- The report of the lane's SEB through crossing 38: the light curtain, the car-door contact, the locks (R312, R313). -/
def dorSebReport (d : Door) (lc dc locks : Bool) (L : Lane) : Lane :=
  (L.updDoor d fun o => { o with lc := lc, dc := dc, locks := locks }).sb (F_DOR_STAT_LC d.val) lc

/-! ### Hall decoding (R235) -/

/-- A Hall error (R235): counted; the fourth within 100 ms is a fault. -/
def hallError (d : Door) (L : Lane) : Lane :=
  let o := L.door[d]
  let recent := (o.hallErrs.filter fun t => decide (t ≤ L.fclk) && decide (L.fclk - t ≤ 8000000)).take 3
  let L := (L.inc (F_DOR_CNT_HALLERR d.val)).updDoor d fun o => { o with hallErrs := L.fclk :: recent }
  if 3 ≤ recent.length then dorToFault d fcHall (L.s (F_DOR_STAT_HALL_S d.val) 1) else L

/-- A filtered change of the Hall code (R235). -/
def hallEdge (d : Door) (code : Nat) (L : Lane) : Lane :=
  if code = 0 ∨ code = 7 then hallError d (L.updDoor d fun o => { o with hallBad := true })
  else
    let o := L.door[d]
    let s := bits (rget L.regs (A_DOR_HALLMAP d.val)) (3 * code + 2) (3 * code)
    match o.sector with
    | none => dorShowX d (L.updDoor d fun o => { o with sector := some s, edgeAt := L.fclk, hallBad := false })
    | some s0 =>
      let step := (s + 6 - s0) % 6
      if step = 1 ∨ step = 5 then
        let fwd := step == 1
        let n := if fwd != L.b (F_DOR_CFG_DIR d.val) then o.n + 1 else o.n - 1
        dorShowX d (L.updDoor d fun o => { o with
          sector := some s, fwd := fwd, n := n, sectTime := some (hallSince L o), edgeAt := L.fclk, xHold := false, hallBad := false })
      else if step = 0 then L.updDoor d fun o => { o with hallBad := false }
      else hallError d (L.updDoor d fun o => { o with sector := some s, edgeAt := L.fclk, hallBad := true })

/-- No edge for 100 ms (R236): the velocity shown is 0; angle and position run on to the sector's boundary. -/
def hallTimeout (d : Door) (L : Lane) : Lane := dorShowX d L

/-! ### Currents and modulation (R229, R231, R234) -/

/-- A converter's reading in mA: less E9's offset and with its gain (R82), by DOR_ISCALE. -/
def currentOf (d : Door) (raw : Int) (L : Lane) : Int :=
  satS 32 (rnd (L.calGain ⟨d.val, by omega⟩ (raw - L.bg.calOfs[d]) * L.f (F_DOR_ISCALE_ISCALE d.val)) 16)

/-- The current sample, where F has the carrier's peak (R228): the phase currents in mA, id and iq, and the over-current check; TAT's inputs where the door's
crossing is open (R52). -/
def currentSample (d : Door) (iu iv : Int) (L : Lane) : Lane :=
  if (instantIn L.fclk 4000 (L.f (F_DOR_CFG_CPH d.val))).isNone then L
  else
  let L := L.calTake ⟨d.val, by omega⟩
  let u := currentOf d iu L
  let v := currentOf d iv L
  let w := -u - v
  let th := hallTheta L d L.door[d]
  let c := fxCosT th
  let s := fxSin th
  let be := rdiv ((v - w) * fx * 1000000000) 1732050808
  let id := rdiv (u * c + fxMul be s) fx
  let iq := rdiv (fxMul be c - u * s) fx
  let ioc : Int := L.f (F_DOR_ILIM_IOC d.val)
  let oc := decide (ioc < absI u) || decide (ioc < absI v) || decide (ioc < absI w)
  let L := L.updDoor d fun o => { o with
    iu := u, iv := v, iw := w, oc := oc, iqs := (iq :: o.iqs).take 10, theta := L.dorTheta d }
  let L := dorShowX d (L.ifDo (L.xOpen (21 + d.val)) fun L => (L.si (F_DOR_ID_D d.val) (satS 32 id)).si (F_DOR_IQ_D d.val) (satS 32 iq))
  if oc then dorToFault d fcOver (L.s (F_DOR_STAT_OC_S d.val) 1) else L

/-- The value a slot drives at a destination code; 0 where none does. -/
def destValue (code : Nat) (L : Lane) : Int :=
  (List.finRange 8).foldl (fun v n =>
    if L.slotState n = slOff then v
    else (List.finRange 4).foldl (fun v p =>
      if bits (L.slot n).outdst (4 * p.val + 3) (4 * p.val) = code then ((L.slot n).ports[p]).toInt else v) v) 0

/-- A compare value of R231, from a phase voltage less the zero sequence, in 2⁻⁶⁰. -/
def cmpOf (x : Int) : Nat := (clampI 0 1920 (rdiv ((fx / 2 + x) * 2000) fx)).toNat

/-- The compare values loaded where F has a turning point of the carrier (R230, R231), from the duty that the door's crossing brought last (R52); a loop
that was lost takes the gates (R239). -/
def compareLoad (d : Door) (L : Lane) : Lane :=
  if (instantIn L.fclk 2000 (L.f (F_DOR_CFG_CPH d.val) % 2000)).isNone then L
  else
  let L := dorLoopFault d L
  let L := L.ifDo (L.xOpen (23 + d.val)) fun L =>
    L.updDoor d fun o => { o with duty := (destValue (2 + 2 * d.val) L, destValue (3 + 2 * d.val) L) }
  let o := L.door[d]
  let vd := o.duty.1 * 2 ^ 24
  let vq := o.duty.2 * 2 ^ 24
  let ahead : Int := match o.sectTime with
    | some t => if t = 0 then 0 else 2 ^ 32 / 6 * 1000 / t
    | none => 0
  let th := hallTheta L d o + (if o.fwd then ahead else -ahead)
  let c := fxCosT th
  let s := fxSin th
  let va := fxMul vd c - fxMul vq s
  let vb := fxMul vd s + fxMul vq c
  let m : Int := isqrt ((va * va + vb * vb).toNat)
  let lim : Int := 57735 * 2 ^ 40 / 100000
  let isOver := decide (lim < m)
  let va := if isOver then va * lim / m else va
  let vb := if isOver then vb * lim / m else vb
  let e : Int := 2 ^ 20
  let b3 := vb * e * 86603 / 100000
  let vu := va * e
  let vv := b3 - va * e / 2
  let vw := -b3 - va * e / 2
  let z := (max (max vu vv) vw + min (min vu vv) vw) / 2
  (L.updDoor d fun o => { o with cmp := [cmpOf (vu - z), cmpOf (vv - z), cmpOf (vw - z)] }).stick isOver
    (F_DOR_STAT_VSAT_S d.val)

/-! ### Force and energy (R248, R251) -/

/-- A table entry at a position, from the buffer in use since the last sample instant (R66): T_open and T_close in 0.05 N. -/
def frictionAt (d : Door) (x : Int) (L : Lane) : Int × Int :=
  let i := min 1023 (if x < 0 then 0 else x.toNat / max 1 (L.f (F_DOR_BINW_BINW d.val)))
  let w := readWord L.tsram (0x27000 + (if L.door[d].fsel then 0x2000 else 0) + d.val * 0x1000 + 4 * i)
  (signed 16 (bits w 31 16), signed 16 (bits w 15 0))

/-- The kinetic-energy cap in force, in 0.01 J. -/
def keEff (d : Door) (L : Lane) : Nat :=
  if L.f (F_DOR_STAT_MOVE d.val) = dmNudge then L.f (F_DOR_NUDGE_KENUDGE d.val) else L.f (F_DOR_CAPS_KECAP d.val)

/-- The speed of that energy, µm/s. -/
def vkeEff (d : Door) (L : Lane) : Nat := isqrt (2 * keEff d L * 10 ^ 11 / max 1 (L.f (F_DOR_MASS_MASS d.val)))

/-- The thrust KF·iq_mean − MASS·ar of learning, and the thrust fm, in µN. -/
def dorThrust (d : Door) (L : Lane) : Int × Int :=
  let o := L.door[d]
  let sum : Int := o.iqs.foldl (· + ·) 0
  let fm := rdiv (L.f (F_DOR_KF_KF d.val) * sum * 1000) (65536 * max 1 o.iqs.length)
  (fm - rdiv (L.f (F_DOR_MASS_MASS d.val) * o.ar) 10, fm)

/-- The figures of R251 at a sample instant; the residual is not estimated in LEARNING (R249). -/
def dorForce (d : Door) (L : Lane) : Lane :=
  let o := L.door[d]
  let x := L.dorX d
  let v := L.dorV d
  let (topn, tcls) := frictionAt d x L
  let (net, fm) := dorThrust d L
  let t : Int := if 0 < o.vr then topn * 50000 else if o.vr < 0 then tcls * 50000 else 0
  let fr := if L.dorSt d = dsLearning then o.fr else o.fr + rdiv (net - t - o.fr) 4
  let tcl := if L.dorSt d = dsLearning then 0 else tcls
  let kf := L.f (F_DOR_KF_KF d.val)
  let imax := L.f (F_DOR_ILIM_IMAX d.val)
  let icl := if kf = 0 then imax else min imax ((2 * L.f (F_DOR_CAPS_FCAP d.val) + (-tcl).toNat) * 50 * 65536 / kf)
  let L := L.updDoor d fun o => { o with fr := fr, fm := fm, tc := tcls * 50000 }
  ((L.si (F_DOR_FRES_FR d.val) (satS 32 (rdiv fr 100000))).s (F_DOR_KE_E d.val)
    (satU 32 (rdiv (L.f (F_DOR_MASS_MASS d.val) * v * v * 5) (10 ^ 12))).toNat).s (F_DOR_ICL_ICL d.val) icl

/-- The runs of R252, R254 and R255 after the figures of an instant. -/
def dorRuns (d : Door) (L : Lane) : Lane :=
  let st := L.dorSt d
  let x := L.dorX d
  let v := L.dorV d
  let zone : Int := L.f (F_DOR_OBSZ_OBSZ d.val)
  let ev := zone = 0
  L.updDoor d fun o =>
    let obs := (st == dsClosing && (decide ev || decide (zone < x)) &&
        decide ((L.f (F_DOR_OBS_FOBS d.val) : Int) * 100000 < -o.fr)) ||
      (st == dsOpening && (decide ev || decide (x < L.f (F_DOR_STROKE_STROKE d.val) - zone)) &&
        decide ((L.f (F_DOR_OBS_FOBSO d.val) : Int) * 100000 < o.fr))
    let cap := (decide (v < 0) || st == dsClosed) && decide ((L.f (F_DOR_CAPS_FCAP d.val) : Int) * 110000 < -(o.fm - o.tc))
    let ke := decide (v < 0) && decide ((keEff d L : Int) * 10 ^ 12 < L.f (F_DOR_MASS_MASS d.val) * v * v * 5)
    let ref := decide (absI v < 2000) &&
      decide (o.iqs.foldl (· + ·) 0 ≤ -((min (L.f (F_DOR_ICL_ICL d.val)) (L.f (F_DOR_REF_IREF d.val)) : Nat) * o.iqs.length : Int)) && !o.iqs.isEmpty
    { o with nObs := if obs then min 15 (o.nObs + 1) else 0, nCap := if cap then min 4 (o.nCap + 1) else 0,
             nKe := if ke then min 4 (o.nKe + 1) else 0,
             nRef := if st = dsReferencing ∧ ref then min 400 (o.nRef + 1) else 0 }

/-! ### Commands (R242, R243) -/

/-- Does the landing of NEAR serve this door on its deck, with the zone certain? (R243) -/
def preopenOk (d : Door) (L : Lane) : Bool :=
  let deck := L.b (F_DOR_CFG_DECK d.val)
  let cert := if deck then L.b F_BOB_DZ_CERT1 else L.b F_BOB_DZ_CERT0
  let near := if deck then (L.b F_BOB_DZ_NEAR1_V, L.f F_BOB_DZ_NEAR1) else (L.b F_BOB_DZ_NEAR0_V, L.f F_BOB_DZ_NEAR0)
  let w := readWord L.tsram (0x21000 + (if L.bob.ltAct then 0x2000 else 0) + 16 * (2 * near.2 + deck.toNat) + 8)
  L.door[d].perm && cert && near.1 && w.getLsbD (28 + d.val)

/-- The status of a command in the present state (Table 9.3). -/
def dorJudge (d : Door) (c : Nat) (L : Lane) : Nat :=
  let st := L.dorSt d
  let mv := L.f (F_DOR_STAT_MOVE d.val)
  let perm := L.door[d].perm
  let asOpen :=
    if st = dsOff ∨ st = dsUnref then (if perm then dorNotRef else dorNoPerm)
    else if ¬ perm then dorNoPerm
    else if st = dsFault then dorFault else dorBusy
  if c = dcOpen then
    if st = dsOpening ∨ st = dsOpened ∨ st = dsReversing then stNoop
    else if (st = dsClosed ∨ st = dsClosing ∨ st = dsStopped) ∧ perm then stOk else asOpen
  else if c = dcClose then
    if st = dsClosed then stNoop
    else if st = dsClosing then (if L.door[d].lc then dorLcBlocked else stNoop)
    else if (st = dsOpened ∨ st = dsOpening ∨ st = dsStopped) ∧ perm then (if L.door[d].lc then dorLcBlocked else stOk) else asOpen
  else if c = dcNudge then
    if st = dsClosed ∨ (st = dsClosing ∧ mv = dmNudge) then stNoop
    else if (st = dsOpened ∨ st = dsOpening ∨ st = dsStopped ∨ st = dsClosing) ∧ perm then stOk else asOpen
  else if c = dcPreopen then
    if st = dsOpening ∨ st = dsOpened then stNoop
    else if st = dsClosed then (if preopenOk d L then stOk else dorNotCert) else asOpen
  else if c = dcStop then
    if st = dsOpening ∨ st = dsClosing ∨ st = dsReversing ∨ st = dsReferencing ∨ st = dsLearning then stOk else stNoop
  else if c = dcReference then
    if ¬ perm then dorNoPerm
    else if st = dsFault then dorFault
    else if L.f (F_DOR_SCALE_SCALE d.val) = 0 then dorNotRef
    else if st = dsUnref ∨ st = dsStopped ∨ st = dsOpened ∨ st = dsClosed then stOk else dorBusy
  else if c = dcLearn then
    if ¬ perm then dorNoPerm
    else if st = dsClosed ∧ L.b (F_DOR_STAT_REFD d.val) then stOk else dorBusy
  else if c = dcClrflt then
    if st ≠ dsFault then stNoop
    else
      let fc := L.f (F_DOR_STAT_FCAUSE d.val)
      let slot : Slot := if d = 0 then 1 else 3
      if (fc = fcOver ∧ L.door[d].oc) ∨ (fc = fcHall ∧ L.door[d].hallBad) ∨ (fc = fcLoop ∧ L.slotState slot ≠ slRun) then dorFault
      else stOk
  else stNoop

/-- A door command written (R242): judged now, and taken at the next sample instant (R241). -/
def dorCommand (d : Door) (c : Nat) (L : Lane) : Lane × Nat :=
  let r := dorJudge d c L
  if r = stOk then (L.updDoor d fun o => { o with cmd := some c }, stOk) else (L, r)

/-- The state a command leads to. -/
def dorTake (d : Door) (c : Nat) (L : Lane) : Lane :=
  if dorJudge d c L ≠ stOk then L
  else if c = dcOpen then
    if L.dorSt d = dsClosing then dorGo d dsReversing dmReverse L else dorGo d dsOpening dmOpen L
  else if c = dcClose then dorGo d dsClosing dmClose L
  else if c = dcNudge then dorGo d dsClosing dmNudge L
  else if c = dcPreopen then dorGo d dsOpening dmPreopen L
  else if c = dcStop then dorGo d dsStopped 0 L
  else if c = dcReference then dorGo d dsReferencing dmReference L
  else if c = dcLearn then dorGo d dsLearning dmLearn L
  else dorGo d dsUnref 0 (L.s (F_DOR_STAT_FCAUSE d.val) 0)

/-! ### The sample instant (R241) -/

/-- The low limit of the door's current slot taken to 0 at once (R252, R256). -/
def dorLowZero (d : Door) (L : Lane) : Lane :=
  (L.updDoor d fun o => { o with lowZero := true }).s (F_TAT_LIMLO_LO (1 + 2 * d.val) 3) 0

/-- The flags and counters of the causes of an instant; each acts whichever decides the state (R241). A door in FAULT sends no event of a cap trip
(DEDUCED, log 149). -/
def dorFlags (d : Door) (cap ke obsC obsO lc : Bool) (L : Lane) : Lane :=
  let nudge := L.f (F_DOR_STAT_MOVE d.val) = dmNudge
  let L := if cap then ((L.s (F_DOR_STAT_CAP_S d.val) 1).inc (F_DOR_CNT_CAPTRIP d.val)).ifDo (L.dorSt d != dsFault) (·.event (peerDor d) (evBit 18))
    else L
  let L := if ke then (L.s (F_DOR_STAT_KE_S d.val) 1).event (peerDor d) (evBit 18) else L
  let L := if obsC then ((L.s (F_DOR_STAT_OBSTC_S d.val) 1).inc (F_DOR_CNT_OBSTR d.val)).event (peerDor d) (evBit 17) else L
  let L := if obsO then (L.s (F_DOR_STAT_OBSTO_S d.val) 1).event (peerDor d) (evBit 17) else L
  if lc then
    if nudge then L.s (F_DOR_STAT_LCIGN_S d.val) 1
    else ((L.s (F_DOR_STAT_LCREV_S d.val) 1).inc (F_DOR_CNT_LCREV d.val)).event (peerDor d) (evBit 17)
  else L

/-- What a state ends in of itself (Table 9.2). -/
def dorNatural (d : Door) (L : Lane) : Lane :=
  let st := L.dorSt d
  let o := L.door[d]
  let x := L.dorX d
  let v := L.dorV d
  let tol : Int := L.f (F_DOR_OBSZ_CLOSETOL d.val)
  let stroke : Int := L.f (F_DOR_STROKE_STROKE d.val)
  if st = dsOpening ∧ stroke - tol ≤ x ∧ v = 0 then dorGo d dsOpened 0 L
  else if st = dsClosing ∧ x ≤ tol ∧ absI v ≤ 2000 ∧ o.dc then dorGo d dsClosed 0 L
  else if st = dsReversing ∧ o.vr = 0 then dorGo d dsOpening dmOpen L
  else if st = dsReferencing ∧ 400 ≤ o.nRef then
    let L := L.updDoor d fun o => { o with n := 0, xHold := true }
    dorGo d dsClosed 0 (dorRest d (dorShowX d (L.s (F_DOR_STAT_REFD d.val) 1)))
  else L

/-- The causes of an instant in their order (R241). The cap trip of R254 acts in every state but OFF; a run of four instants that has acted begins anew
(DEDUCED, log 149). -/
def dorCauses (d : Door) (L : Lane) : Lane :=
  let st := L.dorSt d
  let o := L.door[d]
  let driven := dsReferencing ≤ st ∧ st ≤ dsLearning
  let quiet := st = dsLearning
  let cap := st != dsOff && decide (4 ≤ o.nCap)
  let ke := decide driven && decide (4 ≤ o.nKe)
  let nobs := max 1 (L.f (F_DOR_OBS_NOBS d.val))
  let obsC := st == dsClosing && decide (nobs ≤ o.nObs) && !decide quiet
  let obsO := st == dsOpening && decide (nobs ≤ o.nObs) && !decide quiet
  let lc := st == dsClosing && o.lc
  let lcRev := lc && L.f (F_DOR_STAT_MOVE d.val) != dmNudge
  let L := dorFlags d cap ke obsC obsO lc L
  let L := if obsC || lcRev then dorLowZero d L else L
  let cmd := o.cmd
  let L := L.updDoor d fun o => { o with cmd := none, nCap := if cap then 0 else o.nCap, nKe := if ke then 0 else o.nKe }
  let L := if cap then dorToFault d fcCap L
    else if ke then dorGo d dsStopped 0 L
    else if obsC || lcRev then dorGo d dsReversing dmReverse L
    else if obsO then dorGo d dsStopped 0 L
    else dorNatural d L
  match cmd with
  | some c => dorTake d c L
  | none => L

/-- The limits of a movement: top speed, rate of gain and loss, creep (R247); referencing and learning take the profile's
rates at their own speed. -/
def dorSpeeds (d : Door) (L : Lane) : Nat × Nat × Nat × Nat × Nat :=
  let st := L.dorSt d
  let o := L.door[d]
  let p := if st = dsLearning then (if o.back then 1 else 0) else o.prof
  let vmax := if st = dsReferencing then L.f (F_DOR_REF_REFV d.val)
    else if st = dsLearning then L.f (F_DOR_LRN_LRNV d.val) else L.f (profF d p 0 31 16)
  (vmax, L.f (profF d p 0 15 0), L.f (profF d p 1 31 16), L.f (profF d p 1 15 8), L.f (profF d p 1 7 0))

/-- The reference advanced by 500 µs (R247). -/
def dorAdvance (d : Door) (L : Lane) : Lane :=
  let st := L.dorSt d
  let o := L.door[d]
  let moving := st = dsOpening ∨ st = dsClosing ∨ st = dsReversing ∨ st = dsStopped ∨ st = dsReferencing ∨ st = dsLearning
  if ¬ moving then
    let x : Int := if st = dsClosed then 0 else if st = dsOpened then L.f (F_DOR_STROKE_STROKE d.val)
      else L.dorX d
    L.updDoor d fun o => { o with xr := x * 8000, vr := 0, ar := 0 }
  else
    let (vmax, acc, dec, creepD, creepV) := dorSpeeds d L
    let opens := st = dsOpening ∨ (st = dsLearning ∧ ¬ o.back)
    let X : Int := (if opens then (L.f (F_DOR_STROKE_STROKE d.val) : Int) else 0) * 8000
    let dd := X - o.xr
    let s : Int := if st = dsReferencing then -1 else sgn dd
    let ad := absI dd
    let v0 : Nat := vmax * 2000
    let v1 := if s < 0 then min v0 (2 * vkeEff d L) else v0
    let cv := creepV * 2000
    let v2 := if st = dsReferencing then v1
      else if ad ≤ (creepD * 1000 * 8000 : Nat) then min v1 cv
      else min v1 (isqrt (cv * cv + dec * (ad - (creepD * 1000 * 8000 : Nat)).toNat))
    let slow := st = dsReversing ∨ st = dsStopped
    let vt : Int := if slow then 0 else s * v2
    let a0 := if slow then L.f (F_DOR_REV_REVDEC d.val) else acc
    let ac : Int := if absI vt < absI o.vr then max a0 dec else a0
    let dv := clampI (-ac) ac (vt - o.vr)
    let vn := o.vr + dv
    let xr := o.xr + o.vr + vn
    let snap := decide (st = dsOpening ∨ st = dsClosing) && decide (absI (X - xr) ≤ (creepV * 4000 : Nat))
    L.updDoor d fun o =>
      if snap then { o with xr := X, vr := 0, ar := 0 } else { o with xr := xr, vr := vn, ar := dv * 1000 }

/-- The limit pairs DOR owns (R238): iq in mA for the current and the position slot, velocity in µm/s for the latter. -/
def dorLimits (d : Door) (L : Lane) : Lane :=
  let st := L.dorSt d
  let o := L.door[d]
  let icl : Int := L.f (F_DOR_ICL_ICL d.val)
  let imax : Int := L.f (F_DOR_ILIM_IMAX d.val)
  let iref : Int := L.f (F_DOR_REF_IREF d.val)
  let hi := if st = dsReferencing then min imax iref else imax
  let lo := if o.lowZero then 0 else if st = dsReferencing then -(min icl iref) else -icl
  let (vmax, _) := dorSpeeds d L
  let v : Int := vmax * 1000
  let L := (L.si (F_TAT_LIMLO_LO (1 + 2 * d.val) 3) lo).si (F_TAT_LIMHI_HI (1 + 2 * d.val) 3) hi
  let L := (L.si (F_TAT_LIMLO_LO (2 + 2 * d.val) 2) lo).si (F_TAT_LIMHI_HI (2 + 2 * d.val) 2) hi
  (L.si (F_TAT_LIMLO_LO (2 + 2 * d.val) 3) (-(min v (vkeEff d L)))).si (F_TAT_LIMHI_HI (2 + 2 * d.val) 3) v

/-! ### Learning (R249) -/

/-- A bin's place in the nearest learned bins: the value of the closest index that has one. -/
def nearestBin (vals : List (Nat × Int)) (i : Nat) : Int :=
  ((vals.foldl (fun best p =>
    let dist := if p.1 < i then i - p.1 else p.1 - i
    match best with
    | some (bd, _) => if dist < bd then some (dist, p.2) else best
    | none => some (dist, p.2)) (none : Option (Nat × Int))).map (·.2)).getD 0

/-- The learned table written to the buffer not selected, every bin. -/
def learnWrite (d : Door) (L : Lane) : Lane :=
  let bins := L.door[d].bins
  let opn := bins.filterMap fun (i, b) => if b.no = 0 then none else some (i, satS 16 (rdiv b.so (b.no * 50000)))
  let cls := bins.filterMap fun (i, b) => if b.nc = 0 then none else some (i, satS 16 (rdiv b.sc (b.nc * 50000)))
  let base := 0x27000 + (if L.b (F_DOR_CTRL_FSEL d.val) then 0 else 0x2000) + d.val * 0x1000
  L.tsWrite base ((List.range 1024).map fun i =>
    BitVec.ofNat 32 ((nearestBin opn i % 65536).toNat * 65536 + (nearestBin cls i % 65536).toNat))

/-- The learning run at an instant: the bin's average moves on, and the run turns round or ends (R249). -/
def dorLearn (d : Door) (L : Lane) : Lane :=
  if L.dorSt d ≠ dsLearning then L
  else
    let o := L.door[d]
    let x := L.dorX d
    let i := min 1023 (if x < 0 then 0 else x.toNat / max 1 (L.f (F_DOR_BINW_BINW d.val)))
    let (net, _) := dorThrust d L
    let b := sget {} o.bins i
    let b := if 0 < o.vr then { b with so := b.so + net, no := b.no + 1 }
      else if o.vr < 0 then { b with sc := b.sc + net, nc := b.nc + 1 } else b
    let tol : Int := L.f (F_DOR_OBSZ_CLOSETOL d.val)
    let turn := !o.back && decide ((L.f (F_DOR_STROKE_STROKE d.val) : Int) ≤ x)
    let done := o.back && decide (x ≤ tol)
    let L := L.updDoor d fun o => { o with bins := sput {} o.bins i b, back := o.back || turn }
    if done then
      let L := (learnWrite d L).s (F_DOR_STAT_LRNOK d.val) 1
      dorGo d dsClosed 0 (L.event (peerDor d) (evBit 21))
    else L

/-- A DOR sample instant of a door, where F has one (R237, R241, R247, R251); the friction buffer that FSEL names is in use from it on (R66). -/
def dorInstant (d : Door) (L : Lane) : Lane :=
  if (instantIn L.fclk 40000 0).isNone then L
  else
  let L := L.updDoor d fun o => { o with fsel := L.b (F_DOR_CTRL_FSEL d.val) }
  let L := dorRuns d (dorForce d (dorShowX d L))
  if L.dorSt d = dsOff then L
  else dorLimits d (dorAdvance d (dorCauses d (dorLearn d L)))

/-- The publication at t_k + 450 µs: the references and the door word (R237). -/
def dorPublish (d : Door) (L : Lane) : Lane :=
  if !L.b (F_DOR_CTRL_EN d.val) || (instantIn L.fclk 40000 36000).isNone then L
  else
    let o := L.door[d]
    let w := 9 + 3 * d.val
    let word := L.dorSt d + 16 * L.f (F_DOR_STAT_MOVE d.val) + (if o.newWord then 256 else 0)
    let L := (L.si (F_TAT_FWIN_VALUE w) (satS 32 (rdiv o.xr 8000))).si (F_TAT_FWIN_VALUE (w + 1)) (satS 32 (rdiv o.vr 2))
    (L.s (F_TAT_FWIN_VALUE (w + 2)) word).updDoor d fun o => { o with newWord := false }

/-- EN written (Table 9.2): 0 leads to OFF and ends the command that waited, 1 leads from OFF to UNREF. -/
def dorEn (d : Door) (en : Bool) (L : Lane) : Lane :=
  let L := L.sb (F_DOR_CTRL_EN d.val) en
  if !en then
    let L := L.updDoor d fun o => { o with cmd := none }
    if L.dorSt d = dsOff then dorGates d L else dorGo d dsOff 0 L
  else if L.dorSt d = dsOff then dorGo d dsUnref 0 L else L

/-- A write of DOR_CTRL (R250): a changed FSEL is refused while the door is not at rest there. -/
def dorCtrl (d : Door) (en fsel : Bool) (L : Lane) : Lane × Nat :=
  let st := L.dorSt d
  if fsel != L.b (F_DOR_CTRL_FSEL d.val) ∧ st ≠ dsOff ∧ st ≠ dsUnref ∧ st ≠ dsClosed then (L, dorBusy)
  else (dorEn d en (L.sb (F_DOR_CTRL_FSEL d.val) fsel), stOk)

/-- A write of DOR_CFG (R232): a changed DEADT only while the gates are off. -/
def dorCfg (d : Door) (v : Word) (L : Lane) : Lane × Nat :=
  if bits v 7 0 ≠ L.f (F_DOR_CFG_DEADT d.val) ∧ L.b (F_DOR_STAT_GATES d.val) then (L, dorBusy)
  else (L.store (A_DOR_CFG d.val) v, stOk)

/-- The ordering of R260 over the three cap registers. -/
def dorCapsOk (d : Door) (L : Lane) : Bool :=
  decide (L.f (F_DOR_CAPS_FCAP d.val) ≤ L.f (F_DOR_MCAPS_FCAPM d.val)) &&
  decide (L.f (F_DOR_CAPS_KECAP d.val) ≤ L.f (F_DOR_MCAPS_KECAPM d.val)) &&
  decide (L.f (F_DOR_NUDGE_KENUDGE d.val) ≤ L.f (F_DOR_CAPS_KECAP d.val)) &&
  decide (L.f (F_DOR_OBS_FOBS d.val) < L.f (F_DOR_CAPS_FCAP d.val))

/-- A write of a cap register (R260): the maker's bounds are judged only against the caps they bound. -/
def dorCaps (d : Door) (a : Nat) (v : Word) (L : Lane) : Lane × Nat :=
  let L' := L.store a v
  let bounds := decide (L'.f (F_DOR_CAPS_FCAP d.val) ≤ L'.f (F_DOR_MCAPS_FCAPM d.val)) &&
    decide (L'.f (F_DOR_CAPS_KECAP d.val) ≤ L'.f (F_DOR_MCAPS_KECAPM d.val))
  if (if a = A_DOR_MCAPS d.val then bounds else dorCapsOk d L') then (L', stOk) else (L, stBadValue)

/-! ### The commands -/

/-- CURRENT_SAMPLE (R229). -/
def execCurrentSample (l : LaneId) (d : Door) (iu iv : Int) (s : State) : Host.Outcome State Fault Refusal :=
  lift (onBlock l .dor (currentSample d iu iv)) s

/-- COMPARE_LOAD (R231). -/
def execCompareLoad (l : LaneId) (d : Door) (s : State) : Host.Outcome State Fault Refusal :=
  lift (onBlock l .dor (compareLoad d)) s

/-- HALL_EDGE (R235). -/
def execHallEdge (d : Door) (code : Slot) (s : State) : Host.Outcome State Fault Refusal :=
  lift (World.pads fun l => onBlock l .dor (hallEdge d code.val)) s

/-- HALL_TIMEOUT (R236). -/
def execHallTimeout (l : LaneId) (d : Door) (s : State) : Host.Outcome State Fault Refusal :=
  lift (onBlock l .dor (hallTimeout d)) s

/-- DOR_SAMPLE_INSTANT (R241). -/
def execDorSampleInstant (l : LaneId) (d : Door) (s : State) : Host.Outcome State Fault Refusal :=
  lift (onBlock l .dor (dorInstant d)) s

/-- DOR_PUBLISH (R237). -/
def execDorPublish (l : LaneId) (d : Door) (s : State) : Host.Outcome State Fault Refusal :=
  lift (onBlock l .dor (dorPublish d)) s

/-- REF_TIMEOUT (R244, Table 9.2): referencing has not completed within 30 s. -/
def execRefTimeout (l : LaneId) (d : Door) (s : State) : Host.Outcome State Fault Refusal :=
  lift (onBlock l .dor fun L => if L.dorSt d = dsReferencing then dorToFault d fcRefTmo L else L) s

/-- LOCK_TIMEOUT (R245): the locks have not reported closed within LOCKT. -/
def execLockTimeout (l : LaneId) (d : Door) (s : State) : Host.Outcome State Fault Refusal :=
  lift (onBlock l .dor fun L =>
    if L.door[d].lockWait ∧ L.dorSt d = dsClosed then
      let L := if L.door[d].locks then L else (L.s (F_DOR_STAT_LOCK_S d.val) 1).event (peerDor d) (evBit 16)
      L.updDoor d fun o => { o with lockWait := false }
    else L) s

end Sys2Proof.Machine
end

