-- ==== Sys2Proof/Machine/FioCore.lean ====
section
/-!
DEFINITION. The field die (spec 12): its registers and what it shows, the applied input configuration, outputs and their
faults, the field supply's states, the forced safe state, the silence watchdog, and the commands of its registers.
-/
namespace Sys2Proof.Machine

/-- Events of the field die go to PEER 38. -/
def peerFio : Nat := 38

/-- Status codes of the field die. -/
def fioVfldInhibit : Nat := 0x40
def fioForced : Nat := 0x41
def fioFault : Nat := 0x42

/-- FIO_STAT.VSTATE codes. -/
def vsNormal : Nat := 0
def vsWarn : Nat := 1
def vsLow : Nat := 2
def vsCut : Nat := 3

/-- Causes of the forced safe state, as FCAUSE codes them. -/
def fcSilence : Nat := 1
def fcHoop : Nat := 2
def fcCut : Nat := 3

/-- The Hoop's state codes. -/
def hoopFree : Nat := 0
def hoopFault : Nat := 3
/-- The code of HELD by a lane. -/
def hoopHeld (l : LaneId) : Nat := l.num + 1

/-! ### Registers -/

/-- A lane's number as an index of what the field die keeps per lane. -/
def laneIx (l : LaneId) : Fin 2 := match l with
  | .a => 0
  | .b => 1

def FieldDie.f (d : FieldDie) (f : Field) : Nat := getF d.regs f
def FieldDie.b (d : FieldDie) (f : Field) : Bool := getB d.regs f
def FieldDie.s (d : FieldDie) (f : Field) (v : Nat) : FieldDie := { d with regs := setF d.regs f v }
def FieldDie.sb (d : FieldDie) (f : Field) (v : Bool) : FieldDie := { d with regs := setB d.regs f v }
/-- Raising a sticky bit where a condition holds. -/
def FieldDie.stick (d : FieldDie) (c : Bool) (f : Field) : FieldDie := if c then d.s f 1 else d
/-- The copy of a register the field die keeps for a lane. -/
def FieldDie.copy (d : FieldDie) (l : LaneId) : RegFile := d.laneRegs[laneIx l]
/-- The copies of a lane replaced. -/
def FieldDie.setCopy (d : FieldDie) (l : LaneId) (r : RegFile) : FieldDie := { d with laneRegs := d.laneRegs.set (laneIx l) r }

/-- The lane holds the Hoop, as the field die has it. -/
def FieldDie.heldBy (d : FieldDie) (l : LaneId) : Bool := d.hoop == hoopHeld l

/-- The field supply's state. -/
def FieldDie.vstate (d : FieldDie) : Nat := d.f F_FIO_STAT_VSTATE
/-- The field die is in a forced safe state. -/
def FieldDie.forced (d : FieldDie) : Bool := d.b F_FIO_STAT_FORCED

/-- The nibble s of two words of eight. -/
def nibF (a : Nat) (s : Nat) : Field := ⟨a + 4 * (s / 8), 4 * (s % 8) + 3, 4 * (s % 8)⟩
/-- FIO_OUTFLT of a source. -/
def fltF (s : Nat) : Field := nibF (A_FIO_OUTFLT 0) s
/-- FIO_MISS of a source. -/
def missF (s : Nat) : Field := nibF (A_FIO_MISS 0) s
/-- The fault code of a source (Table 12.6). -/
def FieldDie.flt (d : FieldDie) (s : Nat) : Nat := d.f (fltF s)

/-- A source is a high-side switch. -/
def srcHigh (s : Nat) : Bool := s != 5 && s != 7

/-- A pad at a voltage (mV) conducts to its rail (R520): a high-side output at or above 0.75 × VFLD, a low-side output at or below 0.25 × VFLD, of the
reading in FIO_VFLD (10 mV; DEDUCED, log 164). -/
def FieldDie.padConducts (d : FieldDie) (s : Source) (mv : Nat) : Bool :=
  let v := 10 * d.f F_FIO_VFLD_VFLD
  if srcHigh s.val then decide (3 * v ≤ 4 * mv) else decide (4 * mv ≤ v)

/-- What a pad's voltage says of it: whether it is held at its rail (some true) or away from it (some false) whatever its switch does, or follows the
switch (none). A pad known to be held stays so while it shows that level. -/
def FieldDie.padHeld (d : FieldDie) (s : Source) (mv : Option Nat) : Option Bool :=
  mv.bind fun v =>
    let c := d.padConducts s v
    if c ≠ d.on[s] ∨ d.held[s] = some c then some c else none

/-- The readback of a source: whether its pad conducts (R366): a pad held from outside whatever its switch does, any other as its switch. -/
def FieldDie.rbk (d : FieldDie) (s : Source) : Bool := d.held[s].getD d.on[s]

/-- The field die's own logic runs: not below VPOR (R485), in Carrier reset (R497) or in Hush (Table 17.2). -/
def World.fdUp (w : World) : Bool := !w.sup.off && !w.sup.xres && !w.sup.hush

/-- What the field die does of itself, where it runs. -/
def World.fdStep (f : World → World) (w : World) : World := if w.fdUp then f w else w

/-- The number whose bits are given, least significant first. -/
def bitsOf : List Bool → Nat
  | [] => 0
  | b :: r => b.toNat + 2 * bitsOf r

/-- The part with its field die updated. -/
def World.updFd (w : World) (f : FieldDie → FieldDie) : World := { w with fd := f w.fd }

/-- An event of the field die in both lanes, through their crossing 42. -/
def World.fioEvent (w : World) (k : Nat) : World :=
  (onSpine .b (fun L => L.event peerFio (evBit k)) (onSpine .a (fun L => L.event peerFio (evBit k)) w))

/-! ### Inputs (R354, R533) -/

/-- The state code of an input (Table 12.3). -/
def FioIn.code (i : FioIn) : Nat := if i.tpfail then 7 else if i.cross.isSome then 8 else i.meas

/-- The value a state code reads as (R354): 1 in HIGH and CLOSED. -/
def codeValue (c : Nat) : Bool := c == 2 || c == 4

/-- The value an input reads. -/
def FioIn.value (i : FioIn) : Bool := codeValue i.code

/-- The input's pin reads high. -/
def FioIn.high (i : FioIn) : Bool := i.meas == 2 || i.meas == 4

/-- FIO_IN and FIO_INST follow the inputs; INFLT_S rises with an input that enters BREAK, SHORT, TPFAIL or CROSS. -/
def fdShowIn (old d : FieldDie) : FieldDie :=
  let code := fun n : FieldInput => d.inp[n].code
  let word := fun j => (List.range 8).foldl (fun x k => x + code (fin 24 (by decide) (8 * j + k)) * 16 ^ k) 0
  let bad := (List.finRange 24).any fun n => decide (5 ≤ code n) && code n != old.inp[n].code
  (((((d.s F_FIO_IN_IN (bitsOf ((List.finRange 24).map fun n => d.inp[n].value))).s (F_FIO_INST_ST 0) (word 0)).s
    (F_FIO_INST_ST 1) (word 1)).s (F_FIO_INST_ST 2) (word 2)).stick bad F_FIO_STAT_INFLT_S)

/-- A change of the inputs, shown and reported by event [16]. -/
def World.fioInputs (f : FieldDie → FieldDie) (w : World) : World :=
  let d := fdShowIn w.fd (f w.fd)
  let chg := (List.finRange 24).any fun n => d.inp[n].code != w.fd.inp[n].code
  let w := { w with fd := d }
  if chg then w.fioEvent 16 else w

/-- One input changed. -/
def FieldDie.updIn (d : FieldDie) (n : FieldInput) (f : FioIn → FioIn) : FieldDie := { d with inp := d.inp.set n (f d.inp[n]) }

/-- The resting state of a MODE (R533): UNUSED, OPEN, LOW. -/
def restState (mode : Nat) : Nat := if mode = 1 then 3 else if mode = 2 then 1 else 0

/-- An input under the configuration of one word (R350): a change of MODE starts it in its resting state (R533). -/
def fioApplyIn (now : Nat) (v : Word) (i : FioIn) : FioIn :=
  let mode := bits v 31 30
  if mode = i.mode then { i with src := bits v 26 24, glitch := bits v 20 16 }
  else { mode := mode, src := bits v 26 24, glitch := bits v 20 16, meas := restState mode, since := now }

/-- The field die applies the input configuration where both lanes' copies agree, else keeps the last (R350). -/
def fioApply (w : World) : World :=
  let a := fun n : FieldInput => rget (w.fd.copy .a) (A_FIO_INCFG n.val)
  let b := fun n : FieldInput => rget (w.fd.copy .b) (A_FIO_INCFG n.val)
  if (List.finRange 24).all fun n => a n == b n then
    w.fioInputs fun d => ({ d with inp := Vector.ofFn fun n => fioApplyIn w.time (a n) d.inp[n] }).s F_FIO_STAT_CFGDIFF 0
  else w.updFd fun d => d.s F_FIO_STAT_CFGDIFF 1

/-! ### Outputs (R367, Table 12.11) -/

/-- Byte k of FIO_SWSTAT: TRAIN, LASTOFF, STATE. -/
def swTrainF (k : Nat) : Field := ⟨A_FIO_SWSTAT, 8 * k + 6, 8 * k + 6⟩
def swLastF (k : Nat) : Field := ⟨A_FIO_SWSTAT, 8 * k + 5, 8 * k + 4⟩
def swStateF (k : Nat) : Field := ⟨A_FIO_SWSTAT, 8 * k + 2, 8 * k⟩

/-- Whether a source is to be on, leaving the field supply aside (R367). -/
def FieldDie.want (d : FieldDie) (s : Source) : Bool :=
  d.flt s.val == 0 &&
  (if s.val < 4 then !d.cutOff
   else if s.val < 8 then
     d.train[s.val % 4]'(by omega) && !d.pairForced[(s.val - 4) / 2 % 2]'(by omega) && !d.forced
   else !d.cutOff && (if d.forced then d.safeDem[s.val % 8]'(by omega) else getBit d.regs F_FIO_OUT_FO (s.val - 8)))

/-- Why a safety switch opened: its fault, a forced state, or its pulse train (Table 12.11). -/
def FieldDie.offCause (d : FieldDie) (k : Switch) : Nat :=
  if d.flt (k.val + 4) ≠ 0 then 3 else if d.train[k] then 2 else 1

/-- The state of a safety switch as FIO_SWSTAT codes it (Table 12.11). -/
def FieldDie.swState (d : FieldDie) (k : Switch) : Nat := if d.on[k.val + 4] then 1 else if d.train[k] then 3 else 0

/-- The outputs follow their demands: none switches on while VFLD is LOW or CUT (R367). FIO_SWSTAT and FIO_RBK show them. -/
def fdOutputs (d0 : FieldDie) : FieldDie :=
  let on := Vector.ofFn fun s : Source => d0.want s && (d0.on[s] || decide (d0.vstate ≤ vsWarn))
  let d := { d0 with on := on }
  let d := (List.finRange 4).foldl (fun d k =>
    let was := d0.on[k.val + 4]
    let now := on[k.val + 4]
    let d := ((d.sb (swTrainF k.val) d.train[k]).s (swStateF k.val) (d.swState k))
    if was ∧ ¬ now then d.s (swLastF k.val) (d.offCause k) else d) d
  d.s F_FIO_RBK_RBK (bitsOf ((List.finRange 16).map fun s => d.rbk s))

/-- The part with its field die updated and the outputs following. -/
def World.fioOut (f : FieldDie → FieldDie) (w : World) : World := w.updFd fun d => fdOutputs (f d)

/-! ### The forced safe state (R372) and the field supply (R370) -/

/-- What each general output does in a forced safe state for SILENCE or HOOP: OFF, ON unless VFLD is LOW, or HOLD; after a cut they go off whatever
their programmed safe states (R370). -/
def fdSafe (d : FieldDie) : FieldDie :=
  if d.fCut then d else
  let cfg := fun k : Fin 8 => bits (rget d.regs A_FIO_OUTCFG) (2 * k.val + 1) (2 * k.val)
  let on := fun k : Fin 8 => d.on[k.val + 8]
  let veto := fun k : Fin 8 => cfg k == 1 && d.vstate == vsLow && !on k
  ({ d with safeDem := Vector.ofFn fun k => if cfg k = 1 then !veto k else if cfg k = 2 then on k else false }).stick
    ((List.finRange 8).any fun k => veto k) F_FIO_STAT_SAFEVET_S

/-- Entry into the forced safe state, or a further cause in it (R372): switches and door PWM enables off, outputs safe, event [20]. -/
def World.fioForce (cause : Nat) (w : World) : World :=
  (w.fioOut fun d =>
    let d := if cause = fcCut then { d with fCut := true, ack := false, safeDem := Vector.ofFn fun k => d.on[k.val + 8] }
      else fdSafe (if cause = fcSilence then { d with fSilence := true } else { d with fHoop := true })
    let d := d.stick (cause == fcSilence) F_FIO_STAT_SILENCE_S
    let d := d.stick (cause == fcHoop) F_FIO_STAT_HOOP_S
    ((d.s F_FIO_STAT_FORCED 1).s F_FIO_STAT_FCAUSE cause).s F_FIO_STAT_DOOREN 0).fioEvent 20

/-- The rising threshold of the inputs at VFLD = 16.8 V, in mV, where it is frozen (R352). -/
def thrFrozen : Nat := 7220

/-- A new state of the field supply (Table 12.7), with its sticky bit and event [19]; LOW and CUT freeze the thresholds (R352). -/
def World.fioVfld (st : Nat) (w : World) : World :=
  let w := w.fioOut fun d =>
    let d := d.s F_FIO_STAT_VSTATE st
    let d := if vsLow ≤ st then { d with thr := thrFrozen } else d
    if st = vsWarn then d.s F_FIO_STAT_WARN_S 1 else if st = vsLow then d.s F_FIO_STAT_LOW_S 1
    else if st = vsCut then { d.s F_FIO_STAT_CUT_S 1 with cutDue := true, goodAt := none, ack := false }
    else { d with cutOff := false }
  let w := w.fioEvent 19
  if st = vsCut then w.fioForce fcCut else w

/-- VFLD at or below a voltage (mV) for the filter time (Table 12.7). -/
def fioFall (mv : Nat) (w : World) : World :=
  let w := if mv ≤ 19500 then w.updFd fun d => { d with goodAt := none, ack := false } else w
  let w := if w.fd.vstate = vsNormal ∧ mv < 19200 then w.fioVfld vsWarn else w
  let w := if w.fd.vstate = vsWarn ∧ mv < 16800 then w.fioVfld vsLow else w
  if w.fd.vstate = vsLow ∧ mv < 14000 then w.fioVfld vsCut else w

/-- VFLD above a voltage (mV) for the filter time. -/
def fioRise (mv : Nat) (w : World) : World :=
  let w := if 19500 < mv ∧ w.fd.goodAt = none then w.updFd fun d => { d with goodAt := some w.time } else w
  let w := if w.fd.vstate = vsLow ∧ 17100 < mv then w.fioVfld vsWarn else w
  if (w.fd.vstate = vsWarn ∨ w.fd.vstate = vsCut) ∧ 19500 < mv then w.fioVfld vsNormal else w

/-! ### Output faults (R368, R369) -/

/-- A fault of a source: off, its code, OUTFLT_S, event [18]; a safety switch takes its pair with it and is reported once to each SEB; a test-pulse output's
inputs enter TPFAIL. -/
def World.fioFault (s : Source) (code : Nat) (w : World) : World :=
  let w := w.fioOut fun d =>
    let d := (d.s (fltF s.val) code).s F_FIO_STAT_OUTFLT_S 1
    if h : 4 ≤ s.val ∧ s.val < 8 then
      let p : Pair := fin 2 (by decide) ((s.val - 4) / 2)
      let fresh := !d.pairForced[p]
      let rep := if code = 1 then 5 else if code = 5 then 6 else 4
      { d with
        pairForced := d.pairForced.set p true
        pairSeen := if fresh then d.pairSeen.set p false else d.pairSeen
        report := if fresh then d.report.map fun r => r.set (s.val - 4) rep (by omega) else d.report }
    else d
  let w := w.fioEvent 18
  if s.val < 4 then
    w.fioInputs fun d => { d with inp := d.inp.map fun i => if i.mode ≠ 0 ∧ i.src = s.val + 1 then { i with tpfail := true, tpRun := 0 } else i }
  else w

/-- The latch copies of the SEBs have changed (R333): a pair held off after a fault is freed once an SEB had latched OUTFLTp and both have reset
it (R368). -/
def World.fioPairs (w : World) : World :=
  let held := fun (p : Pair) (l : LaneId) => match w.sup.latch[laneIx l] with
    | some (v, _) => v.getLsbD (9 + p.val)
    | none => false
  let any := fun p => held p .a || held p .b
  w.fioOut fun d => (List.finRange 2).foldl (fun d p =>
    if !d.pairForced[p] then d
    else if any p then { d with pairSeen := d.pairSeen.set p true }
    else if d.pairSeen[p] then
      ({ d with pairForced := d.pairForced.set p false, pairSeen := d.pairSeen.set p false }.s (fltF (4 + 2 * p.val)) 0).s
        (fltF (5 + 2 * p.val)) 0
    else d) d

/-- An input fed from a test-pulse output is mapped to a safety signal of a lane (R369). -/
def feedsSafety (w : World) (tp : Nat) : Bool :=
  [LaneId.a, LaneId.b].any fun l => (List.range 24).any fun k =>
    let b := bits (rget (w.lane l).regs (A_SEB_INMAP (k / 4))) (8 * (k % 4) + 7) (8 * (k % 4))
    decide (128 ≤ b) && (w.fd.inp[b % 32 % 24]'(by omega)).src == tp + 1

/-- Source y in OUT_SHORT_HI follows the off-pulse of x (R369). -/
def World.fioCross (x y : Source) (w : World) : World :=
  let w := (w.updFd fun d => (((((d.s (fltF y.val) 5).s F_FIO_CROSS_X x.val).s F_FIO_CROSS_Y y.val).s F_FIO_CROSS_OV 1).s F_FIO_STAT_OUTFLT_S 1)).fioEvent 18
  let safety := fun s : Source => decide (4 ≤ s.val ∧ s.val < 8) || (decide (s.val < 4) && feedsSafety w s.val)
  if safety x || safety y then (if w.fd.flt x.val = 0 then w.fioFault x 5 else w).fioFault y 5 else w

/-! ### Edges (R357, R358) -/

/-- EDGESTAT.COUNT and the head registers of a lane follow its FIFO. -/
def fioEdgeShow (l : LaneId) (d : FieldDie) : FieldDie :=
  let q := d.edges[laneIx l]
  let r := setF (d.copy l) F_FIO_EDGESTAT_COUNT q.length
  let e : FioEdge := q.headD ⟨0, 0, false⟩
  let r := setF (setF r F_FIO_EDGEHEAD0_STAMP (e.stamp % 2 ^ 32)) F_FIO_EDGEHEAD1_STAMPH (e.stamp / 2 ^ 32)
  d.setCopy l (setB (setF r F_FIO_EDGEHEAD1_INPUT e.input) F_FIO_EDGEHEAD1_RISE e.rise)

/-- An accepted edge into a lane's FIFO, or counted as lost (R358). -/
def fioEdgeStore (l : LaneId) (e : FioEdge) (d : FieldDie) : FieldDie :=
  let q := d.edges[laneIx l]
  if q.length < 64 then fioEdgeShow l { d with edges := d.edges.set (laneIx l) (q ++ [e]) }
  else d.setCopy l (raise (addF (d.copy l) F_FIO_EDGESTAT_LOST 1) F_FIO_STAT_EDGEOVF_S)

/-- The falling threshold of the inputs, in mV (R352). -/
def FieldDie.thrFall (d : FieldDie) : Nat := d.thr - 1000

/-- The level of a voltage (mV) at a time-stamped input's pin; none between the thresholds, where the level stays (R352; nominal thresholds, DESIGN
CHOICE, log 154). -/
def FieldDie.levelOf (d : FieldDie) (mv : Nat) : Option Bool :=
  if d.thr < mv then some true else if mv < d.thrFall then some false else none

/-- A time-stamped input's new level is accepted (R357): the state changes, and the edge is stored with the time of its first sample, so many µs ago, in
each lane's group time, unless the level was there when the mode began (R533). -/
def fioEdge (n : FieldInput) (rise : Bool) (ago : Nat) (w : World) : World :=
  let i := w.fd.inp[n]
  let st := if rise then 2 else 1
  if i.mode ≠ 2 ∨ i.meas = st then w
  else
    let quiet := decide (w.time ≤ i.since + i.glitch)
    let stamp := fun l => ((w.lane l).gtime + 2 ^ 48 - ago % 2 ^ 48) % 2 ^ 48
    let w := w.fioInputs fun d => d.updIn n fun i => { i with meas := st }
    if quiet then w
    else (w.updFd fun d => fioEdgeStore .b ⟨stamp .b, n.val, rise⟩ (fioEdgeStore .a ⟨stamp .a, n.val, rise⟩ d)).fioEvent 17

/-- A voltage has stood at an input's pin for GLITCH µs. -/
def fioPin (n : FieldInput) (mv : Nat) (w : World) : World :=
  match w.fd.levelOf mv with
  | some rise => fioEdge n rise w.fd.inp[n].glitch w
  | none => w

/-- An input loses the output that feeds its loop and reads 0 (R370): a time-stamped one falls now, the first sample at the low level; a supervised one,
whose measurement is suspended, keeps its state (R356), but for CLOSED, which would read 1 and becomes OPEN (DESIGN CHOICE, log 164). -/
def World.fioUnfed (w : World) : World :=
  let fed := fun (i : FioIn) => decide (0 < i.src ∧ i.src ≤ 4)
  let w := (List.finRange 24).foldl (fun w n => if fed w.fd.inp[n] then fioEdge n false 0 w else w) w
  w.fioInputs fun d => { d with inp := d.inp.map fun i => if i.mode = 1 ∧ fed i then { i with meas := if i.meas = 4 then restState 1 else i.meas, last := none } else i }

/-- 500 µs after entry into CUT the test-pulse and general outputs go off, though VFLD may have risen again (R370). -/
def fioCutOutputs (w : World) : World :=
  if w.fd.cutDue then
    (w.fioOut fun d => { d with cutDue := false, cutOff := true, safeDem := Vector.replicate 8 false }).fioUnfed
  else w

/-- Removing the head entry of a lane's edge FIFO. -/
def fioEdgePop (l : LaneId) (d : FieldDie) : FieldDie × Nat :=
  if d.edges[laneIx l].isEmpty then (d, stNoop)
  else (fioEdgeShow l { d with edges := d.edges.set (laneIx l) (d.edges[laneIx l].drop 1) }, stOk)

/-! ### The test frame (R359 to R365) -/

/-- A test that did not take place: counted, due again in the next frame (R363). -/
def World.fioMissed (s : Source) (w : World) : World :=
  let n := min 15 (w.fd.f (missF s.val) + 1)
  let w := w.updFd fun d => { d.s (missF s.val) n with retest := d.retest.set s true }
  if n = 8 then (w.updFd fun d => d.s F_FIO_STAT_TESTMISS_S 1).fioEvent 21 else w

/-- What a window of a test-pulse output shows of one input: TPFAIL and its end for an input it feeds (R361), CROSS and its end for another (R362). -/
def fioTestIn (tp : Nat) (low back : Bool) (i : FioIn) : FioIn :=
  let own := i.src == tp + 1
  let i' :=
    if !own || !i.high then i
    else if low then
      let n := min 4 (i.tpRun + 1)
      { i with tpRun := n, tpfail := i.tpfail && decide (n < 4) }
    else { i with tpRun := 0, tpfail := true }
  if i.mode = 0 then i
  else if !own && i.high && low && back then { i' with cross := some tp, crossRun := 0 }
  else if i.cross = some tp then
    if 4 ≤ i.crossRun + 1 then { i' with cross := none, crossRun := 0 } else { i' with crossRun := i.crossRun + 1 }
  else i'

/-- The inputs after a window of a test-pulse output; FIO_CROSS names the last input that crossed. -/
def World.fioTestInputs (tp : Nat) (o : TestObs) (w : World) : World :=
  w.fioInputs fun d0 =>
    let d := { d0 with inp := Vector.ofFn fun n => fioTestIn tp (o.low.getLsbD n.val) (o.back.getLsbD n.val) d0.inp[n] }
    match (List.finRange 24).reverse.find? fun n =>
        d0.inp[n].mode != 0 && d0.inp[n].src != tp + 1 && d0.inp[n].high && o.low.getLsbD n.val && o.back.getLsbD n.val with
    | some n => ((d.s F_FIO_CROSS_IN n.val).s F_FIO_CROSS_TP tp).s F_FIO_CROSS_IV 1
    | none => d

/-- The time-stamped inputs fed from a test-pulse output show their present level as its window closes (R365), with the time of its first sample in the
window where it has held for GLITCH µs (R357); one that has not comes by an INPUT_EDGE. -/
def World.fioClose (tp : Nat) (o : TestObs) (w : World) : World :=
  (List.finRange 24).foldl (fun w n =>
    let i := w.fd.inp[n]
    let ago := listGet 0 o.ago n.val
    if i.mode = 2 ∧ i.src = tp + 1 ∧ i.glitch ≤ ago then fioEdge n (o.back.getLsbD n.val) ago w else w) w

/-- A test that took place, by its outcome (R360, R361, R362, R369): an output whose off-pulse fails conducts though commanded off, and one that
follows the pulse is wired to it, whether the pulse failed or not. -/
def World.fioTested (s : Source) (o : TestObs) (w : World) : World :=
  let pulse := w.fd.on[s]
  if pulse && o.demand then w.fioMissed s
  else
    let w := w.updFd fun d => { d.s (missF s.val) 0 with retest := d.retest.set s false }
    let w := if s.val < 4 && pulse then (w.fioTestInputs s.val o).fioClose s.val o else w
    let w := if o.pass then w
      else if pulse then World.fioFault s (if srcHigh s.val then 1 else 2) (w.updFd fun d => { d with held := d.held.set s (some true) })
      else w.fioFault s 6
    if pulse && srcHigh s.val then
      (List.finRange 16).foldl (fun w y =>
        if y ≠ s ∧ srcHigh y.val ∧ w.fd.flt y.val = 1 ∧ o.follow.getLsbD y.val then w.fioCross s y else w) w
    else w

/-- The next slot of the test frame (R359): its source is tested where its divider or a missed test asks for it, unless the supply, a forced
state or a fault forbids (R363). -/
def fioSlot (o : TestObs) (w : World) : World :=
  let d := w.fd
  let s : Source := fin 16 (by decide) d.slot
  let want := #v[d.f F_FIO_TPCFG0_DIVTP, d.f F_FIO_TPCFG0_DIVSO, d.f F_FIO_TPCFG0_DIVFO]
  let div := if d.slot = 0 then Vector.ofFn fun k : Fin 3 => if d.frame % (max 1 want[k]) = 0 then want[k] else d.div[k] else d.div
  let dv := max 1 (if s.val < 4 then div[0] else if s.val < 8 then div[1] else div[2])
  let due := d.retest[s] || decide (d.frame % dv = 0)
  let skip := decide (8 ≤ s.val) && !getBit d.regs F_FIO_TPCFG1_FOTEST (s.val - 8)
  let w := w.updFd fun d => { d with
    div := div, slot := (d.slot + 1) % 16, frame := if d.slot = 15 then d.frame + 1 else d.frame }
  if skip || !due then w
  else if decide (vsLow ≤ d.vstate) || d.forced || d.flt s.val != 0 then w.fioMissed s
  else w.fioTested s o

/-! ### The watchdog (R371), RELEASE (R373) and the other commands -/

/-- The key the watchdog expects. -/
def FieldDie.wdKey (d : FieldDie) : Nat := if d.wdLow then 0x3C else 0xC3

/-- TMO in µs. -/
def FieldDie.tmo (d : FieldDie) : Nat := 1000 * d.f F_FIO_WDCFG_TMO

/-- A write to FIO_KEEPALIVE (R371). `kaN` counts the keep-alives in time since the grant up to 3; 4 says that one came too late first
(Table 12.8). -/
def fioKeepalive (l : LaneId) (key : Nat) (w : World) : World × Nat :=
  let d := w.fd
  if !d.heldBy l then (w, stNotHolder)
  else if key ≠ d.wdKey then (w, stBadValue)
  else
    let n := if 3 ≤ d.kaN then d.kaN else if w.time ≤ d.kaAt + d.tmo then d.kaN + 1 else 4
    (w.updFd fun d => { d.s F_FIO_KEEPALIVE_KEY key with wdRun := true, wdLow := !d.wdLow, kaN := n, kaAt := w.time }, stOk)

/-- The watchdog at a grant of the Hoop (R371): restarted, expecting 0x3C. -/
def FieldDie.wdGrant (now : Nat) (d : FieldDie) : FieldDie := { d with wdRun := true, wdLow := true, kaN := 0, kaAt := now }

/-- The watchdog expires (R372). -/
def fioWatchdog (w : World) : World :=
  if w.fd.wdRun then (w.updFd fun d => { d with wdRun := false }).fioForce fcSilence else w

/-- The conditions of Table 12.8 for every cause that arose. -/
def fioMayRelease (w : World) : Bool :=
  let d := w.fd
  decide (d.kaN = 3) && (!d.fHoop || d.hoop == 1 || d.hoop == 2) &&
  (!d.fCut || (d.ack && (match d.goodAt with
    | some t => decide (t + 100000 ≤ w.time)
    | none => false)))

/-- RELEASE (R373, R498): FIO_OUT takes what the outputs are; the forced safe state ends. -/
def fioRelease (w : World) : World × Nat :=
  if !w.fd.forced then (w, stNoop)
  else if getB w.sup.regs F_PWR_STAT_HOLD || !fioMayRelease w then (w, fioForced)
  else
    let w := w.fioOut fun d =>
      let d := d.s F_FIO_OUT_FO (bitsOf ((List.finRange 8).map fun k => d.on[k.val + 8]))
      { ((d.s F_FIO_STAT_FORCED 0).s F_FIO_STAT_FCAUSE 0).s F_FIO_STAT_DOOREN 1 with
        fSilence := false, fHoop := false, fCut := false, ack := false, cutOff := d.cutOff && decide (vsLow ≤ d.vstate) }
    (w.fioEvent 20, stOk)

/-- The condition of a source's fault is still present (R368). -/
def FieldDie.fltPresent (d : FieldDie) (s : Source) : Bool :=
  let c := d.flt s.val
  ((c == 1 || c == 2 || c == 5) && d.rbk s) || (c == 4 && d.hot[s])

/-- CLRFLT (R368): all the sources named, or none; a safety switch's fault ends with its latches instead. -/
def fioClrflt (mask : Nat) (w : World) : World × Nat :=
  let named := fun s : Source => mask.testBit s.val && (decide (s.val < 4) || decide (8 ≤ s.val))
  if (List.finRange 16).any fun s => mask.testBit s.val && w.fd.fltPresent s then (w, fioFault)
  else (w.fioOut fun d => (List.finRange 16).foldl (fun d s => if named s then d.s (fltF s.val) 0 else d) d, stOk)

/-- A write to FIO_CMD by a lane: holder only. -/
def fioCommand (l : LaneId) (v : Word) (w : World) : World × Nat :=
  if !w.fd.heldBy l then (w, stNotHolder)
  else match bits v 3 0 with
    | 0 => (w, stOk)
    | 1 => fioRelease w
    | 2 => fioClrflt (bits v 31 16) w
    | _ => (w, stBadValue)

/-- VFLD has been above 19.5 V for 100 ms. -/
def World.vfldGood (w : World) : Bool := match w.fd.goodAt with
  | some t => decide (t + 100000 ≤ w.time)
  | none => false

/-- An acknowledge of a cut (Table 12.8): remembered only after VFLD has been good for 100 ms. -/
def fioAck (w : World) : World × Nat :=
  if w.fd.forced && w.fd.fCut && w.vfldGood then (w.updFd fun d => { d with ack := true }, stOk) else (w, stNoop)

/-- A write to FIO_OUT (R367, R370, R372). -/
def fioOutWrite (l : LaneId) (v : Word) (w : World) : World × Nat :=
  let d := w.fd
  if !d.heldBy l then (w, stNotHolder)
  else if d.forced then (w, fioForced)
  else if vsLow ≤ d.vstate ∧ (List.range 8).any fun k => v.getLsbD k && !(getBit d.regs F_FIO_OUT_FO k) then (w, fioVfldInhibit)
  else (w.fioOut fun d => d.s F_FIO_OUT_FO (bits v 7 0), stOk)

/-! ### Supervised inputs (R355, R356) -/

/-- The band of two consecutive measurements (1/10000), from the present one: a boundary is passed when both lie beyond it by more than
0.02. -/
def bandOf (cur m0 m1 : Nat) : Nat :=
  let up := ([1500, 5100, 8800].filter fun b => decide (b + 200 < min m0 m1)).length
  let dn := ([1500, 5100, 8800].filter fun b => decide (b ≤ max m0 m1 + 200)).length
  if cur < up then up else if dn < cur then dn else cur

/-- The bands of Table 12.4 from the lowest, as state codes: BREAK, OPEN, CLOSED, SHORT. -/
def bandState : Nat → Nat
  | 0 => 5
  | 1 => 3
  | 2 => 4
  | _ => 6

/-- The band of a state code. -/
def bandIndex : Nat → Nat
  | 5 => 0
  | 4 => 2
  | 6 => 3
  | _ => 1

/-- A measurement of one supervised input. -/
def fioMeasure (k : Option Nat) (i : FioIn) : FioIn :=
  match k, i.mode with
  | some m, 1 =>
    match i.last with
    | some m0 => { i with last := some m, meas := bandState (bandOf (bandIndex i.meas) m0 m) }
    | none => { i with last := some m }
  | _, _ => i

end Sys2Proof.Machine
end

