-- ==== Sys2Proof/Machine/SebCore.lean ====
section
/-!
DEFINITION. The safety evaluation block (spec 11): the input map and its filters, modes and two-hand control, the own
encoder, zone banks, latches and their resets, the pair states, one cycle, and the safety configuration with its session.
-/
namespace Sys2Proof.Machine

/-- Events of the SEB go to PEER 31. -/
def peerSeb : Nat := 31

/-- Status codes of the SEB. -/
def sebSessDenied : Nat := 0x40
def sebPwWrong : Nat := 0x41
def sebPwLocked : Nat := 0x42
def sebCfgReject : Nat := 0x43

/-- Pair states (Table 11.5), as SEB_STAT codes them. -/
def psOff : Nat := 0
def psPullin : Nat := 1
def psOn : Nat := 2
def psDropout : Nat := 3
def psFault : Nat := 4

/-- Bits of SEB_LATCH (Table 11.10). -/
def lbEstopDisc : Nat := 1
def lbDoorDisc : Nat := 2
def lbUcm : Nat := 3
def lbOvs : Nat := 4
def lbTermspd : Nat := 5
def lbFinal : Nat := 6
def lbOutflt0 : Nat := 9
def lbSto : Nat := 11
def lbXcmp : Nat := 12
def lbModeDisc : Nat := 13
def lbModeRet : Nat := 14
def lbLc0Disc : Nat := 15
def lbModespd : Nat := 17
def lbEnclost : Nat := 18
def lbEncdis : Nat := 19
def lbSlip : Nat := 20
def lbSelstop : Nat := 21
def lbNxland : Nat := 22

/-- The SEB of a lane updated. -/
def Lane.updSeb (L : Lane) (f : Seb → Seb) : Lane := { L with seb := f L.seb }

/-- The state of a pair. -/
def psF (p : Pair) : Field := if p = 0 then F_SEB_STAT_PS0 else F_SEB_STAT_PS1
def Lane.ps (L : Lane) (p : Pair) : Nat := L.f (psF p)
/-- A pair's switch is commanded on. -/
def Lane.pairOn (L : Lane) (p : Pair) : Bool := L.ps p == psPullin || L.ps p == psOn
/-- A pair is on. -/
def Lane.anyOn (L : Lane) : Bool := L.pairOn 0 || L.pairOn 1

/-! ### Logical signals (R295 to R299) -/

/-- The map byte of a logical signal. -/
def sebMapByte (r : RegFile) (k : Nat) : Nat := bits (rget r (A_SEB_INMAP (k / 4))) (8 * (k % 4) + 7) (8 * (k % 4))

/-- The field input a logical signal is mapped to. -/
def sebMap (r : RegFile) (k : Nat) : Option FieldInput :=
  let b := sebMapByte r k
  if 128 ≤ b then some (fin 24 (by decide) (b % 32)) else none

/-- What an unmapped signal reads (Table 11.2). -/
def sebUnused (k : Nat) : Bool := decide (4 ≤ k ∧ k ≤ 7) || decide (17 ≤ k ∧ k ≤ 20)

/-- The raw state of a logical signal: its input's, or its unused value. -/
def Lane.sebRaw (L : Lane) (k : SafetySignal) : Bool :=
  match sebMap L.regs k.val with
  | some n => L.seb.inp[n]
  | none => sebUnused k.val

/-- The first channel of a two-channel group; the second follows it. -/
def groupSig (g : SafetyGroup) : Fin 23 := if g.val < 7 then ⟨2 * g.val, by omega⟩ else ⟨2 * (g.val - 7) % 4 + 17, by omega⟩
/-- The two channels of a group. -/
def groupA (g : SafetyGroup) : SafetySignal := ⟨(groupSig g).val, by omega⟩
def groupB (g : SafetyGroup) : SafetySignal := ⟨(groupSig g).val + 1, by omega⟩
/-- A group is mapped. -/
def Lane.groupMapped (L : Lane) (g : SafetyGroup) : Bool := (sebMap L.regs (groupA g).val).isSome || (sebMap L.regs (groupB g).val).isSome
/-- The group a signal belongs to. -/
def groupOf (k : SafetySignal) : Option SafetyGroup := (List.finRange 9).find? fun g => k == groupA g || k == groupB g
/-- The latch bit of a group's discrepancy (Table 11.4). -/
def discBit (g : SafetyGroup) : Nat :=
  if g.val = 0 then lbEstopDisc else if g.val ≤ 4 then lbDoorDisc else if g.val ≤ 6 then lbModeDisc else lbLc0Disc + (g.val - 7)

/-- The state the SEB acts on: 0 in a group with a discrepancy (R298). -/
def Lane.sig (L : Lane) (k : SafetySignal) : Bool :=
  L.seb.acted[k] && (match groupOf k with
    | some g => !L.seb.disc[g]
    | none => true)

/-- Both channels of a group are 1. -/
def Lane.group (L : Lane) (g : SafetyGroup) : Bool := L.sig (groupA g) && L.sig (groupB g)

/-- A cycle's latch of the signals: a newly mapped or first latched one begins where its input stands; else two latches must agree (R297); the sequence of
R299 moves on. -/
def sebInputs (L : Lane) : Lane :=
  let maps := (List.range 6).map fun j => rget L.regs (A_SEB_INMAP j)
  let old := fun k : SafetySignal => bits (listGet 0 L.seb.maps (k.val / 4)) (8 * (k.val % 4) + 7) (8 * (k.val % 4))
  let anew := fun k : SafetySignal => !L.seb.live || old k != sebMapByte L.regs k.val || (sebMap L.regs k.val).isNone
  let L := L.updSeb fun b =>
    { b with
      live := true, maps := maps
      acted := Vector.ofFn fun k => if anew k then L.sebRaw k else if b.filt[k] = b.seen[k] then b.filt[k] else b.acted[k]
      filt := Vector.ofFn fun k => if anew k then L.sebRaw k else b.filt[k]
      seen := Vector.ofFn fun k => if anew k then L.sebRaw k else b.filt[k] }
  L.updSeb fun b => { b with discSeen := Vector.ofFn fun g =>
    if !b.disc[g] then 0
    else if !b.acted[groupA g] && !b.acted[groupB g] then max 1 b.discSeen[g]
    else if b.acted[groupA g] && b.acted[groupB g] && decide (1 ≤ b.discSeen[g]) then 2
    else b.discSeen[g] }

/-! ### Latches (R333) -/

/-- The latched causes. -/
def Lane.latches (L : Lane) : Word := rget L.regs A_SEB_LATCH
def Lane.latched (L : Lane) (k : Nat) : Bool := L.latches.getLsbD k

/-- How many bits of a word are set. -/
def popcount (w : Word) : Nat := (List.range 32).countP fun k => w.getLsbD k

/-- An entry of the latch record is due, of the latches and outputs as they now are (R334): each change has one of its own. -/
def Lane.latPush (L : Lane) : Lane := L.updSeb fun b => { b with latDue := b.latDue ++ [(L.latches, rget L.regs A_SEB_OUTSTAT)] }

/-- Latching causes: each new one counted as a trip, and an entry of the latch record is due. -/
def Lane.latchSet (L : Lane) (m : Word) : Lane :=
  let new := m &&& ~~~ L.latches
  if new = 0 then L
  else
    let L := { L with regs := rput L.regs A_SEB_LATCH (L.latches ||| new) }
    (L.inc F_SEB_CNT_TRIPS (popcount new)).latPush

/-- The word of a latch bit, where a condition holds. -/
def latchIf (c : Bool) (k : Nat) : Word := if c then 1#32 <<< k else 0

/-- A latch made outside a cycle: with event [17], and [18] for NXLAND. -/
def Lane.latchNow (L : Lane) (m : Word) : Lane :=
  let new := m &&& ~~~ L.latches
  let L := L.latchSet m
  if new = 0 then L else L.event peerSeb (evBit 17 + if new.getLsbD lbNxland then evBit 18 else 0)

/-- STOP takes effect (R304): both pulse trains stop and the pairs fall. -/
def sebFall (L : Lane) : Lane :=
  let go := fun (L : Lane) (p : Pair) => if L.pairOn p then (L.s (psF p) psDropout).updSeb fun b => { b with fbN := b.fbN.set p 0 } else L
  let stop := L.b F_SEB_STAT_STOP
  let L := (go (go L 0) 1).updSeb fun b => { b with drive := Vector.replicate 2 false, dem := Vector.replicate 2 false }
  if stop then L else (L.s F_SEB_STAT_STOP 1).inc F_SEB_CNT_STOPS

/-- STOP takes effect outside a cycle, with event [16] where a pair was on. -/
def sebDrop (L : Lane) : Lane := if L.anyOn then (sebFall L).event peerSeb (evBit 16) else sebFall L

/-- The copies of a lane's latches the supervisor keeps (R333), with what the field die draws from them (R368). -/
def World.sebSync (l : LaneId) (w : World) : World :=
  let L := w.lane l
  let w := { w with sup := { w.sup with latch := w.sup.latch.set (laneIx l) (some (L.latches, rget L.regs A_SEB_OUTSTAT)) } }
  if w.fd.pairForced[0] || w.fd.pairForced[1] then w.fioPairs else w

/-! ### Feedback (R330, R331) -/

/-- The feedback of a pair; none where it cannot be judged: unmapped, STO_A and STO_B differing, or LINK 0 while the pair is OFF or ON. -/
def Lane.feedback (L : Lane) (p : Pair) : Option Bool :=
  if p = 0 ∧ L.b F_SEB_OUTCFG_STO0 then
    if !L.b F_DRV_STAT_LINK && (L.ps 0 == psOff || L.ps 0 == psOn) then none
    else if L.b F_DRV_STAT_STO_A != L.b F_DRV_STAT_STO_B then none
    else some (!L.b F_DRV_STAT_STO_A)
  else if (sebMap L.regs (21 + p.val)).isSome then some (L.sig ⟨21 + p.val, by omega⟩) else none

/-- A pair's readbacks show it off, in the last state frame. -/
def Lane.pairReleased (L : Lane) (p : Pair) : Bool := !L.seb.rbk[2 * p.val]'(by omega) && !L.seb.rbk[2 * p.val + 1]'(by omega)

/-- A pair enters a state. -/
def sebGoto (p : Pair) (st : Nat) (L : Lane) : Lane :=
  (L.s (psF p) st).updSeb fun b => { b with fbN := b.fbN.set p 0 }

/-- SEB_OUTSTAT of a pair. -/
def causeF (p : Pair) : Field := if p = 0 then F_SEB_OUTSTAT_CAUSE0 else F_SEB_OUTSTAT_CAUSE1

/-- A pair enters FAULT with its cause (R330); where its latch is set already, the cause alone is the change. -/
def sebPairFault (p : Pair) (cause : Nat) (L : Lane) : Lane :=
  let had := L.latched (lbOutflt0 + p.val)
  ((sebGoto p psFault (L.s (causeF p) cause)).latchSet (latchIf true (lbOutflt0 + p.val))).ifDo had (·.latPush)

/-- What feedback and readback do to a pair in a cycle (Table 11.5, R332). -/
def sebPair (p : Pair) (L : Lane) : Lane :=
  let st := L.ps p
  let fb := L.feedback p
  if L.seb.rbf[p] ≠ 0 then (sebPairFault p L.seb.rbf[p] L).updSeb fun b => { b with rbf := b.rbf.set p 0 }
  else if st = psPullin ∧ fb = some false then sebGoto p psOn L
  else if st = psOn then
    let n := if fb = some true then L.seb.fbN[p] + 1 else 0
    let L := L.updSeb fun b => { b with fbN := b.fbN.set p n }
    if 4 ≤ n then sebPairFault p 3 L else L
  else if st = psDropout ∧ fb = some true then sebGoto p psOff L
  else L

/-! ### Resets of causes (R335 to R337) -/

/-- |v_s| exceeds VSTAND. -/
def Lane.sebMoving (L : Lane) : Bool := decide (1000 * (L.f F_SEB_SPD1_VSTAND : Int) < absI (L.i F_SEB_VS_VS))

/-- What the SEB takes of BOB's report: nothing while none comes (R320). -/
def Lane.bobSays (L : Lane) : BobReport := if L.seb.bobMiss = 4 then {} else L.seb.bobRep.getD {}

/-- The condition of a latched cause is still present (R337). -/
def Lane.causePresent (L : Lane) (k : Nat) : Bool :=
  let b := L.seb
  let rep := L.bobSays
  let disc := (List.finRange 9).any fun g => discBit g == k && b.disc[g] && b.discSeen[g] != 2
  if k = lbUcm ∨ k = lbOvs ∨ k = lbTermspd ∨ k = lbFinal then L.sebMoving
  else if k = lbOutflt0 then !(L.feedback 0 == some true && L.pairReleased 0)
  else if k = lbOutflt0 + 1 then !(L.feedback 1 == some true && L.pairReleased 1)
  else if k = lbSto then L.b F_DRV_STAT_STO_A != L.b F_DRV_STAT_STO_B
  else if k = lbXcmp then (decide (0 < b.mism[0]) || decide (0 < b.mism[1]))
  else if k = lbModespd then b.spdNow
  else if k = lbEnclost then decide (4 ≤ b.encBad)
  else if k = lbEncdis then rep.encDis
  else if k = lbSlip then rep.slip
  else if k = lbSelstop then b.selReq
  else if k = lbNxland then b.vlow || rep.encDis || rep.slip
  else disc

/-- The causes only the button resets (Latch F of Table 11.10). -/
def latchF (k : Nat) : Bool := decide (k ≤ 6) || (decide (9 ≤ k) && decide (k ≤ 14))

/-- A reset in one SEB: of every cause by the button, of the Latch S causes by a service reset. -/
def sebReset (button : Bool) (L : Lane) : Lane :=
  let ks := (List.range 23).filter fun k => L.latched k && (button || !latchF k)
  let gone := ks.filter fun k => !L.causePresent k
  let L := L.stick (gone.length != ks.length) F_SEB_FLAG_RSTREF_S
  let L := L.updSeb fun b => { b with resetEv := true }
  if gone.isEmpty then L
  else
    let L := { L with regs := rput L.regs A_SEB_LATCH (gone.foldl (fun v k => v &&& ~~~ (1#32 <<< k)) L.latches) }
    let L := L.updSeb fun b => { b with disc := Vector.ofFn fun g => b.disc[g] && !gone.contains (discBit g) }
    let L := L.inc F_SEB_CNT_RESETS
    ((List.finRange 2).foldl (fun L p =>
      if gone.contains (lbOutflt0 + p.val) then
        let L := L.s (causeF p) 0
        if L.ps p = psFault then (sebGoto p psDropout L).event peerSeb (evBit 16) else L
      else L) L).latPush

/-! ### Modes, two-hand control (R300, R302) -/

/-- The mode: NORMAL 0, INSPECTION 1, EEO 2. -/
def sebMode (L : Lane) : Nat := if L.group 5 then 1 else if L.group 6 then 2 else 0

/-- Two-hand control in a cycle: the bar of a direction after the late second press of its two buttons, 500 ms after the first of these two, until all
three are 0 together (of that direction alone: DEDUCED, log 163); each button's press has its own time; the presses are followed in NORMAL too, where
they set no flag. -/
def sebTwoHand (L : Lane) : Lane :=
  let u := L.sig 14
  let d := L.sig 15
  let c := L.sig 16
  let age := L.seb.thAge
  let past := L.seb.thOver
  let up := c && u
  let dn := c && d
  let lateUp := up && !L.seb.thBoth[0] && (past[0] || past[2])
  let lateDn := dn && !L.seb.thBoth[1] && (past[1] || past[2])
  let bar := fun (b : Bool) => b && (u || d || c)
  (L.stick ((lateUp || lateDn) && L.f F_SEB_STAT_MODE != 0) F_SEB_FLAG_TWOHAND_S).updSeb fun b => { b with
    thAge := #v[if u then age[0] + 1 else 0, if d then age[1] + 1 else 0, if c then age[2] + 1 else 0]
    thOver := #v[u && past[0], d && past[1], c && past[2]]
    thBoth := #v[up, dn], thBar := #v[bar (b.thBar[0] || lateUp), bar (b.thBar[1] || lateDn)] }

/-- The direction permission: 0 none, 1 UP, 2 DN. -/
def sebDirp (L : Lane) : Nat :=
  if L.f F_SEB_STAT_MODE = 0 || !L.sig 16 then 0
  else if L.sig 14 && !L.sig 15 && !L.seb.thBar[0] then 1 else if L.sig 15 && !L.sig 14 && !L.seb.thBar[1] then 2 else 0

/-! ### The own encoder (R315) -/

/-- The own sample of the cycle: unusable where it is missing, faulty, or 6,500 µm from the last usable one; v_s over four samples. -/
def sebOwn (first : Bool) (L : Lane) : Lane :=
  match first, L.seb.enc with
  | true, none => L
  | _, e =>
    let z : Option Int := match e with
      | some (z, false) => match L.seb.zLast with
          | some z0 => if 6500 < absI (z - z0) then none else some z
          | none => some z
      | _ => none
    let old : Option Int := listGet none L.seb.zHist 3
    let L := L.updSeb fun b => { b with
      enc := none, zHist := (z :: b.zHist).take 4, zLast := if z.isSome then z else b.zLast,
      encBad := if z.isSome then 0 else min 4 (b.encBad + 1) }
    match z with
    | none => L.s F_SEB_FLAG_ENCFR_S 1
    | some z =>
      let L := L.si F_SEB_ZS_ZS z
      match old with
      | some z4 => L.si F_SEB_VS_VS (satS 32 ((z - z4) * 1000))
      | none => L

/-! ### Zones (R307, R308) -/

/-- The selected bank. -/
def Lane.bank (L : Lane) : List SebZone := if L.seb.lt then L.seb.zones1 else L.seb.zones0

/-- The entry of a deck whose zone, less PTOL at each end, holds z_s. -/
def Lane.zoneOf (L : Lane) (deck : Nat) : Option SebZone :=
  let z := L.i F_SEB_ZS_ZS
  let t : Int := L.f F_SEB_ZONE_PTOL
  if L.seb.zLast.isNone then none
  else L.bank.find? fun e => e.deck == deck && decide (e.sill - e.below + t ≤ z) && decide (z ≤ e.sill + e.above - t)

/-- VALIDATE has passed on a buffer (R307): its bank is filled. -/
def sebZoneFill (buf : Bool) (L : Lane) : Lane :=
  let es := (List.range 512).filterMap fun k => match ltEntry L buf k with
    | some (s, dn, up, w2) => some (SebZone.mk s dn up (k / 2) (k % 2) (w2.getLsbD 28) (w2.getLsbD 29))
    | none => none
  L.updSeb fun b => if buf then { b with zones1 := es } else { b with zones0 := es }

/-- A write into a buffer empties its bank (R307). -/
def sebZoneClear (buf : Bool) (L : Lane) : Lane := L.updSeb fun b => if buf then { b with zones1 := [] } else { b with zones0 := [] }

/-- An accepted change of LTSEL takes effect (R307). -/
def sebLtSelect (buf : Bool) (L : Lane) : Lane := L.updSeb fun b => { b with lt := buf }

/-! ### Reports that reach the SEB -/

/-- The own SSI sample, through crossing 18. -/
def sebEncoder (z : Int) (faulty : Bool) (L : Lane) : Lane := L.updSeb fun b => { b with enc := some (z, faulty) }

/-- A BOB report (R162). -/
def sebBobReport (r : BobReport) (L : Lane) : Lane := L.updSeb fun b => { b with bobRep := some r, bobNew := true }

/-- A report of the separation guard, where crossing 39 brings it (R224). -/
def sebSelReport (r : SelReport) (L : Lane) : Lane :=
  if L.xOpen 39 then L.updSeb fun b => { b with selNew := true, selReq := L.b F_SEL_STAT_SSTOP, selRep := r } else L

/-! ### The cycle (R293, R305) -/

/-- The counts of missing reports and words in a cycle (R320, R321, R324, R325); MISSED counts each time a report is found missing. A pair's demand
is compared in the cycles that have a partner word; one without leaves its run as it is, and a lost partner ends it (DEDUCED, log 163). -/
def sebCounts (L : Lane) : Lane :=
  let b := L.seb
  let bm := if b.bobNew then 0 else min 4 (b.bobMiss + 1)
  let sm := if b.selNew then 0 else min 12 (b.selMiss + 1)
  let L := L.ifDo (bm == 4 && b.bobMiss != 4) (·.inc F_SEB_CNT_MISSED)
  let L := L.ifDo (sm == 12 && b.selMiss != 12 && L.b F_SEL_CFG_EN) (·.inc F_SEB_CNT_MISSED)
  let pm := if b.pwFresh then 0 else min 4 (b.pwMiss + 1)
  let pg := if b.pwFresh then min 400 (b.pwGood + 1) else 0
  let mism := match b.pw with
    | some w => if pm = 4 then Vector.replicate 2 0
        else if !b.pwFresh then b.mism
        else Vector.ofFn fun p : Fin 2 => if w.dem[p] = b.dem[p] then 0 else min 4 (b.mism[p] + 1)
    | none => b.mism
  L.updSeb fun b => { b with
    bobNew := false, selNew := false, pwFresh := false, bobMiss := bm, selMiss := sm, pwMiss := pm, pwGood := pg, mism := mism,
    pwLost := if pm = 4 then true else if pg = 400 then false else b.pwLost }

/-- What a cycle's evaluation works on: DO, W, the zones, the mode change, the causes acting. -/
structure SebNow where
  doOpen : Bool
  w : Bool
  ucm : Bool
  z0 : Option SebZone
  z1 : Option SebZone
  modeChg : Bool
  dirp : Nat
  lapse : Bool
  beyondTop : Bool
  beyondBot : Bool
deriving DecidableEq, Repr

/-- The door-open travel window and door circuits (R310, R311). -/
def sebDoors (L : Lane) : Lane × Bool × Bool × Bool :=
  let op := [1, 2, 3, 4].any fun g => L.groupMapped g && !L.group g
  let av := absI (L.i F_SEB_VS_VS)
  let still := decide (av ≤ 1000 * (L.f F_SEB_SPD1_VSTAND : Int))
  let rest := if op && still then min 200 (L.seb.rest + 1) else 0
  let rested := op && (L.seb.rested || rest == 200)
  let vdo : Int := 1000 * (if rested then L.f F_SEB_SPD1_VRLV else L.f F_SEB_SPD0_VPRE)
  let w := ((L.zoneOf 0).isSome || (L.zoneOf 1).isSome) && decide (av ≤ vdo)
  let trip := op && (L.seb.doTrip || (!L.seb.doPrev && L.anyOn && !w))
  let ucm := op && !w && L.seb.wPrev
  (L.updSeb fun b => { b with doPrev := op, wPrev := w, doTrip := trip, rest := rest, rested := rested }, op, w, ucm)

/-- v_s is above the terminal speed at z_s (R318). -/
def sebTerminal (L : Lane) : Bool :=
  let v := L.i F_SEB_VS_VS
  let z := L.i F_SEB_ZS_ZS
  let room := if 0 < v then L.i F_SEB_ZTSTOP_Z - z else z - L.i F_SEB_ZTSBOT_Z
  let vt : Int := 1000 * L.f F_SEB_TERM_VT0
  v != 0 && decide (vt * vt + 2 * (1000 * L.f F_SEB_TERM_ATS : Int) * max room 0 < v * v)

/-- MODESPD's condition (R303). -/
def sebModeSpeed (mode dirp : Nat) (L : Lane) : Bool :=
  let v := L.i F_SEB_VS_VS
  let lim : Int := 1000 * (if mode = 1 then L.f F_SEB_SPD2_VINS else L.f F_SEB_SPD2_VEEO)
  mode != 0 && (decide (lim < absI v) || (dirp == 1 && decide (v < -50000)) || (dirp == 2 && decide (50000 < v)))

/-- Step 4 and the first half of step 5: everything latched, the modes, the windows and the new causes. -/
def sebEvaluate (L : Lane) : Lane × SebNow :=
  let first := !L.seb.live
  let L := sebCounts (sebOwn first (sebInputs L))
  let oldMode := L.f F_SEB_STAT_MODE
  let mode := sebMode L
  let L := sebTwoHand (L.s F_SEB_STAT_MODE mode)
  let dirp := sebDirp L
  let chg := mode != oldMode
  let (L, op, w, ucm) := sebDoors L
  let known := L.seb.zLast.isSome
  let z := L.i F_SEB_ZS_ZS
  let top := known && decide (L.i F_SEB_FINTOP_Z < z)
  let bot := known && decide (z < L.i F_SEB_FINBOT_Z)
  let rep := L.bobSays
  let spd := sebModeSpeed mode dirp L
  let m :=
    latchIf ucm lbUcm ||| latchIf (decide (1000 * (L.f F_SEB_SPD0_OVS : Int) < absI (L.i F_SEB_VS_VS))) lbOvs |||
    latchIf (known && sebTerminal L) lbTermspd ||| latchIf ((top || bot) && !L.seb.finBeyond) lbFinal |||
    latchIf (decide (L.seb.encBad = 4)) lbEnclost ||| latchIf rep.encDis lbEncdis ||| latchIf rep.slip lbSlip |||
    latchIf (L.seb.vlow || rep.encDis || rep.slip) lbNxland ||| latchIf spd lbModespd ||| latchIf L.seb.selReq lbSelstop |||
    latchIf (decide (L.seb.mism[0] = 4) || decide (L.seb.mism[1] = 4)) lbXcmp ||| latchIf (chg && mode == 0) lbModeRet
  let L := (L.latchSet m).updSeb fun b => { b with finBeyond := top || bot, spdNow := spd }
  (sebPair 1 (sebPair 0 L),
   { doOpen := op, w := w, ucm := ucm, z0 := L.zoneOf 0, z1 := L.zoneOf 1, modeChg := chg && L.anyOn, dirp := dirp,
     lapse := mode != 0 && dirp == 0 && L.anyOn, beyondTop := top, beyondBot := bot })

/-- SEB_ACT (Table 11.12), as bits from 0. -/
def sebActs (n : SebNow) (L : Lane) : List Bool :=
  let miss := L.seb.bobMiss == 4
  let rep := L.seb.bobRep.getD {}
  [!(L.sig 0 && L.sig 1), L.seb.doTrip || (n.doOpen && !n.w && L.anyOn), n.doOpen && !n.w, !miss && (rep.lost || !rep.posv), miss,
   L.b F_SEL_CFG_EN && L.seb.selMiss == 12, L.seb.pwLost, L.seb.vlow, L.seb.forced, L.seb.cfgBad,
   (match L.seb.pw with
    | some w => w.cfgid != rget L.regs A_SEB_CFGID
    | none => false), L.f F_SEB_SESS_STATE != 0, n.modeChg]

/-- The k-th cause acting. -/
def actBit (a : List Bool) (k : Nat) : Bool := listGet false a k

/-- The latched causes whose reaction is STOP (Table 11.4). -/
def stopMask : Word := 0x00263E7E#32

/-- A STOP reaction acts (Table 11.4). -/
def sebStop (n : SebNow) (a : List Bool) (L : Lane) : Bool :=
  actBit a 0 || actBit a 1 || (actBit a 3 && L.anyOn) ||
  (actBit a 5 && (L.seb.pwLost || (match L.seb.pw with
    | some w => w.selrep
    | none => false))) || actBit a 6 || actBit a 8 || actBit a 12 || n.lapse || (L.latches &&& stopMask) != 0

/-- A BLOCK reaction acts. -/
def sebBlock (a : List Bool) (L : Lane) : Bool :=
  [2, 3, 4, 5, 7, 9, 10, 11].any (actBit a) || (L.latched lbModeRet && L.f F_SEB_STAT_MODE == 0)

/-- Switch-on is barred though nothing blocks: NXLAND outside the door zones (R304), no direction permission in INSPECTION or EEO (R303), beyond a
final limit but for moving back under a direction permission (R319). -/
def sebBarred (n : SebNow) (L : Lane) : Bool :=
  let mode := L.f F_SEB_STAT_MODE
  (L.latched lbNxland && n.z0.isNone && n.z1.isNone) || (mode != 0 && n.dirp == 0) ||
  (n.beyondTop && !(mode != 0 && n.dirp == 2)) || (n.beyondBot && !(mode != 0 && n.dirp == 1))

/-- The own permit of a pair (R323, R329, R331). -/
def sebPermit (stop noOn : Bool) (L : Lane) (p : Pair) : Bool :=
  !stop && (L.pairOn p || (L.ps p == psOff && !noOn && (if p = 0 then !(L.b F_SEB_OUTCFG_STO0 && !L.b F_DRV_STAT_LINK) else L.ps 0 == psOn)))

/-- A pair follows its demand (Table 11.5). -/
def sebFollow (p : Pair) (dem : Bool) (L : Lane) : Lane :=
  if L.pairOn p && !dem then sebGoto p psDropout L
  else if L.ps p == psOff && dem then sebGoto p psPullin L
  else L

/-- Door d has permission from this SEB (R309). -/
def sebPerm (n : SebNow) (d : Door) (L : Lane) : Bool :=
  let deck := L.f (if d = 0 then F_SEB_ZONE_DECK0 else F_SEB_ZONE_DECK1)
  (match (if deck = 0 then n.z0 else n.z1) with
   | some e => if d = 0 then e.door0 else e.door1
   | none => false) &&
  decide (absI (L.i F_SEB_VS_VS) ≤ 1000 * (L.f F_SEB_SPD0_VPRE : Int)) &&
  !(L.latched lbUcm || L.latched lbOvs || L.latched lbFinal)

/-- Door d's light curtain is BROKEN (R313). -/
def sebBroken (d : Door) (L : Lane) : Bool := if d = 0 then !L.group 7 else !L.group 8

/-- Steps 5 and 6 within the lane: reactions, demands, permissions, status, the partner word, and the cycle's event. -/
def sebDecide (old : Lane) (L : Lane) (n : SebNow) : Lane :=
  let a := sebActs n L
  let stop := sebStop n a L
  let block := sebBlock a L
  let noOn := block || sebBarred n L
  let permit := Vector.ofFn fun p => sebPermit stop noOn L p
  let theirs := match L.seb.pw with
    | some w => w.permit
    | none => Vector.replicate 2 false
  let dem := Vector.ofFn fun p : Pair => permit[p] && theirs[p] && L.seb.req[p]
  let L := sebFollow 1 dem[1] (sebFollow 0 dem[0] L)
  let L := L.updSeb fun b => { b with dem := dem, drive := Vector.ofFn fun p => L.pairOn p, pwSeq := (b.pwSeq + 1) % 65536, resetEv := false }
  let L := L.ifDo (stop && !old.b F_SEB_STAT_STOP) (·.inc F_SEB_CNT_STOPS)
  let L := (((((L.sb F_SEB_STAT_STOP stop).sb F_SEB_STAT_BLOCK block).sb F_SEB_STAT_NXLAND (L.latched lbNxland)).s F_SEB_STAT_DIRP n.dirp).sb
    F_SEB_STAT_W n.w)
  let L := (((L.sb F_SEB_STAT_ZIN0 n.z0.isSome).sb F_SEB_STAT_ZIN1 n.z1.isSome).s F_SEB_STAT_ZLAND
    (match n.z0, n.z1 with
     | some e, _ => e.land % 256
     | none, some e => e.land % 256
     | none, none => 0))
  let L := (L.sb F_SEB_STAT_PERM0 (sebPerm n 0 L)).sb F_SEB_STAT_PERM1 (sebPerm n 1 L)
  let L := (L.s F_SEB_STAT_DCS (bitsOf [L.group 1, L.group 2, L.group 3, L.group 4])).s F_SEB_STAT_LCB (bitsOf [sebBroken 0 L, sebBroken 1 L])
  let L := L.s F_SEB_ACT_ACT (bitsOf a)
  let selrep := actBit a 5
  let word : PartnerWord := ⟨L.seb.pwSeq, dem, permit, L.latches, selrep, rget L.regs A_SEB_CFGID, old.seb.resetEv⟩
  let L := { L with lnk := { L.lnk with partnerOut := some word } }
  let L := L.sebReqSend
  let ev := (if L.ps 0 ≠ old.ps 0 ∨ L.ps 1 ≠ old.ps 1 then evBit 16 else 0) +
    (if L.latches &&& ~~~ old.latches ≠ 0 then evBit 17 else 0) +
    (if L.latched lbNxland && !old.latched lbNxland then evBit 18 else 0) +
    (if L.f F_SEB_STAT_MODE ≠ old.f F_SEB_STAT_MODE then evBit 19 else 0) +
    (if n.dirp ≠ old.f F_SEB_STAT_DIRP then evBit 20 else 0)
  if ev ≠ 0 then L.event peerSeb ev else L

/-- The holder's SEB takes its requests from SPG or SEB_REQ (R327). -/
def sebTakeReq (L : Lane) : Lane :=
  if !L.holder then L
  else
    L.updSeb fun b => { b with req := #v[L.switchReq.1, L.switchReq.2], reqWait := false }

/-- What the lane's DOR reads of its SEB through crossing 38 (R312, R313). -/
def sebToDor (L : Lane) : Lane :=
  let locks := L.group 3 && L.group 4
  dorSebReport 1 (sebBroken 1 L) (L.group 2) locks (dorSebReport 0 (sebBroken 0 L) (L.group 1) locks L)

/-- The permission of both SEBs, at both lanes' doors (R233, R246). -/
def World.sebPerms (w : World) : World :=
  let p := fun d : Door =>
    let f := if d = 0 then F_SEB_STAT_PERM0 else F_SEB_STAT_PERM1
    w.laneA.b f && w.laneB.b f
  let go := fun L => dorPerm 1 (p 1) (dorPerm 0 (p 0) L)
  (w.updLane .a go).updLane .b go

/-- The pulse trains of a lane reach the field die: one that starts is seen at once; one that stopped is seen lost after 20 µs (R17). -/
def World.sebTrains (l : LaneId) (w : World) : World :=
  let b := (w.lane l).seb
  let i : Nat := l.num
  if b.drive[0] || b.drive[1] then
    w.fioOut fun d => { d with train := Vector.ofFn fun k => d.train[k] || (k.val % 2 == i && b.drive[k.val / 2]) }
  else w

/-- One cycle of a lane's SEB. -/
def World.sebCycle (l : LaneId) (w : World) : World :=
  let w := w.updLane l fun L0 =>
    let L := sebTakeReq L0
    let (L, n) := sebEvaluate L
    sebToDor (sebDecide L0 L n)
  ((w.sebTrains l).sebSync l).sebPerms

/-! ### The latch record (R334) -/

/-- The first sector of the latch record, by flash offset; the second follows it. -/
def latRecBase (second : Bool) : Nat := 0x77E000 + if second then 0x1000 else 0

/-- An entry: its number, SEB_LATCH and SEB_OUTSTAT as they were after the change, zeros, and CRC-32. -/
def latEntry (seq : Nat) (e : Word × Word) : Bytes :=
  let b := leBytes 4 seq ++ wordBytes e.1 ++ wordBytes e.2 ++ List.replicate 16 0
  b ++ wordBytes (crc32 b)

/-- The first entry due written into erased lines. -/
def latPut (second : Bool) (k : Nat) (e : Word × Word) (L : Lane) : Lane :=
  (L.flashPut (latRecBase second + 32 * k) (latEntry L.seb.latSeq e)).updSeb fun b =>
    { b with latDue := b.latDue.drop 1, latSeq := (b.latSeq + 1) % 2 ^ 32, latUsed := k + 1, latSector := second }

/-- The first entry that is due is programmed; a full sector gives way to the other, kept erased, and is itself erased then. -/
def latWrite (L : Lane) : Lane :=
  let b := L.seb
  match b.latDue with
  | [] => L
  | e :: _ =>
    if b.latUsed < 128 then latPut b.latSector b.latUsed e L
    else if b.latErase then L.s F_SEB_FLAG_LATREC_S 1
    else (latPut (!b.latSector) 0 e L).updSeb fun b => { b with latErase := true }

/-- The erase of the full sector is complete: the entries that waited are written, each in its turn and the newest state with them (DEDUCED, log 177). -/
def latErased (L : Lane) : Lane :=
  if !L.seb.latErase then L
  else
    let L := L.flashErase (latRecBase (!L.seb.latSector)) 0x1000
    L.seb.latDue.foldl (fun L _ => latWrite L) (L.updSeb fun b => { b with latErase := false })

/-- The entries of a sector that hold together: number, SEB_LATCH, SEB_OUTSTAT, place. -/
def latScan (L : Lane) (second : Bool) : List (Nat × Word × Word × Nat) :=
  let base := latRecBase second
  if L.flash.all fun c => decide (c.1 < base) || decide (base + 0x1000 ≤ c.1) then []
  else (List.range 128).filterMap fun k =>
    let b := readBytes 0xFF L.flash (base + 32 * k) 32
    if crc32 (b.take 28) = BitVec.ofNat 32 (leNat (b.drop 28)) then
      some (leNat (b.take 4), BitVec.ofNat 32 (leNat ((b.drop 4).take 4)), BitVec.ofNat 32 (leNat ((b.drop 8).take 4)), k)
    else none

/-- The newest of some entries. -/
def latNewest (es : List (Nat × Word × Word × Nat)) : Option (Nat × Word × Word × Nat) :=
  es.foldl (fun best e => match best with
    | some b => if b.1 < e.1 then some e else some b
    | none => some e) none

/-- The latches after a Lane reset (R333): the supervisor's copy, or the record's newest entry; the pairs in FAULT; the older sector erased. -/
def sebRestore (copy : Option (Word × Word)) (L : Lane) : Lane :=
  let n0 := latNewest (latScan L false)
  let n1 := latNewest (latScan L true)
  let second := match n0, n1 with
    | some a, some b => decide (a.1 < b.1)
    | none, some _ => true
    | _, _ => false
  let best := if second then n1 else n0
  let rec0 := match best with
    | some e => (e.2.1, e.2.2.1)
    | none => (0, 0)
  let v := copy.getD rec0
  let L := { L with regs := rput (rput L.regs A_SEB_LATCH v.1) A_SEB_OUTSTAT v.2 }
  let L := if n0.isSome && n1.isSome then L.flashErase (latRecBase (!second)) 0x1000 else L
  let L := L.updSeb fun b => { b with
    latSector := second, latErase := false,
    latSeq := match best with | some e => (e.1 + 1) % 2 ^ 32 | none => 1
    latUsed := match best with | some e => e.2.2.2 + 1 | none => 0
    latDue := if copy.isSome && decide (rec0 ≠ v) then [v] else []
    disc := Vector.ofFn fun g => v.1.getLsbD (discBit g) && L.groupMapped g }
  let L := L.sb F_SEB_STAT_NXLAND (v.1.getLsbD lbNxland)
  let L := if v.1.getLsbD lbOutflt0 then L.s F_SEB_STAT_PS0 psFault else L
  if v.1.getLsbD (lbOutflt0 + 1) then L.s F_SEB_STAT_PS1 psFault else L

/-! ### The safety configuration (R339 to R345) -/

/-- The word of an SEBW register of a lane: its own, or its copy on the field die. -/
def Lane.sebwWord (L : Lane) (a : Nat) : Word :=
  if A_FIO_INCFG 0 ≤ a ∧ a < A_FIO_INCFG 24 then listGet 0 L.seb.fioCfg ((a - A_FIO_INCFG 0) / 4) else rget L.regs a

/-- SEB_CFGID: CRC-32 over every SEBW field, in the order of their addresses, but for the four of the encoder (R344). -/
def sebCfgId (L : Lane) : Word :=
  crc32 (sebwRegs.flatMap fun (a, m) =>
    if A_BOB_SSICFG ≤ a ∧ a ≤ A_BOB_ENCLAT then [] else wordBytes (L.sebwWord a &&& m))

/-- SEB_CFGID brought up to date. -/
def sebShowId (L : Lane) : Lane := { L with regs := rput L.regs A_SEB_CFGID (sebCfgId L) }

/-- The sectors of the configuration record. -/
def cfgRecBase (second : Bool) : Nat := 0x77C000 + if second then 0x1000 else 0

/-- The bytes of a configuration record: its number, every SEBW field, the check value of the password, CRC-32. -/
def cfgRecord (seq : Nat) (chk : Word) (L : Lane) : Bytes :=
  let b := leBytes 4 seq ++ sebwRegs.flatMap (fun (a, m) => wordBytes (L.sebwWord a &&& m)) ++ wordBytes chk
  b ++ wordBytes (crc32 b)

/-- The record of a sector, where its CRC-32 is correct: number, words, check value. -/
def cfgRead (L : Lane) (second : Bool) : Option (Nat × List Word × Word) :=
  let base := cfgRecBase second
  let n := sebwRegs.length
  if L.flash.all fun c => decide (c.1 < base) || decide (base + 0x1000 ≤ c.1) then none
  else
    let b := readBytes 0xFF L.flash base (4 * n + 12)
    if crc32 (b.take (4 * n + 8)) ≠ BitVec.ofNat 32 (leNat (b.drop (4 * n + 8))) then none
    else some (leNat (b.take 4), (List.range n).map (fun k => BitVec.ofNat 32 (leNat ((b.drop (4 + 4 * k)).take 4))),
      BitVec.ofNat 32 (leNat ((b.drop (4 + 4 * n)).take 4)))

/-- The newest record. -/
def cfgNewest (L : Lane) : Option (Bool × Nat × List Word × Word) :=
  match cfgRead L false, cfgRead L true with
  | some a, some b => if a.1 < b.1 then some (true, b) else some (false, a)
  | some a, none => some (false, a)
  | none, some b => some (true, b)
  | none, none => none

/-- The SEBW fields set to given words, in the order of `sebwRegs`; the field die's copies in `fioCfg`. -/
def sebwPut (ws : List Word) (L : Lane) : Lane :=
  (sebwRegs.zip ws).foldl (fun L ((a, m), v) =>
    if A_FIO_INCFG 0 ≤ a ∧ a < A_FIO_INCFG 24 then
      L.updSeb fun b => { b with fioCfg := b.fioCfg.set ((a - A_FIO_INCFG 0) / 4) (v &&& m) }
    else { L with regs := rput L.regs a ((rget L.regs a &&& ~~~ m) ||| (v &&& m)) }) L

/-- The factory values of the SEBW fields. -/
def sebwFactory : List Word := sebwRegs.map fun (a, m) => resetWord 5 a 0 &&& m

/-- The stored configuration loaded into every SEBW field (R343), or the factory values with CFG_INVALID. -/
def sebLoad (L : Lane) : Lane :=
  let L := L.updSeb fun b => { b with fioCfg := List.replicate 24 0x50000 }
  match cfgNewest L with
  | some (second, seq, ws, chk) =>
    sebShowId (((sebwPut ws L).s F_SEB_SESS_SEQ (seq % 65536)).updSeb fun b => { b with cfgBad := false, cfgSector := second, pwChk := some chk })
  | none => sebShowId (((sebwPut sebwFactory L).s F_SEB_FLAG_CFGLOAD_S 1).updSeb fun b => { b with cfgBad := true, cfgSector := true, pwChk := none })

/-- A password is the lane's (R339): its check value is the stored one; the factory's password is 0. -/
def sebPwOk (L : Lane) (p : Word) : Bool :=
  match L.seb.pwChk with
  | some c => Config.sebPwCheck p == c
  | none => p == 0

/-- OPEN by an engine under its role (R339, R345), the change log having room or not; SEB_PWD is cleared. The slot of the outcome is reserved anew: one an
earlier session left in the queue does not hold it (R530). -/
def sebOpen (e : Nat) (role : Role) (now : Nat) (logRoom qRoom : Bool) (L : Lane) : Lane × Nat :=
  let pwd := L.seb.pwd
  let L := L.updSeb fun b => { b with pwd := 0 }
  if role ≠ .ins ∧ role ≠ .mkr then (L, stRoleDenied)
  else if L.seb.pwLock then (L, sebPwLocked)
  else if !sebPwOk L pwd then
    let fails := now :: L.seb.pwFails.filter fun t => decide (now < t + 600000000)
    if 3 ≤ fails.length then ((L.s F_SEB_FLAG_PWLOCK_S 1).updSeb fun b => { b with pwFails := [], pwLock := true }, sebPwWrong)
    else (L.updSeb fun b => { b with pwFails := fails }, sebPwWrong)
  else if L.ps 0 ≠ psOff ∨ L.ps 1 ≠ psOff ∨ ¬ L.pairReleased 0 ∨ ¬ L.pairReleased 1 ∨ L.sebMoving ∨ L.f F_SEB_SESS_STATE ≠ 0 then
    (L, sebSessDenied)
  else if !logRoom then (L, stLogFull)
  else if !qRoom then (L, stQfull)
  else
    let L := (((L.s F_SEB_SESS_STATE 1).s F_SEB_SESS_ENGINE e).s F_SEB_SESS_ERR 0).s F_SEB_SESS_STORE_FAIL 0
    let L := { L with log := { L.log with clOutcome := false } }
    ((L.updSeb fun b => { b with pwdNew := none }).event peerSeb (evBit 21), stOk)

/-- The first check of R341 that fails, by its place in the rule; 0 if none does. -/
def sebCheck (L : Lane) : Nat :=
  let m := fun k => (sebMap L.regs k).isSome
  let must := [0, 1, 2, 3, 8, 9, 22, 23].all m && (m 21 || L.b F_SEB_OUTCFG_STO0)
  let pairs := (List.finRange 9).all fun g => m (groupA g).val == m (groupB g).val
  let used := (List.range 24).filterMap fun k => sebMap L.regs k
  if !must then 1
  else if !pairs then 2
  else if !(decide used.Nodup) then 3
  else if !(decide (L.i F_SEB_FINBOT_Z < L.i F_SEB_ZTSBOT_Z) && decide (L.i F_SEB_ZTSBOT_Z < L.i F_SEB_ZTSTOP_Z) &&
      decide (L.i F_SEB_ZTSTOP_Z < L.i F_SEB_FINTOP_Z)) then 4
  else if L.f F_SEB_SPD0_OVS < L.f F_SEB_TERM_VT0 then 5
  else if L.f F_SEB_SPD0_VPRE < L.f F_SEB_SPD1_VRLV then 6
  else if L.seb.pwdNew = some 0 ∨ (L.seb.pwdNew = none ∧ L.seb.pwChk = none) then 7
  else 0

/-- The session moves to a state, with event [21]. -/
def sebSessTo (st : Nat) (L : Lane) : Lane := (L.s F_SEB_SESS_STATE st).event peerSeb (evBit 21)

/-- COMMIT (R341): the session must be open, and the engine its own. -/
def sebCommit (e : Nat) (L : Lane) : Lane × Nat :=
  if L.f F_SEB_SESS_STATE ≠ 1 then (L, stNoop)
  else if L.f F_SEB_SESS_ENGINE ≠ e then (L, sebSessDenied)
  else
    let n := sebCheck L
    if n ≠ 0 then (L.s F_SEB_SESS_ERR n, sebCfgReject) else (sebSessTo 2 (L.s F_SEB_SESS_ERR 0), stOk)

/-- ABORT (R340). -/
def sebAbort (e : Nat) (L : Lane) : Lane × Nat :=
  if L.f F_SEB_SESS_STATE ≠ 1 then (L, stNoop)
  else if L.f F_SEB_SESS_ENGINE ≠ e then (L, sebSessDenied)
  else (sebSessTo 3 L, stOk)

/-- The record is written (R342): into the other sector, with the next number; a new password takes effect. -/
def sebStored (L : Lane) : Lane :=
  let seq := (L.f F_SEB_SESS_SEQ + 1) % 65536
  let chk := match L.seb.pwdNew with
    | some p => Config.sebPwCheck p
    | none => L.seb.pwChk.getD 0
  let second := !L.seb.cfgSector
  let L := (L.flashErase (cfgRecBase second) 0x1000).flashPut (cfgRecBase second) (cfgRecord seq chk L)
  sebSessTo 0 ((L.s F_SEB_SESS_SEQ seq).updSeb fun b => { b with cfgSector := second, cfgBad := false, pwChk := some chk, pwdNew := none })

/-- A session reverts: the stored values are reloaded. -/
def sebReverted (L : Lane) : Lane := sebSessTo 0 ((sebLoad L).updSeb fun b => { b with pwdNew := none })

end Sys2Proof.Machine
end

