-- ==== Sys2Proof/Machine/Hooks.lean ====
section
/-!
DEFINITION. What TAT and the blocks around it read of one another: the sources of the input selector (Table 5.4), what a slot's state means for SPG and
DOR, the switches and pairs of both SEBs, and the standby's comparison of the torque reference (R380).
-/
namespace Sys2Proof.Machine

/-- A source of the input selector, as published last (Table 5.4); SPG publishes nothing in OFF, where its three read 0 (Table 7.2). -/
def tatInput (L : Lane) (code : Nat) : Word :=
  let spg := fun a => if L.spgSt = spgOff then 0 else rget L.regs a
  match code with
  | 1 => spg A_SPG_PUBP
  | 2 => spg A_SPG_PUBV
  | 3 => spg A_SPG_PUBA
  | 4 => wOf L.bob.pub.pos
  | 5 => wOf L.bob.pub.vel
  | 6 => wOf L.bob.pub.bound
  | 7 => rget L.regs A_SPG_LOAD
  | 8 => rget L.regs A_DRV_MVEL
  | 9 => rget L.regs A_DRV_MCUR
  | _ =>
    let d : Door := fin 2 (by decide) ((code - 0x10) / 8)
    let n : Slot := fin 8 (by decide) ((code - 0x40) / 4)
    let p : AccNo := fin 4 (by decide) (code % 4)
    if 0x10 ≤ code ∧ code < 0x20 then
      match code % 8 with
      | 0 => rget L.regs (A_DOR_ID d.val)
      | 1 => rget L.regs (A_DOR_IQ d.val)
      | 2 => BitVec.ofNat 32 (L.dorTheta d)
      | 3 => wOf (L.dorX d)
      | 4 => wOf (L.dorV d)
      | _ => 0
    else if 0x40 ≤ code ∧ code < 0x60 then L.tat.slots[n].ports[p]
    else if 0x60 ≤ code ∧ code < 0x70 then rget L.regs (A_TAT_FWIN (code - 0x60))
    else if 0x70 ≤ code ∧ code < 0x78 then wOf L.tat.slots[(fin 8 (by decide) (code - 0x70) : Slot)].ticksLast
    else 0

/-- A slot enters GUARD: slot 0 closes SPG's loop, slots 1 and 3 the currents of the doors (R195, R239). -/
def slotGuardHook (n : Slot) (L : Lane) : Lane :=
  if n = 0 then spgSlotGuard L else if n = 1 then dorLoopLost 0 L else if n = 3 then dorLoopLost 1 L else L

/-- A slot enters OFF (R239). -/
def slotOffHook (n : Slot) (L : Lane) : Lane := if n = 1 then dorLoopLost 0 L else if n = 3 then dorLoopLost 1 L else L

/-- A result of slot 0 is accepted (R194). -/
def slotAcceptHook (n : Slot) (L : Lane) : Lane := if n = 0 then spgSlotAccept L else L

/-- The sample instant of slot 0 (R192, R194). -/
def slotSampleHook (n : Slot) (L : Lane) : Lane := if n = 0 then spgSlotSample L else L

/-- Pair 0 is ON in both SEBs (R198). -/
def World.so0On (w : World) : Bool := w.laneA.ps 0 == psOn && w.laneB.ps 0 == psOn

/-- The lane's SEB shows pair 1 ON: the brake has lifted (R329). -/
def World.brakeLifted (l : LaneId) (w : World) : Bool := (w.lane l).ps 1 == psOn

/-- The lane's SEB shows pair 1 OFF: the brake has dropped (R329). -/
def World.brakeDropped (l : LaneId) (w : World) : Bool := (w.lane l).ps 1 == psOff

/-- The group position of the part, as PIC shows it (R443). -/
def groupPos (L : Lane) : Nat := L.f F_PIC_STAT_POS

/-- Both pairs are OFF in both SEBs. -/
def World.pairsOff (w : World) : Bool :=
  w.laneA.ps 0 == psOff && w.laneA.ps 1 == psOff && w.laneB.ps 0 == psOff && w.laneB.ps 1 == psOff

/-- The torque reference formed beside the holder's on the wire (R380): eight periods in a row that differ by more than TQTOL set TQCMP. -/
def lnkTqCompare (own wire : Int) (L : Lane) : Lane :=
  if L.holder then L
  else
    let n := if 256 * L.f F_LNK_SVC_TQTOL < absI (own - wire) then L.drv.differ + 1 else 0
    let L := { L with drv := { L.drv with differ := min 8 n } }
    if 8 ≤ n then { L.s F_LNK_STAT_TQCMP_S 1 with lnk := { L.lnk with tqcmp := true } } else L

end Sys2Proof.Machine
end

