-- ==== Sys2Proof/Machine/UsbCore.lean ====
section
/-!
DEFINITION. Whether the USB device is on the bus, and what its registers show of its queues (spec 16, R463, R476, R477; spec 18, R507, R522).
-/
namespace Sys2Proof.Machine

/-- Events of the USB controller go to PEER 37. -/
def peerUsb : Nat := 37
/-- Status code of USB: the device is not attached. -/
def usbDetached : Nat := 0x40

/-- The USB controller updated. -/
def Lane.updUsb (L : Lane) (f : Usb → Usb) : Lane := { L with usb := f L.usb }

/-- The registers that show the two queues: levels, the head packet's length and bytes. -/
def usbShow (L : Lane) : Lane :=
  let head := L.usb.rx.head?.getD []
  let L := ((L.s F_USB_RXSTAT_LEVEL L.usb.rx.length).s F_USB_RXSTAT_LEN head.length).s F_USB_TXQSTAT_LEVEL L.usb.tx.length
  (List.range 16).foldl (fun L k =>
    { L with regs := rput L.regs (A_USB_RXWIN k) (BitVec.ofNat 32 (leNat ((head.drop (4 * k)).take 4))) }) L

/-- The conditions of R476: enabled, in the holder, with USB_VBUS, in Run, 10 ms after the grant, and with VLOG high enough (R522). -/
def usbMay (L : Lane) : Bool :=
  L.b F_USB_CTRL_EN && L.holder && L.usb.vbus && L.f F_PWR_STAT_STATE == 0 && !L.usb.wait && !L.usb.low

/-- The device attaches or detaches as R476 says, with its event; detached, both queues are empty (R507). -/
def usbEval (L : Lane) : Lane :=
  let L := L.sb F_USB_STAT_VBUS L.usb.vbus
  let on := usbMay L
  if on = L.b F_USB_STAT_ATTACHED then L
  else
    let L := L.sb F_USB_STAT_ATTACHED on
    let L := if on then L else usbShow ((L.s F_USB_STAT_CONFIGURED 0).updUsb fun u => { u with rx := [], tx := [] })
    L.event peerUsb (evBit 18)

end Sys2Proof.Machine
end

