-- ==== Sys2Proof/Machine/Bob.lean ====
section
/-!
DEFINITION. The position estimator BOB (spec 06): frames, validity, the update, the bound, the publication, the landing table and
the captures.
-/
namespace Sys2Proof.Machine

/-- Estimator states (Table 6.4). -/
def bobOff : Nat := 0
def bobInit : Nat := 1
def bobTrack : Nat := 2
def bobSingle : Nat := 3
def bobCoast : Nat := 4
def bobLost : Nat := 5
/-- The largest bound, published in INIT and LOST. -/
def bobNoBound : Nat := 0x7FFFFFFF
/-- PEER number of BOB's events. -/
def peerBob : Nat := 25
/-- Status codes of BOB. -/
def bobLtInvalid : Nat := 0x40
def bobLtMoving : Nat := 0x41
/-- One in Q32.16. -/
def q16 : Int := 65536

/-- A lane with its estimator updated. -/
def Lane.updBob (L : Lane) (f : Bob → Bob) : Lane := { L with bob := f L.bob }

/-- Event bits kept for the word of the next publication (R164). -/
def Lane.bobEv (L : Lane) (k : Nat) : Lane := L.updBob fun b => { b with evs := b.evs ||| evBit k }

/-- The own absolute channel of a lane: SSI0 in Lane A, SSI1 in Lane B (Table 6.1). -/
def ownCh : LaneId → Fin 2
  | .a => 0
  | .b => 1

/-- The other lane's channel. -/
def remoteCh (l : LaneId) : Fin 2 := ownCh l.other

/-! ### SSI frames (R146, R147) -/

/-- The number a string of bits spells, the first most significant. -/
def bitsNat (b : Bits) : Nat := b.foldl (fun n x => 2 * n + x.toNat) 0

/-- Gray code to binary, most significant bit first. -/
def grayBits : Bool → Bits → Bits
  | _, [] => []
  | p, b :: r => (p != b) :: grayBits (p != b) r

/-- Is a frame faulty? The checks of R147, in their order. -/
def ssiFaulty (r : RegFile) (frame : Bits) (ready returned : Bool) : Bool :=
  let ones := (frame.filter id).length
  let par := getF r F_BOB_SSICFG_PAR
  !ready || frame.all id || frame.all not || (par == 1 && ones % 2 == 1) || (par == 2 && ones % 2 == 0) ||
  (getB r F_BOB_SSICFG_ERREN &&
    (listGet false frame (getF r F_BOB_SSICFG_ERRIDX)) == getB r F_BOB_SSICFG_ERRPOL) || !returned

/-- The decoded position z of a frame (R147), rounded and saturated. -/
def ssiPosition (r : RegFile) (frame : Bits) : Int :=
  let field := (frame.drop (getF r F_BOB_SSICFG_POSSTART)).take (getF r F_BOB_SSICFG_POSLEN)
  let count : Int := bitsNat (if getB r F_BOB_SSICFG_GRAY then grayBits false field else field)
  let s := if getB r F_BOB_SSICFG_DIR then -count else count
  satS 32 (rnd (s * getF r F_BOB_ENCSCALE_SCALE) 16 + getI r F_BOB_ENCOFS_OFS)

/-- The number of the BOB sample whose period holds a clock of F. -/
def bobSampleOf (t : Nat) : Nat := t / 20000

/-- The sample in progress takes what belongs to it and comes before the gather window closes (R152). -/
def Lane.gathers (L : Lane) (k : Nat) : Bool := L.bob.window && bobSampleOf L.bob.tk == k

/-- A sample of an absolute channel for the present period. -/
def chTake (c : Fin 2) (k : Nat) (z tc : Int) (faulty : Bool) (L : Lane) : Lane :=
  if L.gathers k then L.updBob fun b => { b with ch := b.ch.set c { b.ch[c] with cur := some (z, tc, faulty) } } else L

/-- A frame of the own channel (R146, R147): FRAMELEN bits, low behind the last one received, whose first falling clock edge was at a clock of F; the
capture time is ENC_LAT µs earlier. It goes to the SEB, to the other lane and, where crossing 18 is open, to BOB, which counts a faulty one. -/
def ssiFrame (l : LaneId) (frame : Bits) (ready returned : Bool) (edge : Nat) (L : Lane) : Lane :=
  let n := L.f F_BOB_SSICFG_FRAMELEN
  if n = 0 then L
  else
    let frame := (frame ++ List.replicate n false).take n
    let bad := ssiFaulty L.regs frame ready returned
    let z := ssiPosition L.regs frame
    let k := bobSampleOf edge
    let tc : Int := (edge : Int) - 80 * L.f F_BOB_ENCLAT_LAT
    let L := L.ifDo (L.xOpen 18) fun L =>
      chTake (ownCh l) k z tc bad (if bad then (L.inc F_BOB_CNT_FRAME).s F_BOB_STAT_FRAME_S 1 else L)
    sebEncoder z bad { L with lnk := { L.lnk with ssiOut := some (z, tc, k, bad) } }

/-- The sample in the bytes an accelerometer transfer reads (BOB_ACCCFG): MSB first from byte SBYTE. -/
def accSample (r : RegFile) (data : Bytes) : Int :=
  let n := if getB r F_BOB_ACCCFG_W24 then 3 else 2
  signed (8 * n) (beNat ((data.drop (getF r F_BOB_ACCCFG_SBYTE)).take n))

/-- An accelerometer sample arriving for a sample of BOB: kept in that sample's gather window (R151, R152). -/
def accArrive (k : Nat) (raw : Option Int) (L : Lane) : Lane :=
  if L.gathers k then match raw with
    | some x => L.updBob fun b => { b with acc := some x }
    | none => L
  else L

/-- The holder makes an accelerometer transfer (R151). -/
def accOn (L : Lane) : Bool := L.holder && L.b F_BOB_CTRL_ACCEN && L.f F_BOB_ACCCFG_NBYTES != 0

/-- The expansion transfer that waits on SPI has its turn, where the instant it waited for has come (R508). -/
def spiTurn (instant : Nat) (L : Lane) : Lane :=
  L.updUsb fun u => if u.spiWait.any fun due => decide (due ≤ instant) then { u with spiWait := none } else u

/-- The holder's own accelerometer transfer (R151): used where crossing 25 is open, and sent to the other lane, or marked unusable. -/
def accOwn (data : Bytes) (done : Bool) (L : Lane) : Lane :=
  if !accOn L then L
  else
    let k := bobSampleOf L.bob.tk
    let raw := if done && L.xOpen 25 then some (accSample L.regs (data.take (L.f F_BOB_ACCCFG_NBYTES))) else none
    accArrive k raw ({ spiTurn L.bob.tk L with lnk := { L.lnk with accOut := some (k, raw) } })

/-- A message of the other lane's mailbox taken, and what it does at the receiver. -/
def World.takeOut {α : Type} (l : LaneId) (get : Lnk → Option α) (clear : Lnk → Lnk) (f : α → World → World) (w : World) : World :=
  match get (w.lane l.other).lnk with
  | none => w
  | some x => f x (w.updLane l.other fun L => { L with lnk := clear L.lnk })

/-- A motor frame from the drive link (R149): the count's difference, modulo 2³², adds to the 48-bit position, whose saturation is shown. -/
def bobMotor (count : Nat) (vel : Int) (tc : Nat) (L : Lane) : Lane :=
  let d := match L.bob.motCount with
    | some c => signed 32 (count + 2 ^ 32 - c % 2 ^ 32)
    | none => 0
  let m := L.bob.m + d
  (L.stick (satS 48 m != m) F_BOB_STAT_SAT_S).updBob fun b =>
    { b with m := satS 48 m, motCount := some (count % 2 ^ 32), motVel := vel, motTc := tc, motNew := true }

/-! ### The buffers of the landing table (R167, R175) -/

/-- The buffer in use may be read: its BUFOK is 1 (R175). -/
def ltLive (L : Lane) : Bool := L.b (if L.bob.ltAct then F_BOB_LTCTL_BUFOK1 else F_BOB_LTCTL_BUFOK0)

/-- BUFOK of a buffer. -/
def F_BUFOK (buf : Bool) : Field := if buf then F_BOB_LTCTL_BUFOK1 else F_BOB_LTCTL_BUFOK0

/-- BOB_DZ reads 0 while the buffer in use is not valid (R175); a change of it is an event (R164). -/
def dzGone (buf : Bool) (L : Lane) : Lane :=
  if L.bob.ltAct = buf ∧ rget L.regs A_BOB_DZ ≠ 0 then ({ L with regs := rput L.regs A_BOB_DZ 0 } : Lane).bobEv 18 else L

/-- A performed write into a landing table buffer clears its BUFOK, and the SEB's zone bank with it (R167, R307); of the buffer in use BOB_DZ too. -/
def ltTouched (buf : Bool) (L : Lane) : Lane := dzGone buf (sebZoneClear buf (L.s (F_BUFOK buf) 0))

/-! ### The sample instant -/

/-- The sample instant t_k (R145, R168), where F has one: its ticks reach SPG over crossing 16 (R176) and BOB over crossing 17, the gather window
opens, a changed LTSEL takes effect, with BOB_DZ at 0 where the buffer it names is not valid (R175), and where no accelerometer transfer follows, the
expansion transfer that waits for it goes ahead (R508; DESIGN CHOICE, log 168). -/
def bobInstant (L : Lane) : Lane :=
  match instantIn L.fclk 20000 0 with
  | none => L
  | some off =>
    let L := (L.crossEvent 16 0).crossEvent 17 0
    if L.bob.ticks = 0 ∨ L.bob.rst then L
    else
      let L := L.updBob fun b => { b with
        tk := L.fclk + off, window := true, updated := false, acc := none, ltAct := L.b F_BOB_LTCTL_LTSEL, ticks := 0,
        ch := Vector.ofFn fun i => { b.ch[i] with cur := none } }
      let L := sebLtSelect L.bob.ltAct L
      let L := L.ifDo (!ltLive L) (dzGone L.bob.ltAct)
      if accOn L then L else spiTurn L.bob.tk L

/-- The gather window closes (R152): a remote sample that has not come is counted, once. -/
def bobGathered (l : LaneId) (L : Lane) : Lane :=
  if !L.bob.window then L
  else
    let L := if (L.bob.ch[remoteCh l]).cur.isNone then (L.inc F_BOB_CNT_REMOTE).s F_BOB_STAT_REMOTE_S 1 else L
    L.updBob fun b => { b with window := false }

/-! ### The update (R154 to R161) -/

/-- A position at t_k from a sample captured at tc, moving with vp (Q16). -/
def moveTo (z : Int) (vp : Int) (tk : Nat) (tc : Int) : Int := z * q16 + rdiv (vp * ((tk : Int) - tc)) 80000000

/-- The jump check and usability of one channel's sample (R154): the position at t_k where it is usable, whether it
failed the jump check, and the channel with its reference moved on. In INIT and LOST the sample as decoded is compared with the last one as decoded
(DEDUCED, log 171). -/
def chJudge (b : Bob) (jump : Nat) (pp vp : Int) (c : BobCh) : Option Int × Bool × BobCh :=
  match c.cur with
  | some (z, tc, false) =>
    let zi := moveTo z vp b.tk tc
    let ok := if b.st = bobTrack ∨ b.st = bobSingle ∨ b.st = bobCoast then
        decide (absI (zi - pp) ≤ ((jump + b.bnd : Nat) : Int) * q16)
      else match c.zref with
        | some r => decide (absI (z - r) ≤ (jump : Int) + 6000)
        | none => true
    (if ok then some zi else none, !ok, { c with zref := some z })
  | _ => (none, false, c)

/-- The runs and the validity of a channel after a sample (R155). -/
def chRuns (disN : Nat) (usable : Bool) (c : BobCh) : BobCh :=
  let good := if usable then c.good + 1 else 0
  let bad := if usable then 0 else c.bad + 1
  { c with
    good := min 1000 good, bad := min 1000 bad,
    valid := if c.voted then false else if 8 ≤ good then true else if disN ≤ bad then false else c.valid }

/-- A channel the vote made INVALID comes back (R157): after 1,000 consecutive samples near the other; a disagreeing sample is not near. -/
def chRecover (near anyValid otherValid : Bool) (c : BobCh) : BobCh :=
  if !c.voted then { c with recov := 0 }
  else
    let n := if near && (otherValid || !anyValid) then c.recov + 1 else 0
    if 1000 ≤ n then { c with recov := 0, voted := false, valid := true } else { c with recov := n }

/-- The bound as an unsigned 32-bit number of µm, from its Q16 sum. -/
def boundOf (x : Int) : Nat := (satU 32 (rnd x 16)).toNat

/-- The VALID entry of a deck whose effective sill is nearest to a position: landing, sill, zone (R170). -/
def ltNear (L : Lane) (deck : Nat) (p : Int) : Option (Nat × Int × Int × Int) :=
  (List.range 256).foldl (fun best n =>
    match ltEntry L L.bob.ltAct (2 * n + deck) with
    | none => best
    | some (s, dn, up, _) =>
      match best with
      | some (_, s0, _, _) => if absI (p - s) < absI (p - s0) then some (n, s, dn, up) else best
      | none => some (n, s, dn, up)) none

/-- One deck's part of BOB_DZ: NEAR valid, its landing, IN, CERT. -/
def dzDeck (L : Lane) (deck : Nat) (p : Int) (bnd : Nat) : Bool × Nat × Bool × Bool :=
  if !ltLive L then (false, 0, false, false)
  else match ltNear L deck p with
    | none => (false, 0, false, false)
    | some (n, s, dn, up) =>
      (true, n, decide (s - dn ≤ p) && decide (p ≤ s + up), decide (s - dn ≤ p - bnd) && decide (p + bnd ≤ s + up))

/-- BOB_DZ after an estimate (R170, R171): the door zones of both decks, LEVEL, and RELREQ cleared within OFF. The words of the buffer that are
uncorrectable are read with it, and counted (R169, R503). -/
def bobDoorZone (L : Lane) : Lane :=
  let p := L.bob.pub.pos
  let d0 := dzDeck L 0 p L.bob.pub.bound
  let d1 := dzDeck L 1 p L.bob.pub.bound
  let old := rget L.regs A_BOB_DZ
  let dev := if L.b F_BOB_RELEV0_ARM && ltLive L then
      (ltEntry L L.bob.ltAct (L.f F_BOB_RELEV0_TGT)).map fun e => absI (p - e.1) else none
  let level := match dev with | some d => decide (d ≤ (L.f F_BOB_RELEV1_OFF : Int)) | none => false
  let L1 := ((((L.sb F_BOB_DZ_NEAR0_V d0.1).s F_BOB_DZ_NEAR0 d0.2.1).sb F_BOB_DZ_IN0 d0.2.2.1).sb F_BOB_DZ_CERT0 d0.2.2.2)
  let L1 := ((((L1.sb F_BOB_DZ_NEAR1_V d1.1).s F_BOB_DZ_NEAR1 d1.2.1).sb F_BOB_DZ_IN1 d1.2.2.1).sb F_BOB_DZ_CERT1 d1.2.2.2)
  let L1 := L1.sb F_BOB_DZ_LEVEL level
  let L1 := if level || !L.b F_BOB_RELEV0_ARM || dev.isNone then L1.s F_BOB_DZ_RELREQ 0 else L1
  let bad := if ltLive L then L.ue.filter fun x =>
      let a := 0x30021000 + (if L.bob.ltAct then 0x2000 else 0)
      decide (a ≤ x) && decide (x < a + 0x2000)
    else []
  let L1 := (bad.foldl (fun L a => eccLost a L) L1).stick (!bad.isEmpty) F_BOB_STAT_LTUE_S
  if rget L1.regs A_BOB_DZ = old then L1 else L1.bobEv 18

/-- The state after a sample's validity is known (Table 6.4), and whether COAST gave way to INIT with a returning channel outside. -/
def bobNextState (st : Nat) (v0 v1 motv agree within : Bool) : Nat × Bool :=
  let any := v0 || v1
  if st = bobInit then (if any then (if v0 && v1 && agree then bobTrack else bobSingle) else bobInit, false)
  else if st = bobTrack then
    (if v0 && v1 then bobTrack else if any then bobSingle else if motv then bobCoast else bobLost, false)
  else if st = bobSingle then
    (if v0 && v1 && agree then bobTrack else if any then bobSingle else if motv then bobCoast else bobLost, false)
  else if st = bobCoast then
    (if any then (if within then (if v0 && v1 && agree then bobTrack else bobSingle, false) else (bobInit, true))
     else (if motv then bobCoast else bobLost, false))
  else if st = bobLost then (if any then bobInit else bobLost, false)
  else (st, false)

/-- Has any of these 48-bit values saturated? -/
def sat48Any (xs : List Int) : Bool := xs.any fun x => satS 48 x != x

/-- What a sample's update is computed from once its state is known (R160): the prediction, the fused measurement, vm and zm, b and s as they stand. -/
structure BobFuse where
  pp : Int
  vp : Int
  z : Int
  vm : Int
  zm : Int
  b : Int
  s : Int
  motv : Bool
  useA : Bool

/-- The update of R160 in TRACK and SINGLE, each product and each value saturated to 48 bits: p, v, s and b, and whether any saturated. -/
def bobFuse (f : BobFuse) (L : Lane) : (Int × Int × Int × Int) × Bool :=
  let r := f.z - f.pp
  let kp := rnd (L.f F_BOB_GAIN0_KP * r) 16
  let kv := rnd (L.f F_BOB_KV_KV * r) 16
  let kb := if f.useA then rnd (L.f F_BOB_KB_KB * r) 16 else 0
  let p := f.pp + satS 48 kp
  let v0 := f.vp + satS 48 kv
  let km := if f.motv then rnd (L.f F_BOB_GAIN1_KVM * (f.vm - satS 48 v0)) 16 else 0
  let ks := if f.motv then rnd (L.f F_BOB_GAIN0_KS * (f.zm - satS 48 p - f.s)) 16 else 0
  let v := satS 48 v0 + satS 48 km
  let s := f.s + satS 48 ks
  let b := f.b - satS 48 kb
  ((satS 48 p, satS 48 v, satS 48 s, satS 48 b), sat48Any [kp, kv, kb, km, ks, p, v0, v, s, b])

/-- The estimate a sample leaves, kept for the captures near it: the four last. -/
def bobKeep (L : Lane) : Lane :=
  L.updBob fun b => { b with hist := (⟨b.tk, b.p, b.v, b.am, b.bnd, b.st⟩ :: b.hist).take 4 }

/-- The bound of a sample without a measurement, in Q16 (R161). -/
def bobCoastBound (b : Bob) (v : Int) (L : Lane) : Int :=
  (b.bnd : Int) * q16 + L.f F_BOB_IBCFG2_IB_CG * q16 + rdiv (rnd (absI v * L.f F_BOB_IBCFG2_SLIPMAX) 16) 4000

/-- A bound above BNDMAX leads to LOST (R161): the state and the bound published. -/
def bobLimit (st bnd : Nat) (L : Lane) : Nat × Nat :=
  if (st = bobTrack ∨ st = bobSingle ∨ st = bobCoast) ∧ L.f F_BOB_BNDMAX_BNDMAX < bnd then (bobLost, bobNoBound) else (st, bnd)

/-- The whole update of one sample (R149 to R161), taken at the close of the gather window. A sample that would leave INIT without a usable sample of
a VALID channel stays in INIT; a returning MOTV re-seats MOFS from the position of its own sample, the prediction standing for it while it is formed
(DESIGN CHOICE, log 146). The slip check and BOB_ZM take zm with MOFS as the sample leaves it (R158, R159). Each product saturates to 48 bits (R534). A
channel that returns in COAST is judged against zm − s, the p of COAST, and the last bound (DEDUCED, log 171). -/
def bobUpdate (l : LaneId) (L0 : Lane) : Lane :=
  let b := L0.bob
  let L := bobGathered l L0
  if !b.window then L0
  else if b.st = bobOff then bobKeep (L.updBob fun b => { b with updated := true })
  else
    let disN := L.f F_BOB_SAFECFG1_DIS_N
    let jump := L.f F_BOB_SAFECFG0_JUMP_LIM
    let disAbs : Int := (L.f F_BOB_SAFECFG0_DIS_ABS : Int) * q16
    -- accelerometer (R151)
    let ax := match b.acc with | some r => r * L.i F_BOB_ACCSCALE_SCALE | none => 0
    let a := satS 48 ax
    let range := b.acc.isSome && decide (40000000 * q16 < absI a)
    let aOk := b.acc.isSome && !range && L.b F_BOB_CTRL_ACCEN
    let accGood := if aOk then min 1000 (b.accGood + 1) else 0
    let accBad := if aOk then 0 else min 1000 (b.accBad + 1)
    let accv := if 8 ≤ accGood then true else if disN ≤ accBad then false else L.b F_BOB_STAT_ACCV
    let useA := accv && aOk
    -- motor encoder (R149, R150)
    let motGood := if b.motNew then min 1000 (b.motGood + 1) else 0
    let motMiss := if b.motNew then 0 else min 1000 (b.motMiss + 1)
    let motWas := L.b F_BOB_STAT_MOTV
    let moten := L.b F_BOB_CTRL_MOTEN
    let motv := moten && (if 8 ≤ motGood then true else if 3 ≤ motMiss then false else motWas)
    let scale := L.i F_BOB_MOTSCALE_SCALE
    let vmx := scale * b.motVel
    let vm := satS 48 vmx
    let smx := scale * b.m
    let sm := satS 48 smx
    let adv := rdiv (vm * ((b.tk : Int) - b.motTc)) 80000000
    let zm0 := sm + satS 48 adv
    -- prediction
    let am := if useA then a - b.b else 0
    let ppx := b.p + rdiv b.v 4000 + rdiv am 32000000
    let vpx := b.v + rdiv am 4000
    let pp := satS 48 ppx
    let vp := satS 48 vpx
    let back := motv && !motWas
    let mofsPre := if back then satS 48 (pp - sm) else b.mofs
    let zm := satS 48 (zm0 + mofsPre)
    -- channels (R154, R155)
    let j0 := chJudge b jump pp vp b.ch[0]
    let j1 := chJudge b jump pp vp b.ch[1]
    let u0 := j0.1.isSome
    let u1 := j1.1.isSome
    let z0 := j0.1.getD 0
    let z1 := j1.1.getD 0
    let jumps := j0.2.1.toNat + j1.2.1.toNat
    let c0 := chRuns disN u0 j0.2.2
    let c1 := chRuns disN u1 j1.2.2
    -- disagreement and vote (R156)
    let dis := u0 && u1 && decide (disAbs < absI (z0 - z1))
    let run := if dis then b.disN + 1 else 0
    let vote := dis && decide (disN ≤ run)
    let ref := if motv then zm - b.s else pp
    let far0 := decide (disAbs < 2 * absI (z0 - ref))
    let far1 := decide (disAbs < 2 * absI (z1 - ref))
    let kill0 := vote && !(far1 && !far0)
    let kill1 := vote && !(far0 && !far1)
    let c0 := if kill0 then { c0 with valid := false, voted := true, recov := 0 } else c0
    let c1 := if kill1 then { c1 with valid := false, voted := true, recov := 0 } else c1
    -- return after the vote (R157)
    let near := u0 && u1 && decide (2 * absI (z0 - z1) ≤ disAbs)
    let anyV := c0.valid || c1.valid
    let c0' := chRecover near anyV c1.valid c0
    let c1' := chRecover near anyV c0.valid c1
    -- state (Table 6.4)
    let agree := u0 && u1 && decide (absI (z0 - z1) ≤ disAbs)
    let lim := ((b.bnd + jump : Nat) : Int) * q16
    let pc := if motv then satS 48 (zm - b.s) else pp
    let within := (c0'.valid && u0 && decide (absI (z0 - pc) ≤ lim)) || (c1'.valid && u1 && decide (absI (z1 - pc) ≤ lim))
    let use0 := c0'.valid && u0
    let use1 := c1'.valid && u1
    let any := use0 || use1
    let ns := if b.st = bobInit ∧ !any then (bobInit, false) else bobNextState b.st c0'.valid c1'.valid motv agree within
    -- fusion (R160)
    let z := if use0 && use1 then rdiv (z0 + z1) 2 else if use0 then z0 else z1
    let e := if use0 && use1 then rdiv (absI (z0 - z1)) 2 else 0
    let seed := b.st = bobInit ∧ (ns.1 = bobTrack ∨ ns.1 = bobSingle)
    let prevs := (if use0 then c0'.prev.toList else []) ++ (if use1 then c1'.prev.toList else [])
    let zPrev : Option Int := if prevs.isEmpty then none else some (rdiv (prevs.foldl (· + ·) 0) prevs.length)
    let seedV := if motv then vm else match zPrev with | some q => (z - q) * 4000 | none => 0
    let trk := (ns.1 = bobTrack ∨ ns.1 = bobSingle) ∧ any
    let fuse := bobFuse ⟨pp, vp, z, vm, zm, b.b, b.s, motv, useA⟩ L
    let out : (Int × Int × Int × Int) × Bool :=
      if seed then ((satS 48 z, satS 48 seedV, 0, b.b), sat48Any [z, seedV])
      else if trk then fuse
      else if ns.1 = bobCoast then ((pc, vm, b.s, b.b), sat48Any [zm - b.s])
      else ((pp, vp, b.s, b.b), false)
    let (p, v, s, bb) := out.1
    let anew := seed ∨ back
    let mofs := if anew then satS 48 (p - sm) else b.mofs
    let zmEnd := satS 48 (zm0 + mofs)
    let zs := (if u0 then [rnd z0 16] else []) ++ (if u1 then [rnd z1 16] else []) ++ [rnd zmEnd 16]
    let hit := out.2 || sat48Any [ppx, vpx, ax, vmx, smx, adv, zm0 + mofsPre, zm0 + mofs, if anew then p - sm else b.mofs, if back then pp - sm else 0] ||
      zs.any fun x => satS 32 x != x
    -- bound (R161)
    let cg := bobCoastBound b v L
    let full := L.f F_BOB_IBCFG0_IB_FLOOR * q16 + e + absI (p - z) + rdiv (absI v * L.f F_BOB_IBCFG0_IB_KV) 1000000 +
      (if ns.1 = bobSingle then L.f F_BOB_IBCFG1_IB_SINGLE * q16 else 0) +
      (if useA then 0 else L.f F_BOB_IBCFG1_IB_NOACC * q16)
    let bnd := if ns.1 = bobInit ∨ ns.1 = bobLost then bobNoBound else boundOf (if trk then full else cg)
    let (st, bnd) := bobLimit ns.1 bnd L
    -- slip (R158)
    let slip := motv && (st = bobTrack || st = bobSingle) &&
      decide ((L.f F_BOB_SAFECFG1_SLIP_LIM : Int) * 10 * q16 < absI (zmEnd - p - s))
    let L := { L with regs := addF (addF L.regs F_BOB_CNT_JUMP jumps) F_BOB_CNT_DISAGREE dis.toNat }
    let L := (((((L.stick (0 < jumps) F_BOB_STAT_JUMP_S).stick vote F_BOB_STAT_ENCDIS_S).stick slip F_BOB_STAT_SLIP_S).stick
      range F_BOB_STAT_ACCRNG_S).stick ns.2 F_BOB_STAT_REINIT_S).stick hit F_BOB_STAT_SAT_S
    let L := (L.stick (st = bobLost && b.st != bobLost) F_BOB_STAT_LOST_S).stick (decide (3 ≤ motMiss)) F_BOB_STAT_MOTMISS_S
    let L := (((L.sb F_BOB_STAT_CH0V c0'.valid).sb F_BOB_STAT_CH1V c1'.valid).sb F_BOB_STAT_MOTV motv).sb F_BOB_STAT_ACCV accv
    let L := L.sb F_BOB_STAT_POSV (st = bobTrack || st = bobSingle || st = bobCoast)
    let L := ((L.si F_BOB_Z0_Z (if u0 then satS 32 (rnd z0 16) else L.i F_BOB_Z0_Z)).si F_BOB_Z1_Z
      (if u1 then satS 32 (rnd z1 16) else L.i F_BOB_Z1_Z)).si F_BOB_ZM_Z (satS 32 (rnd zmEnd 16))
    let L := if st = b.st then L else L.bobEv 16
    let L := if vote || slip || 0 < jumps then L.bobEv 20 else L
    bobKeep <| L.updBob fun b => { b with
      p := p, v := v, s := s, b := bb, am := am, bnd := bnd, st := st, updated := true,
      ch := #v[{ c0' with prev := if u0 then some z0 else none }, { c1' with prev := if u1 then some z1 else none }],
      accGood := accGood, accBad := accBad, motNew := false, motMiss := motMiss, motGood := motGood, mofs := mofs,
      disN := if vote then 0 else run, repDis := b.repDis || vote, repSlip := b.repSlip || slip }

/-! ### Captures (R172, R173) -/

/-- The captured position and bound at an edge, from the estimate of the last sample at or before it (R172); of an edge before every estimate kept,
from the oldest. -/
def capAt (b : Bob) (te : Int) : Int × Nat × Nat :=
  let e := (b.hist.find? fun e => decide (e.tk ≤ te)).getD (b.hist.getLastD ⟨te, b.p, b.v, b.am, b.bnd, b.st⟩)
  let dt := te - e.tk
  let x := e.p + rdiv (e.v * dt) 80000000 + rdiv (e.am * dt * dt) (2 * 80000000 * 80000000)
  let bnd := if e.st = bobInit ∨ e.st = bobLost then bobNoBound
    else min 0xFFFFFFFF (e.bnd + ((absI e.v + q16 * 1000000 - 1) / (q16 * 1000000)).toNat)
  (satS 32 (rnd x 16), bnd, e.st)

/-- The words of a stored capture (Table 6.6). -/
def capWords (c : BobCap) : List Word :=
  let k := c.known.getD (0, 0, 0)
  let w3 := setBits (setBits (setBits (setBits (setBits (setBits 0 31 30 c.ch) 29 29 c.rising.toNat) 28 28 c.ts.toNat) 27 25
    k.2.2) 24 20 c.fi) 15 0 (c.gte / 2 ^ 32)
  [wOf k.1, BitVec.ofNat 32 k.2.1, BitVec.ofNat 32 c.gte, w3]

/-- BOB_CAPSTAT.COUNT and the head window as the FIFO stands. -/
def capShow (L : Lane) : Lane :=
  let ws := match L.bob.caps with | c :: _ => capWords c | [] => [0, 0, 0, 0]
  let L := L.s F_BOB_CAPSTAT_COUNT L.bob.caps.length
  { L with regs := (List.range 4).foldl (fun r i => rput r (A_BOB_CAPHEAD i) (listGet 0 ws i)) L.regs }

/-- Storing a capture: 16 entries, the next is lost (R173). -/
def capStore (c : BobCap) (L : Lane) : Lane :=
  if 16 ≤ L.bob.caps.length then (L.inc F_BOB_CAPSTAT_LOST).s F_BOB_CAPSTAT_CAPOVF_S 1
  else capShow ((L.updBob fun b => { b with caps := b.caps ++ [c] }).bobEv 17)

/-- An input edge as each capture channel configured for it sees it (R172), stamped with a group time where the input is in time-stamped mode, else taken at
the last sample instant; the estimate of a sample whose update is not done is awaited. -/
def capEdge (fi : Nat) (rising ts : Bool) (stamp : Nat) (L : Lane) : Lane :=
  let te : Int := if ts then (L.fclk : Int) - 80 * ((L.gtime : Int) - stamp) else L.bob.tk
  let gte := if ts then stamp else L.gtime - (L.fclk - L.bob.tk) / 80
  (List.range 4).foldl (fun L c =>
    let edge := L.f (F_BOB_CAPCFG_EDGE c)
    if L.b (F_BOB_CAPCFG_EN c) && L.f (F_BOB_CAPCFG_FI c) == fi && (edge == 3 || edge == (if rising then 1 else 2)) then
      let k := if L.bob.updated || decide (te < L.bob.tk) then some (capAt L.bob te) else none
      L.updBob fun b => { b with capWait := b.capWait ++ [⟨c, rising, ts, fi, te, gte, k⟩] }
    else L) L

/-- CAPTURE_POP (R173): the head goes; a no-op when empty. -/
def capPop (L : Lane) : Lane × Nat :=
  if L.bob.caps.isEmpty then (L, stNoop) else (capShow (L.updBob fun b => { b with caps := b.caps.drop 1 }), stOk)

/-! ### The publication (R153, R162 to R164) -/

/-- A sample whose update has not completed at t_k + 200 µs (R153): the last publication propagated by one sample, and the bound of a skipped sample.
Each channel's sample of it still is its last one, for z_ref and for z(k−1) of a seed (R154, R159; DEDUCED, log 161). -/
def bobLate (l : LaneId) (L0 : Lane) : Lane :=
  let L := bobGathered l L0
  let b := L.bob
  let px := b.p + rdiv b.v 4000 + rdiv b.am 32000000
  let vx := b.v + rdiv b.am 4000
  let p := satS 48 px
  let v := satS 48 vx
  let last := fun (c : BobCh) =>
    let j := chJudge b (L.f F_BOB_SAFECFG0_JUMP_LIM) p v c
    { j.2.2 with prev := j.1 }
  let bnd := if b.st = bobInit ∨ b.st = bobLost then bobNoBound else boundOf (bobCoastBound b v L)
  let (st, bnd) := bobLimit b.st bnd L
  let L := ((L.s F_BOB_STAT_LATE_S 1).stick (st = bobLost && b.st != bobLost) F_BOB_STAT_LOST_S).sb F_BOB_STAT_POSV
    (st = bobTrack || st = bobSingle || st = bobCoast)
  let L := (if st = b.st then L else L.bobEv 16).stick (sat48Any [px, vx]) F_BOB_STAT_SAT_S
  bobKeep (L.updBob fun b => { b with p := p, v := v, bnd := bnd, st := st, updated := true, ch := b.ch.map last })

/-- What a publication holds: the prediction for the next sample; in OFF the last values (Table 6.4). -/
def bobNext (L : Lane) : Lane × BobPub :=
  let b := L.bob
  let seq := (b.pub.seq + 1) % 2 ^ 32
  if b.st = bobOff then (L, { b.pub with seq := seq, state := bobOff })
  else
    let p := b.p + rdiv b.v 4000 + rdiv b.am 32000000
    let v := b.v + rdiv b.am 4000
    let px := rnd (satS 48 p) 16
    let vx := rnd (satS 48 v) 16
    (L.stick (sat48Any [p, v] || satS 32 px != px || satS 32 vx != vx) F_BOB_STAT_SAT_S, ⟨satS 32 px, satS 32 vx, b.bnd, seq, b.st⟩)

/-- What BOB publishes at t_k + 200 µs; nothing while its Block reset lasts (R534). -/
def bobPublish (l : LaneId) (L : Lane) : Lane :=
  if L.bob.rst then L
  else
    let L := if L.bob.updated ∨ L.bob.st = bobOff then L else bobLate l L
    let (L, pub) := bobNext L
    let b := L.bob
    let L := ((L.si F_BOB_POS_POS pub.pos).si F_BOB_STRETCH_S (satS 32 (rnd b.s 16))).si F_BOB_BIAS_B (satS 32 (rnd b.b 16))
    let L := L.stick ([rnd b.s 16, rnd b.b 16].any fun x => satS 32 x != x) F_BOB_STAT_SAT_S
    let L := L.updBob fun b => { b with pub := pub }
    let L := sebBobReport ⟨b.st, (b.st = bobTrack || b.st = bobSingle || b.st = bobCoast), pub.bound, pub.pos, pub.vel,
      b.repDis, b.repSlip, b.st = bobLost⟩ L
    let L := bobDoorZone L
    let L := L.bob.capWait.foldl (fun L c =>
      capStore { c with known := some (c.known.getD (capAt L.bob c.te)) } L) L
    let L := L.updBob fun b => { b with repDis := false, repSlip := false, capWait := [] }
    let evs := L.bob.evs
    if evs = 0 then L else (L.updBob fun b => { b with evs := 0 }).event peerBob evs

/-- BOB_POS is read (R163): the velocity, bound, sequence and state of the same publication latch. -/
def bobPosRead (L : Lane) : Lane :=
  let q := L.bob.pub
  (((L.si F_BOB_VEL_VEL q.vel).s F_BOB_BOUND_B q.bound).s F_BOB_SEQ_SEQ q.seq).s F_BOB_STAT_STATE q.state

/-! ### Enable, restart, reset -/

/-- The estimator back in INIT with its channels, MOTV and ACCV counting afresh (RESTART, EN, R534); what has come for the sample in progress stays. A
channel the vote made INVALID stays so where only EN has been set (R157). -/
def bobToInit (restart clearB : Bool) (L : Lane) : Lane :=
  let L := ((((L.s F_BOB_STAT_CH0V 0).s F_BOB_STAT_CH1V 0).s F_BOB_STAT_MOTV 0).s F_BOB_STAT_ACCV 0).s F_BOB_STAT_POSV 0
  (L.updBob fun b => { b with
    st := bobInit, bnd := bobNoBound, s := 0, b := if clearB then 0 else b.b, accGood := 0, accBad := 0, motMiss := 0, motGood := 0, disN := 0,
    ch := Vector.ofFn fun i => { cur := b.ch[i].cur, voted := b.ch[i].voted && !restart } }).bobEv 16

/-- A write to BOB_CTRL (R159, Table 6.7). -/
def bobCtrl (v : Word) (L : Lane) : Lane × Nat :=
  let en := L.b F_BOB_CTRL_EN
  let en' := v.getLsbD 31
  let restart := bits v 3 0 = 1
  if restart ∧ !en' then (L, stNoop)
  else
    let L := L.store A_BOB_CTRL v
    if en' && (!en || restart) then (bobToInit restart false L, stOk)
    else if !en' && en then
      (((L.updBob fun b => { b with st := bobOff }).s F_BOB_STAT_POSV 0).bobEv 16, stOk)
    else (L, stOk)

/-- A Block reset of BOB has ended (R534). -/
def bobResetEnd (L : Lane) : Lane :=
  let n := L.bob.caps.length
  let L := capShow ((L.inc F_BOB_CAPSTAT_LOST n).updBob fun b => { b with caps := [], capWait := [], rst := false })
  let L := L.s F_BOB_LTCTL_BUSY 0
  if L.b F_BOB_CTRL_EN then bobToInit true true L else L.updBob fun b => { b with st := bobOff }

/-! ### Landing table commands (R166 to R168) -/

/-- CHK of an entry is the check over its bytes 0 to 13, of which the last two, CHK itself, count as 0 (Table 6.5). DEDUCED (log 24). -/
def ltChkOk (m : List (Nat × Byte)) (a : Nat) : Bool :=
  (crc16 (readBytes 0 m a 12 ++ [0, 0])).toNat == leNat (readBytes 0 m (a + 12) 2)

/-- The fault of an entry, given the sill and the highest zone end of the entry before it on its deck: CRC, DZ_WIDE,
ORDER, OVERLAP by their numbers (R166). -/
def ltEntryErr (L : Lane) (a : Nat) (last : Option (Int × Int)) (e : Int × Int × Int × Word) : Nat :=
  let (s, dn, up, _) := e
  if !ltChkOk L.tsram a then 1
  else if (10 * L.f F_BOB_SAFECFG1_DZ_MAX : Int) < dn ∨ (10 * L.f F_BOB_SAFECFG1_DZ_MAX : Int) < up then 4
  else match last with
    | none => 0
    | some (s0, top) => if s ≤ s0 then 2 else if s - dn ≤ top then 3 else 0

/-- The check of a buffer from an entry on: the first failing entry and its fault, or whether any entry is in use. -/
def ltScan (L : Lane) (buf : Bool) : Nat → Nat → Option (Int × Int) → Option (Int × Int) → Bool → (Nat × Nat) ⊕ Bool
  | 0, _, _, _, any => .inr any
  | n + 1, k, l0, l1, any =>
    match ltEntry L buf k with
    | none => ltScan L buf n (k + 1) l0 l1 any
    | some e =>
      let last := if k % 2 = 0 then l0 else l1
      let err := ltEntryErr L (0x21000 + (if buf then 0x2000 else 0) + 16 * k) last e
      if err ≠ 0 then .inl (k, err)
      else
        let top := e.1 + e.2.2.1
        let l := some (e.1, match last with | some (_, t) => max t top | none => top)
        if k % 2 = 0 then ltScan L buf n (k + 1) l l1 true else ltScan L buf n (k + 1) l0 l true

/-- VALIDATE (R166, R175): the selected buffer where its BUFOK is 0, else the other. -/
def bobValidate (L : Lane) : Lane × Nat :=
  if L.b F_BOB_LTCTL_BUSY then (L, stNoop)
  else
    let sel := L.b F_BOB_LTCTL_LTSEL
    let buf := if L.b (F_BUFOK sel) then !sel else sel
    ((L.s F_BOB_LTCTL_BUSY 1).updBob fun b => { b with ltChk := buf }, stOk)

/-- The part's own check of the selected buffer (R175); while another runs, it waits for that one to end (DEDUCED, log 171). -/
def bobSelfCheck (L : Lane) : Lane :=
  if L.b (F_BUFOK (L.b F_BOB_LTCTL_LTSEL)) then L
  else if L.b F_BOB_LTCTL_BUSY then L.updBob fun b => { b with ltDue := true } else (bobValidate L).1

/-- The check ends (R166): BUFOK and the SEB's zone bank (R307), or the first failing entry and a buffer that is not valid (R175). One that runs when BOB
is reset is abandoned (R534). -/
def bobValidateEnd (L : Lane) : Lane :=
  if !L.b F_BOB_LTCTL_BUSY || L.bob.rst then L
  else
    let buf := L.bob.ltChk
    let due := L.bob.ltDue
    let L := (L.s F_BOB_LTCTL_BUSY 0).updBob fun b => { b with ltDue := false }
    let L := match ltScan L buf 512 0 none none false with
      | .inl (k, e) => ((ltTouched buf L).s F_BOB_LTCTL_LTERR e).s F_BOB_LTCTL_ERRIDX k
      | .inr false => ((ltTouched buf L).s F_BOB_LTCTL_LTERR 5).s F_BOB_LTCTL_ERRIDX 0
      | .inr true => sebZoneFill buf (((L.s (F_BUFOK buf) 1).s F_BOB_LTCTL_LTERR 0).s F_BOB_LTCTL_ERRIDX 0)
    L.ifDo due bobSelfCheck

/-- A change of LTSEL (R168): refused where the buffer named is not valid or the car moves. -/
def bobLtSel (v : Word) (L : Lane) : Lane × Nat :=
  let sel := v.getLsbD 24
  if sel ≠ L.b F_BOB_LTCTL_LTSEL then
    if !L.b (F_BUFOK sel) then (L, bobLtInvalid)
    else if 1000 < absI L.bob.pub.vel then (L, bobLtMoving)
    else (L.store A_BOB_LTCTL v, stOk)
  else (L.store A_BOB_LTCTL v, stOk)

/-- A write to BOB_LTCTL: LTSEL and the command together (R15), or nothing where either is refused or finds nothing to do (R110). -/
def bobLtCtl (v : Word) (L : Lane) : Lane × Nat :=
  match bobLtSel v L with
  | (L', 0) =>
    if bits v 31 28 = 1 then (match bobValidate L' with | (L'', 0) => (L'', 0) | (_, st) => (L, st)) else (L', 0)
  | r => r

/-- The deviation has exceeded ON long enough (R171): RELREQ, a change of BOB_DZ (R164). -/
def bobRelevel (L : Lane) : Lane :=
  match (if L.b F_BOB_RELEV0_ARM && ltLive L then ltEntry L L.bob.ltAct (L.f F_BOB_RELEV0_TGT) else none) with
  | some e =>
    if (L.f F_BOB_RELEV1_ON : Int) < absI (L.bob.pub.pos - e.1) ∧ !L.b F_BOB_DZ_RELREQ then
      ((L.s F_BOB_DZ_RELREQ 1).bobEv 18).bobEv 19
    else L
  | none => L

/-! ### Meanings -/

/-- BOB_SAMPLE_INSTANT (R145). -/
def execBobSampleInstant (l : LaneId) (s : State) : Host.Outcome State Fault Refusal :=
  lift (onBlock l .bob bobInstant) s
/-- SSI_FRAME (R147): the receiver stands in the spine. -/
def execSsiFrame (l : LaneId) (frame : Bits) (ready returned : Bool) (edge : Nat) (s : State) :
    Host.Outcome State Fault Refusal :=
  lift (onSpine l (ssiFrame l frame ready returned edge)) s
/-- ACC_TRANSFER (R151): the holder's own transfer. -/
def execAccTransfer (l : LaneId) (data : Bytes) (done : Bool) (s : State) : Host.Outcome State Fault Refusal :=
  lift (onBlock l .bob (accOwn data done)) s
/-- GATHER_WINDOW_CLOSE (R152, R160). -/
def execGatherWindowClose (l : LaneId) (s : State) : Host.Outcome State Fault Refusal :=
  lift (onBlock l .bob (bobUpdate l)) s
/-- BOB_PUBLISH (R162). -/
def execBobPublish (l : LaneId) (s : State) : Host.Outcome State Fault Refusal :=
  lift (onBlock l .bob (bobPublish l)) s
/-- BOB_RESET_END (R534). -/
def execBobResetEnd (l : LaneId) (s : State) : Host.Outcome State Fault Refusal :=
  lift (onBlock l .bob bobResetEnd) s
/-- VALIDATE_COMPLETE (R166). -/
def execValidateComplete (l : LaneId) (s : State) : Host.Outcome State Fault Refusal :=
  lift (onBlock l .bob bobValidateEnd) s
/-- RELEVEL_REQUEST (R171). -/
def execRelevelRequest (l : LaneId) (s : State) : Host.Outcome State Fault Refusal :=
  lift (onBlock l .bob bobRelevel) s
/-- CAPTURE_EDGE (R172). -/
def execCaptureEdge (l : LaneId) (fi : FieldInput) (rising : Bool) (stamp : Nat) (s : State) : Host.Outcome State Fault Refusal :=
  lift (fun w => onBlock l .bob (capEdge fi.val rising (w.fd.inp[fi].mode == 2) stamp) w) s
/-- SSI (R152): the other lane's sample arrives. -/
def execSsi (l : LaneId) (s : State) : Host.Outcome State Fault Refusal :=
  lift (World.takeOut l Lnk.ssiOut (fun k => { k with ssiOut := none }) fun m =>
    onBlock l .bob (chTake (remoteCh l) m.2.2.1 m.1 m.2.1 m.2.2.2)) s
/-- ACC (R151): the holder's sample arrives. -/
def execAcc (l : LaneId) (s : State) : Host.Outcome State Fault Refusal :=
  lift (World.takeOut l Lnk.accOut (fun k => { k with accOut := none }) fun m =>
    onBlock l .bob (accArrive m.1 m.2)) s

end Sys2Proof.Machine
end

