-- ==== Sys2Proof/Machine/Can.lean ====
section
/-!
DEFINITION. CAN FD ports and the node directory (spec 14, R407 to R435). A frame on the bus is one command; between commands the
bus is idle unless an object is ACTIVE.
-/
namespace Sys2Proof.Machine

/-! ### Codes -/

/-- CAN_CTRL.MODE codes (Table 14.6). -/
def canModeOff : Nat := 0
def canModeNormal : Nat := 1
def canModeListen : Nat := 2
def canModeRestricted : Nat := 3
def canModeLoop : Nat := 4
def canModeAuto : Nat := 5
/-- PSTATE codes (Table 14.7). -/
def psStopped : Nat := 0
def psInteg : Nat := 1
def psRun : Nat := 2
def psSleep : Nat := 3
def psRecover : Nat := 4
/-- ESTATE codes (Table 14.7). -/
def esActive : Nat := 0
def esPassive : Nat := 1
def esBusOff : Nat := 2
/-- STATE codes of an object (Table 14.9). -/
def coFree : Nat := 0
def coPending : Nat := 1
def coActive : Nat := 2
def coDone : Nat := 3
/-- Transmit results (Table 14.3). -/
def crSent : Nat := 1
def crCancelled : Nat := 2
def crError : Nat := 3
def crArbLost : Nat := 4
def crUnmatched : Nat := 5
/-- Status codes 0x40 to 0x42. -/
def stCanBusy : Nat := 0x40
def stCanMode : Nat := 0x41
def stDirBusy : Nat := 0x42

/-! ### Shorthands -/

/-- One controller of a lane. -/
def Lane.cn (L : Lane) (n : Port) : Can := L.can[n]
/-- A controller of a lane updated. -/
def Lane.updCan (L : Lane) (n : Port) (f : Can → Can) : Lane := { L with can := L.can.set n (f L.can[n]) }
/-- An object of a controller updated. -/
def Lane.updObj (L : Lane) (n : Port) (k : CanObjNo) (f : CanObj → CanObj) : Lane :=
  L.updCan n fun c => { c with objs := c.objs.set k (f c.objs[k]) }
/-- Event bit k of a port. -/
def canEvent (n : Port) (k : Nat) (L : Lane) : Lane := L.event (32 + n.val) (evBit k)

/-- The object's frame header (Table 14.9). -/
def CanObj.ide (o : CanObj) : Bool := o.h0.getLsbD 29
def CanObj.fdf (o : CanObj) : Bool := o.h0.getLsbD 30
def CanObj.brs (o : CanObj) : Bool := o.h0.getLsbD 31
def CanObj.dlc (o : CanObj) : Nat := bits o.h1 3 0
def CanObj.rtr (o : CanObj) : Bool := o.h1.getLsbD 4
def CanObj.noRetry (o : CanObj) : Bool := o.h1.getLsbD 5

/-- The data bytes of a DLC (Table 14.1): classical frames carry at most 8. -/
def dlcLen (fdf : Bool) (dlc : Nat) : Nat :=
  if dlc ≤ 8 then dlc
  else if !fdf then 8
  else listGet 64 [12, 16, 20, 24, 32, 48, 64] (dlc - 9)

/-- The order of arbitration fields (ISO 11898-1): base identifier, RTR or SRR, IDE, the rest of the identifier, RTR. -/
def CanObj.arb (o : CanObj) : Nat :=
  let id := bits o.h0 28 0
  let r := if o.rtr then 1 else 0
  if o.ide then id / 2 ^ 18 * 2 ^ 21 + 2 ^ 20 + 2 ^ 19 + id % 2 ^ 18 * 2 + r
  else id % 2 ^ 11 * 2 ^ 21 + r * 2 ^ 20

/-- The objects in a state, lowest number first. -/
def Can.inState (c : Can) (st : Nat) : List CanObjNo := (List.finRange 32).filter fun k => c.objs[k].st == st

/-- The ACTIVE object. -/
def Can.active (c : Can) : Option CanObjNo := (c.inState coActive).head?

/-- The PENDING object with the lowest arbitration field, the lower number of equals (R413). -/
def Can.best (c : Can) : Option CanObjNo :=
  (c.inState coPending).foldl (fun b k => match b with
    | some j => if c.objs[k].arb < c.objs[j].arb then some k else some j
    | none => some k) none

/-- The counts the registers show: NFREE, TXDONE, the FIFO levels. -/
def canShow (n : Port) (L : Lane) : Lane :=
  let c := L.cn n
  let done := (c.inState coDone).foldl (fun x k => x + 2 ^ k.val) 0
  let free := ((c.inState coFree).filter fun k => k.val < 28).length
  let L := (L.s (F_CAN_TXQSTAT_NFREE n) free).s (F_CAN_TXDONE_D n) done
  (L.s (F_CAN_RXSTAT_LEVEL n 0) c.rx[0].length).s (F_CAN_RXSTAT_LEVEL n 1) c.rx[1].length

/-- An object completes (R414): DONE with a result, event [18]. -/
def canDone (n : Port) (k : CanObjNo) (result : Nat) (late shadow : Bool) (L : Lane) : Lane :=
  let L := L.updObj n k fun o => { o with st := coDone, result := result, late := late, shadow := shadow, cancel := false }
  let L := L.updCan n fun c => if c.probe = some k then { c with probe := none } else c
  canEvent n 18 (canShow n L)

/-! ### The choice of what is sent (R413, R417, R431) -/

/-- May the controller send on its bus, or to itself in LOOPBACK? -/
def Lane.canSends (L : Lane) (n : Port) : Bool :=
  L.f (F_CAN_STAT_PSTATE n) == psRun && L.f (F_CAN_STAT_ESTATE n) != esBusOff &&
  ((L.cn n).mode == canModeLoop || ((L.cn n).mode == canModeNormal && L.holder && (L.cn n).drive && !(L.cn n).busy))

/-- An object becomes ACTIVE; an FD frame carries ESI as the error state is (Table 14.1). -/
def canStart (n : Port) (k : CanObjNo) (L : Lane) : Lane :=
  L.updObj n k fun o => { o with st := coActive, esi := o.fdf && L.f (F_CAN_STAT_ESTATE n) == esPassive }

/-- At the bus idle the object of R413 becomes ACTIVE; none while LONE is set (R417). -/
def canOffer (n : Port) (L : Lane) : Lane :=
  if !L.canSends n || L.b (F_CAN_STAT_LONE n) || (L.cn n).active.isSome then L
  else match (L.cn n).best with
    | some k => canStart n k L
    | none => L

/-- The probe frame is attempted (R417): the probe object, else the first in the order of R413. -/
def canProbe (n : Port) (L : Lane) : Lane :=
  if !L.canSends n || !L.b (F_CAN_STAT_LONE n) || (L.cn n).active.isSome then L
  else
    let k := match (L.cn n).probe with
      | some k => some k
      | none => (L.cn n).best
    match k with
    | some k => canStart n k (L.updCan n fun c => { c with probe := some k })
    | none => L

/-! ### Modes (R426) -/

/-- The mode written comes into force; an autobaud starts with its first candidate (R428). -/
def canEnter (n : Port) (L : Lane) : Lane :=
  let was := (L.cn n).mode
  let m := L.f (F_CAN_CTRL_MODE n)
  let L := L.updCan n fun c => { c with mode := m, wait := false }
  if was = m then L
  else
    let L := L.s (F_CAN_STAT_ABAUD_TMO n) 0
    let cands := (List.range 4).filter fun i => (L.f (F_CAN_ABCFG_MASK n)).testBit i
    let L := L.updCan n fun c => { c with cand := if m = canModeAuto then cands.head? else none, good := 0 }
    let L := if m = canModeAuto then L.s (F_CAN_STAT_ABDONE n) 0 else L
    if m = canModeOff then L.s (F_CAN_STAT_PSTATE n) psStopped
    else if was = canModeOff then
      let L := if L.f (F_CAN_SPSTAT_DTSEG1 n) = 0 then L.s (F_CAN_SPSTAT_DTSEG1 n) (L.f (F_CAN_DBT_DTSEG1 n)) else L
      L.s (F_CAN_STAT_PSTATE n) psInteg
    else canOffer n L

/-- The controller enters SLEEP (R432). -/
def canSleep (n : Port) (L : Lane) : Lane :=
  (L.s (F_CAN_STAT_PSTATE n) psSleep).updCan n fun c => { c with dec := 0, sleepDue := false }

/-- The bus idle: SLEEP or a mode that waits comes into force, or the next object is offered; not while a frame is on the bus. -/
def canIdle (n : Port) (L : Lane) : Lane :=
  if (L.cn n).busy || (L.cn n).active.isSome then L
  else if (L.cn n).sleepDue then canSleep n L
  else if (L.cn n).wait then canEnter n L
  else canOffer n L

/-- No frame of another node is on the bus any more. -/
def canQuiet (n : Port) (L : Lane) : Lane := L.updCan n fun c => { c with busy := false }

/-- The state of a controller that has integrated: running, or in bus-off its recovery, where that has begun (R427). -/
def Lane.canRuns (L : Lane) (n : Port) : Nat :=
  if L.f (F_CAN_STAT_ESTATE n) ≠ esBusOff then psRun else if (L.cn n).recov then psRecover else psStopped

/-- The controller has seen 11 recessive bits (R426, R434); one in bus-off goes on with its recovery (R427; DEDUCED, log 172). -/
def canInteg (n : Port) (L : Lane) : Lane :=
  if L.f (F_CAN_STAT_PSTATE n) = psInteg then canIdle n ((canQuiet n L).s (F_CAN_STAT_PSTATE n) (L.canRuns n)) else L

/-! ### Fault confinement (R427, ISO 11898-1) -/

/-- The controller keeps counting errors: not in bus monitoring or restricted operation. -/
def Lane.canCounts (L : Lane) (n : Port) : Bool := (L.cn n).mode == canModeNormal

/-- The counters take new values; the error state follows (R427). -/
def canCounters (n : Port) (tec rec_ : Nat) (L : Lane) : Lane :=
  let was := L.f (F_CAN_STAT_ESTATE n)
  let L := (L.s (F_CAN_EC_TEC n) (min tec 255)).s (F_CAN_EC_REC n) (min rec_ 255)
  if was = esBusOff then L
  else if 255 < tec then
    let L := (L.s (F_CAN_STAT_ESTATE n) esBusOff).s (F_CAN_STAT_BUSOFF_S n) 1
    let L := L.updCan n fun c => { c with recov := L.b (F_CAN_CTRL_BOAUTO n) }
    canEvent n 19 (L.s (F_CAN_STAT_PSTATE n) (L.canRuns n))
  else
    let st := if 127 < tec ∨ 127 < rec_ then esPassive else esActive
    if st = was then L
    else canEvent n 19 ((L.s (F_CAN_STAT_ESTATE n) st).stick (st == esPassive) (F_CAN_STAT_PASSIVE_S n))

/-- An error is counted by kind (Table 14.8). -/
def canErrCount (n : Port) (e : CanErr) (L : Lane) : Lane :=
  L.inc (match e with
    | .bit => F_CAN_ERRCNT0_BIT n
    | .stuff => F_CAN_ERRCNT0_STUFF n
    | .form => F_CAN_ERRCNT0_FORM n
    | .crc => F_CAN_ERRCNT0_CRC n
    | .ack => F_CAN_ERRCNT1_ACK n)

/-- The transmitter's rules for the end of an attempt: −1 when sent; +8 at an error, but not for the ACK error of an error-passive
transmitter, nor for a stuff bit of the arbitration that was sent recessive and seen dominant; `more` times 8 beside that, for the flags after the frame
(ISO 11898-1), which a node that has lost arbitration counts as a receiver. -/
def canTxConfine (n : Port) (e : CanTxEnd) (more : Nat) (L : Lane) : Lane :=
  let tec := L.f (F_CAN_EC_TEC n)
  let r := L.f (F_CAN_EC_REC n)
  let up := fun (x : Nat) (L : Lane) => if L.canCounts n then canCounters n (x + 8 * more) r L else L
  match e with
  | .sent => up (tec - 1) L
  | .arbLost => if L.canCounts n && more != 0 then canCounters n tec (r + 8 * more) L else L
  | .error k => up (if k = .ack ∧ L.f (F_CAN_STAT_ESTATE n) = esPassive then tec else tec + 8) (canErrCount n k L)
  | .stuffArb => up tec (canErrCount n .stuff L)

/-- The receiver's rules: a good frame lowers REC by 1, or takes it from above 127 to a value from 119 to 127 (R407: the standard leaves
which); an error raises it by 1, by 8 more where a dominant bit follows the error flag, and by 8 for each further step of its flags (ISO 11898-1). `pick`
is that value. -/
def canRxConfine (n : Port) (pick : Nat) (e : CanRxEnd) (L : Lane) : Lane :=
  let tec := L.f (F_CAN_EC_TEC n)
  let r := L.f (F_CAN_EC_REC n)
  let less := if 127 < r then 119 + pick % 9 else r - 1
  match e with
  | .good => if L.canCounts n then canCounters n tec less L else L
  | .overload more => if L.canCounts n then canCounters n tec (less + 8 * more) L else L
  | .error k d _ more =>
    let L := canErrCount n k L
    if L.canCounts n then canCounters n tec (r + 1 + (if d then 8 else 0) + 8 * more) L else L
  | .exception => L

/-! ### A node alone on its bus (R416 to R418) -/

/-- The object's run of ACK errors (R416): at 32 LONE, and the object is the probe frame. -/
def canAckRun (n : Port) (k : CanObjNo) (e : CanTxEnd) (L : Lane) : Lane :=
  if e = .error .ack then
    let run := min 32 ((L.cn n).objs[k].run + 1)
    let L := L.updObj n k fun o => { o with run := run }
    if run = 32 ∧ !L.b (F_CAN_STAT_LONE n) then
      canEvent n 21 (((L.s (F_CAN_STAT_LONE n) 1).s (F_CAN_STAT_LONE_S n) 1).updCan n fun c => { c with probe := some k })
    else L
  else L.updObj n k fun o => { o with run := 0 }

/-- LONE clears (R418); the run of the probe object returns to 0. -/
def canNotLone (n : Port) (L : Lane) : Lane :=
  if !L.b (F_CAN_STAT_LONE n) then L
  else
    let L := match (L.cn n).probe with
      | some k => L.updObj n k fun o => { o with run := 0 }
      | none => L
    (L.s (F_CAN_STAT_LONE n) 0).updCan n fun c => { c with probe := none }

/-! ### The end of an attempt (R414, R415, R430) -/

/-- What becomes of the object of an attempt. -/
def canTxObj (n : Port) (k : CanObjNo) (e : CanTxEnd) (L : Lane) : Lane :=
  let o := (L.cn n).objs[k]
  match e with
  | .sent => canDone n k crSent o.cancel false L
  | .arbLost =>
    if o.cancel then canDone n k crCancelled false false L
    else if o.noRetry then canDone n k crArbLost false false L
    else L.updObj n k fun o => { o with st := coPending }
  | .error _ | .stuffArb =>
    if o.cancel then canDone n k crCancelled true false L
    else if o.noRetry then canDone n k crError false false L
    else L.updObj n k fun o => { o with st := coPending }

/-- After a lost arbitration the winner's frame is on the bus. -/
def canBeaten (n : Port) (e : CanTxEnd) (L : Lane) : Lane :=
  if e = .arbLost ∧ (L.cn n).mode ≠ canModeLoop then L.updCan n fun c => { c with busy := true } else L

/-- The end of the attempt of the ACTIVE object. -/
def canTxEnd (n : Port) (e : CanTxEnd) (more : Nat) (L : Lane) : Lane :=
  match (L.cn n).active with
  | none => L
  | some k =>
    let L := canBeaten n e (canTxObj n k e (canTxConfine n e more (canAckRun n k e L)))
    canIdle n (if e = .sent then canNotLone n L else L)

/-! ### What a controller learns of a frame it observes (R410, R428) -/

/-- One move of the data-phase sample point (R410, R411). -/
def canSpMove (n : Port) (L : Lane) : Lane :=
  let d := L.f (F_CAN_SPSTAT_DTSEG1 n)
  let sum := L.f (F_CAN_DBT_DTSEG1 n) + L.f (F_CAN_DBT_DTSEG2 n)
  let goal := (L.cn n).spMax + L.f (F_CAN_SPCFG_MARGIN n)
  let L := L.s (F_CAN_SPSTAT_SMAX n) (min 31 (L.cn n).spMax)
  let L := L.updCan n fun c => { c with spN := 0, spMax := 0 }
  let x := if d < goal then d + 1 else if goal < d then d - 1 else d
  let ok := decide (L.f (F_CAN_SPCFG_SPMIN n) ≤ x) && decide (x ≤ L.f (F_CAN_SPCFG_SPMAX n)) && decide (x + L.f (F_CAN_DBT_DSJW n) ≤ sum)
  if x = d then L
  else if ok then L.s (F_CAN_SPSTAT_DTSEG1 n) x
  else L.s (F_CAN_STAT_SPLIM_S n) 1

/-- The settle time of a good frame, where it is an FD frame with BRS (R410). -/
def canSample (n : Port) (brs : Bool) (settle : Nat) (L : Lane) : Lane :=
  if !L.b (F_CAN_SPCFG_SPAD n) || !brs then L
  else
    let L := L.updCan n fun c => { c with spN := c.spN + 1, spMax := max c.spMax settle }
    if 16 ≤ (L.cn n).spN then canSpMove n L else L

/-- The nominal timing of an autobaud candidate (Table 14.2): NTSEG1, NTSEG2, NSJW, NBRP. -/
def abTiming (c : Nat) : Nat × Nat × Nat × Nat :=
  listGet (63, 16, 16, 1) [(139, 20, 20, 4), (139, 20, 20, 2), (139, 20, 20, 1)] c

/-- A frame while autobaud looks for the rate (R428): two good ones in a row accept the candidate. -/
def canAutobaud (n : Port) (good : Bool) (L : Lane) : Lane :=
  match (L.cn n).cand with
  | none => L
  | some c =>
    if !good then L.updCan n fun x => { x with good := 0 }
    else if (L.cn n).good = 0 then L.updCan n fun x => { x with good := 1 }
    else
      let (a, b, j, p) := abTiming c
      let L := (((L.s (F_CAN_NBT_NTSEG1 n) a).s (F_CAN_NBT_NTSEG2 n) b).s (F_CAN_NBT_NSJW n) j).s (F_CAN_NBT_NBRP n) p
      let L := ((L.s (F_CAN_STAT_ABDONE n) 1).s (F_CAN_STAT_ABRATE n) c).s (F_CAN_STAT_ABAUD_TMO n) 0
      canEvent n 21 (L.updCan n fun x => { x with cand := none, good := 0 })

/-! ### The lane without the Hoop (R430) -/

/-- Do two objects hold the same frame? (R430: identifier, format, DLC and data.) -/
def CanObj.same (o p : CanObj) : Bool :=
  o.h0 == p.h0 && bits o.h1 4 0 == bits p.h1 4 0 && o.data == p.data

/-- The controller of the lane without the Hoop follows an attempt of the holder (R430), with what it observes of it itself: whether the frame was
without error (of an FD frame with BRS, its bits up to BRS), and the settle time. -/
def canShadow (n : Port) (o : CanObj) (e : CanTxEnd) (seen : Bool) (settle more : Nat) (L : Lane) : Lane :=
  if L.f (F_CAN_STAT_PSTATE n) ≠ psRun ∨ (L.cn n).mode = canModeLoop then canIdle n (canBeaten n e L)
  else
    let L := canBeaten n e L
    let L := if (L.cn n).mode = canModeAuto ∧ e ≠ .arbLost then canAutobaud n seen L else L
    let L := canSample n (o.fdf && o.brs && seen && decide (e = .sent)) settle L
    let m := ((L.cn n).inState coPending).filter fun k => (L.cn n).objs[k].same o
    let L := canTxConfine n e more L
    let L := match m.head? with
      | some k =>
        let L := canAckRun n k e L
        if e = .sent then canDone n k crSent false true L else L
      | none => if e = .sent then (L.inc (F_CAN_ERRCNT2_SHMIS n)).s (F_CAN_STAT_SHMIS_S n) 1 else L
    canIdle n (if e = .sent then canNotLone n L else L)

/-- CAN_TX_END (R413 to R418, R427, R430): the ACTIVE object's attempt ends; on the bus the other lane's controller follows. -/
def World.canTxEnd (l : LaneId) (n : Port) (e : CanTxEnd) (seen : Bool) (settle more : Nat) (w : World) : World :=
  let L := w.lane l
  if !L.up (.can n) then w
  else match (L.cn n).active with
    | none => w
    | some k =>
      let o := (L.cn n).objs[k]
      let w := w.updLane l (Machine.canTxEnd n e more)
      if (L.cn n).mode = canModeLoop then w else onBlock l.other (.can n) (canShadow n o e seen settle more) w

/-- A frame is on the bus of a port: the holder's, or one that has won arbitration; or the lane sends to itself. -/
def World.canBusy (l : LaneId) (n : Port) (w : World) : Bool :=
  let c := (w.lane l).cn n
  let o := (w.lane l.other).cn n
  c.active.isSome || c.busy || (o.active.isSome && o.mode != canModeLoop)

/-- The frame a lane is sending on a port is cut off (R431): an error of its attempt, and to the other lane's controllers, which follow it; the sender
sees a bit error (DEDUCED, log 166). Nothing is offered then. -/
def World.canCutPort (l : LaneId) (n : Port) (w : World) : World :=
  let c := (w.lane l).cn n
  if c.active.isNone || c.mode == canModeLoop then w
  else
    let w := w.updLane l fun L => L.updCan n fun c => { c with drive := false }
    (w.canTxEnd l n (.error .bit) false 0 0).updLane l fun L => L.updCan n fun x => { x with drive := c.drive }

/-- So on every port. -/
def World.canCut (l : LaneId) (w : World) : World := (List.finRange 4).foldl (fun w n => w.canCutPort l n) w

/-! ### The node directory (R423 to R425) -/

/-- The offset of an entry in the table SRAM. -/
def dirOff (i : Nat) : Nat := 0x30000 + 16 * i

/-- The fields of a directory entry (Table 14.5). -/
def Lane.dirValid (L : Lane) (i : Nat) : Bool := (L.ts (dirOff i)).getLsbD 30
def Lane.dirIde (L : Lane) (i : Nat) : Bool := (L.ts (dirOff i)).getLsbD 29
def Lane.dirId (L : Lane) (i : Nat) : Nat := bits (L.ts (dirOff i)) 28 0
def Lane.dirNlow (L : Lane) (i : Nat) : Nat := bits (L.ts (dirOff i + 4)) 3 0
def Lane.dirPort (L : Lane) (i : Nat) : Nat := bits (L.ts (dirOff i + 4)) 5 4
def Lane.dirRxf (L : Lane) (i : Nat) : Bool := (L.ts (dirOff i + 4)).getLsbD 6
def Lane.dirSiltmo (L : Lane) (i : Nat) : Nat := bits (L.ts (dirOff i + 4)) 15 8
def Lane.dirSeen (L : Lane) (i : Nat) : Nat := bits (L.ts (dirOff i + 12)) 30 0
def Lane.dirSilent (L : Lane) (i : Nat) : Bool := (L.ts (dirOff i + 12)).getLsbD 31

/-- The valid entries of a port, in the order of their indices. -/
def Lane.dirOf (L : Lane) (n : Port) : List Nat :=
  (List.range 2048).filter fun i => L.dirValid i && L.dirPort i == n.val

/-- Do the blocks of two entries overlap? -/
def Lane.dirOverlap (L : Lane) (i j : Nat) : Bool :=
  i != j && L.dirIde i == L.dirIde j && decide (L.dirId i < L.dirId j + 2 ^ L.dirNlow j) && decide (L.dirId j < L.dirId i + 2 ^ L.dirNlow i)

/-- What is wrong with an entry (R424): 3 NLOW, 2 ALIGN, 1 OVERLAP, 0 nothing. -/
def Lane.dirErr (L : Lane) (all : List Nat) (i : Nat) : Nat :=
  if 8 < L.dirNlow i then 3
  else if L.dirId i % 2 ^ L.dirNlow i ≠ 0 then 2
  else if all.any (L.dirOverlap i) then 1
  else 0

/-- An entry put in its place, ordered by IDE and then by ID. -/
def dirInsert (L : Lane) (i : Nat) : List Nat → List Nat
  | [] => [i]
  | j :: r =>
    let k := fun x => (if L.dirIde x then 2 ^ 29 else 0) + L.dirId x
    if k i < k j then i :: j :: r else j :: dirInsert L i r

/-- The entries of a port now SILENT; the count ends at the top of its field (R8). -/
def dirCount (n : Port) (L : Lane) : Lane :=
  L.s (F_CAN_DIRSTAT2_NSILENT n) (min 2047 ((L.cn n).index.filter L.dirSilent).length)

/-- The rebuild ends (R424): the new index replaces the old one, or is refused with the first entry in error. -/
def canRebuilt (n : Port) (L : Lane) : Lane :=
  if !L.b (F_CAN_DIRSTAT_BUSY n) then L
  else
    let L := L.s (F_CAN_DIRSTAT_BUSY n) 0
    let all := L.dirOf n
    match all.find? fun i => L.dirErr all i != 0 with
    | some i => (L.s (F_CAN_DIRSTAT_DIRERR n) (L.dirErr all i)).s (F_CAN_DIRSTAT_DIRERRIDX n) i
    | none =>
      let idx := all.foldl (fun r i => dirInsert L i r) []
      let L := L.updCan n fun c => { c with index := idx }
      dirCount n (((L.s (F_CAN_DIRSTAT_DIRERR n) 0).s (F_CAN_DIRSTAT_DIRERRIDX n) 0).s (F_CAN_DIRSTAT_COUNT n) (min idx.length 2047))

/-- The lookup of R423: the indexed entry of the frame's format with the highest start at or below the identifier, where it is a hit. -/
def Lane.dirFind (L : Lane) (n : Port) (ide : Bool) (id : Nat) : Option Nat :=
  if !L.b (F_CAN_DIRCTL_EN n) then none
  else
    let c := ((L.cn n).index.filter fun i => L.dirIde i == ide && decide (L.dirId i ≤ id)).foldl (fun b i => match b with
      | some j => if L.dirId j < L.dirId i then some i else some j
      | none => some i) none
    match c with
    | some i => if L.dirValid i && L.dirPort i == n.val && decide (id < L.dirId i + 2 ^ min 8 (L.dirNlow i)) then some i else none
    | none => none

/-- Group time in units of 1,024 µs (Table 14.5, LASTSEEN). -/
def Lane.seenNow (L : Lane) : Nat := L.gtime / 1024 % 2 ^ 31

/-- A hit writes LASTSEEN and clears SILENT; clearing it sends event [20] (R423, R425). -/
def dirHit (n : Port) (i : Nat) (L : Lane) : Lane :=
  let was := L.dirSilent i
  let L := L.tsWrite (dirOff i + 12) [BitVec.ofNat 32 L.seenNow]
  if was && !L.dirSilent i then canEvent n 20 (dirCount n L) else L

/-- The scan of R425: the supervised entries that have become silent. The lane without the Hoop only reads what is replicated. -/
def canScan (n : Port) (L : Lane) : Lane :=
  if !L.holder then dirCount n L
  else
    let new := (L.cn n).index.filter fun i =>
      L.dirSiltmo i != 0 && !L.dirSilent i &&
      decide (L.dirSiltmo i * 100000 < (L.seenNow + 2 ^ 31 - L.dirSeen i) % 2 ^ 31 * 1024)
    let L := new.foldl (fun L i =>
      canEvent n 20 (L.tsWrite (dirOff i + 12) [BitVec.ofNat 32 (L.dirSeen i + 2 ^ 31)])) L
    dirCount n (L.stick (!new.isEmpty) (F_CAN_STAT_SILENT_S n))

/-! ### Receiving (R408, R410, R419 to R421, R428) -/

/-- The payload bytes of a FIFO's entries (CAN_RXCFG.PSIZE). -/
def Lane.rxSize (L : Lane) (n : Port) (f : Fin 2) : Nat :=
  8 * 2 ^ (if f = 0 then L.f (F_CAN_RXCFG_PSIZE0 n) else L.f (F_CAN_RXCFG_PSIZE1 n))

/-- The head of a receive FIFO changes: its window shows other words (R71, R422). -/
def canHead (n : Port) (f : Fin 2) (L : Lane) : Lane := L.healed (0x400D0200 + 0x4000 * n.val + 0x100 * f.val) 0x100

/-- A frame put into a FIFO (R420, R421). -/
def canStore (n : Port) (f : Fin 2) (fr : CanFrame) (node : Option Nat) (L : Lane) : Lane :=
  if 32 ≤ (L.cn n).rx[f].length then (L.inc (F_CAN_ERRCNT1_RXOVF n)).s (F_CAN_STAT_RXOVF_S n) 1
  else
    let len := if fr.rtr then 0 else dlcLen fr.fdf fr.dlc.val
    let size := L.rxSize n f
    let cut := decide (size < len)
    let b := fun (x : Bool) k => if x then 2 ^ k else 0
    let h0 := BitVec.ofNat 32 (fr.id.toNat + b fr.ide 29 + b fr.fdf 30 + b fr.brs 31)
    let h1 := BitVec.ofNat 32 (fr.dlc.val + b fr.rtr 4 + b fr.esi 5 + b cut 6 + (match node with
      | some i => 2 ^ 7 + 2 ^ 8 * i
      | none => 0))
    let e : CanRx := ⟨h0, h1, BitVec.ofNat 32 fr.tsof, BitVec.ofNat 32 (fr.tsof / 2 ^ 32 % 2 ^ 16), fr.data.take (min len size)⟩
    let L := L.updCan n fun c => { c with rx := c.rx.set f (c.rx[f] ++ [e]) }
    canEvent n (16 + f.val) (canShow n ((L.stick cut (F_CAN_STAT_TRUNC_S n)).ifDo ((L.cn n).rx[f].length == 1) (canHead n f)))

/-- A good frame finds its way (R419). -/
def canRoute (n : Port) (fr : CanFrame) (L : Lane) : Lane :=
  if (L.cn n).mode = canModeLoop then L
  else match L.dirFind n fr.ide fr.id.toNat with
    | some i =>
      let f : Fin 2 := if L.dirRxf i then 1 else 0
      canStore n f fr (some i) (dirHit n i L)
    | none =>
      if L.f (F_CAN_RXCFG_UNK n) = 0 then L.inc (F_CAN_ERRCNT1_UNKNOWN n)
      else if L.f (F_CAN_RXCFG_UNK n) = 1 then canStore n 0 fr none L
      else canStore n 1 fr none L

/-- A frame on the bus that the controller does not send (R408, R410, R418, R419, R427, R428); in LOOPBACK it has no part in it. -/
def canRx (n : Port) (pick : Nat) (fr : CanFrame) (e : CanRxEnd) (L : Lane) : Lane :=
  let L := canQuiet n L
  if L.f (F_CAN_STAT_PSTATE n) ≠ psRun ∨ (L.cn n).mode = canModeLoop then canIdle n L
  else if (fr.fdf && !L.b (F_CAN_CTRL_FDEN n)) || decide (e = .exception) then
    ((L.inc (F_CAN_ERRCNT1_PEX n)).s (F_CAN_STAT_PEX_S n) 1).s (F_CAN_STAT_PSTATE n) psInteg
  else
    let auto := match e with
      | .good | .overload _ => true
      | .error _ _ b _ => fr.fdf && fr.brs && b
      | .exception => false
    let L := if (L.cn n).mode = canModeAuto then canAutobaud n auto L else L
    let L := canRxConfine n pick e L
    match e with
    | .good | .overload _ => canIdle n (canNotLone n (canSample n (fr.fdf && fr.brs) fr.settle (canRoute n fr L)))
    | _ => canIdle n L

/-! ### Bus-off, sleep and wake (R427, R432 to R434) -/

/-- 128 occurrences of 11 recessive bits: the counters are 0 again (R427). -/
def canRecovered (n : Port) (L : Lane) : Lane :=
  if L.f (F_CAN_STAT_PSTATE n) ≠ psRecover then L
  else
    let L := ((L.s (F_CAN_EC_TEC n) 0).s (F_CAN_EC_REC n) 0).s (F_CAN_STAT_ESTATE n) esActive
    let L := L.updCan n fun c => { c with recov := false }
    canIdle n (canEvent n 19 ((canQuiet n L).s (F_CAN_STAT_PSTATE n) psRun))

/-- The controller wakes (R434): cause, event [21], and it integrates. -/
def canWaken (n : Port) (cause : Nat) (L : Lane) : Lane :=
  let L := (L.s (F_CAN_WAKESTAT_CAUSE n) cause).s (F_CAN_STAT_PSTATE n) psInteg
  canEvent n 21 (L.updCan n fun c => { c with dec := 0 })

/-- Does a frame match the wake settings of a port held in a register file? Only the data bytes the frame carries are compared. -/
def canWakeMatch (r : RegFile) (n : Port) (fr : CanFrame) : Bool :=
  let id := BitVec.ofNat 32 (fr.id.toNat + if fr.ide then 2 ^ 29 else 0)
  let want := rget r (A_CAN_WAKEID n)
  let m := rget r (A_CAN_WAKEIDM n)
  let data := fr.data.take (if fr.rtr then 0 else dlcLen false fr.dlc.val)
  let wd := (List.range 2).flatMap fun j => wordBytes (rget r (A_CAN_WAKEDATA n j))
  let md := (List.range 2).flatMap fun j => wordBytes (rget r (A_CAN_WAKEDM n j))
  (id &&& m) == (want &&& m) &&
  (!getB r (F_CAN_WAKECFG_WDLCEN n) || fr.dlc.val == getF r (F_CAN_WAKECFG_WDLC n)) &&
  (List.range data.length).all fun k => (listGet 0 data k &&& listGet 0 md k) == (listGet 0 wd k &&& listGet 0 md k)

/-- What a sleeping controller does with what its bus shows it. -/
def canWakeBy (n : Port) (by_ : CanWakeBy) (L : Lane) : Lane :=
  if L.f (F_CAN_STAT_PSTATE n) ≠ psSleep then L
  else match by_ with
    | .edge => if L.f (F_CAN_WAKECFG_WMODE n) = 1 then canWaken n 2 L else L
    | .frame fr good =>
      if L.f (F_CAN_WAKECFG_WMODE n) ≠ 2 || fr.fdf then L
      else if !good then
        let d := (L.cn n).dec + 1
        let L := L.updCan n fun c => { c with dec := d }
        if 32 ≤ d then canWaken n 4 L else L
      else if canWakeMatch L.regs n fr then
        let b := fun (x : Bool) k => if x then 2 ^ k else 0
        let data := fr.data.take 8 ++ List.replicate (8 - fr.data.length) 0
        let ws : List Word := [BitVec.ofNat 32 (fr.id.toNat + b fr.ide 29), BitVec.ofNat 32 (fr.dlc.val + b fr.rtr 4),
          BitVec.ofNat 32 (leNat (data.take 4)), BitVec.ofNat 32 (leNat (data.drop 4))]
        let L := (List.range 4).foldl (fun L j => { L with regs := rput L.regs (A_CAN_WAKEFRM n j) (listGet 0 ws j) }) L
        canWaken n 3 L
      else L.updCan n fun c => { c with dec := c.dec - 1 }

/-- The level of a standby pin (R433): none while the Hoop is FREE. Pair 0 serves ports 0 and 1, pair 1 ports 2 and 3; the polarity is
that of the lower port. -/
def Lane.canStandby (L : Lane) (pair : Pair) : Option Bool :=
  if !L.holder then none
  else
    let n : Port := ⟨2 * pair.val, by omega⟩
    let m : Port := ⟨2 * pair.val + 1, by omega⟩
    let at_ := fun p : Port => L.f (F_CAN_STAT_PSTATE p) == psSleep || (L.cn p).mode == canModeOff
    let pol := L.b (F_CAN_WAKECFG_STBPOL n)
    some (if at_ n && at_ m then pol else !pol)

/-! ### The lane loses or gains the Hoop (R430, R431) -/

/-- The controllers of a lane that lost the Hoop no longer drive; those of a new holder only after 11 recessive bits. -/
def canHoop (L : Lane) : Lane :=
  (List.finRange 4).foldl (fun L n => L.updCan n fun c => { c with drive := false }) L

/-- The new holder's controller has seen 11 recessive bits (R431). -/
def canResume (n : Port) (L : Lane) : Lane :=
  if L.holder then canIdle n (L.updCan n fun c => { c with drive := true, busy := false }) else L

/-! ### Register commands -/

/-- Is the identifier of a staged frame in the telemetry band? -/
def Lane.inTelBand (L : Lane) (n : Port) (h0 : Word) : Bool :=
  !h0.getLsbD 29 && decide (L.f (F_CAN_TELBAND_LO n) ≤ bits h0 28 0) && decide (bits h0 28 0 ≤ L.f (F_CAN_TELBAND_HI n))

/-- An object filled and made PENDING; its words are written in full (R72). -/
def canFill (n : Port) (k : CanObjNo) (h0 h1 : Word) (data : Bytes) (L : Lane) : Lane :=
  let L := L.healed (0x400D1000 + 0x4000 * n.val + 0x80 * k.val) 0x80
  let L := L.updObj n k fun _ => { st := coPending, h0 := h0, h1 := h1, data := data }
  canOffer n (canShow n L)

/-- CAN_TXPUSH (R412). -/
def canTxPush (n : Port) (v : Word) (L : Lane) : Lane × Nat :=
  if !v.getLsbD 0 then (L, stOk)
  else
    let h0 := rget L.regs (A_CAN_TXS0 n)
    let h1 := rget L.regs (A_CAN_TXS1 n)
    let o : CanObj := { h0 := h0, h1 := h1 }
    let m := (L.cn n).mode
    match ((L.cn n).inState coFree).filter fun k => k.val < 28 with
    | [] => (L, stQfull)
    | k :: _ =>
      if (o.brs && !o.fdf) || (o.fdf && !L.b (F_CAN_CTRL_FDEN n)) || (o.rtr && o.fdf) ||
          (!o.ide && decide (0x7FF < bits h0 28 0)) || L.inTelBand n h0 then (L, stBadValue)
      else if m = canModeOff ∨ m = canModeListen ∨ m = canModeAuto then (L, stCanMode)
      else
        let len := if o.rtr then 0 else dlcLen o.fdf o.dlc
        let data := ((List.range 16).flatMap fun j => wordBytes (rget L.regs (A_CAN_TXPL n j))).take len
        (canFill n k h0 h1 data (L.s (F_CAN_TXQSTAT_LAST n) k.val), stOk)

/-- CANCEL on an object (R415). -/
def canCancel (n : Port) (k : CanObjNo) (won : Bool) (L : Lane) : Lane × Nat :=
  let o := (L.cn n).objs[k]
  if o.st = coPending then (canDone n k crCancelled false false L, stOk)
  else if o.st = coActive then (L.updObj n k fun o => { o with cancel := true, cancelWon := won }, stOk)
  else (L, stNoop)

/-- RELEASE of an object (R414, R415). -/
def canRelease (n : Port) (k : CanObjNo) (L : Lane) : Lane × Nat :=
  let o := (L.cn n).objs[k]
  if o.st = coDone then (canShow n (L.updObj n k fun _ => {}), stOk)
  else if o.st = coFree then (L, stNoop)
  else (L, stCanBusy)

/-- A write to a word of an object (Table 14.9), of which only the command word, 3, takes one; objects 28 to 31 of the telemetry port are E11's, each
word of them (R435). -/
def canObjWrite (n : Port) (k : CanObjNo) (word : Nat) (won : Bool) (wr : Writer) (v : Word) (L : Lane) : Lane × Nat :=
  let e11 := match wr with
    | .eng e => e.val == 11
    | _ => false
  let tel := decide (28 ≤ k.val) && L.f F_TEL_CFG_PORT == n.val
  if tel && !e11 then (L, stRoleDenied)
  else if word ≠ 3 then (L, stOk)
  else match bits v 3 0 with
    | 1 => canCancel n k won L
    | 2 => canRelease n k L
    | _ => (L, stOk)

/-- CAN_RXPOPf (R422). -/
def canRxPop (n : Port) (f : Fin 2) (v : Word) (L : Lane) : Lane × Nat :=
  if !v.getLsbD 0 then (L, stOk)
  else if (L.cn n).rx[f].isEmpty then (L, stNoop)
  else (canShow n (canHead n f (L.updCan n fun c => { c with rx := c.rx.set f (c.rx[f].drop 1) })), stOk)

/-- A write to CAN_DIRCTL (R423, R424). -/
def canDirctl (n : Port) (v : Word) (L : Lane) : Lane × Nat :=
  if bits v 3 0 = 1 then
    if L.b (F_CAN_DIRSTAT_BUSY n) then (L, stDirBusy)
    else ((L.store (A_CAN_DIRCTL n) v).s (F_CAN_DIRSTAT_BUSY n) 1, stOk)
  else (L.store (A_CAN_DIRCTL n) v, stOk)

/-- A write to CAN_CTRL (R409, R426): FDEN only in OFF; OFF and AUTOBAUD not while an object is ACTIVE; in force at the next bus idle. -/
def canCtrl (n : Port) (busy : Bool) (v : Word) (L : Lane) : Lane × Nat :=
  let m := bits v 31 29
  let c := L.cn n
  if (c.mode ≠ canModeOff ∨ c.wait) ∧ v.getLsbD 28 ≠ L.b (F_CAN_CTRL_FDEN n) then (L, stCanMode)
  else if (m = canModeOff ∨ m = canModeAuto) ∧ m ≠ c.mode ∧ c.active.isSome then (L, stCanBusy)
  else
    let L := L.store (A_CAN_CTRL n) v
    if busy then (L.updCan n fun c => { c with wait := true }, stOk) else (canEnter n L, stOk)

/-- A write to CAN_CMD (R427, R432, R434); SLEEP waits for the end of a frame in progress. RESTART in bus-off begins the recovery, which a controller in
OFF or SLEEP, or one that integrates, makes once it has integrated (R426; DEDUCED, log 172). -/
def canCmd (n : Port) (busy : Bool) (v : Word) (L : Lane) : Lane × Nat :=
  let m := (L.cn n).mode
  let asleep := L.f (F_CAN_STAT_PSTATE n) == psSleep
  match bits v 3 0 with
  | 1 =>
    if !(m == canModeNormal || m == canModeListen || m == canModeRestricted) then (L, stCanMode)
    else if asleep then (L, stNoop)
    else if !((L.cn n).inState coPending).isEmpty || (L.cn n).active.isSome then (L, stCanBusy)
    else if busy then (L.updCan n fun c => { c with sleepDue := true }, stOk)
    else (canSleep n L, stOk)
  | 2 => if asleep then (canWaken n 1 L, stOk) else (L, stNoop)
  | 3 =>
    let L' := L.updCan n fun c => { c with recov := true }
    if L.f (F_CAN_STAT_ESTATE n) ≠ esBusOff ∨ (L.cn n).recov then (L, stNoop)
    else if m ≠ canModeOff ∧ L.f (F_CAN_STAT_PSTATE n) = psStopped then (L'.s (F_CAN_STAT_PSTATE n) psRecover, stOk)
    else (L', stOk)
  | _ => (L, stOk)

/-- A nominal timing the ports carry (R409, Table 14.1): 125 kbit/s to 1 Mbit/s, SJW at most TSEG2. -/
def canNbtOk (v : Word) : Bool :=
  let q := bits v 4 0 * (1 + bits v 31 24 + bits v 23 17)
  decide (80 ≤ q) && decide (q ≤ 640) && decide (bits v 16 10 ≤ bits v 23 17)

/-- A data-phase timing the ports carry (R409, Table 14.1): up to 8 Mbit/s, SJW at most TSEG2. -/
def canDbtOk (v : Word) : Bool :=
  decide (10 ≤ bits v 18 14 * (1 + bits v 31 27 + bits v 26 23)) && decide (bits v 22 19 ≤ bits v 26 23)

/-- Writes to CAN_NBT and CAN_DBT (R409, R411). -/
def canBt (n : Port) (data : Bool) (v : Word) (L : Lane) : Lane × Nat :=
  if !(if data then canDbtOk v else canNbtOk v) then (L, stBadValue)
  else if L.f (F_CAN_CTRL_MODE n) ≠ canModeOff ∨ (L.cn n).mode ≠ canModeOff then (L, stCanMode)
  else if data then ((L.store (A_CAN_DBT n) v).s (F_CAN_SPSTAT_DTSEG1 n) (bits v 31 27), stOk)
  else (L.store (A_CAN_NBT n) v, stOk)

/-- A write to CAN_RXCFG: PSIZE only in OFF. -/
def canRxcfg (n : Port) (v : Word) (L : Lane) : Lane × Nat :=
  let w := rget L.regs (A_CAN_RXCFG n)
  if (L.cn n).mode ≠ canModeOff ∧ (bits v 9 8 ≠ bits w 9 8 ∨ bits v 5 4 ≠ bits w 5 4) then (L, stCanMode)
  else (L.store (A_CAN_RXCFG n) v, stOk)

/-- SPMIN ≤ SPMAX (Table 14.8). -/
def canSpcfg (n : Port) (v : Word) (L : Lane) : Lane × Nat :=
  if bits v 20 16 < bits v 12 8 then (L, stBadValue) else (L.store (A_CAN_SPCFG n) v, stOk)

/-- LO ≤ HI (Table 14.8). -/
def canTelband (n : Port) (v : Word) (L : Lane) : Lane × Nat :=
  if bits v 26 16 < bits v 10 0 then (L, stBadValue) else (L.store (A_CAN_TELBAND n) v, stOk)

/-- What a read of a port's windows shows (Tables 14.4, 14.9), by the offset within the port's registers; CAN_STAT shows SHADOW while the
lane does not hold the Hoop. -/
def canView (n : Port) (o : Nat) (w : Word) (L : Lane) : Word :=
  let c := L.cn n
  let dataWord := fun (b : Bytes) k => BitVec.ofNat 32 (leNat ((b.drop (4 * k)).take 4))
  if o = 4 then setBits w 26 26 (if L.holder then 0 else 1)
  else if 0x200 ≤ o ∧ o < 0x400 then
    let f : Fin 2 := if o < 0x300 then 0 else 1
    match c.rx[f] with
    | [] => 0
    | e :: _ =>
      let k := o % 0x100 / 4
      if k = 0 then e.h0 else if k = 1 then e.h1 else if k = 2 then e.h2 else if k = 3 then e.h3 else dataWord e.data (k - 4)
  else if 0x1000 ≤ o ∧ o < 0x2000 then
    let ob := c.objs[(⟨(o - 0x1000) / 0x80 % 32, Nat.mod_lt _ (by decide)⟩ : Fin 32)]
    let k := o % 0x80 / 4
    if k = 0 then ob.h0 else if k = 1 then ob.h1
    else if k = 2 then BitVec.ofNat 32 (ob.st + 4 * ob.result + (if ob.late then 32 else 0) + (if ob.shadow then 64 else 0) + 256 * ob.run)
    else if k = 3 then 0 else dataWord ob.data (k - 4)
  else w

/-- A Block reset of a controller empties its objects, its FIFOs and its index (Table 14.8, R24); the bus and the holder's right to drive it stay. -/
def canBlockReset (n : Port) (L : Lane) : Lane := L.updCan n fun c => { drive := c.drive, busy := c.busy }

/-- A frame as the bus carries it: at most 64 data bytes, and 11 identifier bits in the base format (DEDUCED, log 131). -/
def canOnWire (fr : CanFrame) : CanFrame :=
  { fr with data := fr.data.take 64, id := if fr.ide then fr.id else fr.id &&& 0x7FF#29 }

/-! ### Meanings -/

/-- CAN_TX_END (R414). -/
def execCanTxEnd (l : LaneId) (n : Port) (e : CanAttempt) (s : State) : Host.Outcome State Fault Refusal :=
  lift (World.canTxEnd l n e.how e.seen e.settle e.more) s

/-- PROBE_TIMER (R417). -/
def execProbeTimer (l : LaneId) (n : Port) (s : State) : Host.Outcome State Fault Refusal :=
  lift (onBlock l (.can n) (canProbe n)) s

/-- CAN_RX_FRAME (R408, R410, R418 to R421, R423, R428); REC above 127 falls to a value the standard leaves open. -/
def execCanRxFrame (n : Port) (fr : CanFrame) (e : CanRxEnd) (s : State) : Host.Outcome State Fault Refusal :=
  lift (fun w => World.pads (fun l => onBlock l (.can n) (canRx n (Config.canRec w.freeCtr) (canOnWire fr) e)) { w with freeCtr := w.freeCtr + 1 }) s

/-- REBUILD_COMPLETE (R424). -/
def execRebuildComplete (l : LaneId) (n : Port) (s : State) : Host.Outcome State Fault Refusal :=
  lift (onBlock l (.can n) (canRebuilt n)) s

/-- SILENCE_SCAN (R425). -/
def execSilenceScan (l : LaneId) (n : Port) (s : State) : Host.Outcome State Fault Refusal :=
  lift (onBlock l (.can n) (canScan n)) s

/-- BUSOFF_RECOVERY (R427). -/
def execBusoffRecovery (l : LaneId) (n : Port) (s : State) : Host.Outcome State Fault Refusal :=
  lift (onBlock l (.can n) (canRecovered n)) s

/-- The next candidate in ascending order, cyclically. -/
def abNext (mask c : Nat) : Option Nat :=
  ((List.range 4).map fun k => (c + 1 + k) % 4).find? fun i => mask.testBit i

/-- AUTOBAUD_DWELL (R428): the next candidate of the mask; the first one, where the mask had none before. -/
def execAutobaudDwell (l : LaneId) (n : Port) (s : State) : Host.Outcome State Fault Refusal :=
  lift (onBlock l (.can n) fun L => match (L.cn n).cand with
    | some c => L.updCan n fun x => { x with cand := abNext (L.f (F_CAN_ABCFG_MASK n)) c, good := 0 }
    | none =>
      if (L.cn n).mode = canModeAuto ∧ !L.b (F_CAN_STAT_ABDONE n) then L.updCan n fun x => { x with cand := abNext (L.f (F_CAN_ABCFG_MASK n)) 3, good := 0 } else L) s

/-- AUTOBAUD_TIMEOUT (R429). -/
def execAutobaudTimeout (l : LaneId) (n : Port) (s : State) : Host.Outcome State Fault Refusal :=
  lift (onBlock l (.can n) fun L =>
    if (L.cn n).mode = canModeAuto ∧ !L.b (F_CAN_STAT_ABDONE n) ∧ !L.b (F_CAN_STAT_ABAUD_TMO n) then
      canEvent n 21 ((L.s (F_CAN_STAT_ABAUD_TMO n) 1).s (F_CAN_STAT_ABTMO_S n) 1)
    else L) s

/-- SHADOW_UNMATCHED (R430). -/
def execShadowUnmatched (l : LaneId) (n : Port) (k : CanObjNo) (s : State) : Host.Outcome State Fault Refusal :=
  lift (onBlock l (.can n) fun L =>
    if !L.holder && (L.cn n).objs[k].st == coPending then canDone n k crUnmatched false false (L.s (F_CAN_STAT_SHMIS_S n) 1) else L) s

/-- CAN_TAKEOVER_RESUME (R431). -/
def execCanTakeoverResume (l : LaneId) (n : Port) (s : State) : Host.Outcome State Fault Refusal :=
  lift (onBlock l (.can n) (canResume n)) s

/-- CAN_WAKE (R434). -/
def execCanWake (n : Port) (by_ : CanWakeBy) (s : State) : Host.Outcome State Fault Refusal :=
  lift (World.pads fun l => onBlock l (.can n) (canWakeBy n by_)) s

/-- CAN_INTEGRATION_COMPLETE (R426). -/
def execCanIntegrationComplete (l : LaneId) (n : Port) (s : State) : Host.Outcome State Fault Refusal :=
  lift (onBlock l (.can n) (canInteg n)) s

end Sys2Proof.Machine
end

