-- ==== Sys2Proof/Machine/Crypto.lean ====
section
/-!
DEFINITION. SHA-256 (FIPS 180-4) and the verification of an ECDSA signature on the curve P-256 (FIPS 186-4), which the manual names for
credentials, the log's chain and the measurements (R455, R457, R465, R478).
-/
namespace Sys2Proof.Machine

/-! ### SHA-256 -/

/-- The primes below 312: the first 64. -/
def shaPrimes : List Nat :=
  (List.range 312).filter fun n => decide (2 ≤ n) && (List.range 18).all fun d => decide (d < 2) || decide (n ≤ d) || n % d != 0

/-- The whole part of the k-th root of x, found bit by bit from bit i - 1 down, given the bits above. -/
def rootFrom (k x : Nat) : Nat → Nat → Nat
  | 0, r => r
  | i + 1, r => rootFrom k x i (if (r + 2 ^ i) ^ k ≤ x then r + 2 ^ i else r)

/-- The first 32 bits of the fraction of the k-th root of a prime, as FIPS 180-4 defines the constants of SHA-256. -/
def shaFraction (k p : Nat) : Word := BitVec.ofNat 32 (rootFrom k (p * 2 ^ (32 * k)) 38 0)

/-- The round constants: of the cube roots. -/
def shaK : List Word := shaPrimes.map (shaFraction 3)

/-- The initial hash value: of the square roots of the first eight primes. -/
def shaH0 : List Word := (shaPrimes.take 8).map (shaFraction 2)

/-- The message schedule, newest word first, from the sixteen words of a block: `n` more words. -/
def shaSchedule : Nat → List Word → List Word
  | 0, w => w
  | n + 1, w =>
    let g := fun i => listGet 0 w i
    let s0 := (g 14).rotateRight 7 ^^^ (g 14).rotateRight 18 ^^^ (g 14 >>> 3)
    let s1 := (g 1).rotateRight 17 ^^^ (g 1).rotateRight 19 ^^^ (g 1 >>> 10)
    shaSchedule n ((g 15 + s0 + g 6 + s1) :: w)

/-- One round on the eight working variables. -/
def shaRound (v : List Word) (kw : Word × Word) : List Word :=
  match v with
  | [a, b, c, d, e, f, g, h] =>
    let t1 := h + (e.rotateRight 6 ^^^ e.rotateRight 11 ^^^ e.rotateRight 25) + ((e &&& f) ^^^ (~~~ e &&& g)) + kw.1 + kw.2
    let t2 := (a.rotateRight 2 ^^^ a.rotateRight 13 ^^^ a.rotateRight 22) + ((a &&& b) ^^^ (a &&& c) ^^^ (b &&& c))
    [t1 + t2, a, b, c, d + t1, e, f, g]
  | _ => v

/-- The hash value after one block of 64 bytes. -/
def shaBlock (h : List Word) (b : Bytes) : List Word :=
  let w := (List.range 16).foldl (fun acc i => BitVec.ofNat 32 (beNat ((b.drop (4 * i)).take 4)) :: acc) []
  let sched := (shaSchedule 48 w).reverse
  let v := (shaK.zip sched).foldl shaRound h
  (h.zip v).map fun p => p.1 + p.2

/-- The blocks of a padded message, at most `n` of them. -/
def shaBlocks : Nat → List Word → Bytes → List Word
  | 0, h, _ => h
  | n + 1, h, b => if b.isEmpty then h else shaBlocks n (shaBlock h (b.take 64)) (b.drop 64)

/-- The most significant byte first of a number, in n bytes. -/
def beBytes (n x : Nat) : Bytes := (leBytes n x).reverse

/-- SHA-256: the 32 bytes of the digest in their standard order. -/
def sha256 (m : Bytes) : Bytes :=
  let pad := (119 - m.length % 64) % 64
  let b := m ++ [0x80#8] ++ List.replicate pad 0 ++ beBytes 8 (8 * m.length)
  (shaBlocks (b.length / 64) shaH0 b).flatMap fun w => (wordBytes w).reverse

/-! ### ECDSA on P-256 -/

/-- The field prime, the order of the base point, the coefficient b, and the base point. -/
def ecP : Nat := 0xFFFFFFFF00000001000000000000000000000000FFFFFFFFFFFFFFFFFFFFFFFF
def ecN : Nat := 0xFFFFFFFF00000000FFFFFFFFFFFFFFFFBCE6FAADA7179E84F3B9CAC2FC632551
def ecB : Nat := 0x5AC635D8AA3A93E7B3EBBD55769886BC651D06B0CC53B0F63BCE3C3E27D2604B
def ecG : Nat × Nat := (0x6B17D1F2E12C4247F8BCE6E563A440F277037D812DEB33A0F4A13945D898C296,
  0x4FE342E2FE1A7F9B8EE7EB4A7C0F9E162BCE33576B315ECECBB6406837BF51F5)

/-- x to the power e modulo m, over the low `n` bits of e. -/
def powMod (m : Nat) : Nat → Nat → Nat → Nat
  | 0, _, _ => 1
  | n + 1, x, e =>
    let r := powMod m n (x * x % m) (e / 2)
    if e % 2 = 1 then r * x % m else r

/-- The inverse modulo a prime. -/
def invMod (m x : Nat) : Nat := powMod m 256 (x % m) (m - 2)

/-- The sum of two points; none is the point at infinity. -/
def ecAdd (s t : Option (Nat × Nat)) : Option (Nat × Nat) :=
  match s, t with
  | none, t => t
  | s, none => s
  | some (x1, y1), some (x2, y2) =>
    if x1 = x2 ∧ (y1 + y2) % ecP = 0 then none
    else
      let l := if x1 = x2 then 3 * (x1 * x1 % ecP + ecP - 1) * invMod ecP (2 * y1) % ecP
        else (y2 + ecP - y1) * invMod ecP (x2 + ecP - x1) % ecP
      let x := (l * l + 2 * ecP - x1 - x2) % ecP
      some (x, (l * (x1 + ecP - x) + ecP - y1) % ecP)

/-- A multiple of a point, over the low `n` bits of the factor. -/
def ecMul : Nat → Nat → Option (Nat × Nat) → Option (Nat × Nat)
  | 0, _, _ => none
  | n + 1, k, q =>
    let r := ecMul n (k / 2) (ecAdd q q)
    if k % 2 = 1 then ecAdd r q else r

/-- A point of the curve other than infinity. -/
def ecOn (x y : Nat) : Bool :=
  decide (x < ecP) && decide (y < ecP) && decide (y * y % ecP = (x * x % ecP * x + 3 * (ecP - x) + ecB) % ecP)

/-- Does the signature (r, s) verify for a digest under the key (x, y)? -/
def ecdsaOk (x y : Nat) (digest : Bytes) (r s : Nat) : Bool :=
  if r = 0 ∨ ecN ≤ r ∨ s = 0 ∨ ecN ≤ s ∨ !ecOn x y then false
  else
    let w := invMod ecN s
    let u1 := beNat digest * w % ecN
    let u2 := r * w % ecN
    match ecAdd (ecMul 256 u1 (some ecG)) (ecMul 256 u2 (some (x, y))) with
    | some (px, _) => px % ecN == r
    | none => false

/-- The signature of a digest under a private key with a secret number k, brought into 1 to n - 1: r then s, each 32 bytes, most significant byte first. -/
def ecdsaSign (key secret : Nat) (digest : Bytes) : Bytes :=
  let k := 1 + secret % (ecN - 1)
  let r := match ecMul 256 k (some ecG) with
    | some (x, _) => x % ecN
    | none => 0
  beBytes 32 r ++ beBytes 32 (invMod ecN k * (beNat digest + r * key) % ecN)

end Sys2Proof.Machine
end

