-- ==== Sys2Proof/Machine/LogCore.lean ====
section
/-!
DEFINITION. The event log and the change log: their queues in the shared table SRAM (R87, R88, R530), the log bank of the flash as E10 lays it
out (R89), the change log's regions and their hash chains (R464 to R467), and the wear counters' records (R85).
-/
namespace Sys2Proof.Machine

/-! ### The log bank (R89) -/

/-- A lane with E10's bookkeeping updated. -/
def Lane.updWer (L : Lane) (f : Wer → Wer) : Lane := { L with wer := f L.wer }

/-- The flash offset of a byte of a logical sector. -/
def Lane.bankAt (L : Lane) (sec off : Nat) : Nat := 0x780000 + 0x1000 * listGet 0 L.wer.map sec + off

/-- FREE and MAXERASE as WER_STAT shows them. -/
def werShow (L : Lane) : Lane :=
  (L.s F_WER_STAT_FREE L.wer.pool.length).s F_WER_STAT_MAXERASE (min (2 ^ 17 - 1) (L.wer.erases.foldl (fun m c => max m c.2) 0))

/-- The sector of a list with the lowest erase count, the first of equals. -/
def werPick (er : List (Nat × Nat)) : List Nat → Option Nat
  | [] => none
  | p :: r => match werPick er r with
    | some q => if sget 0 er p ≤ sget 0 er q then some p else some q
    | none => some p

/-- A physical sector is erased: counted; it joins the free pool, or is retired at 100,000 erases. -/
def werErase (p : Nat) (L : Lane) : Lane :=
  let n := sget 0 L.wer.erases p + 1
  let L := L.flashErase (0x780000 + 0x1000 * p) 0x1000
  let L := L.updWer fun r => { r with erases := sput 0 r.erases p n, pool := if n < 100000 then r.pool ++ [p] else r.pool }
  L.stick (100000 ≤ n) F_WER_STAT_RETIRE_S

/-- A logical sector begins anew in the free sector with the lowest erase count; the one it had is erased. -/
def werFresh (sec : Nat) (L : Lane) : Lane :=
  match werPick L.wer.erases L.wer.pool with
  | none => L
  | some p =>
    let old := listGet 0 L.wer.map sec
    werShow (werErase old (L.updWer fun r => { r with map := r.map.set sec p, pool := r.pool.erase p }))

/-- A logical sector moves with its content into the free sector with the lowest erase count (R80, R89). -/
def werMove (sec : Nat) (L : Lane) : Lane :=
  match werPick L.wer.erases L.wer.pool with
  | none => L
  | some p =>
    let old := listGet 0 L.wer.map sec
    let data := readBytes 0xFF L.flash (0x780000 + 0x1000 * old) 0x1000
    let L := L.updWer fun r => { r with map := r.map.set sec p, pool := r.pool.erase p }
    werShow (werErase old (L.flashPut (0x780000 + 0x1000 * p) data))

/-- The spread of erase counts over the sectors in use and free: the highest less the lowest (DESIGN CHOICE, log 143). -/
def werSpread (L : Lane) : Nat :=
  let ns := (L.wer.map ++ L.wer.pool).map fun p => sget 0 L.wer.erases p
  ns.foldl max 0 - ns.foldl min (ns.headD 0)

/-- Static data moves when the spread of erase counts exceeds 1,000: the content of the least erased sector in use. -/
def werMigrate (L : Lane) : Lane :=
  if werSpread L ≤ 1000 then L
  else match werPick L.wer.erases L.wer.map with
    | some cold => werMove ((L.wer.map.findIdx? fun p => p == cold).getD 0) L
    | none => L

/-- E10's levelling pass, made as a sector begins anew (DESIGN CHOICE, log 143): the sectors E8 has reported move (R80), then static data (R89). -/
def werLevel (L : Lane) : Lane :=
  let L := L.wer.weak.foldl (fun (L : Lane) p => match L.wer.map.findIdx? fun q => q == p with
    | some sec => werMove sec L
    | none => L) L
  werMigrate (L.updWer fun r => { r with weak := [] })

/-- An entry written at a place of a ring of logical sectors; the first of a sector begins it anew. -/
def bankPut (sec0 n size : Nat) (at_ : Nat) (e : Bytes) (L : Lane) : Lane :=
  let per := 0x1000 / size
  let k := at_ % (n * per)
  let sec := sec0 + k / per
  let L := if k % per = 0 then werLevel (werFresh sec L) else L
  L.flashPut (L.bankAt sec (k % per * size)) e

/-- The entry at a place of such a ring. -/
def Lane.bankGet (L : Lane) (sec0 n size : Nat) (at_ : Nat) : Bytes :=
  let per := 0x1000 / size
  let k := at_ % (n * per)
  readBytes 0xFF L.flash (L.bankAt (sec0 + k / per) (k % per * size)) size

/-! ### The change log -/

/-- How many entries of the change-log queue others than an outcome may take (R530): one slot stays reserved while a safety configuration session
is open and its outcome entry does not hold it. -/
def Lane.clLimit (L : Lane) : Nat := if L.f F_SEB_SESS_STATE ≠ 0 ∧ ¬ L.log.clOutcome then 31 else 32

/-- Word 2 of the k-th entry of the change-log queue (Table 16.2). -/
def Lane.clHeadWord (L : Lane) (k : Nat) : Word := readWord L.tsram (0x2C800 + 64 * ((L.log.clHead + k) % 32) + 8)

/-- A queued entry is the outcome of a safety configuration session: COMMIT or REVERT. -/
def Lane.clIsOutcome (L : Lane) (k : Nat) : Bool := let d := bits (L.clHeadWord k) 31 24; d == 1 || d == 2

/-- The oldest entry waits (R466, R469): it belongs to the safety region, and an ARCHIVE runs or the region holds its 512 entries, none of which is ever
overwritten (DESIGN CHOICE, log 156). -/
def Lane.clHeld (L : Lane) : Bool := (L.clHeadWord 0).getLsbD 18 && (L.log.archiving || decide (512 ≤ L.wer.safN))

/-- The change-log queue accepts an entry (R88). -/
def Lane.clRoom (L : Lane) : Bool := decide (L.log.clN < L.clLimit)

/-- The entries the safety region can still take, those queued counted as written (R467). -/
def Lane.safeLeft (L : Lane) : Nat := 512 - (L.wer.safN + L.log.clSafe)

/-- The KIND codes of Table 16.2. -/
def ckWrite : Nat := 0
def ckCommit : Nat := 1
def ckRevert : Nat := 2
def ckArchive : Nat := 3
def ckCred : Nat := 4
def ckDebug : Nat := 5

/-- The words of an entry but for its link (Table 16.2). -/
def clWords (seq gtime role : Nat) (safety : Bool) (l : LaneId) (src kind addr : Nat) (old new : Word) : List Word :=
  [BitVec.ofNat 32 seq, BitVec.ofNat 32 gtime,
   BitVec.ofNat 32 (gtime / 2 ^ 32 % 2 ^ 16 + 2 ^ 16 * role + (if safety then 2 ^ 18 else 0) + 2 ^ 19 * l.num + 2 ^ 20 * src + 2 ^ 24 * kind),
   BitVec.ofNat 32 addr, old, new]

/-- An entry accepted into the change-log queue (R88, R464): SEQ from the supervisor's counter of its region. -/
def World.clPut (l : LaneId) (role src kind addr : Nat) (old new : Word) (safety outcome : Bool) (w : World) : World :=
  let i : Fin 2 := match l with
    | .a => 0
    | .b => 1
  let seq := if safety then w.sup.seqSaf[i] else w.sup.seqGen[i]
  let w := { w with sup := if safety then { w.sup with seqSaf := w.sup.seqSaf.set i ((seq + 1) % 2 ^ 32) }
    else { w.sup with seqGen := w.sup.seqGen.set i ((seq + 1) % 2 ^ 32) } }
  w.updLane l fun L =>
    let off := 0x2C800 + 64 * ((L.log.clHead + L.log.clN) % 32)
    let ws := clWords seq L.gtime role safety l src kind addr old new
    { L.tsPut off (ws.flatMap wordBytes ++ List.replicate 40 0) with
      log := { L.log with clN := L.log.clN + 1, clSafe := L.log.clSafe + (if safety then 1 else 0), clOutcome := L.log.clOutcome || outcome } }

/-- The 8 bytes of the part's UID (R531). -/
def uidBytes : Bytes := wordBytes (Config.partUid 0) ++ wordBytes (Config.partUid 1)

/-- The link of an entry (R465). -/
def clLink (prev : Option Bytes) (l : LaneId) (safety : Bool) (e : Bytes) : Bytes :=
  let p := prev.getD ((sha256 (uidBytes ++ [BitVec.ofNat 8 l.num, if safety then 1 else 0])).take 8)
  (sha256 (p ++ e)).take 8

/-- An entry of 24 bytes committed to its region with its link. -/
def clWrite (l : LaneId) (safety : Bool) (e : Bytes) (L : Lane) : Lane :=
  let seq := leNat (e.take 4)
  if safety then
    let k := clLink L.wer.safLink l true e
    (bankPut 0 4 32 L.wer.safN (e ++ k) L).updWer fun r => { r with safN := r.safN + 1, safLink := some k, safSeq := some seq }
  else
    let k := clLink L.wer.genLink l false e
    (bankPut 4 12 32 L.wer.genN (e ++ k) L).updWer fun r => { r with genN := r.genN + 1, genLink := some k, genSeq := some seq }

/-- E10 commits the oldest entry of the change-log queue (R464), where it does not wait; the session's outcome holds its slot while an outcome is
queued (R530). -/
def clCommit (l : LaneId) (L : Lane) : Lane :=
  if L.log.clN = 0 || L.clHeld then L
  else
    let e := readBytes 0 L.tsram (0x2C800 + 64 * L.log.clHead) 24
    let safety := (L.clHeadWord 0).getLsbD 18
    let more := (List.range (L.log.clN - 1)).any fun k => L.clIsOutcome (k + 1)
    let L := { L with log := { L.log with
      clHead := (L.log.clHead + 1) % 32, clN := L.log.clN - 1, clSafe := if safety then L.log.clSafe - 1 else L.log.clSafe,
      clOutcome := L.log.clOutcome && more } }
    clWrite l safety e L

/-! ### The event log (R87, R89, R504) -/

/-- The event-log queue takes no entry: 64 wait, or the free pool is below 4 sectors. -/
def Lane.evFull (L : Lane) : Bool := decide (64 ≤ L.log.evN) || decide (L.wer.pool.length < 4)

/-- An entry into the event-log queue, behind its number and the group time. -/
def evPut (ws : List Word) (L : Lane) : Lane :=
  let off := 0x2C000 + 32 * ((L.log.evHead + L.log.evN) % 64)
  { L.tsPut off (([BitVec.ofNat 32 L.wer.evSeq, BitVec.ofNat 32 L.gtime] ++ ws).flatMap wordBytes) with
    log := { L.log with evN := L.log.evN + 1 }, wer := { L.wer with evSeq := (L.wer.evSeq + 1) % 2 ^ 32 } }

/-- WER_QPUSH: the engine's staged entry. -/
def evPush (e : Eng) (v : Word) (L : Lane) : Lane × Nat :=
  if !v.getLsbD 0 then (L, stOk)
  else if L.evFull then (L, stQfull)
  else (evPut (L.eng[e].qdata.toList.drop 2) L, stOk)

/-- A RESET_BTN_STUCK entry that waits takes the room there is (R335, R9; log 63). -/
def evStuck (L : Lane) : Lane :=
  if L.seb.stuck = 0 || L.evFull then L
  else evPut ((List.range 6).map Config.stuckEntry) { L with seb := { L.seb with stuck := L.seb.stuck - 1 } }

/-- E10 drains one entry into the event log. -/
def evDrain (L : Lane) : Lane :=
  if L.log.evN = 0 ∨ L.wer.pool.length < 4 then L
  else
    let e := readBytes 0 L.tsram (0x2C000 + 32 * L.log.evHead) 32
    let L := { L with log := { L.log with evHead := (L.log.evHead + 1) % 64, evN := L.log.evN - 1 } }
    (bankPut 18 96 32 L.wer.evN e L).updWer fun r => { r with evN := r.evN + 1 }

/-- E10's turn at the event log: one entry drained, then what waited for room queued. -/
def evCommit (L : Lane) : Lane := evStuck (evDrain L)

/-! ### The wear counters (R84 to R86) -/

/-- The counters' offset in the table SRAM. -/
def wearOff : Nat := 0x2B000

/-- A record of 256 bytes: its number, the counters, CRC-32. -/
def wearRecord (L : Lane) : Bytes :=
  let b := leBytes 4 L.wer.cntN ++ readBytes 0 L.tsram wearOff 0x30 ++ List.replicate 200 0
  b ++ wordBytes (crc32 b)

/-- A commit of the counters (R85); it serves a power-loss warning too. -/
def wearCommit (L : Lane) : Lane :=
  (bankPut 16 2 256 L.wer.cntN (wearRecord L) L).updWer fun r => { r with cntN := r.cntN + 1, plDue := false }

/-- At its start E10 takes the newest record whose CRC is valid: the counters are what it holds. -/
def wearStart (L : Lane) : Lane :=
  let good := (List.range 32).filterMap fun k =>
    let b := L.bankGet 16 2 256 k
    if crc32 (b.take 252) == BitVec.ofNat 32 (leNat (b.drop 252)) then some b else none
  let best := good.foldl (fun (m : Option Bytes) b => match m with
    | some x => if leNat (x.take 4) < leNat (b.take 4) then some b else some x
    | none => some b) none
  match best with
  | some b => L.tsPut wearOff ((b.drop 4).take 0x30)
  | none => L

end Sys2Proof.Machine
end

