-- ==== Sys2Proof/Machine/SvcCore.lean ====
section
/-!
DEFINITION. The service protocol's frames as the reference firmware sends them, and its answers (spec 16, R470 to R472, Table 16.3): what the end of a session, of an
update or of a block needs of it.
-/
namespace Sys2Proof.Machine

/-! ### Requests and answers -/

/-- Status codes of the protocol. -/
def svBadFrame : Nat := 0x20
def svBadOp : Nat := 0x21
def svWrongLane : Nat := 0x22
def svTableLive : Nat := 0x23

/-- FLAGS. -/
def fgTrunc : Nat := 1
def fgMore : Nat := 2
def fgGap : Nat := 4

/-- A session's side of the protocol updated. -/
def Lane.updSvc (L : Lane) (n : SessNo) (f : Svc → Svc) : Lane := { L with svc := L.svc.set n (f L.svc[n]) }

/-! ### Framing (R470) -/

/-- The bytes of a frame on USB: 0x7E and 0x7D stuffed. -/
def usbStuff : Bytes → Bytes
  | [] => []
  | b :: r => if b = 0x7E#8 ∨ b = 0x7D#8 then 0x7D#8 :: (b ^^^ 0x20#8) :: usbStuff r else b :: usbStuff r

/-- The stuffing undone. -/
def usbUnstuff : Bytes → Bytes
  | [] => []
  | [b] => if b = 0x7D#8 then [] else [b]
  | b :: c :: r => if b = 0x7D#8 then (c ^^^ 0x20#8) :: usbUnstuff r else b :: usbUnstuff (c :: r)

/-- The segments of a frame on CAN: LAST and the index, then 63 bytes of it, the last one filled up with 0. -/
def canSegments (frame : Bytes) : List Bytes :=
  let cs := chunks 63 frame
  cs.zipIdx.map fun (c, k) => BitVec.ofNat 8 (k % 128 + if k + 1 = cs.length then 128 else 0) :: (c ++ List.replicate (63 - c.length) 0)

/-- What a frame leaves the part as: packets on USB (session 0), segments on CAN (session 1). -/
def svcUnits (n : SessNo) (frame : Bytes) : List Bytes :=
  if n = 0 then chunks 64 (0x7E#8 :: (usbStuff frame ++ [0x7E#8])) else canSegments frame

/-- A response as it is framed (Table 16.3); LANE 2 says the holder, which answers (DESIGN CHOICE, log 155). -/
def svcResponse (tag op st flags : Nat) (payload : Bytes) : Bytes :=
  let b := leBytes 1 1 ++ leBytes 1 op ++ leBytes 2 tag ++ leBytes 1 2 ++ leBytes 1 st ++ leBytes 1 flags ++ leBytes 1 0 ++ leBytes 2 payload.length ++ payload
  b ++ wordBytes (crc32 b)

/-- A response (R472): with the request's TAG, framed for its port. -/
def svcAnswer (n : SessNo) (tag op st flags : Nat) (payload : Bytes) (L : Lane) : Lane :=
  L.updSvc n fun s => { s with
    tag := tag, op := op, status := st, flags := flags, payload := payload
    out := s.out ++ svcUnits n (svcResponse tag op st flags payload) }

/-- The response to a request in progress. -/
def svcEnd (n : SessNo) (st : Nat) (payload : Bytes) (L : Lane) : Lane :=
  match L.svc[n].busy with
  | some (tag, op) => (svcAnswer n tag op st 0 payload L).updSvc n fun s => { s with busy := none }
  | none => L

/-- The session an operation is in progress for. -/
def Lane.svcBusyOp (L : Lane) (op : Nat) : Option SessNo := (List.finRange 2).find? fun n => (L.svc[n].busy.map (·.2)) == some op

end Sys2Proof.Machine
end

