-- ==== Sys2Proof/Machine/SessCore.lean ====
section
/-!
DEFINITION. Credentials, the role grant, and the service sessions (spec 16, R453 to R463, R531).
-/
namespace Sys2Proof.Machine

/-! ### Codes -/

/-- Status codes of SYS. -/
def sysAuthFail : Nat := 0x40
def sysAuthLocked : Nat := 0x41
def sysNoCred : Nat := 0x42
def sysChalStale : Nat := 0x43
def sysSessBusy : Nat := 0x44
def sysDbgRefused : Nat := 0x45
/-- SYS_SESSSTAT.STATE codes (Table 16.8). -/
def ssIdle : Nat := 0
def ssChallenged : Nat := 1
def ssGranted : Nat := 2
/-- SYS_SESSSTAT.CAUSE codes. -/
def scLogout : Nat := 1
def scIdle : Nat := 2
def scVbus : Nat := 3
def scReset : Nat := 4
def scLowered : Nat := 5
def scHoop : Nat := 6
def scAuth : Nat := 7

/-- STATE of a session. -/
def Lane.sst (L : Lane) (n : Fin 2) : Nat := L.f (F_SYS_SESSSTAT_STATE n.val)
/-- The engine bound to a session that is not IDLE. -/
def Lane.sessEng (L : Lane) (n : Fin 2) : Option Eng :=
  if L.sst n = ssIdle then none else some (fin 12 (by decide) (L.f (F_SYS_SESSSTAT_ENGINE n.val)))
/-- The session an engine is bound to. -/
def Lane.sessOf (L : Lane) (e : Eng) : Option (Fin 2) := (List.finRange 2).find? fun n => L.sessEng n == some e
/-- A session updated. -/
def Lane.updSess (L : Lane) (n : Fin 2) (f : Session → Session) : Lane := { L with sess := L.sess.set n (f L.sess[n]) }
/-- The role grant unit updated. -/
def Lane.updAuth (L : Lane) (f : Auth → Auth) : Lane := { L with auth := f L.auth }

/-- The engine that serves a session: the one bound, else E7 on USB and E6 on CAN; E0 in the loader (R404). -/
def Lane.svcEng (L : Lane) (n : SessNo) : Eng :=
  if L.b F_LNK_UPDSTAT_LOADER then 0
  else match L.sessEng n with
    | some e => e
    | none => if n = 0 then 7 else 6

/-- The engine behind a writer; the debug port has none. -/
def Lane.writerEng (L : Lane) : Writer → Option Eng
  | .eng e => some e
  | .svc n => L.sessEng n
  | .dbg => none

/-- The role a write carries (R461, R483). -/
def Lane.writerRole (L : Lane) (wr : Writer) : Role :=
  match wr with
  | .dbg => .mkr
  | _ => match L.writerEng wr with
    | some e => L.eng[e].krole
    | none => .none

/-- SRC of a writer's change-log entries (Table 16.2). -/
def Lane.writerSrc (L : Lane) (wr : Writer) : Nat := match L.writerEng wr with
  | some e => e.val
  | none => 15

/-! ### Credentials (R455, R459) -/

/-- The two copies in the credential sector. -/
def credBase (second : Bool) : Nat := 0x77A000 + if second then 0x800 else 0

/-- The credentials a lane holds: the sequence number, which are present (OPR, INS, MKR), and their bytes one after another. -/
structure Creds where
  seq : Nat
  has : List Bool
  opr : Bytes
  ins : Bytes
  mkr : Bytes
deriving DecidableEq, Repr

/-- A copy, where its CRC-32 is correct. -/
def credCopy (L : Lane) (second : Bool) : Option Creds :=
  let b := readBytes 0xFF L.flash (credBase second) 172
  if crc32 (b.take 168) ≠ BitVec.ofNat 32 (leNat (b.drop 168)) then none
  else
    let fl := leNat ((b.drop 4).take 4)
    some ⟨leNat (b.take 4), [fl.testBit 0, fl.testBit 1, fl.testBit 2], (b.drop 8).take 48, (b.drop 56).take 48, (b.drop 104).take 64⟩

/-- The newer of the two copies, where valid, and whether it is the second; none at all in a new part. -/
def credPick : Option Creds → Option Creds → Bool × Creds
  | some a, some b => if a.seq < b.seq then (true, b) else (false, a)
  | some a, none => (false, a)
  | none, some b => (true, b)
  | none, none => (true, ⟨0, [false, false, false], List.replicate 48 0, List.replicate 48 0, List.replicate 64 0⟩)

/-- The newest valid copy and where it lies. -/
def Lane.creds (L : Lane) : Bool × Creds := credPick (credCopy L false) (credCopy L true)

/-- The lane holds a credential of a role (1 OPR, 2 INS, 3 MKR). -/
def Lane.hasCred (L : Lane) (role : Nat) : Bool := listGet false L.creds.2.has (role - 1)

/-- The lane holds no MKR key: the lock of SYS_CREDCTL and SYS_CREDDATA is lifted for it (R459). -/
def Lane.noMkrKey (L : Lane) : Bool := !L.hasCred 3

/-- A credential written into the sector's other copy: each curve coordinate, like every window, in the byte order of R531. -/
def credStore (role : Nat) (L : Lane) : Lane :=
  let (second, c) := L.creds
  let d := L.auth.cred.toList.flatMap wordBytes
  let has := c.has.set (role - 1) true
  let b := leBytes 4 (c.seq + 1) ++ leBytes 4 ((List.range 3).foldl (fun x k => if listGet false has k then x + 2 ^ k else x) 0) ++
    (if role = 1 then d.take 48 else c.opr) ++ (if role = 2 then d.take 48 else c.ins) ++ (if role = 3 then d else c.mkr)
  let base := credBase (!second)
  (L.flashErase base 0x800).flashPut base (b ++ wordBytes (crc32 b))

/-! ### The end of a session (R460, R462) -/

/-- The safety configuration session moves to REVERT; its outcome entry takes the reserved slot (R340, R530). -/
def World.sebRevert (l : LaneId) (w : World) : World :=
  let seq := (w.lane l).f F_SEB_SESS_SEQ
  (w.updLane l (sebSessTo 3)).clPut l 0 9 ckRevert 0 0 (BitVec.ofNat 32 seq) true true

/-- The IMGBLOCK that waits for its UPDACK is answered without one (R472, log 157). -/
def imgAnswer (st : Nat) (L : Lane) : Lane :=
  match L.svcBusyOp 0x31 with
  | some n => svcEnd n st [] L
  | none => L

/-- The service's image is gone; an IMGBLOCK that waits is answered as one without an image would be (DESIGN CHOICE, log 157). -/
def imgDrop (L : Lane) : Lane := imgAnswer stBadValue { L with img := {} }

/-- An update under way is aborted (R406, R462): CTRL UPDATE_ABORT, and the service's image is gone. -/
def lnkUpdAbort (L : Lane) : Lane :=
  if !L.lnk.updActive then L
  else
    let L := { L with lnk := { L.lnk with updActive := false, updOut := none, updPos := 0, ctrlOut := L.lnk.ctrlOut ++ [CtrlMsg.updateAbort] } }
    ((imgDrop L).updAuth fun a => { a with updSess := none }).event 39 (evBit 21)

/-- Debug of the other lane is disabled (R484). -/
def dbgOff (L : Lane) : Lane :=
  if !L.b F_SYS_DBGCTL_EN then L
  else
    let L := { L.s F_SYS_DBGCTL_EN 0 with lnk := { L.lnk with ctrlOut := L.lnk.ctrlOut ++ [CtrlMsg.debugOff] } }
    L.updAuth fun a => { a with dbgSess := none }

/-- The lane's own debug port closes (R484): DBGON falls, and an engine it halted runs on. -/
def dbgClose (L : Lane) : Lane :=
  if !L.b F_SYS_DBGCTL_DBGON then L
  else { L.s F_SYS_DBGCTL_DBGON 0 with eng := L.eng.map fun g => { g with halted := false } }

/-- A session ends (R460): the bound engine drops to NONE, the session is IDLE with its cause, and what it started is ended (R462). -/
def World.sessEnd (l : LaneId) (n : Fin 2) (cause : Nat) (w : World) : World :=
  let L := w.lane l
  match L.sessEng n with
  | none => w
  | some e =>
    let w := w.updLane l fun L =>
      let L := L.updEng e fun g => { g with krole := .none }
      let L := ((L.s (F_SYS_SESSSTAT_STATE n.val) ssIdle).s (F_SYS_SESSSTAT_CAUSE n.val) cause).s (F_SYS_SESSSTAT_ROLE n.val) 0
      let L := (L.s (F_SYS_SESSSTAT_CROLE n.val) 0).s (F_SYS_SESSSTAT_CHALV n.val) 0
      let L := L.updSess n fun s => { s with pending := false }
      let L := if L.auth.updSess = some n then lnkUpdAbort L else L
      if L.auth.dbgSess = some n then dbgOff L else L
    if L.f F_SEB_SESS_STATE = 1 ∧ L.f F_SEB_SESS_ENGINE = e.val then w.sebRevert l else w

/-- The session an engine is bound to ends. -/
def World.sessEndEng (l : LaneId) (e : Eng) (cause : Nat) (w : World) : World :=
  match (w.lane l).sessOf e with
  | some n => w.sessEnd l n cause
  | none => w

/-- What an engine served is lost with it (R472, log 157): the requests in progress and the responses not yet handed to a port. -/
def svcLost (e : Eng) (L : Lane) : Lane :=
  (List.finRange 2).foldl (fun L n => if L.svcEng n = e then L.updSvc n fun s => { s with busy := none, nonce := none, out := [] } else L) L

/-- Both sessions of a lane end. -/
def World.sessEndAll (l : LaneId) (cause : Nat) (w : World) : World := (w.sessEnd l 0 cause).sessEnd l 1 cause

/-! ### CHAL, LOGIN, LOGOUT, KEEP (R456 to R458) -/

/-- The failures of a role within the last 10 minutes. -/
def Lane.failTimes (L : Lane) (now : Nat) (role : Fin 3) : List Nat := L.auth.fails[role].filter fun t => decide (now < t + 600000000)

/-- A role's place among OPR, INS, MKR. -/
def roleIx (role : Nat) : Fin 3 := ⟨(role + 2) % 3, Nat.mod_lt _ (by decide)⟩

/-- CHAL with a role by an engine (R456). -/
def World.sessChal (l : LaneId) (n : Fin 2) (e : Eng) (role : Nat) (w : World) : World × Nat :=
  let L := w.lane l
  let other := match L.sessOf e with
    | some m => m != n
    | none => false
  if role = 0 then (w, stBadValue)
  else if (L.sessEng n).any (fun b => b != e) || other then (w, sysSessBusy)
  else if !L.hasCred role then (w, sysNoCred)
  else
    let c := L.creds.2
    let salt : Bytes := if role = 1 then c.opr.take 16 else if role = 2 then c.ins.take 16 else List.replicate 16 0
    let ws := (List.range 8).map (fun k => Config.challenge w.freeCtr k) ++ (List.range 4).map fun k => BitVec.ofNat 32 (leNat ((salt.drop (4 * k)).take 4))
    let w := { w with freeCtr := w.freeCtr + 1 }
    (w.updLane l fun L =>
      let was := L.sst n
      let L := (List.range 12).foldl (fun L k => { L with regs := rput L.regs (A_SYS_CHAL n.val k) (listGet 0 ws k) }) L
      let L := L.updSess n fun s => { s with pending := true, idleAt := if was = ssIdle then w.time else s.idleAt }
      if was = ssGranted then (L.s (F_SYS_SESSSTAT_CHALV n.val) 1).s (F_SYS_SESSSTAT_CROLE n.val) role
      else ((L.s (F_SYS_SESSSTAT_STATE n.val) ssChallenged).s (F_SYS_SESSSTAT_ENGINE n.val) e.val).s (F_SYS_SESSSTAT_ROLE n.val) role, stOk)

/-- The bytes a response answers for: C, U, L, r (R457). -/
def Lane.chalBytes (L : Lane) (l : LaneId) (n : Fin 2) (role : Nat) : Bytes :=
  (List.range 8).flatMap (fun k => wordBytes (rget L.regs (A_SYS_CHAL n.val k))) ++ uidBytes ++ [BitVec.ofNat 8 l.num, BitVec.ofNat 8 role]

/-- Does the response match? (R457, R531) -/
def Lane.respOk (L : Lane) (l : LaneId) (n : Fin 2) (role : Nat) : Bool :=
  let c := L.creds.2
  let r := L.sess[n].resp.toList.flatMap wordBytes
  let m := L.chalBytes l n role
  if role = 3 then ecdsaOk (beNat (c.mkr.take 32)) (beNat (c.mkr.drop 32)) (sha256 m) (beNat (r.take 32)) (beNat (r.drop 32))
  else r.take 32 == sha256 ((if role = 1 then c.opr else c.ins).drop 16 ++ m)

/-- LOGIN by an engine (R457, R458). -/
def World.sessLogin (l : LaneId) (n : Fin 2) (e : Eng) (w : World) : World × Nat :=
  let L := w.lane l
  let granted := L.sst n == ssGranted
  let role := if granted then L.f (F_SYS_SESSSTAT_CROLE n.val) else L.f (F_SYS_SESSSTAT_ROLE n.val)
  if (L.sessEng n).any (fun b => b != e) then (w, sysSessBusy)
  else if L.sessEng n ≠ none ∧ L.auth.locked[roleIx role] ∧ role ≠ 0 then (w, sysAuthLocked)
  else if L.sst n = ssIdle ∨ ¬ L.sess[n].pending then (w, sysChalStale)
  else if L.respOk l n role then
    (w.updLane l fun L =>
      let L := ((L.s (F_SYS_SESSSTAT_STATE n.val) ssGranted).s (F_SYS_SESSSTAT_ROLE n.val) role).s (F_SYS_SESSSTAT_CHALV n.val) 0
      let L := (L.s (F_SYS_SESSSTAT_CROLE n.val) 0).updSess n fun s => { s with pending := false, idleAt := w.time }
      L.updEng e fun g => { g with krole := Role.ofNum role }, stOk)
  else
    let w1 := w.updLane l fun L =>
      let ts := w.time :: L.failTimes w.time (roleIx role)
      let L := L.updAuth fun a => { a with fails := a.fails.set (roleIx role) ts }
      if 5 ≤ ts.length then (L.updAuth fun a => { a with locked := a.locked.set (roleIx role) true }).s F_SYS_SVCSTAT_LOCK_S 1 else L
    if granted then (w1.sessEnd l n scAuth, sysAuthFail)
    else (w1.updLane l fun L =>
      ((L.s (F_SYS_SESSSTAT_STATE n.val) ssIdle).s (F_SYS_SESSSTAT_ROLE n.val) 0).updSess n fun s => { s with pending := false }, sysAuthFail)

/-- LOGOUT by an engine (R460). -/
def World.sessLogout (l : LaneId) (n : Fin 2) (e : Eng) (w : World) : World × Nat :=
  match (w.lane l).sessEng n with
  | none => (w, stNoop)
  | some b => if b ≠ e then (w, sysSessBusy) else (w.sessEnd l n scLogout, stOk)

/-- KEEP by an engine (R460): accepted only in GRANTED. -/
def World.sessKeep (l : LaneId) (n : Fin 2) (e : Eng) (w : World) : World × Nat :=
  match (w.lane l).sessEng n with
  | none => (w, stNoop)
  | some b =>
    if b ≠ e then (w, sysSessBusy)
    else if (w.lane l).sst n ≠ ssGranted then (w, stNoop)
    else (w.updLane l fun L => L.updSess n fun s => { s with idleAt := w.time }, stOk)

/-- The command a write to SYS_SESSCTLn carries (Table 16.7). -/
def World.sessCtl (l : LaneId) (n : Fin 2) (e : Eng) (v : Word) (w : World) : World × Nat :=
  match bits v 31 28 with
  | 1 => w.sessChal l n e (bits v 25 24)
  | 2 => w.sessLogin l n e
  | 3 => w.sessLogout l n e
  | 4 => w.sessKeep l n e
  | _ => (w, stOk)

/-- A write to SYS_CREDCTL (R459): its MKR lock, which is lifted for the first MKR key alone, is judged before the command. -/
def World.setCred (l : LaneId) (cmd role : Nat) (wr : Writer) (w : World) : World × Nat :=
  let L := w.lane l
  if L.writerRole wr ≠ .mkr ∧ ¬ (L.noMkrKey ∧ (role = 3 ∨ cmd ≠ 1)) then (w, stRoleDenied)
  else if cmd ≠ 1 ∨ role = 0 then (w, stBadValue)
  else if !L.clRoom then (w, stQfull)
  else
    let seq := L.creds.2.seq + 1
    ((w.updLane l (credStore role)).clPut l (L.writerRole wr).num (L.writerSrc wr) ckCred 0 0 (BitVec.ofNat 32 seq) false false, stOk)

end Sys2Proof.Machine
end

