-- ==== Sys2Proof/Machine/LnkCore.lean ====
section
/-!
DEFINITION. The lane link's core (spec 13): the lane states, the health word, the hold train, grant and release of the Hoop, the snapshot, and what is
replicated.
-/
namespace Sys2Proof.Machine

/-- Events of the lane link go to PEER 39. -/
def peerLnk : Nat := 39

/-- Status codes of LNK. -/
def lnkPartNotready : Nat := 0x40
def lnkNotParked : Nat := 0x41
def lnkUpdBusy : Nat := 0x42

/-- Lane states (Table 13.3). -/
def lsStart : Nat := 0
def lsSync : Nat := 1
def lsStandby : Nat := 2
def lsActive : Nat := 3
def lsSuspect : Nat := 4
def lsUpdate : Nat := 5
def lsFailed : Nat := 6
def lsHalted : Nat := 7

/-- Release causes, as RCAUSE codes them (R390). -/
def rcQuarter : Nat := 1
def rcFailed : Nat := 2
def rcKeepalive : Nat := 3
def rcFirmware : Nat := 4
def rcSwitch : Nat := 5

/-- The lane link of a lane updated. -/
def Lane.updLnk (L : Lane) (f : Lnk → Lnk) : Lane := { L with lnk := f L.lnk }
/-- The lane's state. -/
def Lane.lst (L : Lane) : Nat := L.f F_LNK_STAT_STATE
/-- A fault bit of the health word is set (bits [22:17]). -/
def Lnk.bad (k : Lnk) : Bool := k.fskew || k.ue || k.fwfail || k.fwstale || k.diverge || k.tqcmp
/-- ELIGIBLE (R379). -/
def Lane.eligible (L : Lane) : Bool := L.lst == lsStandby && L.b F_LNK_STAT_VALID && !L.lnk.bad
/-- The other lane's last health word shows ELIGIBLE. -/
def Lane.partnerElig (L : Lane) : Bool := (rget L.regs A_LNK_PHEALTH).getLsbD 26
/-- The other lane's last health word shows a holder. -/
def Lane.partnerHolds (L : Lane) : Bool := (rget L.regs A_LNK_PHEALTH).getLsbD 25
/-- The other lane's state; 0xF unknown. -/
def Lane.pstate (L : Lane) : Nat := L.f F_LNK_STAT_PSTATE

/-- The health word (Table 13.2), of what the lane shows. -/
def healthWord (L : Lane) : Word :=
  let k := L.lnk
  BitVec.ofNat 32 (L.lst * 2 ^ 28 + (L.f F_LNK_STAT_VALID) * 2 ^ 27 + (L.f F_LNK_STAT_ELIGIBLE) * 2 ^ 26 + (L.f F_LNK_STAT_HOLDER) * 2 ^ 25 +
    (L.f F_LNK_STAT_SOLO) * 2 ^ 24 + k.fskew.toNat * 2 ^ 22 + k.ue.toNat * 2 ^ 21 + k.fwfail.toNat * 2 ^ 20 + k.fwstale.toNat * 2 ^ 19 +
    k.diverge.toNat * 2 ^ 18 + k.tqcmp.toNat * 2 ^ 17 + L.f F_LNK_EPOCH_SEQ % 2 ^ 16)

/-- The hold train: while ACTIVE, while ELIGIBLE, or under a cold grant (R386); not once Hush is being entered (Table 17.3). -/
def Lane.trainOn (L : Lane) : Bool :=
  L.spine && (L.lst == lsActive || L.eligible || L.lnk.coldTrain) && L.f F_PWR_STAT_STATE != pwrEntering

/-- What follows from the lane's state: ELIGIBLE, SOLO with its event (R401), the health word, the hold train. After a planned switchover SOLO is
not set before the other lane has been ELIGIBLE or is lost (R402). -/
def lnkShow (L : Lane) : Lane :=
  let lost := L.lnk.hbLost || decide (L.pstate = lsSuspect ∨ L.pstate = lsFailed ∨ L.pstate = lsHalted)
  let sw := L.lnk.switching && L.holder && !L.partnerElig && !lost
  let solo := L.holder && !L.partnerElig && !sw
  let was := L.b F_LNK_STAT_SOLO
  let L := (L.sb F_LNK_STAT_ELIGIBLE L.eligible).sb F_LNK_STAT_SOLO solo
  let L := L.updLnk fun k => { k with switching := sw, train := L.trainOn }
  let L := { L with regs := rput L.regs A_LNK_HEALTH (healthWord L) }
  L.eventIf (solo != was) peerLnk (evBit 20)

/-- The lane enters a state (Table 13.3), with event [16] (R383). VALID stays only in STANDBY and ACTIVE. -/
def lnkTo (st : Nat) (L : Lane) : Lane :=
  if L.lst = st then lnkShow L
  else
    let L := L.s F_LNK_STAT_STATE st
    let L := if st = lsStandby ∨ st = lsActive then L.s F_LNK_STAT_VALID 1 else L.s F_LNK_STAT_VALID 0
    let L := L.updLnk fun k =>
      if st = lsSync then { k with
        bulkRxLen := 0, bulkRxCrc := 0xFFFFFFFF, bulkGot := [], bulkDone := none, diffs := [], refused := [], cold := false }
      else if st = lsStandby then { k with fskew := false, diverge := false, tqcmp := false, epBad := 0 }
      else if st = lsActive then { k with coldTrain := false, cold := false }
      else if st = lsSuspect then { k with testOk := false, coldTrain := false, cold := false }
      else { k with coldTrain := false, cold := false }
    (lnkShow L).event peerLnk (evBit 16)

/-- VALID is lost in STANDBY: the lane falls back to SYNC (R382, R394). -/
def lnkInvalid (L : Lane) : Lane := if L.lst = lsStandby then lnkTo lsSync L else lnkShow L

/-- A message of the lane waits that the link sends ahead of one of a rank (R374): 1 HB, SSI, ACC, PARTNER and SEBREQ, 2 CTRL, 3 SEAL, 4 EPDATA, 5
UPDACK, 6 BULK and BULKEND, 7 UPD. -/
def Lnk.ahead (k : Lnk) (rank : Nat) : Bool :=
  let rest := decide (k.epPos < k.epLen)
  (decide (1 < rank) && (k.hbOut.isSome || k.ssiOut.isSome || k.accOut.isSome || k.partnerOut.isSome || k.sebreqOut.isSome)) ||
  (decide (2 < rank) && !k.ctrlOut.isEmpty) || (decide (3 < rank) && k.sealOut.isSome && !rest) || (decide (4 < rank) && k.sealOut.isSome && rest) ||
  (decide (5 < rank) && k.updAckOut.isSome) || (decide (6 < rank) && k.bulkActive && (k.bulkPos == 0 || k.bulkLen != 0))

/-- The conditions of a cold grant have ended, or hold on (R387). -/
def World.coldOk (l : LaneId) (w : World) : Bool :=
  let L := w.lane l
  let seen : Bool := match L.lnk.heldAt with
    | some t => decide (w.time ≤ t + 300)
    | none => false
  (L.lst == lsStart || L.lst == lsSync) && L.lnk.ready && w.fd.hoop == hoopFree && !seen &&
    ((L.lst == lsStart && L.lnk.cold) || w.fd.forced)

/-! ### The Hoop (R386 to R390) -/

/-- The Hoop enters a state, as LNK_HOOP shows it in both lanes; a grant is counted. A lane trains for a cold grant only while it is FREE (R387). -/
def World.hoopTo (st : Nat) (w : World) : World :=
  let go := fun (L : Lane) =>
    let L := L.s F_LNK_HOOP_STATE st
    let L := if st = 1 ∨ st = 2 then L.inc F_LNK_HOOP_GRANTS else L
    if st ≠ hoopFree ∧ L.lnk.coldTrain then lnkShow (L.updLnk fun k => { k with coldTrain := false }) else L
  { (w.updLane .a go).updLane .b go with fd := { w.fd with hoop := st } }

/-- The holder stops its train (R390): FAILED after a fault, SYNC after a firmware release or a planned switchover. -/
def lnkRelease (cause : Nat) (L : Lane) : Lane :=
  if L.lst ≠ lsActive then L
  else lnkTo (if cause = rcFirmware ∨ cause = rcSwitch then lsSync else lsFailed) (L.s F_LNK_STAT_RCAUSE cause)

/-- The snapshot (Table 13.5). -/
def snapshot (L : Lane) : List Word :=
  let num := fun n : Nat => BitVec.ofNat 32 n
  let spg := rget L.regs F_SPG_STAT_STATE.addr
  let keep := fun (w : Word) (fs : List Field) => fs.foldl (fun x f => setBits x f.hi f.lo (bits w f.hi f.lo)) (0 : Word)
  let dor := fun d : Nat => keep (rget L.regs (F_DOR_STAT_STATE d).addr) [F_DOR_STAT_STATE d, F_DOR_STAT_MOVE d, F_DOR_STAT_REFD d]
  let tat := (List.finRange 8).foldl (fun x n =>
    x + L.f (F_TAT_SLOTSTAT_STATE n.val) * 2 ^ (3 * n.val) + L.tat.slots[n].bank.toNat * 2 ^ (24 + n.val)) 0
  let req := if L.seb.req[0] then 1 else 0
  let req1 := if L.seb.req[1] then 2 else 0
  [keep spg [F_SPG_STAT_STATE, F_SPG_STAT_GOAL, F_SPG_STAT_MODE, F_SPG_STAT_CAUSE],
   rget L.regs A_SPG_TGT,
   keep (rget L.regs F_SPG_HOSTAT_HOSEQ.addr) [F_SPG_HOSTAT_HOSEQ, F_SPG_HOSTAT_RESULT],
   dor 0, dor 1, wOf L.door[0].n, wOf L.door[1].n,
   keep (rget L.regs F_BOB_STAT_STATE.addr) [F_BOB_STAT_STATE, F_BOB_STAT_CH0V, F_BOB_STAT_CH1V, F_BOB_STAT_MOTV, F_BOB_STAT_ACCV],
   num tat,
   num (L.f F_TAT_CTRL_GSEL + 2 ^ 8 * L.f F_SEL_STAT_STATE + 2 ^ 12 * L.f F_SEL_STAT_PEND + 2 ^ 13 * L.f F_SEL_STAT_GRANT),
   rget L.regs F_SEL_GRANTED_TGT.addr,
   num (L.f F_PRK_CTRL_EN + 2 * L.f F_PRK_STAT_ROLE + 2 ^ 4 * L.f F_PRK_MODE_MODE),
   num (L.f F_DRV_STAT_TQEN + 2 * L.f F_DRV_STAT_LINK),
   num (req + req1 + 2 ^ 4 * L.ps 0 + 2 ^ 8 * L.ps 1)] ++ List.replicate 50 0

/-- The items two snapshots differ in. -/
def snapDiff (a b : List Word) : List Nat := (List.range 64).filter fun k => listGet 0 a k != listGet 0 b k

/-- Differing items are written to LNK_SNAPDIFF: the last of them, and how many differences there have been. -/
def snapNote (ds : List Nat) (L : Lane) : Lane :=
  match ds.getLast? with
  | none => L
  | some k => (L.s F_LNK_SNAPDIFF_ITEM k).inc F_LNK_SNAPDIFF_COUNT ds.length

/-- STOP posted to a door (R399): discarded and counted at a closed gate, and where DOR is in retention (R28, R35). -/
def postStop (d : Door) (L : Lane) : Lane :=
  L.posted 0 fun L => L.atPort .dor fun L => (dorCommand d dcStop L).1

/-- The checks of the new holder against the last applied snapshot (R399): HALT and STOP where a state differs, else a capture; each is a posted write
into the control quarter (R28). -/
def takeoverCheck (L : Lane) : Lane :=
  if L.lnk.lastSnap.isEmpty then L
  else
    let own := snapshot L
    let st := fun (s : List Word) (k : Nat) (f : Field) => bits (listGet 0 s k) f.hi f.lo
    let differs := fun k f => st own k f != st L.lnk.lastSnap k f
    let L := snapNote (snapDiff own L.lnk.lastSnap) L
    let moving := L.spgSt == spgStream || L.spgSt == spgProfile
    let L :=
      if !moving then L
      else if differs 0 F_SPG_STAT_STATE then L.posted 0 (spgToHalt scCommand)
      else { L with spg := { L.spg with capReq := true } }
    let L := if differs 3 (F_DOR_STAT_STATE 0) then postStop 0 L else L
    if differs 4 (F_DOR_STAT_STATE 1) then postStop 1 L else L

/-- The Hoop grants a lane (R386, Table 13.6): pads, watchdog, LNK_TAKE, the takeover checks; sessions of both lanes end (R463), each SEB waits for
the new holder's requests (R328), which it sends (Table 13.6, step 5), the debug enable is lost (R484), and the replication starts from the last
applied epoch. Marks that no acknowledgement has cleared stay (R391). -/
def World.hoopGrant (l : LaneId) (w : World) : World :=
  let L := w.lane l
  if w.fd.hoop ≠ hoopFree ∨ ¬ L.lnk.train then w
  else
    let w := w.hoopTo (hoopHeld l)
    let w := w.updFd fun d => d.wdGrant w.time
    let w := (w.sessEndAll .a scHoop).sessEndAll .b scHoop
    let both := fun (L : Lane) =>
      let L := { L with seb := { L.seb with reqWait := true } }
      usbEval (dbgClose (dbgOff { L with usb := { L.usb with wait := true } }))
    let w := (w.updLane .a both).updLane .b both
    let w := w.updLane l fun L =>
      let cold := L.lst == lsStart || L.lst == lsSync
      let sw := L.lnk.switchIn
      let L := L.stick cold F_LNK_STAT_COLD_S
      let L := L.stick (!cold && !sw) F_LNK_STAT_TAKEOVER_S
      let L := (L.s F_LNK_TAKE0_TIME (L.gtime % 2 ^ 32)).s F_LNK_TAKE1_TIME (L.gtime / 2 ^ 32)
      let L := L.updLnk fun k => { k with
        switching := sw, switchIn := false, carried := [], acked := L.f F_LNK_EPOCH_SEQ,
        epLen := 0, epPos := 0, sealOut := none, bulkActive := false }
      let L := takeoverCheck (lnkTo lsActive (L.s F_LNK_STAT_HOLDER 1))
      (canHoop (L.event peerLnk (evBit 17))).sebReqSend
    w.updLane l.other canHoop

/-- The Hoop is no longer held by a lane: its HOLDER falls, with event [17]; its CAN controllers and USB device stop
driving, a frame being sent cut off (R431), and an update of the other lane is aborted (R406). -/
def World.hoopLost (w : World) : World :=
  let cut := fun l w => if (w.lane l).holder then w.canCut l else w
  let w := cut .b (cut .a w)
  let go := fun (L : Lane) =>
    if !L.holder then L
    else
      let L := lnkUpdAbort (L.s F_LNK_STAT_HOLDER 0)
      usbEval (canHoop ((lnkShow L).event peerLnk (evBit 17)))
  (w.updLane .a go).updLane .b go

/-! ### What is replicated (R391) -/

/-- LNK_REPLID: CRC-32 over LNK_REPL0 to LNK_REPL15. -/
def replId (L : Lane) : Word :=
  crc32 ((List.range 16).flatMap fun n => wordBytes (rget L.regs (A_LNK_REPLB n)) ++ wordBytes (rget L.regs (A_LNK_REPLL n)))

/-- LNK_REPLID brought up to date. -/
def replShow (L : Lane) : Lane := { L with regs := rput L.regs A_LNK_REPLID (replId L) }

/-- The replicated regions, as address and length. -/
def replRegions (L : Lane) : List (Nat × Nat) :=
  [(0x30000000, 0x2B000), (0x30030000, 0x8000)] ++
  (List.range 16).filterMap fun n =>
    let len := L.f (F_LNK_REPLL_LEN n)
    if len = 0 then none else some (L.f (F_LNK_REPLB_BASE n), len)

/-- The k-th line of the replicated regions. -/
def replLine : List (Nat × Nat) → Nat → Option Nat
  | [], _ => none
  | (b, n) :: r, k => if k < n / 64 then some (b + 64 * k) else replLine r (k - n / 64)

/-- The 64 bytes of a line, in the table SRAM or an engine's local SRAM. -/
def Lane.line (L : Lane) (a : Nat) : Bytes :=
  if 0x30000000 ≤ a then readBytes 0 L.tsram (a - 0x30000000) 64
  else readBytes 0 (L.eng[fin 12 (by decide) ((a - 0x20000000) / 0x20000)]).ram (a % 0x20000) 64

/-- A line written: one of an engine's local SRAM is a posted write into its quarter (R28, R31) and to its port (R35). -/
def Lane.putLine (L : Lane) (a : Nat) (b : Bytes) : Lane :=
  if 0x30000000 ≤ a then L.tsPut (a - 0x30000000) b
  else
    let e : Eng := fin 12 (by decide) ((a - 0x20000000) / 0x20000)
    L.posted (engQuarter e).num fun L => L.atPort (.eng e) fun L =>
      (L.updEng e fun g => { g with ram := writeBytes 0 g.ram (a % 0x20000) b }).healed a b.length

/-- A register whose RWL and MKR fields are replicated: of SPG, DRV, DOR, BOB, SEL, PRK, TAT, TEL and SCR (R391). -/
def replBlock (a : Nat) : Bool :=
  (decide (0x40030000 ≤ a) && decide (a < 0x400A0000)) || (decide (0x40110000 ≤ a) && decide (a < 0x40114000)) ||
  (decide (0x4011C000 ≤ a) && decide (a < 0x40120000))

/-- The bits of a register's RWL and MKR fields. -/
def replMask (a : Nat) : Word :=
  (fieldsOf a).foldl (fun m f => if f.acc = .rwl ∨ f.acc = .mkr then m ||| fmask f.hi f.lo else m) 0

/-- The role of the last write of a register that is replicated is kept for its record. -/
def replRole (a role : Nat) (L : Lane) : Lane := L.updLnk fun k => { k with regRole := sput 0 k.regRole a role }

/-- A register is written: the role of the write is kept for its record, which is due in the holder (R391). -/
def replMark (a role : Nat) (L : Lane) : Lane :=
  if replBlock a && replMask a != 0 then
    let L := replRole a role L
    if L.holder then L.updLnk fun k => { k with regDirty := sput (0, 0) k.regDirty a (k.seals + 1, role) } else L
  else L

end Sys2Proof.Machine
end

