-- ==== Sys2Proof/Machine/Spg.lean ====
section
/-!
DEFINITION. The set-point generator SPG (spec 07): the publication, the stream, the capture ramp, the hardware profile
generator, the start and stop sequences and the rope notch.
-/
namespace Sys2Proof.Machine

/-- Status codes of SPG. -/
def spgNotIdle : Nat := 0x40
def spgNotStream : Nat := 0x41
def spgHoBusy : Nat := 0x42
def spgNotRun : Nat := 0x43
def spgDrvDown : Nat := 0x44

/-! ### The publication (R176, R178 to R181, R187) -/

/-- A set-point published for the next sample instant, each word clamped to 32 bits. -/
def Lane.spgPub (L : Lane) (p v a : Int) : Lane :=
  ((L.si F_SPG_PUBP_D (satS 32 p)).si F_SPG_PUBV_D (satS 32 v)).si F_SPG_PUBA_D (satS 32 a)

/-- A source's set-point published through the capture ramp (R187), whose length CAP gives at the capture. -/
def spgCapture (p v a : Int) (L : Lane) : Lane :=
  let g := L.spg
  if g.capReq ∨ L.b F_SPG_STAT_CAPT then
    let dp := if g.capReq then L.bob.pub.pos - p else g.dp
    let dv := if g.capReq then L.bob.pub.vel - v else g.dv
    let n : Nat := if g.capReq then 0 else g.capN
    let kc : Nat := if g.capReq then 4 * L.f F_SPG_TIMING_CAP else g.capK
    let num : Int := (kc ^ 3 : Nat) - (3 * n ^ 2 * kc : Nat) + (2 * n ^ 3 : Nat)
    let w := fun d : Int => if n < kc then rdiv (d * num) (kc ^ 3 : Nat) else 0
    let L := L.updSpg fun g => { g with dp := dp, dv := dv, capN := n + 1, capK := kc, capReq := false }
    (L.sb F_SPG_STAT_CAPT (n < kc)).spgPub (p + w dp) (v + w dv) a
  else L.spgPub p v a

/-- The HPG's state as whole units, rounded (R97). -/
def hpgOut (g : Spg) : Int × Int × Int := (rdiv g.hp hpgP, rdiv g.hv hpgV, rdiv g.ha hpgA)

/-- The publication of PROFILE. -/
def spgPubProfile (L : Lane) : Lane :=
  let (p, v, a) := hpgOut L.spg
  spgCapture p v a L

/-- The previous source entry: for the first entry of a stream the last published set-point. -/
def spgPrev (L : Lane) : Int × Int × Int :=
  if L.spg.fresh then (L.i F_SPG_PUBP_D, L.i F_SPG_PUBV_D, L.i F_SPG_PUBA_D) else L.spg.prev

/-- The checks of R178 on an entry; where the cap of R186 stands, it limits a stream's velocity too (DEDUCED, log 162). -/
def spgEntryOk (L : Lane) (e : SpgEntry) : Bool :=
  let (vl, am, jm) := L.spg.lims
  let vm := if L.b F_SPG_STAT_GLIM then min vl (L.f F_SPG_GVMAX_V) else vl
  let (p0, v0, a0) := spgPrev L
  let tol : Int := L.f F_SPG_TIMING_STRTOL
  decide (absI e.v ≤ vm) && decide (absI e.a ≤ am) &&
  decide (absI (e.a - a0) ≤ ((jm + 3999) / 4000 : Nat)) &&
  decide (absI (8000 * (e.p - p0) - (e.v + v0)) ≤ 8000 * tol) &&
  (!e.last || (decide (e.v = 0) && decide (e.a = 0) && decide (absI (e.p - L.i F_SPG_TGT_TGT) ≤ tol)))

/-- The stream's level as SPG_FIFOSTAT shows it. -/
def spgShow (L : Lane) : Lane := L.s F_SPG_FIFOSTAT_LEVEL L.spg.fifo.length

/-- The publication of STREAM: the oldest entry, a fault (R179) or a starvation (R180). -/
def spgPubStream (L : Lane) : Lane :=
  match L.spg.fifo with
  | [] =>
    let L := ((L.s F_SPG_STAT_STARVE_S 1).inc F_SPG_FIFOSTAT_STARVES).event peerSpg (evBit 17)
    spgPubProfile (spgToTarget scStarve L)
  | e :: rest =>
    if !spgEntryOk L e then
      let L := (spgShow (L.updSpg fun g => { g with fifo := [] })).s F_SPG_STAT_SFLT_S 1
      spgPubProfile (spgToTarget scStreamFault (L.event peerSpg (evBit 18)))
    else
      let L := L.updSpg fun g => { g with fifo := rest, prev := (e.p, e.v, e.a), fresh := false }
      let L := spgCapture e.p e.v e.a (spgShow L)
      let L := L.eventIf (L.f F_SPG_CTRL_LWM != 0 && rest.length == L.f F_SPG_CTRL_LWM) peerSpg (evBit 21)
      if e.last then spgEnterStopping scEnd 2 (L.i F_SPG_TGT_TGT) L else L

/-- The load of the front end's reading, with E9's gain (R82, input code 0x07). -/
def spgLoad (raw : Int) (L : Lane) : Lane :=
  let L := L.calTake 2
  L.si F_SPG_LOAD_L (satS 32 (satS 32 (rnd (L.calGain 2 raw * L.f F_SPG_LWSCALE_S) 16) - L.i F_SPG_LWTARE_T))

/-- The instant of a publication: 210 µs after a sample instant whose tick has reached SPG (R176). -/
def spgDue (L : Lane) : Bool := L.spg.ticks != 0 && (instantIn L.fclk 20000 16800).isSome

/-- The publication at t_k + 210 µs, by state (Table 7.2); none at any other time (R176). -/
def spgPublish (raw : Int) (L : Lane) : Lane :=
  if !spgDue L then L
  else
  let L := spgLoad raw (L.updSpg fun g => { g with ticks := 0 })
  let st := L.spgSt
  if st = spgIdle then L.spgPub L.bob.pub.pos L.bob.pub.vel 0
  else if st = spgStarting then L.spgPub L.spg.hold 0 0
  else if st = spgStream then spgPubStream L
  else if st = spgProfile then spgPubProfile L
  else if st = spgStopping then L.spgPub L.spg.stopX 0 0
  else L

/-! ### The hardware profile generator (R189 to R191) -/

/-- The first of +J, 0, −J that R189 admits from velocity v and acceleration a with r to go; −J where none does. -/
def hpgJerk (V A J : Nat) (v a r : Int) : Int :=
  let lim : Int := (A : Int) * hpgA
  let fits := fun j : Int =>
    let a1 := clampI (-lim) lim (a + j)
    let v1 := v + 2 * a + j
    let ap := max a1 0
    decide (v1 * J + ap * ap ≤ (V : Int) * hpgV * J) && decide (dstop A J v1 a1 ≤ (r - 3 * v1) * (J * J : Nat))
  if fits J then J else if fits 0 then 0 else -(J : Int)

/-- One step of 1 µs in the direction of travel: the limits used, whether they are the maker's (as latched, R182), and the jerk after the
clamp of the acceleration. -/
def hpgChoose (L : Lane) (v a r : Int) (stopOnly : Bool) : Int × Bool :=
  let g := L.spg
  let (_, A0, J0) := g.lims
  let V := if L.b F_SPG_STAT_GLIM then min g.vset (L.f F_SPG_GVMAX_V) else g.vset
  let mk := !stopOnly && decide (0 ≤ v) && decide ((r + 50 * hpgP) * (J0 * J0 : Nat) < dstop A0 J0 v a)
  let A := if mk then g.mlims.1 else A0
  let J := if mk then g.mlims.2 else J0
  let j :=
    if v < 0 then
      -(hpgJerk V A J (-v) (-a) (dstop A J (-v) (-a) / (J * J : Nat)))
    else if stopOnly then hpgJerk V A J v a (dstop A J v a / (J * J : Nat))
    else hpgJerk V A J v a r
  let lim : Int := (A : Int) * hpgA
  (clampI (-lim) lim (a + j) - a, mk)

/-- ARRIVE (R190): the residual, the goal taken, and STOPPING with the cause that led to PROFILE. -/
def hpgArrive (miss : Bool) (L : Lane) : Lane :=
  let g := L.spg
  let p := rdiv g.hp hpgP
  let L := L.si F_SPG_HPGRES_D (satS 32 (rdiv (g.goalX * hpgP - g.hp) hpgP))
  let x := if miss then p else g.goalX
  let L := L.updSpg fun g => { g with hp := x * hpgP, hv := 0, ha := 0 }
  spgEnterStopping (L.f F_SPG_STAT_CAUSE) 2 x (L.stick miss F_SPG_STAT_MISS_S)

/-- The HPG's 1 µs (R189). Once it has passed the goal it only completes its stop (R191). -/
def hpgStep (L : Lane) : Lane :=
  let g := L.spg
  if L.spgSt ≠ spgProfile then L
  else
    let goal := g.goalX * hpgP
    let s : Int := if g.passed then (if g.hv < 0 then -1 else 1) else if goal < g.hp then -1 else 1
    let r := absI (goal - g.hp)
    if g.hv = 0 ∧ g.ha = 0 ∧ (r = 0 ∨ g.passed) then hpgArrive g.passed L
    else
      let (j, mk) := hpgChoose L (s * g.hv) (s * g.ha) r g.passed
      let L := (L.sb F_SPG_STAT_MLIM mk).stick mk F_SPG_STAT_MLIM_S
      let hp := g.hp + 3 * g.hv + 3 * g.ha + s * j
      let hv := g.hv + 2 * g.ha + s * j
      let ha := g.ha + s * j
      let arrive := decide (0 < s * g.hv) && decide (s * hv ≤ 0) && decide (s * ha ≤ 0)
      let passed := g.passed || (decide (0 < s * g.hv) && decide (0 < s * (hp - goal)))
      let L := L.updSpg fun g => { g with hp := hp, hv := hv, ha := ha, passed := passed }
      if arrive then hpgArrive g.passed L else L

/-! ### The start and stop sequences (Tables 7.5, 7.6) -/

/-- A step of a sequence taken, with the event that reports it. -/
def spgStep (k : Nat) (L : Lane) : Lane := (L.updSpg fun g => { g with step := k }).event peerSpg (evBit 20)

/-- The end of the start sequence: STREAM or PROFILE, through the capture ramp (Table 7.5, step 7). -/
def spgDepart (L : Lane) : Lane :=
  let L := spgHandover (if L.spg.relevel then cmLevel else cmRun) true (spgStep 7 L)
  let L := spgTakeTarget L
  if L.spg.relevel then
    spgEnterProfile goalRelevel scCommand (L.i F_SPG_TGT_TGT) (min L.spg.lims.1 (L.f F_SPG_RLVV_V)) L
  else if L.spg.src then spgToTarget scCommand L
  else (L.updSpg fun g => { g with capReq := true, fresh := true }).spgGo spgStream

/-- The car has rolled away from the held position during the brake lift (R198). -/
def spgRolled (L : Lane) : Bool :=
  (L.spg.step == 5 || L.spg.step == 6) &&
    decide ((L.f F_SPG_BRK1_ROLLBACK : Int) < absI (L.bob.pub.pos - L.spg.hold))

/-- A step of the start sequence on what it waits for (Table 7.5), or its abort on a rollback (R198). -/
def spgStartAdvance (so0On lifted : Bool) (L : Lane) : Lane :=
  if L.spgSt ≠ spgStarting then L
  else if spgRolled L then spgAbort scRollback (L.s F_SPG_STAT_ROLL_S 1)
  else match L.spg.step with
    | 2 => if so0On then (spgStep 3 L).updDrvReq true else L
    | 3 => if L.b F_DRV_STAT_TQ_ON then spgHandover cmHold true (spgStep 4 L) else L
    | 4 => if L.spg.ho.phase = 0 then (spgStep 5 L).reqChange fun L => L.updSpg fun g => { g with so1 := true } else L
    | 5 => if lifted then spgStep 6 (L.wear 0x18) else L
    | 6 => spgDepart L
    | _ => L

/-- The car rests within tolerance of X (Table 7.6, step 2). -/
def spgSettled (L : Lane) : Bool :=
  decide (absI (L.bob.pub.pos - L.spg.stopX) ≤ (L.f F_SPG_STOP_STOPTOL : Int)) && decide (absI L.bob.pub.vel ≤ 1000)

/-- The end of the stop sequence (Table 7.6, step 7): TQEN cleared, SO0 off requested, IDLE. -/
def spgStopEnd (L : Lane) : Lane :=
  let L := (spgStep 7 L).updDrvReq false
  let L := L.reqChange fun L => L.updSpg fun g => { g with so0 := false, step := 0 }
  ((L.s F_SPG_STAT_GOAL 0).s F_SPG_STAT_GLIM 0).spgGo spgIdle

/-- A step of the stop sequence on what it waits for (Table 7.6). -/
def spgStopAdvance (dropped : Bool) (L : Lane) : Lane :=
  if L.spgSt ≠ spgStopping then L
  else match L.spg.step with
    | 2 => if spgSettled L then spgHandover cmHold true (spgStep 3 L) else L
    | 3 => if L.spg.ho.phase = 0 then (spgStep 4 L).reqChange fun L => L.updSpg fun g => { g with so1 := false } else L
    | 4 => if dropped then spgStep 5 (L.wear 0x1C) else L
    | 5 => spgHandover cmOff true (spgStep 6 L)
    | 6 => if L.spg.ho.phase = 0 then spgStopEnd L else L
    | _ => L

/-- No brake feedback within BRKFB (R198; Table 7.6, step 4: the sequence stops, held on motor torque). -/
def spgBrakeTimeout (L : Lane) : Lane :=
  if L.spgSt = spgStarting ∧ L.spg.step = 5 then spgAbort scBrkFb (L.s F_SPG_STAT_BRKFB_S 1)
  else if L.spgSt = spgStopping ∧ L.spg.step = 4 then spgStep 8 (L.s F_SPG_STAT_BRKFB_S 1)
  else L

/-- TQ_ON has not come after the TQON time-out (R198). -/
def spgTqonTimeout (L : Lane) : Lane :=
  if L.spgSt = spgStarting ∧ L.spg.step = 3 ∧ L.b F_DRV_STAT_TQ_ON = false then
    spgAbort scDrive (L.s F_DRV_STAT_TQON_S 1)
  else L

/-- Settling has exceeded STOPMAX (Table 7.6, step 2). -/
def spgStopMax (L : Lane) : Lane :=
  if L.spgSt = spgStopping ∧ L.spg.step = 2 then
    spgHandover cmHold true (spgStep 3 (L.s F_SPG_STAT_SLOW_S 1))
  else L

/-! ### The rope notch (R192) -/

/-- The cosine of an angle below 0.1, by its series. -/
def fxCos (x : Int) : Int :=
  let q := fxMul x x
  fx - q / 2 + fxMul q q / 24 - fxMul q (fxMul q q) / 720 + fxMul (fxMul q q) (fxMul q q) / 40320

/-- The tangent of an angle below 0.1, as sine over cosine, by their series. -/
def fxTan (x : Int) : Int :=
  let q := fxMul x x
  let s := x - fxMul x q / 6 + fxMul x (fxMul q q) / 120 - fxMul x (fxMul q (fxMul q q)) / 5040
  s * fx / fxCos x

/-- The notch frequency in 1/65536 mHz. -/
def notchF (L : Lane) : Int :=
  let len : Nat := max (absI (L.i F_SPG_NTOP_P - L.bob.pub.pos)).toNat 1000000
  let mass : Nat := L.f F_SPG_NMASS_MCAR * 1000 + (L.i F_SPG_LOAD_L).toNat
  let ref := L.f F_SPG_NFREF_F
  let c := L.spg.c.toNat
  let f := isqrt (c * c * ref * ref * L.f F_SPG_NLREF_L * L.f F_SPG_NMASS_MREF * 1000 / (len * mass))
  clampI (500 * 65536) (50000 * 65536) f

/-- The 1 ms update: f computed and the section's coefficients written (R192), at TAT's own port (R35). -/
def notchUpdate (L : Lane) : Lane :=
  if !L.b F_SPG_NCFG_EN then L
  else
    let f := notchF L
    let k := L.f F_SPG_NCFG_SEC
    let w0 := fxPi * 2 * f / (4000000 * 65536)
    let al := fxTan (fxPi * L.f F_SPG_NBW_BW / 4000000)
    let q := fun x : Int => rdiv (x * 2 ^ 30) (fx + al)
    let b0 := q fx
    let b1 := q (-2 * fxCos w0)
    let L := L.atPort .tat fun L =>
      (((((L.si (F_TAT_BQB0_COEF 0 k) b0).si (F_TAT_BQB1_COEF 0 k) b1).si (F_TAT_BQB2_COEF 0 k) b0).si
        (F_TAT_BQA1_COEF 0 k) b1).si (F_TAT_BQA2_COEF 0 k) (q (fx - al))).updSpg fun g => { g with notchNew := g.notchNew.set! k true }
    (L.updSpg fun g => { g with nf := f }).s F_SPG_NSTAT_F (rnd f 16).toNat

/-- The tracker's factor as SPG_NSTAT shows it. -/
def notchC (c : Int) (L : Lane) : Lane := (L.updSpg fun g => { g with c := c }).s F_SPG_NSTAT_C (rnd c 2).toNat

/-- The 250 ms update of the tracker from the powers P+ and P−, which begin again at 0. -/
def notchTrack (L : Lane) : Lane :=
  if !L.b F_SPG_NCFG_EN || !L.b F_SPG_NCFG_TREN then L
  else
    let mu : Int := L.f F_SPG_NCFG_MU
    let c0 := L.spg.c
    let (hi, lo) := (L.spg.pwHi, L.spg.pwLo)
    let c := if lo * 11 < hi * 10 then c0 + mu else if hi * 11 < lo * 10 then c0 - mu else c0
    let out := decide (c * 10 < 8 * 65536) || decide (12 * 65536 < c * 10)
    let L := L.updSpg fun g => { g with pwHi := 0, pwLo := 0 }
    notchC (if out then clampI 52429 78643 c else c) (L.stick out F_SPG_STAT_NCLAMP_S)

/-! ### The commands -/

/-- SPG_PUBLISH (R176). -/
def execSpgPublish (l : LaneId) (lw : Int) (s : State) : Host.Outcome State Fault Refusal :=
  lift (onBlock l .spg (spgPublish lw)) s

/-- HPG_STEP (R189). -/
def execHpgStep (l : LaneId) (s : State) : Host.Outcome State Fault Refusal := lift (onBlock l .spg hpgStep) s

/-- START_SEQ_ADVANCE (R198). -/
def execStartSeqAdvance (l : LaneId) (s : State) : Host.Outcome State Fault Refusal :=
  lift (fun w => onBlock l .spg (spgStartAdvance (w.so0On) (w.brakeLifted l)) w) s

/-- STOP_SEQ_ADVANCE (R199). -/
def execStopSeqAdvance (l : LaneId) (s : State) : Host.Outcome State Fault Refusal :=
  lift (fun w => onBlock l .spg (spgStopAdvance (w.brakeDropped l)) w) s

/-- BRAKE_FB_TIMEOUT (R198). -/
def execBrakeFbTimeout (l : LaneId) (s : State) : Host.Outcome State Fault Refusal :=
  lift (onBlock l .spg spgBrakeTimeout) s

/-- TQON_TIMEOUT (R198). -/
def execTqonTimeout (l : LaneId) (s : State) : Host.Outcome State Fault Refusal := lift (onBlock l .spg spgTqonTimeout) s

/-- STOPMAX_TIMEOUT (R199). -/
def execStopmaxTimeout (l : LaneId) (s : State) : Host.Outcome State Fault Refusal := lift (onBlock l .spg spgStopMax) s

/-- NOTCH_UPDATE (R192). -/
def execNotchUpdate (l : LaneId) (s : State) : Host.Outcome State Fault Refusal := lift (onBlock l .spg notchUpdate) s

/-- NOTCH_TRACKER (R192). -/
def execNotchTracker (l : LaneId) (s : State) : Host.Outcome State Fault Refusal :=
  lift (onBlock l .spg notchTrack) s

end Sys2Proof.Machine
end

