-- ==== Sys2Proof/Machine/Drv.lean ====
section
/-!
DEFINITION. The drive link DRV (spec 07): its frames, the judgement of the inverter's frames, LINK, and the loss of the drive.
-/
namespace Sys2Proof.Machine

/-- PEER number of DRV's events. -/
def peerDrv : Nat := 26

/-- A lane with its drive link updated. -/
def Lane.updDrv (L : Lane) (f : Drv → Drv) : Lane := { L with drv := f L.drv }

/-- A loss of the drive (R206): TQEN withdrawn, and the stop sequence from step 4 with SO0 off requested at once. -/
def driveLoss (tq : Bool) (L : Lane) : Lane :=
  let st := L.spgSt
  if st = spgStarting ∨ st = spgStream ∨ st = spgProfile ∨ (st = spgStopping ∧ L.spg.step < 4) then
    let L := (L.updDrvReq false).stick tq F_DRV_STAT_TQOFF_S
    let x := if st = spgStarting then L.spg.hold else if st = spgStream then L.i F_SPG_TGT_TGT
      else if st = spgProfile then L.spg.goalX else L.spg.stopX
    (spgEnterStopping scDrive 4 x L).reqChange fun L => L.updSpg fun g => { g with so0 := false }
  else L

/-- The TX frame (Table 7.7): CRC over bytes 1 to 9, high byte first. -/
def drvFrame (seq : Nat) (tqen ack : Bool) (tref : Int) (tlim : Nat) : Bytes :=
  let body : Bytes := [BitVec.ofNat 8 seq, BitVec.ofNat 8 ((if tqen then 1 else 0) + (if ack then 2 else 0)), 0] ++
    wordBytes (wOf tref) ++ leBytes 2 tlim
  let c := (crc16 body).toNat
  [0x7E#8] ++ body ++ [BitVec.ofNat 8 (c / 256), BitVec.ofNat 8 c]

/-- The torque reference of a period and whether it is clamped (R201); while crossing 20 is closed the drive link keeps the one it has (R52). -/
def drvTref (tq : Bool) (L : Lane) : Int × Bool :=
  let lim : Int := L.f F_DRV_TQLIM_L
  let raw := destValue 1 L
  if !tq then (0, false)
  else if L.xOpen 20 then (clampI (-lim) lim raw, decide (clampI (-lim) lim raw ≠ raw))
  else (L.drv.tref, L.drv.clamped)

/-- A DL_SYNC rise, where F has one (R200, R201): the period's number, TREF and frame, which the holder alone drives on DL_TXD (R205); the standby compares its
TREF with the wire's. The first rise after EN starts the count of R204 (R532). -/
def drvPeriod (wire : OptInt) (L : Lane) : Lane :=
  match instantIn L.fclk 10000 0 with
  | none => L
  | some off =>
    if !L.b F_DRV_CTRL_EN then L
    else
    let tf := L.fclk + off
    let seq := tf / 10000 % 256
    let tq := L.drv.tqReq
    let (tref, clamped) := drvTref tq L
    let tx := drvFrame seq tq (Config.drvFaultAck tf) tref (L.f F_DRV_TQLIM_L / 256)
    let L := L.updDrv fun d => { d with
      seq := seq, tf := tf, gotAny := false, gotGood := false, closed := false, tref := tref, clamped := clamped, tx := tx, txd := L.holder,
      good := if d.sync then d.good else 0, missed := if d.sync then d.missed else 0, sync := true }
    let L := (L.sb F_DRV_STAT_TQEN tq).sb F_DRV_STAT_LIMIT (L.drv.rxLimit || clamped)
    match wire with
    | some w => lnkTqCompare tref w L
    | none => L

/-- The bits of STAT as DRV_STAT shows them, from a good frame (R203). -/
def drvStatus (st fcode : Nat) (L : Lane) : Lane :=
  let b := fun k => st.testBit k
  let L := ((((((L.sb F_DRV_STAT_READY (b 0)).sb F_DRV_STAT_TQ_ON (b 1)).sb F_DRV_STAT_FAULT (b 2)).sb F_DRV_STAT_WARN (b 3)).sb
    F_DRV_STAT_STO_A (b 4)).sb F_DRV_STAT_STO_B (b 5)).sb F_DRV_STAT_LIMIT (b 6 || L.drv.clamped)
  (L.updDrv fun d => { d with rxLimit := b 6 }).s F_DRV_STAT_FCODE fcode

/-- A good frame published (R203), with LINK (R204), the fault flag and the losses of R206. -/
def drvGood (data : Bytes) (L : Lane) : Lane :=
  let byte := fun k => (listGet 0 data k).toNat
  let word := fun k n => leNat ((data.drop k).take n)
  let st := byte 2
  let was := bits (rget L.regs A_DRV_STAT) 29 23
  let (rdy, tqon, flt, tq) := (L.b F_DRV_STAT_READY, L.b F_DRV_STAT_TQ_ON, L.b F_DRV_STAT_FAULT, L.b F_DRV_STAT_TQEN)
  let fault := st.testBit 2
  let ifl := fault && (L.drv.lastFault == some false || L.drv.linkNew)
  let L := drvStatus st (byte 3) L
  let L := (((L.s F_DRV_MPOS_D (word 4 4)).s F_DRV_MVEL_D (word 8 4)).s F_DRV_MCUR_D (word 12 4)).s F_DRV_CAPDLY_D (word 20 2)
  let L := (L.s F_DRV_AUX_VDC (word 16 2)).s F_DRV_AUX_TEMP (word 18 2)
  let L := bobMotor (word 4 4) (signed 32 (word 8 4)) (L.drv.tf + 8 * word 20 2) L
  let L := (L.stick ifl F_DRV_STAT_IFLT_S).eventIf (was != bits (rget L.regs A_DRV_STAT) 29 23) peerDrv (evBit 17)
  let rise := fault && !flt
  let L := L.eventIf rise peerDrv (evBit 18)
  let good := if L.drv.gotGood then L.drv.good else min 8 (L.drv.good + 1)
  let up := decide (8 ≤ good) && !L.b F_DRV_STAT_LINK
  let L := L.updDrv fun d => { d with
    good := good, missed := 0, gotAny := true, gotGood := true, lastFault := some fault, linkNew := up }
  let L := if up then (L.s F_DRV_STAT_LINK 1).event peerDrv (evBit 16) else L
  let lostTq := tq && ((rdy && !st.testBit 0) || (tqon && !st.testBit 1))
  if lostTq || rise then driveLoss lostTq L else L

/-- An RX frame judged and counted under the first check it fails (R202), in a period and where crossing 19 brings it (R52, R532). -/
def drvRx (data : Bytes) (inTime : Bool) (L : Lane) : Lane :=
  if !L.b F_DRV_CTRL_EN || !L.drv.sync || !L.xOpen 19 then L
  else
    let L := L.updDrv fun d => { d with gotAny := true }
    let sum := crc16 ((data.drop 1).take 21)
    if !inTime then (L.inc F_DRV_CNT_LATE).s F_DRV_STAT_LATE_S 1
    else if data.length ≠ 24 ∨ listGet 0 data 0 ≠ 0x7E#8 ∨ beNat (data.drop 22) ≠ sum.toNat then
      (L.inc F_DRV_CNT_CRC).s F_DRV_STAT_CRC_S 1
    else if (listGet 0 data 1).toNat ≠ L.drv.seq then (L.inc F_DRV_CNT_SEQ).s F_DRV_STAT_SEQ_S 1
    else drvGood data L

/-- The window of a period closes without a good frame (R202, R204). -/
def drvClose (L : Lane) : Lane :=
  if !L.b F_DRV_CTRL_EN || L.drv.closed || L.drv.gotGood then L
  else
    let L := if L.drv.gotAny then L else (L.inc F_DRV_CNT_MISS).s F_DRV_STAT_MISS_S 1
    let missed := min 15 (L.drv.missed + 1)
    let L := L.updDrv fun d => { d with closed := true, good := 0, missed := missed }
    if L.f F_DRV_CTRL_NLOST ≤ missed ∧ L.b F_DRV_STAT_LINK then
      driveLoss false (((L.s F_DRV_STAT_LINK 0).s F_DRV_STAT_LOST_S 1).event peerDrv (evBit 16))
    else L

/-- DRV_CTRL.EN written (R532): idle with its fields at 0, or waiting for the next DL_SYNC rise. -/
def drvEn (en : Bool) (L : Lane) : Lane :=
  if L.b F_DRV_CTRL_EN = en then L
  else
    let L := L.sb F_DRV_CTRL_EN en
    if en then L.updDrv fun d => { d with good := 0, missed := 0, closed := true, gotGood := false, lastFault := none, sync := false }
    else
      let was := L.b F_DRV_STAT_LINK
      let L := ((L.s F_DRV_STAT_LINK 0).s F_DRV_STAT_TQEN 0).eventIf was peerDrv (evBit 16)
      let L := if was then driveLoss false L else L
      let L := L.updDrv fun _ => {}
      drvStatus 0 0 L

/-! ### The commands -/

/-- DRV_RX_FRAME (R202). -/
def execDrvRxFrame (data : Bytes) (inTime : Bool) (s : State) : Host.Outcome State Fault Refusal :=
  lift (World.pads fun l => onBlock l .drv (drvRx data inTime)) s

/-- RX_WINDOW_CLOSE (R204). -/
def execRxWindowClose (l : LaneId) (s : State) : Host.Outcome State Fault Refusal := lift (onBlock l .drv drvClose) s

end Sys2Proof.Machine
end

