-- ==== Sys2Proof/Machine/Sel.lean ====
section
/-!
DEFINITION. The Selvedge guard SEL (spec 08): neighbours, claims, clip limits, guard stop and safety stop.
-/
namespace Sys2Proof.Machine

/-- SEL_STAT.STATE (Table 8.2): OFF, INIT, ACTIVE, BLIND. -/
def selOff : Nat := 0
def selInit : Nat := 1
def selActive : Nat := 2
def selBlind : Nat := 3
/-- PEER number of SEL's events, and its status codes. -/
def peerSel : Nat := 29
def selClaimConflict : Nat := 0x40
def selNotReady : Nat := 0x41

/-- A lane with its separation guard updated. -/
def Lane.updSel (L : Lane) (f : Sel → Sel) : Lane := { L with sel := f L.sel }

/-- A change of SEL's state, reported (R215). -/
def Lane.selGo (L : Lane) (st : Nat) : Lane := (L.s F_SEL_STAT_STATE st).event peerSel (evBit 21)

/-- The state follows EN (Table 8.2): OFF drops every claim and gives the full range; EN at 1 starts INIT. -/
def selSync (L : Lane) : Lane :=
  let st := L.f F_SEL_STAT_STATE
  if L.b F_SEL_CFG_EN then
    if st = selOff then (L.updSel fun s => { s with since := L.gtime, initN := 0, okN := 0 }).selGo selInit else L
  else if st = selOff then L
  else
    let L := (L.updSel fun _ => {}).selGo selOff
    let L := (((L.s F_SEL_STAT_PEND 0).s F_SEL_STAT_GRANT 0).s F_SEL_STAT_SSTOP 0).s F_SEL_STAT_PARKED 0
    (((L.s F_SEL_CLIPLO_D 0x80000000).s F_SEL_CLIPHI_D 0x7FFFFFFF).s F_SEL_FREELO_D 0x80000000).s F_SEL_FREEHI_D 0x7FFFFFFF

/-! ### Neighbours (R210 to R214) -/

/-- The record of a group position in the Picot receive area, where a part has handed one over: SHAFT and the record. -/
def selRead (L : Lane) (g : Nat) : Nat × SelRec :=
  let w := fun k => readWord L.tsram (0x38000 + g * 0x80 + 4 * k)
  (bits (w 1) 15 12,
   { stamp := (w 0).toNat + bits (w 1) 31 16 * 2 ^ 32, order := bits (w 1) 11 10, posv := (w 1).getLsbD 9,
     parked := (w 1).getLsbD 8, pend := (w 1).getLsbD 7, p := (w 2).toInt, v := (w 3).toInt, b := (w 4).toNat,
     claimLo := (w 5).toInt, claimHi := (w 6).toInt, ecLo := (w 7).toInt, ecHi := (w 8).toInt,
     esLo := (w 9).toInt, esHi := (w 10).toInt, top := bits (w 11) 31 16, bot := bits (w 11) 15 0 })

/-- Has the group position handed over a record since SEL left OFF? -/
def selHas (L : Lane) (g : Nat) : Bool :=
  (match L.pic.arr[g % 32]'(Nat.mod_lt _ (by decide)) with
    | some t => decide (L.sel.since ≤ t)
    | none => false) && (readWord L.tsram (0x38000 + g * 0x80 + 48)).getLsbD 0

/-- A side's neighbour as SEL_CFG names it: another position, SHAFT or ORDER has none of the records taken for the one before (R211). -/
def selFor (g : Nat) (up : Bool) (L : Lane) : Lane :=
  let key := (g, L.f F_SEL_CFG_SHAFT, L.f F_SEL_CFG_ORDER)
  L.updSel fun s =>
    let f := fun n : SelNb => if n.src = key then n else { src := key }
    if up then { s with above := f s.above } else { s with below := f s.below }

/-- The newest record of a neighbour, taken where R211 does not ignore it. -/
def selTake (g : Nat) (up : Bool) (L : Lane) : Lane :=
  let L := selFor g up L
  if !selHas L g then L
  else
    let (shaft, r) := selRead L g
    let own := L.f F_SEL_CFG_ORDER
    if shaft ≠ L.f F_SEL_CFG_SHAFT ∨ (if up then r.order ≠ own + 1 else r.order + 1 ≠ own) then L.s F_SEL_STAT_CFGMIS_S 1
    else if L.gtime + 10 < r.stamp then (L.inc F_SEL_CNT_FUTURE).s F_SEL_STAT_FUTURE_S 1
    else L.updSel fun s =>
      let f := fun n : SelNb => { n with newest := some r, known := if r.posv then some r else n.known : SelNb }
      if up then { s with above := f s.above } else { s with below := f s.below }

/-- What a neighbour contributes on its side: controlled, safety and claim edges, and whether it is fresh or parked. -/
structure SelEdge where
  nc : Int
  ns : Int
  ncl : Int
  seen : Bool

/-- The age of a record in µs (a stamp slightly ahead counts as 0). -/
def selAge (L : Lane) (r : SelRec) : Nat := L.gtime - r.stamp

/-- The edges of the neighbour above (R212 to R214). -/
def selAbove (L : Lane) (own : Int) : SelEdge :=
  let n := L.sel.above
  let live := match n.newest with
    | some r => if r.posv && (r.parked || decide (selAge L r ≤ 3000)) then some r else none
    | none => none
  match live with
  | some r =>
    let sh := if r.v < 0 ∧ ¬ r.parked then rdiv (absI r.v * selAge L r) 1000000 else 0
    ⟨r.ecLo - sh, r.esLo - sh, r.claimLo - sh, true⟩
  | none =>
    match n.known with
    | some r =>
      let vn : Int := L.f F_SEL_NSTALE0_VNMAX
      let q := r.p - rdiv (vn * selAge L r) 1000
      let e := q - r.bot * 1000 - r.b - (vn * L.f F_SEL_NSTALE1_NSREACT + rdiv (vn * vn * 1000) (2 * L.f F_SEL_NSTALE0_NSDEC))
      ⟨e, e, e, false⟩
    | none =>
      let e := own + L.f F_SEL_EXT_TOPEXT * 1000 + L.bob.pub.bound
      ⟨e, e, e, false⟩

/-- The edges of the neighbour below (R212 to R214). -/
def selBelow (L : Lane) (own : Int) : SelEdge :=
  let n := L.sel.below
  let live := match n.newest with
    | some r => if r.posv && (r.parked || decide (selAge L r ≤ 3000)) then some r else none
    | none => none
  match live with
  | some r =>
    let sh := if 0 < r.v ∧ ¬ r.parked then rdiv (absI r.v * selAge L r) 1000000 else 0
    ⟨r.ecHi + sh, r.esHi + sh, r.claimHi + sh, true⟩
  | none =>
    match n.known with
    | some r =>
      let vn : Int := L.f F_SEL_NSTALE0_VNMAX
      let q := r.p + rdiv (vn * selAge L r) 1000
      let e := q + r.top * 1000 + r.b + (vn * L.f F_SEL_NSTALE1_NSREACT + rdiv (vn * vn * 1000) (2 * L.f F_SEL_NSTALE0_NSDEC))
      ⟨e, e, e, false⟩
    | none =>
      let e := own - L.f F_SEL_EXT_BOTEXT * 1000 - L.bob.pub.bound
      ⟨e, e, e, false⟩

/-- A neighbour's FRESH bit, with the flag, count and event of each change, either way (R213); STALE_S tells that a neighbour was stale (Table 8.3), so
one that is stale from the start sets it without a change (DEDUCED, log 174). -/
def selFresh (fld : Field) (seen : Bool) (L : Lane) : Lane :=
  let L := L.stick (!seen) F_SEL_STAT_STALE_S
  if L.b fld = seen then L
  else (((L.sb fld seen).s F_SEL_STAT_STALE_S 1).inc F_SEL_CNT_STALE).event peerSel (evBit 19)

/-! ### Own quantities (R209) -/

/-- The car's own figures of a cycle, in shaft coordinates. -/
structure SelOwn where
  p : Int
  top : Int
  bot : Int
  ecHi : Int
  ecLo : Int
  esHi : Int
  esLo : Int

/-- The limits a cycle works with (R208): those of R182 in a trip, outside one the installer's in force. -/
def selLimits (L : Lane) : Nat × Nat :=
  if spgStarting ≤ L.spgSt then (L.spg.lims.2.1, L.spg.lims.2.2) else (L.f F_SPG_ILIMA_V, L.f F_SPG_ILIMJ_V)

/-- The controlled and safety reaches toward one side. -/
def selReach (L : Lane) (s : Int) : Int × Int :=
  let v := L.bob.pub.vel
  let a := L.i F_SPG_PUBA_D
  let (A, J) := selLimits L
  if 0 < s * v ∨ (v = 0 ∧ 0 < s * a) then
    let d := dstop A J (absI v * hpgV) (s * a * hpgA)
    (rdiv (500 * d + absI v * hpgP * (J * J : Nat)) (500 * hpgP * (J * J : Nat)),
     rdiv (absI v * L.f F_SEL_SAFE_SREACT * 2 * L.f F_SEL_SAFE_SDEC + v * v) (2000 * L.f F_SEL_SAFE_SDEC))
  else (0, 0)

/-- The own edges of a cycle. -/
def selOwn (L : Lane) : SelOwn :=
  let p := L.bob.pub.pos + L.i F_SEL_OFS_OFS
  let b : Int := L.bob.pub.bound
  let top := L.f F_SEL_EXT_TOPEXT * 1000 + b
  let bot := L.f F_SEL_EXT_BOTEXT * 1000 + b
  let (cu, su) := selReach L 1
  let (cd, sd) := selReach L (-1)
  ⟨p, top, bot, p + top + cu, p - bot - cd, p + top + su, p - bot - sd⟩

/-- The claim edges of a target in own coordinates; of none, those of the position (R209). -/
def selClaimOf (L : Lane) (o : SelOwn) (t : Option Int) : Int × Int :=
  let g := match t with
    | some x => x + L.i F_SEL_OFS_OFS
    | none => o.p
  (min o.ecLo (g - o.bot), max o.ecHi (g + o.top))

/-- The car is at rest: SPG in IDLE and |v| at most 10,000 µm/s. -/
def carAtRest (L : Lane) : Bool := L.spgSt == spgIdle && decide (absI L.bob.pub.vel ≤ 10000)

/-! ### Claims (R217, R218) -/

/-- A grant of the pending claim. -/
def selGrant (t : Int) (L : Lane) : Lane :=
  let L := L.updSel fun s => { s with pending := none, granted := some t }
  ((((L.s F_SEL_STAT_PEND 0).s F_SEL_STAT_GRANT 1).si F_SEL_GRANTED_TGT t)).event peerSel (evBit 20)

/-- A withdrawal of the pending claim. -/
def selWithdraw (L : Lane) : Lane :=
  let L := L.updSel fun s => { s with pending := none }
  ((L.s F_SEL_STAT_PEND 0).s F_SEL_STAT_CONFLICT_S 1).event peerSel (evBit 20)

/-- What one side says to a pending claim that extends toward it: granted, wait, or withdrawn (R218). -/
inductive SelVote where
  | yes
  | wait
  | no
deriving DecidableEq, Repr

/-- The vote of a side: the neighbour fresh with a record stamped 1,000 µs after the claim's first cycle and clear of it. -/
def selVote (L : Lane) (n : SelNb) (seen clear : Bool) (first : Nat) : SelVote :=
  match n.newest with
  | some r =>
    if seen && decide (selAge L r ≤ 3000) && decide (first + 1000 ≤ r.stamp) then
      if clear then .yes
      else if r.pend && decide (r.order < L.f F_SEL_CFG_ORDER) then .no else .wait
    else .wait
  | none => .wait

/-- The pending claim of a cycle: taken up, granted at once where it needs no more space, else by the votes of the sides. -/
def selClaims (o : SelOwn) (a b : SelEdge) (L : Lane) : Lane :=
  let L := match L.sel.newClaim with
    | some t => (L.updSel fun s => { s with newClaim := none, pending := some (t, L.gtime) }).s F_SEL_STAT_PEND 1
    | none => L
  match L.sel.pending with
  | none => L
  | some (t, first) =>
    if L.f F_SEL_STAT_STATE ≠ selActive then L
    else
      let (plo, phi) := selClaimOf L o (some t)
      let (glo, ghi) := selClaimOf L o L.sel.granted
      let m1 : Int := L.f F_SEL_MARGIN0_M1 * 1000
      let up := L.b F_SEL_CFG_NAEN && decide (ghi < phi)
      let dn := L.b F_SEL_CFG_NBEN && decide (plo < glo)
      let va := if up then selVote L L.sel.above a.seen (decide (phi + m1 ≤ a.ncl)) first else .yes
      let vb := if dn then selVote L L.sel.below b.seen (decide (b.ncl ≤ plo - m1)) first else .yes
      if va = .no ∨ vb = .no then selWithdraw L
      else if va = .yes ∧ vb = .yes then selGrant t L
      else L

/-- A write of SEL_CLAIM (R217). -/
def selClaimWrite (t : Word) (L : Lane) : Lane × Nat :=
  let x := t.toInt
  if L.f F_SEL_STAT_STATE ≠ selActive then (L.s F_SEL_STAT_CONFLICT_S 1, selNotReady)
  else if x < L.i F_SEL_FREELO_D ∨ L.i F_SEL_FREEHI_D < x then (L.s F_SEL_STAT_CONFLICT_S 1, selClaimConflict)
  else ((L.updSel fun s => { s with newClaim := some x }).si F_SEL_CLAIM_TGT x, stOk)

/-! ### Limits, gaps and stops (R216, R219 to R224) -/

/-- The free interval published (R216). -/
def selFree (o : SelOwn) (a b : SelEdge) (L : Lane) : Lane :=
  let ofs := L.i F_SEL_OFS_OFS
  let m1 : Int := L.f F_SEL_MARGIN0_M1 * 1000
  let hi := if L.b F_SEL_CFG_NAEN then satS 32 (a.ncl - m1 - o.top - ofs) else 2 ^ 31 - 1
  let lo := if L.b F_SEL_CFG_NBEN then satS 32 (b.ncl + m1 + o.bot - ofs) else -(2 ^ 31)
  (L.si F_SEL_FREEHI_D hi).si F_SEL_FREELO_D lo

/-- The clip limits published (Table 8.2, R219), in own coordinates. -/
def selClipLimits (o : SelOwn) (a b : SelEdge) (L : Lane) : Lane :=
  let ofs := L.i F_SEL_OFS_OFS
  let p := o.p - ofs
  let (lo, hi) :=
    if L.f F_SEL_STAT_STATE ≠ selActive then (p, p)
    else
      let m2 : Int := L.f F_SEL_MARGIN0_M2 * 1000
      let g := match L.sel.granted with
        | some x => x
        | none => p
      let hi0 : Int := if L.b F_SEL_CFG_NAEN then a.nc - m2 - o.top - ofs else 2 ^ 31 - 1
      let lo0 : Int := if L.b F_SEL_CFG_NBEN then b.nc + m2 + o.bot - ofs else -(2 ^ 31)
      let hi := if p ≤ g then min hi0 g else hi0
      let lo := if g ≤ p then max lo0 g else lo0
      if hi < lo then (p, p) else (lo, hi)
  (L.si F_SEL_CLIPHI_D (satS 32 hi)).si F_SEL_CLIPLO_D (satS 32 lo)

/-- The clip limits published last, in own coordinates. -/
def selClip (L : Lane) : Int × Int := (L.i F_SEL_CLIPLO_D, L.i F_SEL_CLIPHI_D)

/-- A clip that cut the target in use recedes with a new publication: event [16] (R220, Table 8.6 step 8). -/
def selRecede (old : Int × Int) (L : Lane) : Lane :=
  let st := L.spgSt
  let x := if st = spgProfile then L.spg.goalX else L.i F_SPG_TGT_TGT
  let new := selClip L
  L.eventIf (L.b F_SEL_STAT_CLIP && decide (spgStarting ≤ st) && decide (st ≤ spgProfile) &&
    ((decide (x = old.2) && decide (old.2 < new.2)) || (decide (x = old.1) && decide (new.1 < old.1)))) peerSel (evBit 16)

/-- The target that SPG uses, where a publication of the clip limits can cut one (R220). -/
def selTarget (L : Lane) : Option Int :=
  let st := L.spgSt
  if st = spgStream ∨ st = spgStarting then some (L.i F_SPG_TGT_TGT)
  else if st = spgProfile ∧ L.f F_SPG_STAT_GOAL ≠ goalHalt then some L.spg.goalX
  else none

/-- What a new publication of the clip limits does to the target in use (R220). Its writes into SPG are posted: at a gate of the control quarter that is
not open they are discarded and counted, while SEL shows the clip (R28). -/
def selClipTarget (L : Lane) : Lane :=
  match selTarget L with
  | none => L
  | some t =>
    let x := selClamp L t
    if x = t then L
    else if L.gateState 0 ≠ gOpen then (selClipShow L).inc F_SYS_DGCNT_ABORTS
    else if L.spgSt = spgStream then spgToTarget scSel L
    else if L.spgSt = spgProfile then (spgClip x L).updSpg fun g => { g with goalX := x }
    else
      let L := spgClip x L
      if absI (x - L.bob.pub.pos) ≤ (L.f F_SPG_STOP_STOPTOL : Int) then spgAbort scSel L else L

/-- A guard stop (R221): a start abort, or PROFILE with goal HALT, unless one stands; a posted write into SPG (R28). -/
def selGuardStop (L : Lane) : Lane :=
  let st := L.spgSt
  let stands := L.b F_SEL_STAT_GSTOP && decide (st = spgProfile) && decide (L.f F_SPG_STAT_GOAL = goalHalt)
  if stands ∨ ¬ (st = spgStarting ∨ st = spgStream ∨ st = spgProfile) then L
  else
    let L := L.posted 0 fun L => if st = spgStarting then spgAbort scSel L else spgToHalt scSel L
    (((L.s F_SEL_STAT_GSTOP 1).s F_SEL_STAT_GSTOP_S 1).inc F_SEL_CNT_GSTOP).event peerSel (evBit 17)

/-- A gap in mm, saturating at ±32767. -/
def gapMm (x : Int) : Int := clampI (-32767) 32767 (rdiv x 1000)

/-- The gaps of a cycle, each the largest number where the side has no neighbour: controlled above, below; safety above,
below. -/
def selGaps (o : SelOwn) (a b : SelEdge) (L : Lane) : Int × Int × Int × Int :=
  let na := L.b F_SEL_CFG_NAEN
  let nb := L.b F_SEL_CFG_NBEN
  let none : Int := 32767000
  (if na then a.nc - o.ecHi else none, if nb then o.ecLo - b.nc else none,
   if na then a.ns - o.esHi else none, if nb then o.esLo - b.ns else none)

/-- The stops of a cycle (R221 to R223). -/
def selStops (gca gcb gsa gsb : Int) (L : Lane) : Lane :=
  let m3 : Int := L.f F_SEL_MARGIN1_M3 * 1000
  let ms : Int := L.f F_SEL_MARGIN1_MS * 1000
  let near := (L.b F_SEL_CFG_NAEN && decide (gca < m3)) || (L.b F_SEL_CFG_NBEN && decide (gcb < m3))
  let tight := (L.b F_SEL_CFG_NAEN && decide (gsa < ms)) || (L.b F_SEL_CFG_NBEN && decide (gsb < ms))
  let rest := carAtRest L
  let st := L.f F_SEL_STAT_STATE
  let ss := !rest && (tight || st == selBlind)
  let L := if near ∨ (st ≠ selActive ∧ ¬ rest) then selGuardStop L else L
  let was := L.b F_SEL_STAT_SSTOP
  ((L.sb F_SEL_STAT_SSTOP ss).stick ss F_SEL_STAT_SSTOP_S).eventIf (ss && !was) peerSel (evBit 18)

/-- The state of a cycle (Table 8.2). -/
def selState (allSeen posv : Bool) (L : Lane) : Lane :=
  let st := L.f F_SEL_STAT_STATE
  if st = selInit then
    let L := L.updSel fun s => { s with initN := min 10 (s.initN + 1), okN := if allSeen then min 10 (s.okN + 1) else 0 }
    if posv ∧ L.sel.initN = 10 ∧ L.sel.okN = 10 then L.selGo selActive else L
  else if st = selActive then (if posv then L else L.selGo selBlind)
  else if posv then (L.updSel fun s => { s with initN := 0, okN := 0 }).selGo selInit
  else L

/-- The separation record of a cycle (Table 8.1). -/
def selRecord (o : SelOwn) (L : Lane) : List Word :=
  let t := match L.sel.pending with
    | some (x, _) => some x
    | none => L.sel.granted
  let (clo, chi) := selClaimOf L o t
  let bit := fun (b : Bool) (k : Nat) => if b then 2 ^ k else 0
  let w1 := (L.gtime / 2 ^ 32) % 65536 * 65536 + L.f F_SEL_CFG_SHAFT * 4096 + L.f F_SEL_CFG_ORDER * 1024 +
    bit (L.b F_BOB_STAT_POSV && L.f F_SEL_STAT_STATE != selBlind) 9 + bit (L.b F_SEL_STAT_PARKED) 8 +
    bit L.sel.pending.isSome 7 + bit (L.b F_SEL_STAT_GSTOP) 6 + bit (L.b F_SEL_STAT_SSTOP) 5 + groupPos L
  let sw := fun x : Int => wOf (satS 32 x)
  [BitVec.ofNat 32 L.gtime, BitVec.ofNat 32 w1, sw o.p, wOf L.bob.pub.vel, BitVec.ofNat 32 L.bob.pub.bound,
   sw clo, sw chi, sw o.ecLo, sw o.ecHi, sw o.esLo, sw o.esHi,
   BitVec.ofNat 32 (L.f F_SEL_EXT_TOPEXT * 65536 + L.f F_SEL_EXT_BOTEXT)]

/-- The report to the lane's SEB, numbered, with the safety gaps (R224). -/
def selReport (gsa gsb : Int) (L : Lane) : Lane :=
  let L := L.updSel fun s => { s with repSeq := (s.repSeq + 1) % 256 }
  sebSelReport ⟨L.sel.repSeq, L.f F_SEL_STAT_STATE, gsa, gsb⟩ L

/-- A SEL cycle, where F has one (R208), knowing whether both SEBs report SO0 and SO1 off. -/
def selCycle (pairsOff : Bool) (L : Lane) : Lane :=
  if (instantIn L.fclk 80000 0).isNone then L
  else
  let L := selSync L
  if !L.b F_SEL_CFG_EN then selReport 32767000 32767000 (L.updSel fun s => { s with record := none })
  else
    let na := L.b F_SEL_CFG_NAEN
    let nb := L.b F_SEL_CFG_NBEN
    let L := if na then selTake (L.f F_SEL_CFG_NABOVE) true L else L
    let L := if nb then selTake (L.f F_SEL_CFG_NBELOW) false L else L
    let o := selOwn L
    let a := selAbove L o.p
    let b := selBelow L o.p
    let age := fun n : SelNb => match n.newest with
      | some r => min 65535 (selAge L r)
      | none => 65535
    let L := (L.s F_SEL_AGE_ABOVE (if na then age L.sel.above else 65535)).s F_SEL_AGE_BELOW
      (if nb then age L.sel.below else 65535)
    let L := if na then selFresh F_SEL_STAT_AFRESH a.seen L else L.s F_SEL_STAT_AFRESH 0
    let L := if nb then selFresh F_SEL_STAT_BFRESH b.seen L else L.s F_SEL_STAT_BFRESH 0
    let L := selState ((!na || a.seen) && (!nb || b.seen)) (L.b F_BOB_STAT_POSV) L
    let parked := L.b F_SEL_CTRL_PARK && carAtRest L && pairsOff
    let L := selClaims o a b (L.sb F_SEL_STAT_PARKED parked)
    let old := selClip L
    let L := selClipLimits o a b (selFree o a b L)
    let (gca, gcb, gsa, gsb) := selGaps o a b L
    let L := (L.si F_SEL_GAPC_ABOVE (gapMm gca)).si F_SEL_GAPC_BELOW (gapMm gcb)
    let L := (L.si F_SEL_GAPS_ABOVE (gapMm gsa)).si F_SEL_GAPS_BELOW (gapMm gsb)
    let L := selStops gca gcb gsa gsb (if L.up .spg then selClipTarget (selRecede old L) else L)
    selReport gsa gsb (L.updSel fun s => { s with record := some (selRecord o L) })

end Sys2Proof.Machine
end

