-- ==== Sys2Proof/Machine/Prk.lean ====
section
/-!
DEFINITION. The Pricking unit PRK (spec 10): stop list and publication, submissions and answers, the evaluator, the call table,
reallocation and the mirror.
-/
namespace Sys2Proof.Machine

/-- PEER number of PRK's events, and its status code. -/
def peerPrk : Nat := 30
def prkNotMaster : Nat := 0x40
/-- Answer codes and reasons (Table 10.5). -/
def anAssigned : Nat := 1
def anDelayed : Nat := 2
def anRedirect : Nat := 3
def anRefused : Nat := 4
def reFull : Nat := 1
def reLocked : Nat := 2
def reOutOfService : Nat := 3
def reDenied : Nat := 4
/-- Call states (Table 10.7). -/
def csAssigned : Nat := 1
def csDelayed : Nat := 2
def csHeld : Nat := 3
def csEval : Nat := 4

/-- A lane with its dispatcher updated. -/
def Lane.updPrk (L : Lane) (f : Prk → Prk) : Lane := { L with prk := f L.prk }

/-! ### Stop list and publication (R261, R262) -/

/-- Word k of stop list entry i. -/
def slWord (L : Lane) (i k : Nat) : Word := L.ts (0x20000 + 32 * i + 4 * k)

/-- A stop list entry keeps Table 10.1. -/
def slOk (w0 w1 : Word) : Bool := bits w0 9 8 != 0 && bits w0 11 10 != 3 && bits w0 31 18 == 0 && bits w1 31 15 == 0

/-- The itinerary record of a stop list entry (Table 10.3). -/
def slRecord (w0 w1 : Word) : Word :=
  let b := fun k => if w0.getLsbD k then 1 else 0
  BitVec.ofNat 32 (bits w0 11 0 + b 12 * 4096 + b 13 * 8192 + b 14 * 16384 + b 16 * 32768 + bits w1 6 0 * 65536 +
    bits w1 14 8 * 2 ^ 23)

/-- The publication of a stop list of n entries (R262): the header and the records into the publication buffer. -/
def slPublish (n0 : Nat) (L : Lane) : Lane × Nat :=
  let n := min 128 n0
  if !((List.range n).all fun i => slOk (slWord L i 0) (slWord L i 1)) then (L, stBadValue)
  else
    let m := min 64 n
    let recs := (List.range m).map fun i => slRecord (slWord L i 0) (slWord L i 1)
    let seq := (L.prk.seq + 1) % 65536
    let w2 := setBits (rget L.regs (A_PRK_CVIEW 0)) 31 24 m
    let w3 := setBits (rget L.regs (A_PRK_CVIEW 1)) 31 24 n
    let head := [BitVec.ofNat 32 L.gtime, BitVec.ofNat 32 (seq * 65536 + L.gtime / 2 ^ 32 % 65536), w2, w3,
      rget L.regs (A_PRK_CVIEW 2), rget L.regs (A_PRK_CVIEW 3)] ++ List.replicate 10 0
    (((L.updPrk fun p => { p with seq := seq, pub := head ++ recs }).s F_PRK_SLPUB_COUNT n).stick (128 < n0)
      F_PRK_STAT_TRUNC_S, stOk)

/-! ### Car views (Tables 10.2, 10.3) -/

/-- A stop of an itinerary, or of a trial itinerary: its height, landing, decks, departure direction, COMMITTED, DROP, the
passengers, whether it pays the accessibility dwell, whether it was there before the trial. -/
structure PStop where
  h : Int
  land : Nat
  decks : Nat
  dir : Nat
  comm : Bool
  drop : Bool
  board : Int
  alight : Int
  acc : Bool
  orig : Bool

/-- A car view. -/
structure CarView where
  stamp : Nat
  nextc : Nat
  dir : Nat
  inserv : Bool
  acccap : Bool
  emcap : Bool
  dd : Bool
  freev : Bool
  loadpct : Nat
  slcount : Nat
  freelo : Nat
  freehi : Nat
  tnext : Nat
  svland : Nat
  svdecks : Nat
  svdir : Nat
  sseq : Nat
  stops : List PStop

/-- The height of a landing (landing RAM). -/
def landH (L : Lane) (x : Nat) : Int := L.i (F_PRK_LANDH_HEIGHT (x % 256))

/-- The car view of a group position. -/
def carView (L : Lane) (g : Nat) : CarView :=
  let w := fun k => L.ts (0x3C000 + 0x200 * g + 4 * k)
  let r := fun i => L.ts (0x3C000 + 0x200 * g + 0x40 + 4 * i)
  { stamp := (w 0).toNat + bits (w 1) 15 0 * 2 ^ 32, nextc := bits (w 2) 15 8, dir := bits (w 2) 17 16,
    inserv := (w 2).getLsbD 18, acccap := (w 2).getLsbD 19, emcap := (w 2).getLsbD 20, dd := (w 2).getLsbD 21,
    freev := (w 2).getLsbD 23, loadpct := bits (w 3) 23 16, slcount := bits (w 3) 31 24, freelo := bits (w 4) 7 0,
    freehi := bits (w 4) 15 8, tnext := bits (w 4) 31 16, svland := bits (w 5) 7 0, svdecks := bits (w 5) 9 8,
    svdir := bits (w 5) 11 10, sseq := bits (w 5) 31 16,
    stops := (List.range (min 64 (bits (w 2) 31 24))).map fun i =>
      { h := landH L (bits (r i) 7 0), land := bits (r i) 7 0, decks := bits (r i) 9 8, dir := bits (r i) 11 10,
        comm := (r i).getLsbD 15, drop := (r i).getLsbD 13, board := bits (r i) 22 16, alight := bits (r i) 29 23, acc := false, orig := true } }

/-- The age of a view in µs. -/
def viewAge (L : Lane) (v : CarView) : Nat := L.gtime - v.stamp

/-- A view is stale (R266). -/
def viewStale (L : Lane) (v : CarView) : Bool := decide (L.f F_PRK_DISP_VSTALE * 10000 < viewAge L v)

/-! ### Submissions and calls (Tables 10.4, 10.6) -/

/-- A call: a submission, or the entry of one. -/
structure Call where
  node : Nat
  type : Nat
  cls : Nat
  acc : Bool
  reann : Bool
  tseq : Nat
  origin : Nat
  dest : Nat
  pax : Nat
  pcar : Nat
  pcarv : Bool
  host : Nat
  tcall : Nat

/-- The call a submission makes. -/
def subCall (s : List Word) : Call :=
  let w := fun k => listGet 0 s k
  { node := bits (w 0) 10 0, type := bits (w 0) 17 16, cls := bits (w 0) 19 18, acc := (w 0).getLsbD 20,
    reann := (w 0).getLsbD 21, tseq := bits (w 0) 31 24, origin := bits (w 1) 7 0, dest := bits (w 1) 15 8,
    pax := bits (w 1) 21 16, pcar := bits (w 1) 26 22, pcarv := (w 1).getLsbD 27,
    host := bits (w 1) 31 28 + 16 * bits (w 0) 23 23, tcall := (w 2).toNat + bits (w 3) 15 0 * 2 ^ 32 }

/-- Word k of call table entry e. -/
def ctWord (L : Lane) (e k : Nat) : Word := L.ts (32 * e + 4 * k)

/-- The state of an entry. -/
def ctState (L : Lane) (e : Nat) : Nat := bits (ctWord L e 0) 2 0

/-- The car of an entry. -/
def ctCar (L : Lane) (e : Nat) : Nat := bits (ctWord L e 0) 12 8

/-- The host position of an entry's terminal: as its submission gave it; unknown for an entry taken from a mirror. -/
def ctHost (L : Lane) (e : Nat) : Nat :=
  match L.prk.hostOf.find? fun p => p.1 = e with
  | some p => p.2
  | none => Config.prkHostpos e % 32

/-- The call an entry holds. -/
def ctCall (L : Lane) (e : Nat) : Call :=
  let w := fun k => ctWord L e k
  { node := bits (w 1) 10 0, type := bits (w 0) 6 5, cls := bits (w 0) 4 3, acc := (w 0).getLsbD 7, reann := false,
    tseq := bits (w 0) 31 24, origin := bits (w 1) 23 16, dest := bits (w 1) 31 24, pax := bits (w 0) 23 18, pcar := 0,
    pcarv := false, host := ctHost L e, tcall := (w 2).toNat + bits (w 3) 15 0 * 2 ^ 32 }

/-- The entries in use, in index order, read off the listed bytes of the table. -/
def ctLive (L : Lane) : List Nat :=
  L.tsram.filterMap fun (a, b) => if a < 0x20000 ∧ a % 32 = 0 ∧ b.toNat % 8 ≠ 0 then some (a / 32) else none

/-- The direction of a call: up? -/
def callUp (L : Lane) (c : Call) : Bool :=
  if c.type = 2 then decide (landH L c.origin < landH L c.dest) else c.type == 0

/-- An entry written (R276), marked for the next mirror set. -/
def ctWrite (e : Nat) (ws : List Word) (L : Lane) : Lane :=
  (L.tsWrite (32 * (e % 4096)) ws).updPrk fun p => { p with changed := sput false p.changed e true }

/-- The mirror sequence of the set that will carry a change made now. -/
def nextMseq (L : Lane) : Nat := (L.f F_PRK_MIRROR_MSEQ + 1) % 65536

/-- An entry freed; no forced reallocation of it waits any longer. -/
def ctFree (e : Nat) (L : Lane) : Lane :=
  (ctWrite e [0, 0, 0, 0, 0, 0, BitVec.ofNat 32 (nextMseq L), 0] L).updPrk fun p =>
    { p with hostOf := p.hostOf.filter (fun x => x.1 != e), forced := p.forced.filter (· != e), denied := p.denied.filter (· != e) }

/-- An entry of a call with its state, car, deck, moves, wait (100 ms), cost and ETA (Table 10.6). -/
def ctStore (e : Nat) (c : Call) (st car deck reas wait cost eta : Nat) (L : Lane) : Lane :=
  let w0 := st + c.cls * 8 + c.type * 32 + (if c.acc then 128 else 0) + car % 32 * 256 + deck % 2 * 2 ^ 13 +
    min 15 reas * 2 ^ 14 + c.pax % 64 * 2 ^ 18 + c.tseq % 256 * 2 ^ 24
  let L := ctWrite e [BitVec.ofNat 32 w0, BitVec.ofNat 32 (c.node + c.origin * 2 ^ 16 + c.dest * 2 ^ 24),
    BitVec.ofNat 32 c.tcall, BitVec.ofNat 32 (c.tcall / 2 ^ 32 % 65536 + min 65535 wait * 65536), BitVec.ofNat 32 cost,
    BitVec.ofNat 32 eta, BitVec.ofNat 32 (nextMseq L), 0] L
  L.updPrk fun p => { p with hostOf := (e, c.host) :: p.hostOf.filter fun x => x.1 != e }

/-- Is the pickup of a call COMMITTED in a car's itinerary? -/
def committed (L : Lane) (c : Call) (car deck : Nat) : Bool :=
  let d := if callUp L c then 1 else 2
  (carView L car).stops.any fun s => s.land == c.origin && s.decks.testBit deck && s.dir == d && s.comm

/-! ### The evaluator (R277, R278) -/

/-- Travel time over a distance, 10 ms units, interpolated as TINT does; 0 below the first breakpoint. -/
def travel (L : Lane) (dist : Int) : Int :=
  let d := fun k => L.i (F_PRK_TTABD_D k)
  let t := fun k => (L.f (F_PRK_TTABT_T k) : Int)
  if dist < d 0 then 0
  else
    match (List.range 31).find? fun k => decide (dist < d (k + 1)) with
    | some k => if d (k + 1) ≤ d k then t k else t k + rdiv ((t (k + 1) - t k) * (dist - d k)) (d (k + 1) - d k)
    | none => t 31

/-- The dwell at a stop, 10 ms units. -/
def dwell (L : Lane) (s : PStop) : Int :=
  L.f F_PRK_DWELL_DW0 * 10 + L.f F_PRK_DWELL_DWP * (s.board + s.alight) + (if s.acc then L.f F_PRK_DWELL_DWACC * 10 else 0)

/-- The arrival times at the stops of an itinerary, from a height, a time and a dwell before. -/
def arrivals (L : Lane) (h t dw : Int) : List PStop → List Int
  | [] => []
  | s :: r =>
    let a := t + dw + travel L (absI (s.h - h))
    a :: arrivals L s.h a (dwell L s) r

/-- Does a height lie strictly between two others? -/
def between (a x b : Int) : Bool := (decide (a < x) && decide (x < b)) || (decide (b < x) && decide (x < a))

/-- The place of the drop-off in a trial itinerary, from its pickup on (R278): the index, and whether it merges into that stop. The first leg that runs
against the call, the pickup's own among them, ends at its turnaround. -/
def dropAt (up : Bool) (hd : Int) (land deck : Nat) : Nat → List PStop → Nat × Bool
  | k, p :: q :: r =>
    let back := if up then decide (q.h < p.h) else decide (p.h < q.h)
    if q.land = land ∧ q.decks.testBit deck then (k + 1, true)
    else if between p.h hd q.h ∨ back then (k + 1, false)
    else dropAt up hd land deck (k + 1) (q :: r)
  | k, _ => (k + 1, false)

/-- A list with one element replaced. -/
def setAt {α : Type} (l : List α) (i : Nat) (f : α → α) : List α :=
  l.zipIdx.map fun (x, k) => if k = i then f x else x

/-- A list with an element put in before an index. -/
def putAt {α : Type} (l : List α) (i : Nat) (x : α) : List α := l.take i ++ x :: l.drop i

/-- A valid candidate: its car and place, cost, wait from TCALL and arrival from now (10 ms), and deck. -/
structure Cand where
  g : Nat
  i : Nat
  cost : Nat
  wait : Int
  arr : Int
  deck : Nat
  sat : Bool

/-- The pickup's merge into a record at or before the place. -/
def mergeOf (stops : List PStop) (i origin deck dir : Nat) : Option Nat :=
  let m := fun s : PStop => s.land == origin && s.decks.testBit deck && s.dir == dir
  match stops[i]? with
  | some s => if m s then some i else
      (if i = 0 then none else match stops[i - 1]? with | some q => if m q then some (i - 1) else none | none => none)
  | none => if i = 0 then none else match stops[i - 1]? with | some q => if m q then some (i - 1) else none | none => none

/-- The way a record is left: its direction, or without one the way to the next landing (1 up, 2 down, 0 none). -/
def leaves (s : PStop) (r : List PStop) : Nat :=
  if s.dir = 1 ∨ s.dir = 2 then s.dir
  else match r.find? fun q => decide (q.h ≠ s.h) with
    | some q => if s.h < q.h then 1 else 2
    | none => 0

/-- A turnaround toward the opposite of a call's direction among the first i records (R277): one reached in that direction and left against it. A record
at the height of the one before is reached as that one was left, record 0 at NEXTC in the car's own direction. -/
def turnedBefore (up : Bool) : Nat → Int → Nat → List PStop → Bool
  | i + 1, h, way, s :: r =>
    let came := if h < s.h then 1 else if s.h < h then 2 else way
    let left := leaves s r
    (came == (if up then 1 else 2) && left == (if up then 2 else 1)) || turnedBefore up i s.h (if left = 0 then came else left) r
  | _, _, _, _ => false

/-- The candidate (g, i) of a call, where it is valid (R277), with its cost (R278). -/
def candidate (L : Lane) (v : CarView) (g i : Nat) (c : Call) : Option Cand :=
  let up := callUp L c
  let dir := if up then 1 else 2
  let deck := if v.dd then L.f (F_PRK_LANDX_DECKPREF c.origin) else 0
  let h0 := landH L v.nextc
  let m := v.stops.length
  let ho := landH L c.origin
  let hd := landH L c.dest
  let hp := if i = 0 then h0 else listGet h0 (v.stops.map (·.h)) (i - 1)
  let mg := mergeOf v.stops i c.origin deck dir
  let leg := match v.stops[i]? with
    | some s => between hp ho s.h && (if up then decide (hp < s.h) else decide (s.h < hp))
    | none => true
  let beyond := (v.dir == 1 && decide (h0 < ho)) || (v.dir == 2 && decide (ho < h0))
  let placed := mg.isSome || leg || (c.cls == 3 && i == 0 && beyond)
  let x : PStop := ⟨ho, c.origin, 2 ^ deck, dir, false, false, c.pax, 0, c.acc, false⟩
  let xi := mg.getD i
  let t1 := match mg with
    | some k => setAt v.stops k fun s => { s with board := s.board + c.pax, acc := s.acc || c.acc }
    | none => putAt v.stops i x
  let (di, dm) := dropAt up hd c.dest deck xi (t1.drop xi)
  let t2 := if c.type ≠ 2 then t1
    else if dm then setAt t1 di fun s => { s with alight := s.alight + c.pax }
    else putAt t1 di ⟨hd, c.dest, 2 ^ deck, 0, false, true, 0, c.pax, false, false⟩
  let base := arrivals L h0 v.tnext 0 v.stops
  let arr := arrivals L h0 v.tnext 0 t2
  let ax := listGet 0 arr xi
  let ad := listGet 0 arr di
  let dwx := match t2[xi]? with | some s => dwell L s | none => 0
  let delay := ((t2.zip arr).filter fun p => p.1.orig).map (·.2)
  let dsum : Int := ((List.range m).map fun j =>
    if j < i then 0
    else match v.stops[j]? with
      | some s => (s.board + s.alight) * (listGet 0 delay j - listGet 0 base j)
      | none => 0).foldl (· + ·) 0
  let comm := match mg with | some k => (match v.stops[k]? with | some s => s.comm | none => false) | none => false
  let added := (if mg.isSome then 0 else 1) + (if c.type = 2 ∧ ¬ dm then 1 else 0)
  let ok := placed && decide (v.slcount + added ≤ 128) &&
    (decide ((L.f F_PRK_DISP_HORIZON * 10 : Nat) ≤ ax) || (mg.isSome && !comm)) &&
    (decide (i = m) || !turnedBefore up i h0 v.dir v.stops) &&
    (!v.freev || (decide (v.freelo ≤ c.origin ∧ c.origin ≤ v.freehi) &&
      (c.type != 2 || decide (v.freelo ≤ c.dest ∧ c.dest ≤ v.freehi))))
  if !ok then none
  else
    let mode := L.f F_PRK_MODE_MODE
    let ws := if mode < 4 then bits (rget L.regs A_PRK_MODE) (17 + 2 * mode) (16 + 2 * mode) else 0
    let wait := rdiv ((L.gtime : Int) - c.tcall) 10000 + ax
    let ride : Int := if c.type = 2 then ad - ax - dwx else 0
    let load : Int := v.loadpct + rdiv (L.f F_PRK_LOAD_PPCT *
      (((v.stops.take xi).map fun s => s.board - s.alight).foldl (· + ·) 0)) 10
    let cw := bits (rget L.regs A_PRK_CLASSW) (8 * c.cls + 7) (8 * c.cls)
    let cost : Int := rnd (cw * (rnd (L.f (F_PRK_WSETA_WW ws) * wait) 8 + rnd (L.f (F_PRK_WSETA_WR ws) * ride) 8)) 4 +
      (if c.cls = 3 then 0 else rnd (L.f (F_PRK_WSETB_WD ws) * dsum) 8) + L.f (F_PRK_WSETB_WS ws) * added +
      rnd (L.f (F_PRK_WSETC_WL ws) * max 0 (load - L.f F_PRK_LOAD_LOADT)) 8
    some ⟨g, i, (satU 32 cost).toNat, wait, ax, deck, decide ((2 ^ 32 - 1 : Int) < cost)⟩

/-- The better of two candidates: lower cost, then the earlier found. -/
def better (a : Option Cand) (b : Option Cand) : Option Cand :=
  match a, b with
  | some x, some y => if y.cost < x.cost then b else a
  | none, _ => b
  | _, none => a

/-- The valid candidates of one car, by place. -/
def candsOf (L : Lane) (v : CarView) (g : Nat) (c : Call) : List Cand :=
  (List.range (v.stops.length + 1)).filterMap fun i => candidate L v g i c

/-- The valid candidates over the cars of a mask, those in bypass left out; one car's view may be replaced. -/
def evaluate (L : Lane) (mask : Nat) (c : Call) (own : Option (Nat × CarView)) : List Cand :=
  (List.range 32).flatMap fun g =>
    if mask.testBit g && !getBit L.regs F_PRK_BYPASS_M g then
      let v := match own with
        | some (k, u) => if k = g then u else carView L g
        | none => carView L g
      candsOf L v g c
    else []

/-- The best of the candidates of an evaluation. -/
def bestOf (cs : List Cand) : Option Cand := cs.foldl (fun best k => better best (some k)) none

/-- SAT_S after an evaluation: a cost has saturated, be it the best or not (R278). -/
def satMark (cs : List Cand) (L : Lane) : Lane := L.stick (cs.any fun k => k.sat) F_PRK_STAT_SAT_S

/-! ### Answers (R268, R270) -/

/-- An answer record (Table 10.5). -/
structure Ans where
  code : Nat
  rep : Bool := false
  reass : Bool := false
  reason : Nat := 0
  car : Option Nat := none
  deck : Nat := 0
  old : Option Nat := none
  wait : Nat := 0xFFFF
  redir : Nat := 0
  tland : Nat := 0
  entry : Option Nat := none

/-- Its four words. -/
def ansWords (c : Call) (a : Ans) (t : Nat) : List Word :=
  let b := fun (x : Bool) (k : Nat) => if x then 2 ^ k else 0
  [BitVec.ofNat 32 (c.node + c.host % 32 * 2 ^ 11 + a.code * 2 ^ 16 + b a.rep 19 + b a.reass 20 + a.reason * 2 ^ 21 + c.tseq * 2 ^ 24),
   BitVec.ofNat 32 (a.car.getD 0 + b a.car.isSome 5 + a.deck * 64 + a.old.getD 0 * 256 + b a.old.isSome 13 + min 65535 a.wait * 65536),
   BitVec.ofNat 32 (a.redir % 256 + a.tland % 256 * 256 + a.entry.getD 0 * 65536 + b a.entry.isSome 28),
   BitVec.ofNat 32 t]

/-- The remembered answers that are younger than 10 s. -/
def cacheLive (L : Lane) : List PrkAnswer := L.prk.cache.filter fun r => decide (L.gtime < r.time + 10000000)

/-- An answer record put in the FIFO: its event, its counts, and its place in the recent-answer cache, in that of an earlier answer to the same
submission (R270). An evaluation that starts with 31 records waiting and evicts a call gives two: the second is kept as the thirty-third, and ALEVEL
shows 32 until one is removed (DESIGN CHOICE, log 150). -/
def prkAnswer (c : Call) (a : Ans) (L : Lane) : Lane :=
  let ws := ansWords c a L.gtime
  let L := (L.updPrk fun p => { p with answers := p.answers ++ [ws] }).event peerPrk (evBit 16)
  let L := if a.code = anAssigned then L.inc F_PRK_CNT0_ASSIGNED else if a.code = anDelayed then L.inc F_PRK_CNT0_DELAYED
    else if a.code = anRedirect then L.inc F_PRK_CNT1_REDIRECT else L.inc F_PRK_CNT1_REFUSED
  let L := if a.reass then L.inc F_PRK_CNT2_REASSIGNED else L
  let L := if a.rep then L.inc F_PRK_CNT2_REPEAT else L
  let live := (cacheLive L).filter fun r => !(r.node == c.node && r.host == c.host && r.tseq == c.tseq)
  let L := L.stick (256 ≤ live.length) F_PRK_STAT_CACHE_S
  L.updPrk fun p => { p with cache := ⟨c.node, c.host, c.tseq, ws, L.gtime⟩ :: live.take 255 }

/-- General entries in use by class 0, in percent of what class 0 may take. -/
def nocc (L : Lane) : Nat :=
  let n := ((ctLive L).filter fun e => decide (e < 3840) && bits (ctWord L e 0) 4 3 == 0).length
  min 127 (n * 100 / (3840 - L.f F_PRK_DISP_EMRSV))

/-- The answer to a candidate: ASSIGNED, or DELAYED where the wait or the occupancy is too high (R269). -/
def candAns (L : Lane) (c : Call) (k : Cand) (e : Nat) : Ans :=
  let late := decide (c.cls < 3) &&
    (decide ((L.f F_PRK_DISP_DELAYT * 100 : Nat) < k.wait) || decide (90 < nocc L))
  { code := if late then anDelayed else anAssigned, car := some k.g, deck := k.deck, wait := (rdiv k.arr 10).toNat, entry := some e }

/-- An entry stored for a candidate, with the answer given. -/
def ctAssign (e : Nat) (c : Call) (k : Cand) (reas : Nat) (a : Ans) (L : Lane) : Lane :=
  ctStore e c (if a.code = anDelayed then csDelayed else csAssigned) k.g k.deck reas (rdiv k.wait 10).toNat k.cost
    (L.gtime + k.arr.toNat * 10000) L

/-! ### Deciding (R269 to R273) -/

/-- PRK's levels, head record and occupancy as its registers show them. -/
def prkShow (L : Lane) : Lane :=
  let p := L.prk
  let L := ((L.s F_PRK_STAT_QLEVEL p.subs.length).s F_PRK_STAT_ALEVEL (min 32 p.answers.length)).s F_PRK_STAT_NOCC (nocc L)
  let a := p.answers.headD []
  (List.range 4).foldl (fun L k => { L with regs := rput L.regs (A_PRK_ANS k) (listGet 0 a k) }) L

/-- The lowest free entry of a range. -/
def freeIn (L : Lane) (lo hi : Nat) : Option Nat :=
  ((List.range (hi - lo)).find? fun k => ctState L (lo + k) == 0).map (· + lo)

/-- The entry a call may take (R272). -/
def ctAlloc (L : Lane) (cls : Nat) : Option Nat :=
  let used := ((ctLive L).filter fun e => decide (e < 3840)).length
  let general := if cls = 3 ∨ used < 3840 - L.f F_PRK_DISP_EMRSV then freeIn L 0 3840 else none
  if cls = 1 ∨ cls = 2 then (match freeIn L 3840 4096 with | some e => some e | none => general) else general

/-- Does a mode accept a class? (Table 10.8) -/
def modeTakes (mode cls : Nat) : Bool := if mode = 4 then cls == 3 else if mode = 5 then decide (2 ≤ cls) else true

/-- The cars a call may be evaluated over (R269). -/
def carsFor (L : Lane) (c : Call) : Nat :=
  let d := if c.type = 2 then c.dest else c.origin
  let m := L.f (F_PRK_LANDC_CARMASK c.origin) &&& L.f (F_PRK_LANDC_CARMASK d) &&& L.f F_PRK_INSERV_M
  let m := if c.cls = 3 then m &&& L.f F_PRK_EMCARS_M else m
  (List.range 32).foldl (fun n g =>
    let v := carView L g
    if m.testBit g && (!c.acc || v.acccap) && (c.cls != 3 || v.emcap) then n + 2 ^ g else n) 0

/-- The entry R273 evicts for a class 3 call: the newest, class 0 first, then class 1 and 2 of the general pool, not
COMMITTED. -/
def evictee (L : Lane) : Option Nat :=
  let pick := fun cls => (ctLive L).foldl (fun best e =>
    let w := ctWord L e 0
    let c := ctCall L e
    if bits w 4 3 = cls ∧ (bits w 2 0 = csAssigned ∨ bits w 2 0 = csDelayed) ∧ e < 3840 ∧
        committed L c (ctCar L e) (bits w 13 13) = false then
      (match best with
        | some b => if (ctCall L b).tcall ≤ c.tcall then some e else best
        | none => some e)
    else best) (none : Option Nat)
  match pick 0 with
  | some e => some e
  | none => match pick 1 with | some e => some e | none => pick 2

/-- A class 3 call's entry, by eviction where none is free (R273). -/
def alloc3 (L : Lane) : Lane × Option Nat :=
  match ctAlloc L 3 with
  | some e => (L, some e)
  | none =>
    match evictee L with
    | some e =>
      let c := ctCall L e
      let a : Ans := { code := anRefused, reason := reFull, reass := true, old := some (ctCar L e) }
      (prkAnswer c a ((ctFree e L).s F_PRK_STAT_EVICT_S 1), some e)
    | none => (L, none)

/-- A class 3 call held without an entry (R273). -/
def prkHold (s : List Word) (L : Lane) : Lane :=
  let L := ((L.updPrk fun p => { p with hold := p.hold ++ [s] }).s F_PRK_STAT_HELD_S 1).event peerPrk (evBit 20)
  prkAnswer (subCall s) { code := anDelayed } L

/-- A class 3 call held in its entry (R273), which replaces the answer that named a car, if one did. -/
def prkHoldIn (e : Nat) (c : Call) (old : Option Nat) (L : Lane) : Lane :=
  let L := ((ctStore e c csHeld 0 0 0 0xFFFF 0 0 L).s F_PRK_STAT_HELD_S 1).event peerPrk (evBit 20)
  prkAnswer c { code := anDelayed, reass := old.isSome, old := old, entry := some e } L

/-- The entry a submission merges into (R271). -/
def mergeEntry (L : Lane) (c : Call) : Option Nat :=
  (ctLive L).find? fun e =>
    let w := ctWord L e 0
    let k := ctCall L e
    (bits w 2 0 == csAssigned || bits w 2 0 == csDelayed) && k.type == c.type && k.cls == c.cls && k.acc == c.acc &&
      k.origin == c.origin && k.dest == c.dest && !committed L k (ctCar L e) (bits w 13 13) && decide (k.pax + c.pax ≤ 63)

/-- A merged submission: the passengers added, the wait recomputed for the entry's car, its outcome answered (R271). -/
def prkMerge (e : Nat) (c : Call) (L : Lane) : Lane :=
  let w := ctWord L e 0
  let k := ctCall L e
  let k' := { k with pax := k.pax + c.pax }
  let car := ctCar L e
  let cs := candsOf L (carView L car) car k'
  let code := if bits w 2 0 = csDelayed then anDelayed else anAssigned
  let L := satMark cs L
  match bestOf cs with
  | some x =>
    let a : Ans := { code := code, car := some car, deck := bits w 13 13, wait := (rdiv x.arr 10).toNat, entry := some e }
    prkAnswer c a (ctStore e k' (bits w 2 0) car (bits w 13 13) (bits w 17 14) (rdiv x.wait 10).toNat (ctWord L e 4).toNat
      (ctWord L e 5).toNat L)
  | none =>
    let a : Ans := { code := code, car := some car, deck := bits w 13 13, entry := some e }
    prkAnswer c a (ctStore e k' (bits w 2 0) car (bits w 13 13) (bits w 17 14) (bits (ctWord L e 3) 31 16)
      (ctWord L e 4).toNat (ctWord L e 5).toNat L)

/-- The evaluation of a call that has its entry: named car, held, or refused, the entry freed (R269). A re-announced call keeps the car it names where
that has a candidate; every other answer to it replaces the earlier one (R290). -/
def prkPlace (s : List Word) (e : Nat) (c : Call) (cars : Nat) (L : Lane) : Lane :=
  let L := ctStore e c csEval 0 0 0 0 0 0 L
  let old := if c.reann ∧ c.pcarv then some c.pcar else none
  let own := if old.isSome ∧ cars.testBit c.pcar then evaluate L (2 ^ c.pcar) c none else []
  let L := satMark own L
  match bestOf own with
  | some k =>
    let a := { candAns L c k e with rep := true }
    prkAnswer c a (ctAssign e c k 0 a L)
  | none =>
    let cs := evaluate L cars c none
    let L := satMark cs L
    match bestOf cs with
    | some k =>
      let a := { candAns L c k e with reass := old.isSome, old := old }
      prkAnswer c a (ctAssign e c k 0 a L)
    | none =>
      if c.cls = 3 then prkHoldIn e (subCall s) old L
      else prkAnswer c { code := anRefused, reason := reFull, reass := old.isSome, old := old } (ctFree e L)

/-- The remembered answer to a submission (R270). -/
def cached (L : Lane) (c : Call) : Option PrkAnswer :=
  (cacheLive L).find? fun r => r.node == c.node && r.host == c.host && r.tseq == c.tseq

/-- The destination of a call, or its origin where it has none. -/
def callDest (c : Call) : Nat := if c.type = 2 then c.dest else c.origin

/-- Does any car serve both landings of a call? (R269) -/
def served (L : Lane) (c : Call) : Bool :=
  L.f (F_PRK_LANDC_CARMASK c.origin) &&& L.f (F_PRK_LANDC_CARMASK (callDest c)) != 0

/-- Would a class 3 submission go to the hold list? (R269, R273) -/
def wouldHold (L : Lane) (s : List Word) : Bool :=
  let c := subCall s
  (cached L c).isNone && (mergeEntry L c).isNone && served L c &&
    (carsFor L c == 0 || ((ctAlloc L 3).isNone && (evictee L).isNone))

/-- The first answer to a submission (R269 to R273). -/
def prkDecide (s : List Word) (L : Lane) : Lane :=
  let c := subCall s
  match cached L c with
  | some r =>
    let w0 := listGet 0 r.words 0
    let ws := (w0 ||| (1#32 <<< 19)) :: r.words.drop 1
    ((L.updPrk fun p => { p with answers := p.answers ++ [ws] }).event peerPrk (evBit 16)).inc F_PRK_CNT2_REPEAT
  | none =>
    match mergeEntry L c with
    | some e => prkMerge e c L
    | none =>
      let d := callDest c
      let classBit := fun x => getBit L.regs (F_PRK_LANDX_CLASSOK x) c.cls
      let cars := carsFor L c
      if c.cls < 3 ∧ (modeTakes (L.f F_PRK_MODE_MODE) c.cls && classBit c.origin && classBit d) = false then
        prkAnswer c { code := anRefused, reason := reDenied } L
      else if c.cls < 3 ∧ (L.b (F_PRK_LANDX_LOCKED c.origin) || L.b (F_PRK_LANDX_LOCKED d)) then
        prkAnswer c { code := anRefused, reason := reLocked } L
      else if !served L c then
        if L.b (F_PRK_LANDX_REDIRV d) then
          prkAnswer c { code := anRedirect, redir := L.f (F_PRK_LANDX_RTARGET d), tland := L.f (F_PRK_LANDX_TLAND d) } L
        else prkAnswer c { code := anRefused, reason := reLocked } L
      else if cars = 0 then
        if c.cls = 3 then prkHold s L else prkAnswer c { code := anRefused, reason := reOutOfService } L
      else if c.cls = 3 then
        match alloc3 L with
        | (L, some e) => prkPlace s e c cars L
        | (L, none) => prkHold s L
      else
        match ctAlloc L c.cls with
        | some e => prkPlace s e c cars L
        | none => prkAnswer c { code := anRefused, reason := reFull } L

/-! ### The reference firmware's stop list (R263, R264, R285, R291) -/

/-- The stop list in use: its entries of eight words. -/
def slAll (L : Lane) : List (List Word) :=
  (List.range (min 128 (L.f F_PRK_SLPUB_COUNT))).map fun i => (List.range 8).map fun k => slWord L i k

/-- The stop list written and published. -/
def slReplace (l : List (List Word)) (L : Lane) : Lane :=
  (slPublish l.length (L.tsWrite 0x20000 (l.flatMap id))).1

/-- The height of a stop, and its direction of departure. -/
def slH (L : Lane) (s : List Word) : Int := landH L (bits (listGet 0 s 0) 7 0)
def slDir (s : List Word) : Nat := bits (listGet 0 s 0) 11 10

/-- The height of NEXTC, the first landing the car can still stop at, and the car's direction (Table 10.2). -/
def slNext (L : Lane) : Int := landH L (bits (rget L.regs (A_PRK_CVIEW 0)) 15 8)
def slCarDir (L : Lane) : Nat := bits (rget L.regs (A_PRK_CVIEW 0)) 17 16

/-- Does a height lie at or beyond another in a direction? -/
def ahead (dir : Nat) (a b : Int) : Bool := if dir = 1 then decide (a ≤ b) else decide (b ≤ a)

/-- The stops at the head of the list, served in the car's direction, up to the last that the car can no longer stop at: how many places they take
(R263). -/
def slPassed (L : Lane) (l : List (List Word)) : Nat :=
  let dir := slCarDir L
  let gone := fun s => (dir == 1 || dir == 2) && !ahead dir (slNext L) (slH L s)
  (((l.takeWhile fun s => slDir s == dir).zipIdx.filter fun p => gone p.1).map fun p => p.2 + 1).getLastD 0

/-- The direction of a run of the car, by its number: the car's own, and every other one the opposite. -/
def runDir (d0 k : Nat) : Nat := if k % 2 = 0 then d0 else 3 - d0

/-- The run of the car in which a stop is served, from the run and the height before it (R263): the same where it lies on, in the run's direction or
without one; else the next, or the one after where the run's direction comes again. -/
def slRunOf (L : Lane) (d0 : Nat) (k : Nat × Int) (s : List Word) : Nat × Int :=
  let d := runDir d0 k.1
  let on := ahead d k.2 (slH L s)
  (if slDir s = 0 then (if on then k.1 else k.1 + 1) else if slDir s = d then (if on then k.1 else k.1 + 2) else k.1 + 1, slH L s)

/-- The direction of the car's present run: DIR, or of a car that is idle the way to its first stop. -/
def slDir0 (L : Lane) (own : Nat) (r : List (List Word)) : Nat :=
  if slCarDir L = 1 ∨ slCarDir L = 2 then slCarDir L
  else match r with
    | [] => own
    | s :: _ => if slNext L < slH L s then 1 else if slH L s < slNext L then 2 else if slDir s = 0 then own else slDir s

/-- May the pickup stand before stop i, in collective order and within the car's reach (R263)? Not among the stops the car has passed. Else at the end; in
the run of the stop before it, the car itself counting as one at NEXTC, if it lies on from that and not beyond a stop of the same run; at the head of the
run of the stop after it, if it does not lie beyond that; or in a run between the two that has no stop yet (DEDUCED, log 151). -/
def slPlaceOk (L : Lane) (p : Pickup) (l : List (List Word)) (i : Nat) : Bool :=
  let gone := slPassed L l
  let r := l.drop gone
  let own := if p.up then 1 else 2
  let d0 := slDir0 L own r
  let x := landH L p.landing.toNat
  let a := (r.take (i - gone)).foldl (slRunOf L d0) (0, slNext L)
  decide (gone ≤ i) && match r[i - gone]? with
    | none => true
    | some s =>
      let b := slRunOf L d0 a s
      (runDir d0 a.1 == own && ahead own a.2 x && (decide (a.1 < b.1) || ahead own x b.2)) ||
      (decide (a.1 < b.1) && runDir d0 b.1 == own && ahead own x b.2) ||
      (decide (a.1 + 1 < b.1) && runDir d0 (a.1 + 1) == own)

/-- The stop of a pickup. -/
def slStop (p : Pickup) (late : Bool) : List Word :=
  let b := fun (x : Bool) (k : Nat) => if x then 2 ^ k else 0
  [BitVec.ofNat 32 (p.landing.toNat + (if p.deck then 512 else 256) + (if p.up then 1024 else 2048) + 4096 + b p.emer 14 +
    b p.acc 15 + b late 17), BitVec.ofNat 32 (min 127 p.pax), 0, 0, 0, 0, 0, 0]

/-- Is a stop at a landing and deck, left in a direction? -/
def slAt (land deck dir : Nat) (s : List Word) : Bool :=
  let w := listGet 0 s 0
  bits w 7 0 == land && w.getLsbD (8 + deck) && bits w 11 10 == dir

/-- A pickup inserted (R264): merged into its stop where the car has not passed that, or at the proposed place where the car can serve it, else at the
first later one, LATE. A full list takes none. -/
def slInsert (p : Pickup) (at0 : Nat) (l : List (List Word)) (L : Lane) : Option (List (List Word)) :=
  let gone := slPassed L l
  match l.zipIdx.findIdx? fun (s, i) => decide (gone ≤ i) && slAt p.landing.toNat p.deck.toNat (if p.up then 1 else 2) s && !(listGet 0 s 0).getLsbD 16 with
  | some i =>
    some (setAt l i fun s =>
      let w := listGet 0 s 0
      let n := listGet 0 s 1
      (w ||| 0x1000#32 ||| (if p.emer then 0x4000#32 else 0) ||| (if p.acc then 0x8000#32 else 0) ||| (if at0 < gone then 0x20000#32 else 0)) ::
        setBits n 6 0 (min 127 (bits n 6 0 + p.pax)) :: s.drop 2)
  | none =>
    if 128 ≤ l.length then none
    else
      let i0 := min at0 l.length
      if slPlaceOk L p l i0 then some (putAt l i0 (slStop p false))
      else
        let i := ((List.range (l.length - i0)).map (· + i0 + 1)).find? fun j => slPlaceOk L p l j
        some (putAt l (i.getD l.length) (slStop p true))

/-- A list published, after the assignments that waited for a place in it have taken theirs. -/
def slEdit (l : List (List Word)) (L : Lane) : Lane :=
  let (l, rest) := L.prk.waiting.foldl (fun (acc : List (List Word) × List (Pickup × Nat)) w =>
    match slInsert w.1 w.2 acc.1 L with
    | some l' => (l', acc.2)
    | none => (acc.1, acc.2 ++ [w])) (l, [])
  slReplace l (L.updPrk fun p => { p with waiting := rest })

/-- An assignment taken (R264); none is refused: one that finds 128 stops waits for a place (DESIGN CHOICE, log 151). -/
def slAssign (p : Pickup) (at0 : Nat) (L : Lane) : Lane :=
  slEdit (slAll L) (L.updPrk fun q => { q with waiting := q.waiting ++ [(p, at0)] })

/-- A stop without its pickup: it stays with its drop-offs, or where E1 has taken it; else it goes (R285, R291). -/
def slStrip (s : List Word) : Option (List Word) :=
  let w := listGet 0 s 0
  if w.getLsbD 13 || w.getLsbD 16 then some ((w &&& ~~~ 0x1000#32) :: setBits (listGet 0 s 1) 6 0 0 :: s.drop 2) else none

/-- The unconfirmed pickups removed (R291). -/
def slExpire (stops : Bytes) (L : Lane) : Lane :=
  slEdit ((slAll L).zipIdx.filterMap fun (s, i) => if stops.any fun b => b.toNat == i then slStrip s else some s) L

/-- A call taken from the part's own car: its passengers leave the pickup, and the pickup goes with the last of them (R285). -/
def slWithdrawn (c : Call) (car deck : Nat) (L : Lane) : Lane :=
  let hit := slAt c.origin deck (if callUp L c then 1 else 2)
  let l := slAll L
  if car ≠ L.f F_PIC_STAT_POS ∨ !l.any hit then L
  else
    slEdit (l.filterMap fun s =>
      let n := listGet 0 s 1
      if !hit s then some s
      else if c.pax < bits n 6 0 then some (listGet 0 s 0 :: setBits n 6 0 (bits n 6 0 - c.pax) :: s.drop 2)
      else slStrip s) L

/-! ### Work in its order (R274, R280 to R286) -/

/-- The car views latched (R265): served calls freed (R274), eligibility (R266) and bypass (R285) brought up to date. -/
def prkLatchCar (L : Lane) (g : Nat) : Lane :=
  let v := carView L g
  let key := g % 32
  let old := L.prk.sseq[key]'(Nat.mod_lt _ (by decide))
  let fresh := match old with | some x => x != v.sseq | none => false
  let L := if !fresh then L
    else ((ctLive L).filter fun e =>
      let w := ctWord L e 0
      let c := ctCall L e
      (bits w 2 0 == csAssigned || bits w 2 0 == csDelayed) && ctCar L e == g && c.origin == v.svland &&
        v.svdecks.testBit (bits w 13 13) && v.svdir == (if callUp L c then 1 else 2)).foldl (fun L e => ctFree e L) L
  let L := L.updPrk fun p => { p with sseq := p.sseq.set key (some v.sseq) (Nat.mod_lt _ (by decide)) }
  let serv := v.inserv && !viewStale L v
  let was := getBit L.regs F_PRK_INSERV_M g
  let L := (L.stick (was && viewStale L v) F_PRK_STAT_STALE_S).eventIf (serv != was) peerPrk (evBit 19)
  let L := { L with regs := setBit L.regs F_PRK_INSERV_M g serv }
  let by' := if getBit L.regs F_PRK_BYPASS_M g then decide (L.f F_PRK_LOAD_BYPASS - L.f F_PRK_LOAD_BYHYST < v.loadpct)
    else decide (L.f F_PRK_LOAD_BYPASS ≤ v.loadpct)
  { L with regs := setBit L.regs F_PRK_BYPASS_M g by' }

/-- Every car view latched. -/
def prkLatch (L : Lane) : Lane := (List.range 32).foldl prkLatchCar L

/-- A held call that can now be placed: without an entry, or in one. -/
def heldReady (L : Lane) : Option ((List Word) ⊕ Nat) :=
  match L.prk.hold.find? fun s =>
      let c := subCall s
      let m := carsFor L c
      m != 0 && ((ctAlloc L 3).isSome || (evictee L).isSome) && !(evaluate L m c none).isEmpty with
  | some s => some (.inl s)
  | none =>
    ((ctLive L).find? fun e =>
      ctState L e == csHeld &&
        (let c := ctCall L e
         let m := carsFor L c
         m != 0 && !(evaluate L m c none).isEmpty)).map .inr

/-- A held call put in its entry, and answered REASSIGNED (R273). -/
def prkPlaceIn (e : Nat) (c : Call) (L : Lane) : Lane :=
  let cs := evaluate L (carsFor L c) c none
  let L := satMark cs L
  match bestOf cs with
  | some k =>
    let a := { candAns L c k e with reass := true }
    prkAnswer c a (ctAssign e c k 0 a L)
  | none => L

/-- A held call placed (R273): one without an entry takes one, by eviction where none is free. -/
def prkPlaceHeld (h : (List Word) ⊕ Nat) (L : Lane) : Lane :=
  match h with
  | .inl s =>
    match alloc3 (L.updPrk fun p => { p with hold := p.hold.erase s }) with
    | (L, some e) => prkPlaceIn e (subCall s) L
    | (L, none) => L
  | .inr e => prkPlaceIn e (ctCall L e) L

/-- A forced reallocation (R284, R286); a pickup taken from the part's own car leaves its stop list (R285). -/
def prkForce (e : Nat) (L : Lane) : Lane :=
  let w := ctWord L e 0
  let c := ctCall L e
  let car := ctCar L e
  let deck := bits w 13 13
  let out := L.prk.denied.contains e || !modeTakes (L.f F_PRK_MODE_MODE) c.cls
  let L := L.updPrk fun p => { p with denied := p.denied.filter (· != e) }
  if ¬ (bits w 2 0 = csAssigned ∨ bits w 2 0 = csDelayed) ∨ committed L c car deck then L
  else if out then
    slWithdrawn c car deck (prkAnswer c { code := anRefused, reason := reDenied, reass := true, old := some car } (ctFree e L))
  else
    let cs := evaluate L (carsFor L c) c none
    let L := satMark cs L
    match bestOf cs with
    | some k =>
      let a := { candAns L c k e with reass := true, old := some car }
      let L := prkAnswer c a (ctAssign e c k (bits w 17 14) a L)
      if k.g = car then L else slWithdrawn c car deck L
    | none =>
      slWithdrawn c car deck (
        if c.cls = 3 then prkHoldIn e c (some car) L
        else prkAnswer c { code := anRefused, reason := reOutOfService, reass := true, old := some car } (ctFree e L))

/-- A call's passengers taken out of its car's itinerary, with the stops that then are empty (R282): a stop with DROP is not, but that of the call's
own drop-off once nobody alights there (DEDUCED, log 151). -/
def withoutCall (L : Lane) (c : Call) (deck : Nat) (v : CarView) : CarView :=
  let dir := if callUp L c then 1 else 2
  let old : List PStop := v.stops
  let at0 := old.findIdx? fun x => x.land == c.origin && x.decks.testBit deck && x.dir == dir
  let stops : List PStop := match at0 with
    | none => old
    | some i =>
      let s1 := setAt old i fun x => { x with board := max 0 (x.board - c.pax) }
      if c.type ≠ 2 then s1
      else match ((s1.drop (i + 1)).findIdx? fun x => x.land == c.dest && x.decks.testBit deck) with
        | some j => setAt s1 (i + 1 + j) fun x => { x with alight := max 0 (x.alight - c.pax), drop := x.drop && decide (c.pax < x.alight) }
        | none => s1
  let kept : List (PStop × PStop) := (stops.zip old).filter fun p =>
    decide (0 < p.1.board + p.1.alight) || p.1.drop || (decide (p.1.board = p.2.board) && decide (p.1.alight = p.2.alight))
  { v with stops := kept.map (·.1), slcount := v.slcount - (old.length - kept.length) }

/-- May the sweep re-evaluate an entry? (R282) -/
def sweepable (L : Lane) (e : Nat) : Bool :=
  let w := ctWord L e 0
  let eta := ((ctWord L e 5).toNat + 2 ^ 32 - L.gtime % 2 ^ 32) % 2 ^ 32
  (bits w 2 0 == csAssigned || bits w 2 0 == csDelayed) && decide (bits w 4 3 < 3) &&
  decide (bits w 17 14 < L.f F_PRK_SWEEP_REAS_MAX) && decide (eta < 2 ^ 31) && decide (L.f F_PRK_SWEEP_LOCKT * 1000000 < eta) &&
  (bits w 6 5 != 2 || L.b F_PRK_SWEEP_DESTRE)

/-- One entry of the sweep re-evaluated (R282). -/
def prkSweepEntry (e : Nat) (L : Lane) : Lane :=
  let w := ctWord L e 0
  let c := ctCall L e
  let car := ctCar L e
  let v := withoutCall L c (bits w 13 13) (carView L car)
  let m := carsFor L c
  let cs := evaluate L m c (some (car, v))
  let own := bestOf (cs.filter fun k => k.g == car)
  let c0 := match own with | some k => k.cost | none => 0xFFFFFFFF
  let L := satMark cs L
  match bestOf cs with
  | some k =>
    if k.g ≠ car ∧ k.cost * (100 + L.f F_PRK_SWEEP_MARGIN) < c0 * 100 then
      let a := { candAns L c k e with reass := true, old := some car }
      slWithdrawn c car (bits w 13 13) (prkAnswer c a (ctAssign e c k (bits w 17 14 + 1) a L))
    else match own with
      | some o => ctStore e c (bits w 2 0) car (bits w 13 13) (bits w 17 14) (rdiv o.wait 10).toNat o.cost
          (L.gtime + o.arr.toNat * 10000) L
      | none => L
  | none => L

/-- The sweep's next step: the next entry it visits, or its end (R282, R283). -/
def prkSweepStep (i : Nat) (L : Lane) : Lane :=
  match (ctLive L).find? fun e => decide (i ≤ e) && sweepable L e with
  | some e => prkSweepEntry e (L.updPrk fun p => { p with sweep := some (e + 1) })
  | none =>
    (L.updPrk fun p => { p with sweep := if p.sweepDue then some 0 else none, sweepDue := false }).event peerPrk (evBit 18)

/-- A change of PRK_MODE takes effect (R286): an entry into FIRE or EVAC forces out the classes it does not accept, event [17] with them (R284). -/
def prkTakeMode (L : Lane) : Lane :=
  let m := L.f F_PRK_MODE_MODE
  if m = L.prk.mode then L
  else
    let hit := if m < 4 then [] else (ctLive L).filter fun e =>
      let w := ctWord L e 0
      (bits w 2 0 == csAssigned || bits w 2 0 == csDelayed) && !modeTakes m (bits w 4 3) && !committed L (ctCall L e) (ctCar L e) (bits w 13 13)
    (L.updPrk fun p => { p with
      mode := m, forced := p.forced ++ hit.filter (fun e => !p.forced.contains e), denied := hit }).eventIf (!hit.isEmpty) peerPrk (evBit 17)

/-- PRK takes its next work (R280); none while the answer FIFO is full (R281). -/
def prkWork (L : Lane) : Lane :=
  if !L.b F_PRK_CTRL_EN || L.f F_PRK_STAT_ROLE != 2 then L
  else if 32 ≤ L.prk.answers.length then (L.s F_PRK_STAT_AFULL_S 1).event peerPrk (evBit 21)
  else
    let L := prkTakeMode (prkShow (prkLatch L))
    prkShow <|
      match heldReady L with
      | some h => prkPlaceHeld h L
      | none =>
        match L.prk.subs.find? fun s => (subCall s).cls == 3 && (decide (L.prk.hold.length < 16) || !wouldHold L s) with
        | some s => prkDecide s (L.updPrk fun p => { p with subs := p.subs.erase s })
        | none =>
          match L.prk.forced with
          | e :: r => prkForce e (L.updPrk fun p => { p with forced := r })
          | [] =>
            match L.prk.subs.find? fun s => (subCall s).cls != 3 with
            | some s => prkDecide s (L.updPrk fun p => { p with subs := p.subs.erase s })
            | none =>
              match L.prk.sweep with
              | some i => prkSweepStep i L
              | none => L

/-- A car view older than VSTALE (R266): the car takes no new call. -/
def prkViewStale (g : GroupPos) (L : Lane) : Lane :=
  if viewStale L (carView L g.val) then
    (({ L with regs := setBit L.regs F_PRK_INSERV_M g.val false }).s F_PRK_STAT_STALE_S 1).event peerPrk (evBit 19)
  else L

/-- The calls of a car R284 moves by force, put ahead of the submissions. -/
def prkForceCar (g : GroupPos) (L : Lane) : Lane :=
  if !L.b F_PRK_CTRL_EN || L.f F_PRK_STAT_ROLE != 2 then L
  else
    let L := prkLatchCar L g.val
    let v := carView L g.val
    let out := !v.inserv || decide (L.f F_PRK_DISP_VSTALE * 10000 + 5000000 ≤ viewAge L v) || getBit L.regs F_PRK_BYPASS_M g.val
    let hit := (ctLive L).filter fun e =>
      let w := ctWord L e 0
      let c := ctCall L e
      let shut := v.freev && !(decide (v.freelo ≤ c.origin ∧ c.origin ≤ v.freehi) &&
        (c.type != 2 || decide (v.freelo ≤ c.dest ∧ c.dest ≤ v.freehi)))
      (bits w 2 0 == csAssigned || bits w 2 0 == csDelayed) && ctCar L e == g.val && !committed L c g.val (bits w 13 13) &&
        (out || shut || (c.cls == 3 && !getBit L.regs F_PRK_EMCARS_M g.val)) && !L.prk.forced.contains e
    if hit.isEmpty then L
    else (L.updPrk fun p => { p with forced := p.forced ++ hit }).event peerPrk (evBit 17)

/-- The start of a sweep (R282), or the mark that the last one is unfinished (R283). -/
def prkSweepStart (L : Lane) : Lane :=
  if !L.b F_PRK_CTRL_EN || L.f F_PRK_STAT_ROLE != 2 || !L.b F_PRK_SWEEP_SWEN then L
  else if L.prk.sweep.isSome then (L.s F_PRK_STAT_SWLATE_S 1).updPrk fun p => { p with sweepDue := true }
  else L.updPrk fun p => { p with sweep := some 0 }

/-! ### Register commands -/

/-- PRK_SUBPUSH (R267). -/
def prkPush (L : Lane) : Lane × Nat :=
  let s := (List.range 4).map fun k => rget L.regs (A_PRK_SUB k)
  let c := subCall s
  if 16 ≤ L.prk.subs.length ∨ (c.cls = 3 ∧ 16 ≤ L.prk.hold.length) then (L, stQfull)
  else if L.f F_PRK_STAT_ROLE ≠ 2 then (L, prkNotMaster)
  else if c.type = 3 ∨ (c.type = 2 ∧ c.dest = c.origin) then (L, stBadValue)
  else if c.pax = 0 then (L, stNoop)
  else ((L.updPrk fun p => { p with subs := p.subs ++ [s] }).s F_PRK_STAT_QLEVEL (L.prk.subs.length + 1), stOk)

/-- PRK_ANSPOP (R281). -/
def prkPop (L : Lane) : Lane × Nat :=
  if L.prk.answers.isEmpty then (L, stNoop)
  else (prkShow (L.updPrk fun p => { p with answers := p.answers.drop 1 }), stOk)

/-- PRK_MODE: it takes effect at the next evaluation (R286). -/
def prkMode (v : Word) (L : Lane) : Lane × Nat := if 6 ≤ bits v 2 0 then (L, stBadValue) else (L.store A_PRK_MODE v, stOk)

/-! ### The mirror (R287 to R289, R292) -/

/-- How many entries of a full transfer one set carries: what seven frames hold (Table 15.5; DESIGN CHOICE, log 152). -/
def fullStep : Nat := 48

/-- A mirror set closed by the master (R287): the entries changed, and of a full transfer the next ones by index (R288). -/
def prkMirrorSet (L : Lane) : Lane :=
  let mseq := nextMseq L
  let entry := fun e => (e, (List.range 8).map fun k => ctWord L e k)
  let i0 := L.prk.fullAt.getD 4096
  let part := (List.range (min fullStep (4096 - i0))).map (· + i0)
  let next := if i0 + fullStep < 4096 then some (i0 + fullStep) else none
  let set : MirrorSet :=
    { mseq := mseq, time := L.gtime, whole := true, full := L.prk.fullAt.isSome && next.isNone,
      entries := (L.prk.changed.map (·.1) ++ part.filter fun e => !(L.prk.changed.any fun p => p.1 == e)).map entry,
      hold := L.prk.hold, mode := L.f F_PRK_MODE_MODE,
      locked := (List.range 256).filter fun x => L.b (F_PRK_LANDX_LOCKED x), bypass := rget L.regs A_PRK_BYPASS }
  let L := L.updPrk fun p => { p with changed := [], sentSet := some set, setTime := L.gtime, fullAt := if p.fullAt.isSome then next else none }
  (L.s F_PRK_MIRROR_MSEQ mseq).s F_PRK_MTIME_TIME (L.gtime % 2 ^ 32)

/-- The payloads of the MIRROR frames of a set (Table 15.3): its body, MSEQ, the time of its closing, and CRC-32 over them, in fragments of at most
256 bytes. -/
def mirrorFrames (m : MirrorSet) : List Bytes :=
  let b := Config.mirrorBody m ++ leBytes 2 m.mseq ++ leBytes 6 m.time
  let all := b ++ wordBytes (crc32 b)
  chunks 256 all

/-- A new standby master is to receive the full table (R288). -/
def prkFullFrom (L : Lane) : Lane := L.updPrk fun p => { p with fullAt := some 0 }

/-- How many entries of a full transfer a standby master has, from index 0 on, once the entries of a set have come: at most one more for each of them. -/
def fullCount (es : List (Nat × List Word)) : Nat → Nat → Nat
  | 0, n => n
  | k + 1, n => if es.any fun p => p.1 == n then fullCount es k (n + 1) else n

/-- A mirror set applied by the standby master (R288): MIRV once every entry of the table has come since it became standby master. -/
def prkMirrorApply (m : MirrorSet) (L : Lane) : Lane :=
  if L.f F_PRK_STAT_ROLE ≠ 1 ∨ ¬ m.whole ∨ (L.prk.mirSync ∧ m.mseq ≠ nextMseq L) then L
  else
    let L := m.entries.foldl (fun L p => if p.1 < 4096 then L.tsWrite (32 * p.1) (p.2.take 8) else L) L
    let L := (List.range 256).foldl (fun L x => L.sb (F_PRK_LANDX_LOCKED x) (m.locked.contains x)) L
    let L := L.updPrk fun p =>
      { p with hold := m.hold, mirSync := true, setTime := m.time, fullGot := fullCount m.entries m.entries.length p.fullGot }
    let L := L.s F_PRK_MODE_MODE m.mode
    let L := { L with regs := rput L.regs A_PRK_BYPASS m.bypass }
    ((L.s F_PRK_MIRROR_MSEQ m.mseq).s F_PRK_MTIME_TIME (m.time % 2 ^ 32)).stick (decide (4096 ≤ L.prk.fullGot)) F_PRK_STAT_MIRV

/-- PRK's role follows PIC's (R444), and what waited for a forced reallocation under the old one goes: a new master frees its entries in EVAL and
starts with the table it holds (R289). -/
def prkRole (role : Nat) (L : Lane) : Lane :=
  if L.f F_PRK_STAT_ROLE = role then L
  else
    let L := (L.s F_PRK_STAT_ROLE role).event peerPrk (evBit 19)
    let L := L.updPrk fun p => { p with mirSync := false, fullAt := none, fullGot := 0, forced := [], denied := [] }
    if role = 2 then
      ((ctLive L).filter fun e => ctState L e == csEval).foldl (fun L e => ctFree e L) L
    else L.s F_PRK_STAT_MIRV 0

/-- T_m of a takeover (R289): the time of the last applied set, or 0 where the mirror was not complete. -/
def prkTm (L : Lane) : Nat := if L.b F_PRK_STAT_MIRV then L.prk.setTime else 0

/-! ### The commands -/

/-- PRK_EVALUATION (R280). -/
def execPrkEvaluation (l : LaneId) (s : State) : Host.Outcome State Fault Refusal := lift (onBlock l .prk prkWork) s

/-- CAR_VIEW_STALE (R266). -/
def execCarViewStale (l : LaneId) (g : GroupPos) (s : State) : Host.Outcome State Fault Refusal :=
  lift (onBlock l .prk (prkViewStale g)) s

/-- FORCED_REALLOCATION (R284). -/
def execForcedReallocation (l : LaneId) (g : GroupPos) (s : State) : Host.Outcome State Fault Refusal :=
  lift (onBlock l .prk (prkForceCar g)) s

/-- SWEEP_START (R282). -/
def execSweepStart (l : LaneId) (s : State) : Host.Outcome State Fault Refusal := lift (onBlock l .prk prkSweepStart) s

/-- MIRROR_APPLY (R288). -/
def execMirrorApply (l : LaneId) (set : MirrorSet) (s : State) : Host.Outcome State Fault Refusal :=
  lift (onBlock l .prk (prkMirrorApply set)) s

/-- ASSIGNMENT_RECEIVED (R264). -/
def execAssignmentReceived (l : LaneId) (call : Pickup) (place : Byte) (s : State) : Host.Outcome State Fault Refusal :=
  lift (onBlock l .prk (slAssign call place.toNat)) s

/-- UNCONFIRMED_PICKUP_EXPIRY (R291). -/
def execUnconfirmedPickupExpiry (l : LaneId) (stops : Bytes) (s : State) : Host.Outcome State Fault Refusal :=
  lift (onBlock l .prk (slExpire stops)) s

end Sys2Proof.Machine
end

