-- ==== Sys2Proof/Machine/Pic.lean ====
section
/-!
DEFINITION. The Picot ring controller PIC (spec 15): frames received, forwarded and sent, the views of the other parts and the
roles, group time, wraps and partitions, the queues, joining and leaving.
-/
namespace Sys2Proof.Machine

/-- Events of PIC go to PEER 36; its status code. -/
def peerPic : Nat := 36
def picNotJoined : Nat := 0x40

/-- Frame types (Table 15.3). -/
def ftState : Nat := 0x01
def ftTime : Nat := 0x02
def ftLtest : Nat := 0x03
def ftUnwrap : Nat := 0x04
def ftNotice : Nat := 0x05
def ftPub : Nat := 0x06
def ftMirror : Nat := 0x07
def ftTel : Nat := 0x08
/-- A link frame, which is never forwarded. -/
def ftLink (t : Nat) : Bool := t == ftLtest || t == ftUnwrap
/-- A firmware frame. -/
def ftFw (t : Nat) : Bool := decide (0x10 ≤ t) && decide (t ≤ 0x1F)
/-- A frame of class S. -/
def ftS (t : Nat) : Bool := t == ftState || t == ftTime || t == ftNotice

/-- Roles as PIC_STAT codes them. -/
def roleNone : Nat := 0
def roleStandby : Nat := 1
def roleMaster : Nat := 2

/-- PIC of a lane updated. -/
def Lane.updPic (L : Lane) (f : Pic → Pic) : Lane := { L with pic := f L.pic }

/-- The part's own group position. -/
def Lane.pos (L : Lane) : GroupPos := fin 32 (by decide) (L.f F_PIC_STAT_POS)

/-- PIC runs. -/
def Lane.picOn (L : Lane) : Bool := L.b F_PIC_CTRL_EN

/-- The transmitters work: PIC runs and the lane holds the Hoop (R21, R388). -/
def Lane.picTx (L : Lane) : Bool := L.picOn && L.holder

/-! ### Transmitters -/

/-- The transmitter of a ring (true: B). -/
def Lane.tx (L : Lane) (b : Bool) : PicTx := if b then L.pic.txB else L.pic.txA
def Lane.updTx (L : Lane) (b : Bool) (f : PicTx → PicTx) : Lane :=
  L.updPic fun p => if b then { p with txB := f p.txB } else { p with txA := f p.txA }

/-- The time a frame takes on the wire, its start, header, CRC, end and idle with it (Table 15.2, R436, R439), in ns. -/
def picNs (fr : PicFrame) : Nat := 80 * (fr.payload.length + 16)

/-- A frame's place in the list of R439; the own frames of class G have one each, in their order. UNWRAP goes with LTEST (DESIGN CHOICE, log 153). -/
def picRank (own : Bool) (t : Nat) : Nat :=
  if ftLink t then 0
  else if ftS t then (if own then 2 else 1)
  else if !own then 3
  else if t = ftMirror then 4
  else if t = ftPub then 5
  else if t = ftTel then 7
  else 6

/-- A frame among the ones that wait: behind those of its own place in the list. -/
def picInsert (o : PicOut) (q : List PicOut) : List PicOut :=
  q.takeWhile (fun x => decide (x.rank ≤ o.rank)) ++ o :: q.dropWhile (fun x => decide (x.rank ≤ o.rank))

/-- A time of the controller on the group-time counter, in ns. -/
def Lane.gtNs (L : Lane) (at_ : Nat) : Nat := 1000 * L.gtime + (L.pic.frac / 1000).toNat + (at_ - L.pic.clk)

/-- A TIME frame as it leaves: the own one carries the group time (R445), another the time it has waited, added to its CORR (R438). -/
def picStamp (o : PicOut) (at_ : Nat) (L : Lane) : PicFrame :=
  let fr := o.frame
  if fr.type ≠ ftTime then fr
  else if fr.src = L.pos then { fr with payload := leBytes 6 (L.gtNs at_ / 1000) ++ fr.payload.drop 6 }
  else { fr with payload := fr.payload.take 6 ++ leBytes 4 (leNat ((fr.payload.drop 6).take 4) + (at_ - o.since)) ++ fr.payload.drop 10 }

/-- A frame leaves at a frame boundary, whole or ended with K30.7; the own mark is noted (R445). -/
def picDepart (b cut : Bool) (o : PicOut) (at_ : Nat) (L : Lane) : Lane :=
  let fr := picStamp o at_ L
  let mark := fr.type == ftTime && decide (fr.src = L.pos)
  (L.updTx b fun t => { t with freeAt := at_ + picNs fr }).updPic fun p => { p with
    lastA := if b then p.lastA else some fr
    lastB := if b then some fr else p.lastB
    cutA := if b then p.cutA else cut
    cutB := if b then cut else p.cutB
    markA := if mark && !o.ringB then L.gtNs at_ else p.markA
    markB := if mark && o.ringB then L.gtNs at_ else p.markB }

/-- A frame for a transmitter (R439): an idle one sends it at once; else it waits, a frame in transit only where fewer than two of its class do (log 153). -/
def picOffer (b : Bool) (o : PicOut) (L : Lane) : Lane :=
  let t := L.tx b
  if t.freeAt ≤ L.pic.clk ∧ t.queue = [] then picDepart b false o L.pic.clk L
  else if (o.rank = 1 ∨ o.rank = 3) ∧ 2 ≤ (t.queue.filter fun x => x.rank == o.rank).length then L.inc F_PIC_CNT_LOST
  else L.updTx b fun t => { t with queue := picInsert o t.queue }

/-- The transmitter that a ring's frames leave on: the other ring's where the port of its own is wrapped; none where both are (R448). -/
def Lane.outOf (L : Lane) (ringB : Bool) : Option Bool :=
  let wrapB := L.b F_PIC_STAT_UWRAP
  let wrapA := L.b F_PIC_STAT_DWRAP
  if wrapA && wrapB then none else some (if ringB then !wrapB else wrapA)

/-- A frame that is to leave on a ring. -/
def picEmit (ringB : Bool) (fr : PicFrame) (L : Lane) : Lane :=
  if !L.picTx then L
  else match L.outOf ringB with
    | some b => picOffer b ⟨picRank (decide (fr.src = L.pos)) fr.type, fr, ringB, L.pic.clk⟩ L
    | none => L

/-- A frame whose error is found while it is being forwarded, its transmitter idle as it came, is ended with K30.7 on the outgoing ring (R437); one
that would have waited is dropped whole. -/
def picAbort (ringB : Bool) (fr : PicFrame) (L : Lane) : Lane :=
  if !L.picTx || ftLink fr.type || decide (fr.src = L.pos) || decide (64 ≤ fr.hops) then L
  else match L.outOf ringB with
    | some b =>
      if (L.tx b).freeAt ≤ L.pic.clk ∧ (L.tx b).queue = [] then
        picDepart b true ⟨picRank false fr.type, { fr with hops := fr.hops + 1 }, ringB, L.pic.clk⟩ L.pic.clk L
      else L
    | none => L

/-- A µs of a transmitter: at a frame boundary the first frame that waits leaves; one that is silent drops what it held (R388). -/
def txTick (b : Bool) (L : Lane) : Lane :=
  if !L.picTx then L.updTx b fun t => { t with queue := [] }
  else match (L.tx b).queue with
    | o :: r =>
      if (L.tx b).freeAt < L.pic.clk + 1000 then
        picDepart b false o (max (L.tx b).freeAt L.pic.clk) (L.updTx b fun t => { t with queue := r })
      else L
    | [] => L

/-- A µs of the ring controller. -/
def picTick (L : Lane) : Lane := (txTick true (txTick false L)).updPic fun p => { p with clk := p.clk + 1000 }

/-- A frame of the part's own (Table 15.2): class S on both rings, class G on ring A. One with a duplicate position sends none (R443). -/
def picOwn (type : Nat) (frag : Bool) (dst : Nat) (payload : Bytes) (L : Lane) : Lane :=
  if L.pic.dup then L
  else
    let n := sget 0 L.pic.seqs type
    let fr : PicFrame := ⟨type, L.pos, frag, dst, 0, n, payload⟩
    let L := picEmit false fr L
    if ftS type then picEmit true fr L else L

/-- The next SEQ of a TYPE. -/
def picNextSeq (type : Nat) (L : Lane) : Lane :=
  L.updPic fun p => { p with seqs := sput 0 p.seqs type ((sget 0 p.seqs type + 1) % 65536) }

/-- A whole own frame: sent, and its TYPE's SEQ moved on. -/
def picSend (type : Nat) (dst : Nat) (payload : Bytes) (L : Lane) : Lane :=
  if L.pic.dup then L else picNextSeq type (picOwn type false dst payload L)

/-- The number of a NOTICE's kind. -/
def noticeCode : PicNotice → Nat
  | .takeover => 0
  | .handover => 1
  | .leave => 2

/-- A NOTICE (Table 15.3): kind, T_m, new master. -/
def picNotice (kind : PicNotice) (tm : Nat) (master : Nat) (L : Lane) : Lane :=
  picSend ftNotice 0xFF (leBytes 1 (noticeCode kind) ++ leBytes 6 tm ++ leBytes 1 master) L

/-- The STATE of the part (Table 15.4). -/
def picStatePayload (l : LaneId) (L : Lane) : Bytes :=
  let bit := fun (b : Bool) (k : Nat) => if b then 2 ^ k else 0
  let sel := match L.sel.record with
    | some ws => ws
    | none => []
  let w12 := bit L.sel.record.isSome 0 + bit (L.b F_PIC_CTRL_CAND) 1 + 4 * L.f F_PIC_STAT_ROLE + bit (L.b F_PIC_STAT_TSYNC) 4 +
    32 * l.num + bit (L.b F_LNK_STAT_SOLO) 6 + bit (L.b F_PIC_STAT_PART) 7 + 65536 * L.f F_PRK_MIRROR_MSEQ
  ((List.range 12).flatMap fun k => wordBytes (listGet 0 sel k)) ++ leBytes 4 w12 ++ leBytes 4 (L.f F_PIC_PARTT0_TIME) ++
    wordBytes (Config.partUid 0) ++ wordBytes (Config.partUid 1)

/-- The STATE sent by a joined part once per SEL cycle, as that begins (R208). -/
def picSendState (l : LaneId) (L : Lane) : Lane :=
  if (instantIn L.fclk 80000 0).isSome && L.b F_PIC_STAT_JOINED then picSend ftState 0xFF (picStatePayload l L) L else L

/-! ### What the other parts say, and the roles (R443, R444) -/

/-- Bit g of a register of 32 positions. -/
def Lane.posBit (L : Lane) (f : Field) (g : GroupPos) : Bool := getBit L.regs f g.val
def Lane.setPosBit (L : Lane) (f : Field) (g : GroupPos) (b : Bool) : Lane := { L with regs := setBit L.regs f g.val b }

/-- The part is itself a candidate: its firmware says so and it is joined. -/
def Lane.ownCand (L : Lane) : Bool := L.b F_PIC_CTRL_CAND && L.b F_PIC_STAT_JOINED && !L.pic.dup

/-- The positions of the candidates, the own among them, from the lowest. -/
def picCands (L : Lane) : List GroupPos :=
  (List.finRange 32).filter fun g => if g = L.pos then L.ownCand else L.posBit F_PIC_CANDS_M g

/-- The role of the latest STATE of a seen part. -/
def picRoleOf (L : Lane) (g : GroupPos) : Nat :=
  if L.posBit F_PIC_SEEN_M g then (match L.pic.parts[g] with
    | some p => p.role
    | none => roleNone) else roleNone

/-- The own role changes (R444): PRK follows, event [17]. -/
def picSetRole (role : Nat) (L : Lane) : Lane :=
  if L.f F_PIC_STAT_ROLE = role then L
  else
    let L := (L.s F_PIC_STAT_ROLE role).event peerPic (evBit 17)
    if L.up .prk then prkRole role L else L

/-- The own part becomes master and says so with T_m (R289, R444). -/
def picTakeover (tm : Nat) (L : Lane) : Lane :=
  let L := ((picSetRole roleMaster L).s F_PIC_STAT_MPOS L.pos.val).s F_PIC_STAT_MV 1
  picNotice .takeover tm L.pos.val L

/-- Who is standby master: the lowest candidate other than the master; shown, and the own role with it. The master sends a new one the full table (R288). -/
def picStandby (L : Lane) : Lane :=
  let others := (picCands L).filter fun g => !(L.b F_PIC_STAT_MV && L.f F_PIC_STAT_MPOS == g.val)
  match (if L.b F_PIC_STAT_MV then others.head? else none) with
  | some g =>
    let new := !L.b F_PIC_STAT_SV || L.f F_PIC_STAT_SPOS != g.val
    let L := (L.s F_PIC_STAT_SPOS g.val).s F_PIC_STAT_SV 1
    if L.f F_PIC_STAT_ROLE = roleMaster then (if new && L.up .prk then prkFullFrom L else L) else picSetRole (if g = L.pos then roleStandby else roleNone) L
  | none => if L.f F_PIC_STAT_ROLE = roleMaster then L.s F_PIC_STAT_SV 0 else picSetRole roleNone (L.s F_PIC_STAT_SV 0)

/-- The master is lost (R444): the standby master takes over. -/
def picMasterLost (L : Lane) : Lane :=
  let L := L.s F_PIC_STAT_MV 0
  if L.f F_PIC_STAT_ROLE = roleStandby then picStandby (picTakeover (prkTm L) L) else L

/-- The group time of a partition of which a STATE gives bits [31:0]: the latest such time that has been; 0 for none (DEDUCED, log 167). -/
def partWhen (t : Nat) (L : Lane) : Nat :=
  if t = 0 then 0 else L.gtime - (L.gtime + 2 ^ 32 - t % 2 ^ 32) % 2 ^ 32

/-- The own time of PIC_PARTT. -/
def Lane.partT (L : Lane) : Nat := L.f F_PIC_PARTT0_TIME + 2 ^ 32 * L.f F_PIC_PARTT1_TIME

/-- The role rules after a STATE from a position: a master that gives up CAND is lost; of two masters the higher yields (R444). -/
def picRoles (g : GroupPos) (p : PicPart) (L : Lane) : Lane :=
  let mine := L.f F_PIC_STAT_ROLE == roleMaster
  if p.role = roleMaster ∧ p.cand then
    if mine then
      if g.val < L.pos.val then
        picStandby (((picSetRole roleNone L).s F_PIC_STAT_MPOS g.val).s F_PIC_STAT_MV 1)
      else
        let own := L.partT
        let other := partWhen p.partT L
        picStandby (picNotice .takeover (if own = 0 then other else if other = 0 then own else min own other) L.pos.val L)
    else picStandby ((L.s F_PIC_STAT_MPOS g.val).s F_PIC_STAT_MV 1)
  else if L.b F_PIC_STAT_MV && L.f F_PIC_STAT_MPOS == g.val then picStandby (picMasterLost L)
  else picStandby L

/-- A part recorded as lost is seen again; PART clears with the last of them (R450). -/
def picFound (g : GroupPos) (L : Lane) : Lane :=
  let rest := L.pic.lost.filter (· != g.val)
  let L := L.updPic fun p => { p with lost := rest }
  if L.b F_PIC_STAT_PART && rest.isEmpty then L.s F_PIC_STAT_PART 0 else L

/-- A good STATE of another part (R441, R443, R444). -/
def picState (fr : PicFrame) (ringB : Bool) (L : Lane) : Lane :=
  let g := fr.src
  if L.pic.stSeq[g] = some fr.seq then L
  else
    let w := fun k => BitVec.ofNat 32 (leNat ((fr.payload.drop (4 * k)).take 4))
    let p : PicPart := ⟨w 14, w 15, (w 12).getLsbD 1, bits (w 12) 3 2, (w 12).getLsbD 7, (w 13).toNat, L.gtime⟩
    let L := L.tsWrite (0x38000 + 0x80 * g.val) ((List.range 16).map w)
    let L := L.tsWrite (0x38040 + 0x80 * g.val)
      [BitVec.ofNat 32 L.gtime, BitVec.ofNat 32 (L.gtime / 2 ^ 32 % 65536 + if ringB then 65536 else 0)]
    let new := !L.posBit F_PIC_SEEN_M g
    let L := L.updPic fun q => { q with
      stSeq := q.stSeq.set g (some fr.seq), arr := q.arr.set g (some L.gtime), parts := q.parts.set g (some p) }
    let L := (L.setPosBit F_PIC_SEEN_M g true).setPosBit F_PIC_CANDS_M g p.cand
    picRoles g p (picFound g (L.eventIf new peerPic (evBit 19)))

/-- A part unseen for 10 ms (R443, R444, R450). -/
def picUnseen (g : GroupPos) (L : Lane) : Lane :=
  if !L.posBit F_PIC_SEEN_M g then L
  else
    let L := ((L.setPosBit F_PIC_SEEN_M g false).setPosBit F_PIC_CANDS_M g false).event peerPic (evBit 19)
    let L := if L.b F_PIC_STAT_UWRAP || L.b F_PIC_STAT_DWRAP then
        ((((L.s F_PIC_STAT_PART 1).s F_PIC_STAT_PARTITION_S 1).s F_PIC_PARTT0_TIME (L.gtime % 2 ^ 32)).s F_PIC_PARTT1_TIME
          (L.gtime / 2 ^ 32)).updPic fun p => { p with lost := g.val :: p.lost }
      else L
    let L := if L.b F_PIC_STAT_MV && L.f F_PIC_STAT_MPOS == g.val then picMasterLost L else L
    picStandby L

/-- 10 ms after the master was lost with no standby master seen, the lowest candidate is master with T_m 0 (R444). A first part, which sees no
other, joins by it. -/
def picCandidate (L : Lane) : Lane :=
  let cand := L.b F_PIC_CTRL_CAND && L.picOn && !L.pic.dup
  let low := ((List.finRange 32).filter fun g => L.posBit F_PIC_CANDS_M g && decide (g.val < L.pos.val)).isEmpty
  if !L.b F_PIC_STAT_MV && !L.b F_PIC_STAT_SV && cand && low then
    let L := if L.b F_PIC_STAT_TSYNC then L else (L.s F_PIC_STAT_TSYNC 1).event peerPic (evBit 20)
    picStandby (picTakeover 0 (L.s F_PIC_STAT_JOINED 1))
  else L

/-- The frames of a mirror set, the last one marked (Table 15.3). -/
def picMirrorFrames (dst : Nat) : List Bytes → Lane → Lane
  | [], L => L
  | b :: r, L => picMirrorFrames dst r (picNextSeq ftMirror (picOwn ftMirror r.isEmpty dst b L))

/-- The master closes a mirror set and sends it to the standby master (R287); where it sees none, what changed stays marked. -/
def picMirror (L : Lane) : Lane :=
  if L.f F_PRK_STAT_ROLE ≠ 2 ∨ !L.b F_PIC_STAT_SV ∨ L.pic.dup then L
  else
    let L := prkMirrorSet L
    match L.prk.sentSet with
    | some m => picMirrorFrames (L.f F_PIC_STAT_SPOS) (mirrorFrames m) L
    | none => L

/-- The handover to a lower candidate (R444): a last mirror set, a NOTICE, and the role of standby master. -/
def picHandover (L : Lane) : Lane :=
  if L.f F_PIC_STAT_ROLE = roleMaster ∧ L.b F_PIC_STAT_SV then
    let sp := L.f F_PIC_STAT_SPOS
    let L := if L.up .prk then picMirror L else L
    let L := picNotice .handover L.prk.setTime sp L
    picSetRole roleStandby (((L.s F_PIC_STAT_MPOS sp).s F_PIC_STAT_SPOS L.pos.val))
  else L

/-- A NOTICE arrives (R444). -/
def picNoticeRx (kind : PicNotice) (src : GroupPos) (master : GroupPos) (L : Lane) : Lane :=
  let L := L.event peerPic (evBit 21)
  match kind with
  | .takeover =>
    if L.f F_PIC_STAT_ROLE = roleMaster ∧ L.pos.val < master.val then L
    else
      let L := if L.f F_PIC_STAT_ROLE = roleMaster ∧ master ≠ L.pos then picSetRole roleNone L else L
      picStandby ((L.s F_PIC_STAT_MPOS master.val).s F_PIC_STAT_MV 1)
  | .handover =>
    let L := (L.s F_PIC_STAT_MPOS master.val).s F_PIC_STAT_MV 1
    if master = L.pos then picStandby (picSetRole roleMaster L) else picStandby L
  | .leave =>
    let L := L.setPosBit F_PIC_CANDS_M src false
    if L.b F_PIC_STAT_MV && L.f F_PIC_STAT_MPOS == src.val then picStandby (picMasterLost L) else picStandby L

/-! ### Frames received (R437, R438, R442) -/

/-- The head of the receive FIFO, in its window and level. -/
def picRxShow (L : Lane) : Lane :=
  let L := L.s F_PIC_RXSTAT_LEVEL L.pic.rxq.length
  let ws := match L.pic.rxq.head? with
    | some e =>
      let fr := e.frame
      let body := (List.range 64).map fun k => BitVec.ofNat 32 (leNat ((fr.payload.drop (4 * k)).take 4))
      [BitVec.ofNat 32 (fr.type + 256 * fr.src.val + 65536 * fr.dst + if e.ringB then 2 ^ 24 else 0),
       BitVec.ofNat 32 (fr.payload.length + 65536 * fr.seq), BitVec.ofNat 32 e.time, BitVec.ofNat 32 (e.time / 2 ^ 32)] ++ body
    | none => []
  (List.range 68).foldl (fun L k => { L with regs := rput L.regs (A_PIC_RXHEAD k) (listGet 0 ws k) }) L

/-- A frame for firmware: into the receive FIFO, or counted where it is full. -/
def picDeliver (fr : PicFrame) (ringB : Bool) (L : Lane) : Lane :=
  if 32 ≤ L.pic.rxq.length then (L.s F_PIC_STAT_RXOVF_S 1).inc F_PIC_CNT_LOST
  else (picRxShow (L.updPic fun p => { p with rxq := p.rxq ++ [⟨fr, ringB, L.gtime⟩] })).event peerPic (evBit 16)

/-- A fragment of a PUB; with both of one SEQ the car view is written (R442, R265). -/
def picPub (g : GroupPos) (seq : Nat) (frag : Bool) (data : Bytes) (L : Lane) : Lane :=
  let (h0, h1) := match L.pic.pubs[g] with
    | some (s, a, b) => if s = seq then (a, b) else ([], [])
    | none => ([], [])
  let (a, b) := if frag then (h0, data) else (data, h1)
  let L := L.updPic fun p => { p with pubs := p.pubs.set g (some (seq, a, b)) }
  if a.isEmpty || b.isEmpty then L
  else L.tsWrite (0x3C000 + 0x200 * g.val) ((List.range 80).map fun k =>
    BitVec.ofNat 32 (leNat (((a.take 256 ++ b.take 64).drop (4 * k)).take 4)))

/-- A duplicate position is seen (R443): from now on no frame of the part's own leaves, those that wait at its transmitters neither, but for link frames. -/
def picDup (L : Lane) : Lane :=
  let drop := fun (t : PicTx) => { t with queue := t.queue.filter fun o => o.rank == 0 || decide (o.frame.src ≠ L.pos) }
  (L.s F_PIC_STAT_DUPPOS_S 1).updPic fun p => { p with dup := true, txA := drop p.txA, txB := drop p.txB }

/-- A frame that passed its check: forwarded unless it is a link frame, the part's own, or has made 64 hops; and taken. -/
def picFrame (ringB : Bool) (fr : PicFrame) (L : Lane) : Lane :=
  if ftLink fr.type then L
  else if fr.src = L.pos then
    if fr.type = ftState ∧ (BitVec.ofNat 32 (leNat ((fr.payload.drop 56).take 4)) ≠ Config.partUid 0 ∨
        BitVec.ofNat 32 (leNat ((fr.payload.drop 60).take 4)) ≠ Config.partUid 1) then
      picDup L
    else L
  else if fr.type = 0 ∨ (ftTel < fr.type ∧ fr.type < 0x10) ∨ 0x1F < fr.type then L.inc F_PIC_CNT_LOST
  else
    let L := if 64 ≤ fr.hops then (L.s F_PIC_STAT_HOPS_S 1).inc F_PIC_CNT_HOPS
      else picEmit ringB { fr with hops := fr.hops + 1 } L
    if fr.type = ftState then picState fr ringB L
    else if fr.type = ftPub then picPub fr.src fr.seq fr.frag fr.payload L
    else if fr.type = ftTel then (if L.b F_PIC_CTRL_TELRX then picDeliver fr ringB L else L)
    else if ftFw fr.type ∧ (fr.dst = 0xFF ∨ fr.dst = L.pos.val) then picDeliver fr ringB L
    else L

/-- A frame received (R437): one that fails its check is counted and not forwarded whole. -/
def picRx (ringB : Bool) (fr : PicFrame) (bad : PicCheck) (L : Lane) : Lane :=
  if !L.picOn then L
  else match bad with
    | some .code => picAbort ringB fr (L.inc F_PIC_CNT_CV)
    | some _ => picAbort ringB fr (L.inc F_PIC_CNT_CRC)
    | none => picFrame ringB fr L

/-! ### Group time (R445, R446) -/

/-- The counter moved on by a time in ps. -/
def gtAdd (ps : Int) (L : Lane) : Lane :=
  let t := (L.gtime : Int) * 1000000 + L.pic.frac + ps
  { L with gtime := ((t / 1000000) % 2 ^ 48).toNat, pic := { L.pic with frac := t % 1000000 } }

/-- The counter stepped by an error in ns. -/
def picStep (err : Int) (L : Lane) : Lane := gtAdd (err * 1000) L

/-- A µs of the counter, at the rate the trim gives it (R446): a ppm is a ps in each. -/
def gtTick (L : Lane) : Lane := gtAdd (1000000 + L.pic.trim) L

/-- TSYNC, with event [20] where it changes; a part in step with the group is joined (Table 15.6). -/
def picTsync (on : Bool) (L : Lane) : Lane :=
  let was := L.b F_PIC_STAT_TSYNC
  let L := (L.sb F_PIC_STAT_TSYNC on).eventIf (was != on) peerPic (evBit 20)
  if on && L.picOn && !L.pic.leaving then L.s F_PIC_STAT_JOINED 1 else L

/-- A mark seen twice: the discipline of R446. -/
def picDiscipline (gt : Nat) (loop : Nat) (s1 s2 : Int) (L : Lane) : Lane :=
  let d := rdiv ((loop : Int) - (s2 - s1)) 2
  let err := (gt : Int) * 1000 + d - s1
  let sync := L.b F_PIC_STAT_TSYNC
  let L := L.si F_PIC_TERR_ERR (satS 32 err)
  if 500 < absI (err - L.pic.errLast) ∧ L.pic.skipped < 3 then L.updPic fun p => { p with skipped := p.skipped + 1 }
  else if 50000 < absI err ∨ (!sync ∧ 1000 < absI err) then
    picTsync false (((picStep err L).s F_PIC_STAT_TSTEP_S 1).updPic fun p => { p with good := 0 })
  else
    let good := if absI err ≤ 1000 then min 3 (L.pic.good + 1) else 0
    picTsync (decide (3 ≤ good)) (L.updPic fun p => { p with
      trim := sgn err * (min 500 (Config.picTrim err) : Nat), errLast := err, skipped := 0, good := good })

/-- The number of a mark (R445, R446): the group-time millisecond whose boundary it marks. Its frame leaves on each ring as that transmitter is free, with
the time of its own departure. -/
def markNo (gt : Nat) : Nat := gt / 1000

/-- A time mark arrives on a ring at a time (ns) of the lane's counter: the master measures its loop; another lane takes the sightings of one mark in
pairs, GTIME and LOOP being those of the first, a wrapped one both at once. -/
def picTime (ringB own : Bool) (gt : Nat) (corr : Nat) (loop : Nat) (at_ : Nat) (L : Lane) : Lane :=
  if !L.picOn then L
  else if own then
    if L.f F_PIC_STAT_ROLE = roleMaster then
      let sent := if ringB then L.pic.markB else L.pic.markA
      L.s (F_PIC_LOOP_NS (if ringB then 1 else 0)) ((at_ - sent - corr) % 2 ^ 32)
    else L
  else if L.f F_PIC_STAT_ROLE = roleMaster then L
  else
    let L := L.s (F_PIC_LOOP_NS (if ringB then 1 else 0)) (loop % 2 ^ 32)
    let s : Int := (at_ : Int) + 400 - corr
    let wrapped := L.b F_PIC_STAT_UWRAP || L.b F_PIC_STAT_DWRAP
    match L.pic.first with
    | some (g1, s1, loop1) =>
      if markNo g1 = markNo gt then picDiscipline g1 loop1 s1 s (L.updPic fun p => { p with first := none })
      else if wrapped then picDiscipline gt loop s s (L.updPic fun p => { p with first := none })
      else L.updPic fun p => { p with first := some (gt, s, loop) }
    | none =>
      if wrapped then picDiscipline gt loop s s L else L.updPic fun p => { p with first := some (gt, s, loop) }

/-- The master's TIME frame on both rings; each is stamped as it leaves (R445). -/
def picTimeSend (L : Lane) : Lane :=
  if L.f F_PIC_STAT_ROLE ≠ roleMaster ∨ !L.picTx then L
  else
    let body := fun k => leBytes 6 L.gtime ++ leBytes 4 0 ++ leBytes 4 (L.f (F_PIC_LOOP_NS k)) ++ leBytes 2 0
    let fr := fun k : Nat => PicFrame.mk ftTime L.pos false 0xFF 0 (sget 0 L.pic.seqs ftTime) (body k)
    if L.pic.dup then L
    else picNextSeq ftTime (picEmit true (fr 1) (picEmit false (fr 0) L))

/-! ### Wrap and unwrap (R448, R449) -/

/-- The port (true: upstream). -/
def Lane.port (L : Lane) (up : Bool) : PicPort := if up then L.pic.up else L.pic.down
def Lane.updPort (L : Lane) (up : Bool) (f : PicPort → PicPort) : Lane :=
  L.updPic fun p => if up then { p with up := f p.up } else { p with down := f p.down }
def portWrapF (up : Bool) : Field := if up then F_PIC_STAT_UWRAP else F_PIC_STAT_DWRAP
def portOkF (up : Bool) : Field := if up then F_PIC_PORTS_URXOK else F_PIC_PORTS_DRXOK

/-- What a wrap does to the port's transmitter, of ring B upstream and A downstream: the frame it was sending is cut, one of class G counted; those
that waited, but for link frames, turn to the other transmitter, or are lost where that port is wrapped too (DESIGN CHOICE, log 153). -/
def picTurn (b : Bool) (L : Lane) : Lane :=
  let t := L.tx b
  let cut : Bool := match (if b then L.pic.lastB else L.pic.lastA) with
    | some fr => decide (L.pic.clk < t.freeAt) && !ftLink fr.type
    | none => false
  let g : Bool := cut && match (if b then L.pic.lastB else L.pic.lastA) with
    | some fr => !ftS fr.type
    | none => false
  let L := L.inc F_PIC_CNT_LOST g.toNat
  let L := L.updTx b fun t => { t with freeAt := if cut then L.pic.clk else t.freeAt, queue := t.queue.filter fun o => o.rank == 0 }
  (t.queue.filter fun o => o.rank != 0).foldl (fun L o => match L.outOf o.ringB with
    | some b' => picOffer b' o L
    | none => L.inc F_PIC_CNT_LOST (if 3 ≤ o.rank then 1 else 0)) L

/-- A port is judged broken: it wraps (R448). -/
def picWrap (up : Bool) (L : Lane) : Lane :=
  let L := (L.s (portOkF up) 0).updPort up fun _ => { broken := true }
  if L.b (portWrapF up) then L else (picTurn up ((L.s (portWrapF up) 1).s F_PIC_STAT_WRAP_S 1)).event peerPic (evBit 18)

/-- The first multiple of 10 ms at least 20 ms from now. -/
def picSwitchAt (L : Lane) : Nat := (L.gtime + 20000 + 9999) / 10000 * 10000

/-- The link frames leave on the port they test: ring B upstream, ring A downstream, wrapped or not. -/
def picLink (up : Bool) (fr : PicFrame) (L : Lane) : Lane :=
  if !L.picTx then L else picOffer up ⟨0, fr, up, L.pic.clk⟩ L

/-- An UNWRAP frame (Table 15.3). -/
def picUnwrapSend (up : Bool) (t : Nat) (ack : Bool) (L : Lane) : Lane :=
  picLink up ⟨ftUnwrap, L.pos, false, 0xFF, 0, 0, leBytes 6 t ++ leBytes 1 (if ack then 1 else 0)⟩ L

/-- A proposal to unwrap a port (R449). -/
def picPropose (up : Bool) (L : Lane) : Lane :=
  let t := picSwitchAt L
  picUnwrapSend up t false (L.updPort up fun p => { p with asked := some t })

/-- A good LTEST (R448, R449): its RXOK, or a leave indication; a wrapped end of the lower position proposes once both have been good for 100 ms. -/
def picLtest (up rxok leave : Bool) (src : GroupPos) (L : Lane) : Lane :=
  if !L.picOn then L
  else if leave ∨ !rxok then
    let L := picWrap up L
    L.s (portOkF up) 1
  else
    let L := L.s (portOkF up) 1
    let since := match (L.port up).okAt with
      | some t => t
      | none => L.gtime
    let L := L.updPort up fun p => { p with okAt := some since, broken := false }
    if L.b (portWrapF up) && decide (since + 100000 ≤ L.gtime) && decide (L.pos.val < src.val) && (L.port up).asked.isNone then picPropose up L
    else L

/-- The LTEST both ports send (R448); a part that leaves says so once its NOTICE has left (R452; bit 1 of the payload: DESIGN CHOICE, log 98). -/
def picLtestSend (L : Lane) : Lane :=
  let waits := (L.pic.txA.queue ++ L.pic.txB.queue).any fun o => o.frame.type == ftNotice && decide (o.frame.src = L.pos)
  let body := fun up => [BitVec.ofNat 8 ((if L.b (portOkF up) then 1 else 0) + if L.pic.leaving && !waits then 2 else 0)] ++ List.replicate 3 0
  let fr := fun up => PicFrame.mk ftLtest L.pos false 0xFF 0 0 (body up)
  picLink true (fr true) (picLink false (fr false) L)

/-- An UNWRAP arrives (R449): a proposal is taken and acknowledged where this end too has been good for 100 ms; an acknowledge agrees the time proposed. -/
def picUnwrap (up : Bool) (t : Nat) (ack : Bool) (L : Lane) : Lane :=
  if !L.picOn || !L.b (portWrapF up) then L
  else if ack then (if (L.port up).asked = some t then L.updPort up fun p => { p with agreed := some t } else L)
  else if (match (L.port up).okAt with | some since => decide (since + 100000 ≤ L.gtime) | none => false) then
    picUnwrapSend up t true (L.updPort up fun p => { p with agreed := some t })
  else L

/-- Group time reaches the agreed T (R449). -/
def picUnwrapAt (up : Bool) (L : Lane) : Lane :=
  match (L.port up).agreed with
  | some t =>
    if L.b (portWrapF up) && decide (t ≤ L.gtime) then ((L.s (portWrapF up) 0).updPort up fun p => { p with asked := none, agreed := none }).event peerPic (evBit 18)
    else L
  | none => L

/-- No acknowledgement came: the proposal is made again (R449). -/
def picRetry (up : Bool) (L : Lane) : Lane :=
  if L.b (portWrapF up) && (L.port up).asked.isSome && (L.port up).agreed.isNone then picPropose up L else L

/-! ### Own frames of class G (R442) -/

/-- The latest publication, as two fragments of one PUB; the own car view is written with it. -/
def picPubSend (L : Lane) : Lane :=
  if !L.b F_PIC_STAT_JOINED || L.prk.pub.isEmpty || L.pic.dup || !L.picTx then L
  else
    let bytes := L.prk.pub.flatMap wordBytes
    let a := (bytes ++ List.replicate 256 0).take 256
    let b := ((bytes.drop 256) ++ List.replicate 64 0).take 64
    let n := sget 0 L.pic.seqs ftPub
    let L := picNextSeq ftPub (picOwn ftPub true 0xFF b (picOwn ftPub false 0xFF a L))
    picPub L.pos n true b (picPub L.pos n false a L)

/-- PIC_TXPUSH (Table 15.9): the staged frame queued. -/
def picTxPush (v : Word) (L : Lane) : Lane × Nat :=
  if !v.getLsbD 0 then (L, stOk)
  else
    let t := L.f F_PIC_TXH_TYPE
    let len := L.f F_PIC_TXH_LEN
    if !ftFw t then (L, stBadValue)
    else if !L.b F_PIC_STAT_JOINED then (L, picNotJoined)
    else if len = 0 then (L, stNoop)
    else if 16 ≤ L.pic.txq.length then (L, stQfull)
    else
      let n := min len 256
      let data := ((List.range 64).flatMap fun k => wordBytes (rget L.regs (A_PIC_TXDATA k))).take n
      let fr : PicFrame := ⟨t, L.pos, false, L.f F_PIC_TXH_DST, 0, 0, data⟩
      let L := L.stick (256 < len) F_PIC_STAT_TRUNC_S
      ((L.updPic fun p => { p with txq := p.txq ++ [fr] }).s F_PIC_TXQSTAT_LEVEL (L.pic.txq.length + 1), stOk)

/-- The head of the transmit queue leaves once the token bucket holds its length (R442). `now` is the time in µs. -/
def picFwSend (now : Nat) (L : Lane) : Lane :=
  let cap := 1000 * L.f F_PIC_FWRATE_BURST
  let have_ := min cap (L.pic.bucket + L.f F_PIC_FWRATE_RATE * (now - L.pic.bucketAt))
  let L := L.updPic fun p => { p with bucket := have_, bucketAt := now }
  match L.pic.txq with
  | [] => L
  | fr :: rest =>
    let need := 1000 * fr.payload.length
    if !L.picTx || !L.b F_PIC_STAT_JOINED || L.pic.dup || have_ < need then L
    else
      let L := (L.updPic fun p => { p with txq := rest, bucket := have_ - need }).s F_PIC_TXQSTAT_LEVEL rest.length
      picSend fr.type fr.dst fr.payload L

/-- PIC_RXPOP (Table 15.9). -/
def picRxPop (v : Word) (L : Lane) : Lane × Nat :=
  if !v.getLsbD 0 then (L, stOk)
  else if L.pic.rxq.isEmpty then (L, stNoop)
  else (picRxShow (L.updPic fun p => { p with rxq := p.rxq.drop 1 }), stOk)

/-! ### Leaving, control, equalisation (R451, R452) -/

/-- LEAVE (R452): a leaving master first hands over; then the NOTICE, and after it the indication in LTEST. -/
def picLeave (L : Lane) : Lane × Nat :=
  if !L.b F_PIC_STAT_JOINED then (L, stNoop)
  else
    let L := picHandover L
    (picLtestSend ((picNotice .leave 0 L.pos.val L).updPic fun p => { p with leaving := true }), stOk)

/-- PIC stops sending and forwarding: not joined, no role, nothing seen, both ports wrapped as a part that joins finds them. -/
def picSilent (L : Lane) : Lane :=
  let L := picSetRole roleNone (L.s F_PIC_STAT_JOINED 0)
  let L := ((L.s F_PIC_STAT_MV 0).s F_PIC_STAT_SV 0).updPic fun p => { p with leaving := false, up := {}, down := {}, first := none, good := 0, skipped := 0 }
  let L := L.updPic fun p => { p with txA := {}, txB := {} }
  let L := ((L.s F_PIC_SEEN_M 0).s F_PIC_CANDS_M 0).s F_PIC_STAT_TSYNC 0
  (L.s F_PIC_STAT_UWRAP 1).s F_PIC_STAT_DWRAP 1

/-- 1 ms after LEAVE (R452): the transmitters are off and JOINED clears. -/
def picLeft (L : Lane) : Lane := if L.pic.leaving then picSilent (L.s F_PIC_CTRL_EN 0) else L

/-- A write to PIC_CTRL. -/
def picCtrl (v : Word) (L : Lane) : Lane × Nat :=
  let (L', st) := if bits v 3 0 = 1 then picLeave L else (L, stOk)
  if st ≠ stOk then (L, st)
  else
    let was := L'.picOn
    let L' := L'.store A_PIC_CTRL v
    if was && !L'.picOn then (picSilent L', stOk)
    else if L'.picOn then (if L'.b F_PIC_STAT_MV || L'.f F_PIC_STAT_ROLE != roleNone then
        (if !L'.ownCand && L'.f F_PIC_STAT_ROLE == roleMaster then picSetRole roleNone (L'.s F_PIC_STAT_MV 0) else picStandby L', stOk) else (L', stOk))
    else (L', stOk)

/-- A write to PIC_EQCFG (R451): without ADAPT both boosts start from EQFIX, else they stay within the limits. -/
def picEqcfg (v : Word) (L : Lane) : Lane × Nat :=
  if bits v 3 0 < bits v 7 4 ∨ bits v 11 8 < bits v 3 0 then (L, stBadValue)
  else
    let L := L.store A_PIC_EQCFG v
    let lim := fun x => max (bits v 7 4) (min x (bits v 11 8))
    let to_ := fun f => if v.getLsbD 31 then (if L.pic.eqBegun then lim (L.f f) else L.f f) else bits v 3 0
    ((L.s F_PIC_PORTS_EQU (to_ F_PIC_PORTS_EQU)).s F_PIC_PORTS_EQD (to_ F_PIC_PORTS_EQD), stOk)

/-- One step of a receiver's boost (R451): `more` is the way that narrows the edges; `shut` the eye is open by less than 40 %. -/
def picEq (up more shut : Bool) (L : Lane) : Lane :=
  let f := if up then F_PIC_PORTS_EQU else F_PIC_PORTS_EQD
  let fix := L.f F_PIC_EQCFG_EQFIX
  if !L.b F_PIC_EQCFG_ADAPT then (L.s F_PIC_PORTS_EQU fix).s F_PIC_PORTS_EQD fix
  else
    let L := if L.pic.eqBegun then L else ((L.s F_PIC_PORTS_EQU fix).s F_PIC_PORTS_EQD fix).updPic fun p => { p with eqBegun := true }
    if (L.port up).broken then L
    else
      let cur := L.f f
      let lim := if more then L.f F_PIC_EQCFG_EQMAX else L.f F_PIC_EQCFG_EQMIN
      if (if more then lim ≤ cur else cur ≤ lim) then (L.s f lim).stick shut F_PIC_STAT_EQLIM_S
      else L.s f (if more then cur + 1 else cur - 1)

/-- A frame as the ring carries it: at most 256 bytes of payload (DEDUCED, log 131). -/
def picOnWire (fr : PicFrame) : PicFrame := { fr with payload := fr.payload.take 256 }

/-! ### Meanings -/

/-- SEL_CYCLE (R208, R210): the guard's cycle, and the STATE that carries its record. -/
def execSelCycle (l : LaneId) (s : State) : Host.Outcome State Fault Refusal :=
  lift (fun w => onBlock l .pic (picSendState l) (onBlock l .sel (selCycle w.pairsOff) w)) s

/-- PIC_FRAME_RX (R437 to R443, R450). -/
def execPicFrameRx (ringB : Bool) (fr : PicFrame) (bad : PicCheck) (s : State) : Host.Outcome State Fault Refusal :=
  lift (World.pads fun l => onBlock l .pic (picRx ringB (picOnWire fr) bad)) s

/-- TIME (R446). -/
def execTime (ringB own : Bool) (gt corr loop arrA arrB : Nat) (s : State) : Host.Outcome State Fault Refusal :=
  lift (World.pads fun l => onBlock l .pic (picTime ringB own gt corr loop (if l = .a then arrA else arrB))) s

/-- TIME_SEND (R445). -/
def execTimeSend (l : LaneId) (s : State) : Host.Outcome State Fault Refusal := lift (onBlock l .pic picTimeSend) s

/-- LTEST (R448, R449, R452). -/
def execLtest (up rxok leave : Bool) (src : GroupPos) (s : State) : Host.Outcome State Fault Refusal :=
  lift (World.pads fun l => onBlock l .pic (picLtest up rxok leave src)) s

/-- LTEST_SEND (R448). -/
def execLtestSend (l : LaneId) (s : State) : Host.Outcome State Fault Refusal := lift (onBlock l .pic picLtestSend) s

/-- PORT_BROKEN (R448). -/
def execPortBroken (l : LaneId) (up : Bool) (s : State) : Host.Outcome State Fault Refusal :=
  lift (onBlock l .pic fun L => if L.picOn then picWrap up L else L) s

/-- UNWRAP (R449). -/
def execUnwrap (up : Bool) (t : Nat) (ack : Bool) (s : State) : Host.Outcome State Fault Refusal :=
  lift (World.pads fun l => onBlock l .pic (picUnwrap up t ack)) s

/-- UNWRAP_AT_T (R449). -/
def execUnwrapAtT (l : LaneId) (up : Bool) (s : State) : Host.Outcome State Fault Refusal := lift (onBlock l .pic (picUnwrapAt up)) s

/-- UNWRAP_RETRY (R449). -/
def execUnwrapRetry (l : LaneId) (up : Bool) (s : State) : Host.Outcome State Fault Refusal := lift (onBlock l .pic (picRetry up)) s

/-- NOTICE (R444). -/
def execNotice (kind : PicNotice) (src master : GroupPos) (s : State) : Host.Outcome State Fault Refusal :=
  lift (World.pads fun l => onBlock l .pic fun L => if L.picOn then picNoticeRx kind src master L else L) s

/-- PART_UNSEEN (R443, R444, R450). -/
def execPartUnseen (l : LaneId) (g : GroupPos) (s : State) : Host.Outcome State Fault Refusal := lift (onBlock l .pic (picUnseen g)) s

/-- HANDOVER (R444). -/
def execHandover (l : LaneId) (s : State) : Host.Outcome State Fault Refusal :=
  lift (onBlock l .pic fun L => if L.f F_PIC_STAT_SPOS < L.pos.val then picHandover L else L) s

/-- MIRROR_SEND (R287). -/
def execMirrorSend (l : LaneId) (s : State) : Host.Outcome State Fault Refusal :=
  lift (onBlock l .prk fun L => if L.up .pic then picMirror L else L) s

/-- PUB_SEND (R442). -/
def execPubSend (l : LaneId) (s : State) : Host.Outcome State Fault Refusal := lift (onBlock l .pic picPubSend) s

/-- FW_FRAME_SEND (R442). -/
def execFwFrameSend (l : LaneId) (s : State) : Host.Outcome State Fault Refusal :=
  lift (fun w => onBlock l .pic (picFwSend w.time) w) s

/-- LEAVE_COMPLETE (R452). -/
def execLeaveComplete (l : LaneId) (s : State) : Host.Outcome State Fault Refusal := lift (onBlock l .pic picLeft) s

/-- EQ_ADAPT (R451). -/
def execEqAdapt (l : LaneId) (up more shut : Bool) (s : State) : Host.Outcome State Fault Refusal :=
  lift (onBlock l .pic (picEq up more shut)) s

/-- CANDIDATE_MASTER_TIMEOUT (R444). -/
def execCandidateMasterTimeout (l : LaneId) (s : State) : Host.Outcome State Fault Refusal := lift (onBlock l .pic picCandidate) s

end Sys2Proof.Machine
end

