-- ==== Sys2Proof/Machine/Tat.lean ====
section
/-!
DEFINITION. The loop coprocessor TAT and the trace recorder TRC (spec 05).
-/
namespace Sys2Proof.Machine

/-! ### Codes -/

/-- Status codes of TAT. -/
def tatProgLive : Nat := 0x40
def tatProgInvalid : Nat := 0x41
def tatDestTaken : Nat := 0x42
def tatHwOwned : Nat := 0x43
/-- PEER number of TRC's events and of slot n's. -/
def peerTrc : Nat := 41
def peerSlot (n : Slot) : Nat := 16 + n.val

/-! ### Loop-only operations (Table 5.3) -/

/-- A word of slot n's gain table in buffer g: entry j, 0 for x and 1 for y. -/
def gainWord (L : Lane) (g : Bool) (n : Slot) (j k : Nat) : Int :=
  (readWord L.tsram (0x25000 + (if g then 0x1000 else 0) + n.val * 0x200 + j * 8 + 4 * k)).toInt

/-- The seven probes of LGAIN: the first index whose x lies above xin, or 64. -/
def gainProbe (x : Nat → Int) (xin : Int) : Nat → Nat → Nat → Nat
  | 0, lo, _ => lo
  | k + 1, lo, hi =>
    if lo < hi then
      let mid := (lo + hi) / 2
      if xin < x mid then gainProbe x xin k lo mid else gainProbe x xin k (mid + 1) hi
    else gainProbe x xin k lo hi

/-- The entries those probes read. -/
def gainProbed (x : Nat → Int) (xin : Int) : Nat → Nat → Nat → List Nat
  | 0, _, _ => []
  | k + 1, lo, hi =>
    if lo < hi then
      let mid := (lo + hi) / 2
      mid :: (if xin < x mid then gainProbed x xin k lo mid else gainProbed x xin k (mid + 1) hi)
    else gainProbed x xin k lo hi

/-- The words LGAIN reads, in this order: the x of the entries probed, then the y of the bracket's entries. -/
def gainReads (L : Lane) (g : Bool) (n : Slot) (xin : Int) : List Nat :=
  let x := fun j => gainWord L g n j 0
  let lo := gainProbe x xin 7 0 64
  let at_ := fun j k => 0x30025000 + (if g then 0x1000 else 0) + n.val * 0x200 + j * 8 + 4 * k
  (gainProbed x xin 7 0 64).map (fun j => at_ j 0) ++ (if lo = 0 then [at_ 0 1] else if lo = 64 then [at_ 63 1] else [at_ (lo - 1) 1, at_ lo 1])

/-- LGAIN (R125): the value and the flags Z, C; the value is clamped to 32 bits with V and SAT_S. -/
def kLgain (x y : Nat → Int) (rd rs : RegNo) (c : KCore) : KCore :=
  let xin := c.geti rs
  let lo := gainProbe x xin 7 0 64
  let out := fun (z cy : Bool) (v : Int) =>
    ((((c.put rd (wOf (satS 32 v))).setFlag ksrZ z).setFlag ksrC cy).setFlag ksrV (satS 32 v != v)).stick ksrSat
      (satS 32 v != v)
  if lo = 0 then out false true (y 0)
  else
    let i := lo - 1
    if lo = 64 then out (xin == x i) (x 63 < xin) (y 63)
    else out (xin == x i) false (y i + rdiv ((y lo - y i) * (xin - x i)) (x lo - x i))

/-- One biquad section (R126): the output, the section's next states, and whether anything was clamped. -/
def biquadStep (q : Biquad) (x : Int) : Int × Biquad × Bool :=
  let yf := rnd (q.b0 * x + q.s1) 30
  let y := satS 32 yf
  let s1 := q.b1 * x - q.a1 * y + q.s2
  let s2 := q.b2 * x - q.a2 * y
  (y, { q with s1 := satS 64 s1, s2 := satS 64 s2 }, y != yf || satS 64 s1 != s1 || satS 64 s2 != s2)

/-- BQD (R126) on the working registers and the slot's section; where nothing is clamped V falls, as R95 has it for the instructions it lists (DESIGN
CHOICE, log 140). -/
def tatBqd (n : Slot) (rd rs : RegNo) (sec : AccNo) (L : Lane) : Lane :=
  let c := L.tat.core
  let r := biquadStep (L.slot n).bq[sec] (c.geti rs)
  let c' := ((c.put rd (wOf r.1)).setFlag ksrV r.2.2).stick ksrSat r.2.2
  let L := if n = 0 then spgNotchSense sec.val (c.geti rs) L else L
  ({ L with tat := { L.tat with core := c' } }).updSlot n fun s => { s with bq := s.bq.set sec r.2.1 }

/-- A limit pair that DOR writes (R238). -/
def limOwned (n p : Nat) (L : Lane) : Bool :=
  let own := fun cur pos : Nat => (n == cur && p == 3) || (n == pos && decide (2 ≤ p))
  (L.b (F_DOR_CTRL_EN 0) && own 1 2) || (L.b (F_DOR_CTRL_EN 1) && own 3 4)

/-- A limit pair as its registers hold it. -/
def limPair (L : Lane) (n : Slot) (p : AccNo) : Int × Int := (L.i (F_TAT_LIMLO_LO n.val p.val), L.i (F_TAT_LIMHI_HI n.val p.val))

/-- A limit pair in use: one that DOR writes takes effect at the slot's sample instant (R238). -/
def limUse (L : Lane) (n : Slot) (p : AccNo) : Int × Int := if limOwned n.val p.val L then (L.slot n).lims[p] else limPair L n p

/-- LCLMP (R127): the limit pair, LO where LO > HI; the pair is marked for the next run. -/
def tatLclmp (n : Slot) (rd rs : RegNo) (pair : AccNo) (L : Lane) : Lane :=
  let c := L.tat.core
  let (lo, hi) := limUse L n pair
  let x := c.geti rs
  let y := if hi < lo then lo else clampI lo hi x
  let c' := (c.put rd (wOf y)).stick ksrV (y != x)
  ({ L with tat := { L.tat with core := c' } }).updSlot n fun s =>
    if y = x then s else { s with clmpRun := s.clmpRun ||| 2 ^ pair.val }

/-- LGAIN on the working registers, from the slot's table in the buffer latched for it. -/
def tatLgain (n : Slot) (rd rs : RegNo) (L : Lane) : Lane :=
  let g := (L.slot n).gsel
  { L with tat := { L.tat with
      core := kLgain (fun j => gainWord L g n j 0) (fun j => gainWord L g n j 1) rd rs L.tat.core } }

/-- OUT (R128): a result word; with E the run ends and its words cross to the output latches. -/
def tatOut (n : Slot) (rs : RegNo) (port : AccNo) (last : Bool) (L : Lane) : Lane :=
  let outs := (port, L.tat.core.get rs) :: L.tat.outs
  if last then
    let L := ({ L with tat := { L.tat with outs := [], cur := none } }).updSlot n fun s =>
      { s with sent := some outs.reverse, ticksLast := s.ticksRun }
    L.stick (L.tat.core.flag ksrSat) (F_TAT_SLOTSTAT_SAT_S n.val)
  else { L with tat := { L.tat with outs := outs } }

/-! ### The sample instant -/

/-- The byte k of the selector words in use: the code of input word k (Table 5.4). -/
def TatSlot.code (s : TatSlot) (k : Nat) : Nat :=
  bits (s.insel[k / 4 % 4]'(Nat.mod_lt _ (by decide))) (8 * (k % 4) + 7) (8 * (k % 4))

/-- What the guard path computes from at an instant (R138): reference and measurement among the latched inputs. -/
def TatSlot.input (s : TatSlot) (k : Nat) : Int := (s.inputs[k % 16]'(Nat.mod_lt _ (by decide))).toInt

/-- The port the guard path drives. -/
def TatSlot.gport (s : TatSlot) : AccNo := ⟨bits s.gpcfg 23 22, by unfold bits; exact Nat.mod_lt _ (by decide)⟩

/-- The proportional-integral guard path, once (R138); the ramp length K is rounded as R97 rounds (log 29). A limit pair with LO > HI gives LO, as R127
has it for LCLMP (DESIGN CHOICE, log 170). -/
def guardPi (kp ki lo hi : Int) (ramp period : Nat) (s : TatSlot) : TatSlot :=
  let ref := s.input (bits s.gpcfg 31 28)
  let meas := s.input (bits s.gpcfg 27 24)
  let r0 := if s.entering then meas else s.r0
  let k0 := if s.entering then 0 else s.k
  let kL := if s.entering then (rdiv (ramp * 80000) period).toNat else s.kLen
  let k := if k0 < kL then k0 + 1 else k0
  let r := if k0 < kL then r0 + rdiv ((ref - r0) * k) kL else ref
  let e := satS 32 (r - meas)
  let p := rnd (kp * e) 16
  let i0 := if s.entering then (s.ports[s.gport]).toInt - p else s.integ
  let raw := satS 32 (p + i0)
  let u := if hi < lo then lo else clampI lo hi raw
  let di := rnd (ki * e) 16
  let back := (hi < raw && di < 0) || (raw < lo && 0 < di)
  { s with r0 := r0, k := k, kLen := kL, entering := false, guardOut := u,
           integ := if u = raw || back then satS 48 (i0 + di) else i0 }

/-- The guard path's computation at an instant, by GMODE: PI, 0, or the held value, in BLEND the port's present value (DESIGN CHOICE, log
160). -/
def guardCompute (n : Slot) (L : Lane) (s : TatSlot) : TatSlot :=
  match L.f (F_TAT_SLOTCFG_GMODE n.val) with
  | 1 =>
    let (lo, hi) := limUse L n ⟨bits s.gpcfg 21 20, by unfold bits; exact Nat.mod_lt _ (by decide)⟩
    guardPi (L.i (F_TAT_GPKP_KP n.val)) (L.i (F_TAT_GPKI_KI n.val)) lo hi (bits s.gpcfg 19 12) (L.f (F_TAT_SLOTCFG_PERIOD n.val)) s
  | 2 => { s with guardOut := 0, entering := false }
  | _ => { s with guardOut := (s.ports[s.gport]).toInt, entering := false }

/-- What a slot in GUARD drives at the next instant (R138): ZERO every port 0, PI the guard port, HOLD what it held. -/
def guardPorts (n : Slot) (L : Lane) (s : TatSlot) : TatSlot :=
  match L.f (F_TAT_SLOTCFG_GMODE n.val) with
  | 1 => { s with nextPorts := s.nextPorts.set s.gport (wOf s.guardOut) }
  | 2 => { s with nextPorts := Vector.replicate 4 0 }
  | _ => { s with nextPorts := s.ports }

/-- The guard path of a slot at an instant in GUARD or BLEND: what it computes goes to the next instant, in BLEND to the guard port unless a
result is blended before. -/
def tatGuardStep (n : Slot) (L : Lane) : Lane :=
  L.updSlot n fun s =>
    let s := guardCompute n L s
    if L.slotState n = slGuard then guardPorts n L s else { s with nextPorts := s.nextPorts.set s.gport (wOf s.guardOut) }

/-- A slot enters GUARD with a cause (R137, R140): the state, the sticky bit, the event and what the blocks behind a
slot that leaves RUN or BLEND do. -/
def tatEnterGuard (n : Slot) (cause : Nat) (fresh : Bool) (L : Lane) : Lane :=
  let ran := L.slotState n = slRun ∨ L.slotState n = slBlend
  let L := ((L.s (F_TAT_SLOTSTAT_STATE n.val) slGuard).s (F_TAT_SLOTSTAT_GUARD_S n.val) 1).s
    (F_TAT_SLOTSTAT_GCAUSE n.val) cause
  let L := L.updSlot n fun s => { s with
    entering := fresh || s.entering, guardReq := none, pending := false, sent := none, kb := 0 }
  let L := if L.f F_TRC_CTRL_CLK = n.val then { L with trc := { L.trc with slotEvent := true } } else L
  (L.event (peerSlot n) (evBit 18)).ifDo (decide ran) (slotGuardHook n)

/-- What a sample instant takes over: biquad coefficients committed (R126), the selectors, destinations and guard configuration
(R134), the bank (R132) and the gain buffer (R67). -/
def tatTakeOver (n : Slot) (L : Lane) : Lane :=
  let commit := getBit L.regs F_TAT_BQCOMMIT_CMT n.val
  let L1 := if commit then { L with regs := setBit L.regs F_TAT_BQCOMMIT_CMT n.val false } else L
  L1.updSlot n fun s =>
    let q := if commit then
        Vector.ofFn fun i : Fin 4 =>
          let b := bqCoefs L n.val i.val s.bq[i]
          if s.bqClr then { b with s1 := 0, s2 := 0 } else b
      else s.bq
    let bank := L.b (F_TAT_SLOTCFG_BANK n.val)
    { s with
      bq := q, bqClr := if commit then false else s.bqClr,
      insel := Vector.ofFn fun j : Fin 4 => rget L.regs (A_TAT_INSEL n.val j.val),
      outdst := rget L.regs (A_TAT_OUTDST n.val), gpcfg := rget L.regs (A_TAT_GPCFG n.val),
      bank := bank, banksw := s.banksw || bank != s.bank, gsel := L.b F_TAT_CTRL_GSEL,
      lims := Vector.ofFn fun p : Fin 4 => limPair L n p }

/-- The value channel c of the recorder has: an input code or a data RAM word (TRC_CHSEL). -/
def trcValue (L : Lane) (c : Nat) : Word :=
  if L.f (F_TRC_CHSEL_KIND c) = 1 then rget L.regs (A_TAT_DATA (L.f (F_TRC_CHSEL_SLOT c)) (L.f (F_TRC_CHSEL_WORD c)))
  else tatInput L (L.f (F_TRC_CHSEL_SRC c))

/-- A sample instant of the slot that clocks the recorder: at every DIV-th its channels are latched and a trace sample is due (R141). -/
def trcClock (n : Slot) (L : Lane) : Lane :=
  if L.f F_TRC_CTRL_CLK ≠ n.val ∨ !L.up .trc then L
  else if L.trc.insts + 1 < L.f F_TRC_CTRL_DIV then { L with trc := { L.trc with insts := L.trc.insts + 1 } }
  else { L with trc := { L.trc with insts := 0, latched := some (Vector.ofFn fun c : Fin 16 => trcValue L c.val) } }

/-- The clocks of F left before a slot's deadline edge (R56). -/
def slotLeft (n : Slot) (L : Lane) : Int := ((L.slot n).due : Int) - L.fclk

/-- A slot's ports hold, its overrun counters move, and after the permitted number it goes to GUARD (R136, R137, R140). An
overrun in BLEND is counted and shown as one in RUN (DESIGN CHOICE, log 160). -/
def tatOverrun (n : Slot) (L : Lane) : Lane :=
  let L := { L with regs := setBit L.regs F_TAT_OVR_OVR_S n.val true }
  let cnt := min 8 (L.f (F_TAT_SLOTSTAT_ORUN_CNT n.val) + 1)
  let L := (L.s (F_TAT_SLOTSTAT_ORUN_CNT n.val) cnt).inc (F_TAT_RUNSTAT_ORCNT n.val)
  let L := if L.f F_TRC_CTRL_CLK = n.val then { L with trc := { L.trc with slotEvent := true } } else L
  let L := L.event (peerSlot n) (evBit 17)
  if L.slotState n = slBlend then (tatEnterGuard n gcOverrun false L).updSlot n (guardPorts n L)
  else if L.f (F_TAT_SLOTCFG_ORUN_M1 n.val) + 1 ≤ cnt then
    L.updSlot n fun s => { s with guardReq := some gcOverrun }
  else L

/-- The deadline edge of a slot (R120, R121), once F has reached it: a run not started merges its tick into the next; a run still
executing has its result discarded. -/
def tatDeadline (n : Slot) (L : Lane) : Lane :=
  let s := L.slot n
  let st := L.slotState n
  if (st ≠ slRun ∧ st ≠ slBlend) ∨ 80 ≤ slotLeft n L then L
  else if s.pending then tatOverrun n (L.updSlot n fun s => { s with pending := false })
  else if s.sent.isSome then tatOverrun n (L.updSlot n fun s => { s with sent := none, late := true })
  else L

/-- The sample instant of a slot (R117, R118, R129, R137, R138), where F has one; its tick goes to TAT over the slot's crossing (Table 2.10). A
deadline edge that has passed unjudged is judged before (R120, R121). An entry into GUARD that is due restarts the guard path unless the slot is in
GUARD already; a refused resume and an overrun in BLEND keep its state (R140; for the causes of R137 in BLEND a DESIGN CHOICE, log 160). -/
def tatSample (n : Slot) (L : Lane) : Lane :=
  let period := L.f (F_TAT_SLOTCFG_PERIOD n.val)
  if !L.b (F_TAT_SLOTCFG_EN n.val) || period = 0 then L
  else match instantIn L.fclk period (L.f (F_TAT_SLOTPH_PHASE n.val)) with
  | none => L
  | some off =>
    let L := if slotLeft n L ≤ 0 then tatDeadline n L else L
    let L := L.updSlot n fun s => { s with ports := s.nextPorts }
    let L := tatTakeOver n L
    let L := match (L.slot n).guardReq with
      | some c => if L.slotState n = slOff then L else tatEnterGuard n c (L.slotState n != slGuard) L
      | none => L
    let L := L.updSlot n fun s => { s with
      inputs := Vector.ofFn fun k : Fin 16 => tatInput L (s.code k.val) }
    let st := L.slotState n
    let L := L.updSlot n fun s => { s with due := L.fclk + off + period - 160 }
    let L := L.crossEvent ⟨n.val, by omega⟩ 0
    slotSampleHook n (trcClock n (if st = slGuard || st = slBlend then tatGuardStep n L else L))

/-! ### A run -/

/-- A run in progress: the lane, the word index, the reads so far, and how it ended (`some 0` sent its result, else the fault
code of TAT_RUNSTAT). -/
structure TatRunSt where
  lane : Lane
  idx : Nat
  reads : Nat
  done : Option Nat

/-- FLAGS of Table 5.2. -/
def tatFlags (L : Lane) (n : Slot) : Nat :=
  let s := L.slot n
  (if s.first then 1 else 0) + (if L.slotState n = slBlend then 2 else 0) + (if s.banksw then 4 else 0) +
    (if s.late then 8 else 0) + 16 * s.clmp

/-- A read of the slot's address space (Table 5.2): the value, or a fault code; a misaligned address is ALIGN wherever it lies (DESIGN CHOICE, log
170). -/
def tatLoad (L : Lane) (n : Slot) (a : Nat) : Word ⊕ Nat :=
  let s := L.slot n
  if a % 4 ≠ 0 then .inr 2
  else if a < 0x400 then .inl (rget L.regs (A_TAT_DATA n.val (a / 4)))
  else if a < 0x440 then .inl (s.inputs[(a - 0x400) / 4 % 16]'(Nat.mod_lt _ (by decide)))
  else if a = 0x440 then .inl (BitVec.ofNat 32 s.ticksRun)
  else if a = 0x444 then .inl (BitVec.ofNat 32 (tatFlags L n))
  else if a < 0x458 then .inl (s.ports[(a - 0x448) / 4 % 4]'(Nat.mod_lt _ (by decide)))
  else .inr 1

/-- One word of a run (R122 to R128). A store at 0x458 or above has the code ADDRESS, one from 0x400 to 0x457 STORE_INPUT; a word outside the loop subset in a
bank that was never checked ends the run with ADDRESS (DESIGN CHOICE, log 140); a misaligned store is ALIGN wherever it lies (DESIGN CHOICE, log 170). -/
def tatRunWord (n : Slot) (ecc : Ecc) (r0 : TatRunSt) : TatRunSt :=
  let L := r0.lane
  let c := L.tat.core
  let pa := A_TAT_BANK n.val (r0.idx + if (L.slot n).bank then 512 else 0)
  let w := rget L.regs pa
  let (L, ok) := eccReads ecc r0.reads [pa] L
  let r := { r0 with lane := L, reads := r0.reads + 1 }
  let next := { r with idx := r.idx + 1 }
  let put := fun (c : KCore) => { next with lane := { L with tat := { L.tat with core := c } } }
  if !ok then { r with done := some 3 }
  else match kDecodeLoop w with
  | some (.lgain rd rs) =>
    let words := gainReads L (L.slot n).gsel n (c.geti rs)
    let (L, ok) := eccReads ecc r.reads words L
    if !ok then { r with lane := L, done := some 3 }
    else { next with lane := tatLgain n rd rs L, reads := r.reads + words.length }
  | some (.bqd rd rs s) => { next with lane := tatBqd n rd rs s L }
  | some (.lclmp rd rs p) => { next with lane := tatLclmp n rd rs p L }
  | some (.out rs p last) => { next with lane := tatOut n rs p last L, done := if last then some 0 else none }
  | none =>
    match kDecode .a 0 ⟨0, .clean⟩ w with
    | .ok (.ldw _ _ rd rs i _) =>
      let a := c.addrOf rs i
      match tatLoad L n a with
      | .inr f => { r with done := some f }
      | .inl v =>
        let words := if a < 0x400 then [A_TAT_DATA n.val (a / 4)] else []
        let (L, ok) := eccReads ecc r.reads words L
        if !ok then { r with lane := L, done := some 3 }
        else { next with lane := { L with tat := { L.tat with core := c.put rd v } }, reads := r.reads + words.length }
    | .ok (.stw _ _ rd rs i) =>
      let a := c.addrOf rs i
      if a % 4 ≠ 0 then { r with done := some 2 }
      else if a < 0x400 then
        { next with lane := ({ L with regs := rput L.regs (A_TAT_DATA n.val (a / 4)) (c.get rd) }).healed (A_TAT_DATA n.val (a / 4)) 4 }
      else if a < 0x458 then { r with done := some 4 }
      else { r with done := some 1 }
    | .ok i =>
      match loopCore i with
      | some f => put (f c)
      | none =>
        match loopBranch c i with
        | some (true, o) => { r with idx := (r.idx + o).toNat }
        | some (false, _) => next
        | none => { r with done := some 1 }
    | _ => { r with done := some 1 }

/-- A run to its end; with forward branches only, 512 words suffice (R123). -/
def tatRunLoop (n : Slot) (ecc : Ecc) : Nat → TatRunSt → TatRunSt
  | 0, r => r
  | k + 1, r => if r.done.isSome then r else tatRunLoop n ecc k (tatRunWord n ecc r)

/-- The run of a slot from its start (R122) to its result or fault (R124). One that meets no OUT with E at 1 within 512 words, which only a bank that was
never checked allows, ends with the code ADDRESS at the word where it stands (DESIGN CHOICE, log 170). -/
def tatRun (n : Slot) (ecc : Ecc) (L : Lane) : Lane :=
  let L := { L with tat := { L.tat with core := {}, cur := some n, outs := [] } }
  let L := L.updSlot n fun s => { s with pending := false, ticksRun := s.ticks, ticks := 0, clmp := s.clmpRun, clmpRun := 0 }
  let r := tatRunLoop n ecc 512 ⟨L, 0, 0, none⟩
  let L := r.lane.updSlot n fun s => { s with first := false, banksw := false, late := false }
  match r.done with
  | some 0 => L
  | f =>
    let L := (({ L with tat := { L.tat with outs := [], cur := none } }).s (F_TAT_SLOTSTAT_PROGFLT_S n.val) 1).s
      (F_TAT_RUNSTAT_FLTCODE n.val) (f.getD 1)
    let L := (L.s (F_TAT_RUNSTAT_FLTPC n.val) r.idx).stick (L.tat.core.flag ksrSat) (F_TAT_SLOTSTAT_SAT_S n.val)
    (L.updSlot n fun s => { s with guardReq := some gcProgFault, ticksLast := s.ticksRun }).event (peerSlot n)
      (evBit 21)

/-- The pending slot whose deadline comes first, the lower number where two coincide (R119); one whose deadline edge has passed does not start (R120). -/
def tatNext (L : Lane) : Option Slot :=
  (List.finRange 8).foldl (fun best n =>
    if !(L.slot n).pending || decide (slotLeft n L ≤ 0) then best
    else match best with
      | none => some n
      | some b => if slotLeft n L < slotLeft b L then some n else best) none

/-! ### Results and deadlines -/

/-- The ports of a slot after its result words, in the order written. -/
def applyOuts (p : Vector Word 4) (outs : List (AccNo × Word)) : Vector Word 4 :=
  outs.foldl (fun p o => p.set o.1 o.2) p

/-- An accepted result in a resume (R139): refused where it differs too much at first, else blended over Kb samples, rounded as R97 rounds (log 29). A refused
resume leaves GCAUSE as it was: the manual gives it no cause (DESIGN CHOICE, log 140). -/
def tatBlend (n : Slot) (p : Vector Word 4) (L : Lane) : Lane :=
  let s := L.slot n
  let up := (p[s.gport]).toInt
  let ug := s.guardOut
  if s.kb = 0 ∧ (L.f (F_TAT_BLMAX_BLMAX n.val) : Int) < absI (up - ug) then
    let L := L.s (F_TAT_SLOTSTAT_RESREF_S n.val) 1
    ((tatEnterGuard n (L.f (F_TAT_SLOTSTAT_GCAUSE n.val)) false L).updSlot n (guardPorts n L)).event (peerSlot n) (evBit 20)
  else
    let kB := (rdiv (bits s.gpcfg 7 0 * 80000) (L.f (F_TAT_SLOTCFG_PERIOD n.val))).toNat
    let kb := s.kb + 1
    let v := ug + rdiv ((up - ug) * kb) kB
    let L := L.updSlot n fun s => { s with kb := kb, nextPorts := p.set s.gport (wOf v) }
    if kB ≤ kb then (L.s (F_TAT_SLOTSTAT_STATE n.val) slRun).event (peerSlot n) (evBit 19) else L

/-- A slot's result whose request is synchronised so many island clocks after F's last microsecond: accepted strictly before its deadline edge, where its
crossing is open (R52, R56, R129, R136, R139); a late one waits for the deadline edge, which discards it. -/
def tatResult (n : Slot) (sub : Nat) (L : Lane) : Lane :=
  let s := L.slot n
  let st := L.slotState n
  let left := slotLeft n L - (sub % 80 : Nat)
  match s.sent with
  | none => L
  | some outs =>
    if (st ≠ slRun ∧ st ≠ slBlend) ∨ left ≤ 0 ∨ !L.xOpen (8 + n.val) then L
    else
      let period := L.f (F_TAT_SLOTCFG_PERIOD n.val)
      let m := if period = 0 then 0 else min 100 (left.toNat * 100 / period)
      let L := (L.s (F_TAT_SLOTSTAT_MARGIN n.val) m).s (F_TAT_SLOTSTAT_ORUN_CNT n.val) 0
      let L := { L with dlMargin := some (match L.dlMargin with | some x => min x m | none => m) }
      let p := applyOuts s.nextPorts outs
      let L := (L.updSlot n fun s => { s with sent := none }).event (peerSlot n) (evBit 16)
      if st = slBlend then tatBlend n p L
      else slotAcceptHook n (L.updSlot n fun s => { s with nextPorts := p })

/-! ### Commands of the slot registers -/

/-- The fault a program word shows under R123, with the number Table 5.15 gives it; of a last word that is no OUT with E at 1, NO_END, whatever else it is
(DESIGN CHOICE, log 140). -/
def tatCheckWord (w : Word) (idx len : Nat) : Nat :=
  if idx + 1 = len then
    (match kDecodeLoop w with | some (.out _ _ true) => 0 | _ => 4)
  else match kDecodeLoop w with
    | some _ => 0
    | none =>
      match kDecode .a 0 ⟨0, .clean⟩ w with
      | .ok i =>
        if !operandsLegal i then 1
        else match loopBranch {} i with
          | some (_, o) => if o ≤ 0 then 2 else if (len : Int) ≤ idx + o then 3 else 0
          | none =>
            if (loopCore i).isSome then 0
            else match i with
              | .ldw .. => 0
              | .stw .. => 0
              | _ => 1
      | _ => 1

/-- The first word found wrong and its fault, from a word on. -/
def tatCheckFrom (f : Nat → Word) (len : Nat) : Nat → Nat → Option (Nat × Nat)
  | 0, _ => none
  | k + 1, i =>
    let e := tatCheckWord (f i) i len
    if e = 0 then tatCheckFrom f len k (i + 1) else some (i, e)

/-- The step counts of the first words of a program together. -/
def tatSteps (f : Nat → Word) : Nat → Nat
  | 0 => 0
  | k + 1 => loopSteps (f k) + tatSteps f k

/-- CHECK (R131): a bank's first words against R123. -/
def tatCheck (n : Slot) (bank : Bool) (len0 : Nat) (L : Lane) : Lane × Nat :=
  if len0 = 0 then (L, stNoop)
  else
    let len := min 512 len0
    let f := fun i => rget L.regs (A_TAT_BANK n.val (i + if bank then 512 else 0))
    let L := L.sb (F_TAT_PROG_TRUNC n.val) (decide (512 < len0))
    let okF := if bank then F_TAT_PROG_OK1 n.val else F_TAT_PROG_OK0 n.val
    let wsF := if bank then F_TAT_WCET_WSTEPS1 n.val else F_TAT_WCET_WSTEPS0 n.val
    match tatCheckFrom f len len 0 with
    | none =>
      ((((L.s okF 1).s (F_TAT_PROG_CHKERR n.val) 0).s (F_TAT_PROG_ERRWORD n.val) 0).s wsF (tatSteps f len), stOk)
    | some (i, e) =>
      (((L.s okF 0).s (F_TAT_PROG_CHKERR n.val) e).s (F_TAT_PROG_ERRWORD n.val) i, stOk)

/-- RESUME (R139): GUARD to BLEND; a no-op elsewhere. An entry into GUARD that is due at the next instant stays due (R137). -/
def tatResume (n : Slot) (L : Lane) : Lane × Nat :=
  if L.slotState n ≠ slGuard then (L, stNoop)
  else ((L.s (F_TAT_SLOTSTAT_STATE n.val) slBlend).updSlot n fun s =>
    { s with kb := 0, first := true, ticks := 0, pending := false, sent := none }, stOk)

/-- FORCE_GUARD (R137): GUARD at the next sample instant; slots in OFF stay OFF. Of several causes before one instant the last is shown (DESIGN CHOICE,
log 140). -/
def tatForce (n : Slot) (L : Lane) : Lane × Nat :=
  let st := L.slotState n
  if st = slRun ∨ st = slBlend then (L.updSlot n fun s => { s with guardReq := some gcForced }, stOk)
  else (L, stNoop)

/-- A write to TAT_SLOTCFG (R132) once the checks of R134 have passed. The first run after EN := 1 sees BANKSW,
whatever bank ran before (DESIGN CHOICE, log 160); EN 0 to 1 sets ORUN_CNT and the run's LATE and CLMP to 0 (DESIGN CHOICE, log 170). -/
def tatSlotCfg (n : Slot) (v : Word) (L : Lane) : Lane × Nat :=
  let en := L.b (F_TAT_SLOTCFG_EN n.val)
  let en' := v.getLsbD 31
  let bank' := v.getLsbD 30
  let okBank := L.b (if bank' then F_TAT_PROG_OK1 n.val else F_TAT_PROG_OK0 n.val)
  let toward := (en' && !en) || bank' != L.b (F_TAT_SLOTCFG_BANK n.val)
  if toward && !okBank then (L, tatProgInvalid)
  else
    let L := L.store (A_TAT_SLOTCFG n.val) v
    if en' && !en then
      (((L.s (F_TAT_SLOTSTAT_STATE n.val) slRun).s (F_TAT_SLOTSTAT_ORUN_CNT n.val) 0).updSlot n fun s =>
        { s with first := true, banksw := true, ticks := 0, pending := false, sent := none, guardReq := none, late := false,
                 clmp := 0, clmpRun := 0, bank := bank', gsel := L.b F_TAT_CTRL_GSEL }, stOk)
    else if !en' && en then
      let ran := L.slotState n = slRun ∨ L.slotState n = slBlend
      (((L.s (F_TAT_SLOTSTAT_STATE n.val) slOff).updSlot n fun s =>
        { s with ports := Vector.replicate 4 0, nextPorts := Vector.replicate 4 0, pending := false, sent := none,
                 guardReq := none, ticks := 0 }).ifDo (decide ran) (slotOffHook n), stOk)
    else (L, stOk)

/-- The destinations a word of TAT_OUTDST names, by port. -/
def outDsts (w : Word) : List Nat := [bits w 3 0, bits w 7 4, bits w 11 8, bits w 15 12]

/-- A write to TAT_OUTDST (R133), judged by the destinations of the other slots and, of its own slot, by the word written: one that moves a destination
between ports of the slot is taken (DESIGN CHOICE, log 170). -/
def tatOutDst (n : Slot) (v : Word) (L : Lane) : Lane × Nat :=
  let ds := (outDsts v).filter (· != 0)
  let others := (List.finRange 8).flatMap fun m => if m = n then [] else (outDsts (rget L.regs (A_TAT_OUTDST m.val))).filter (· != 0)
  if ds.any (fun d => others.contains d || 1 < ds.count d) then (L, tatDestTaken)
  else (L.store (A_TAT_OUTDST n.val) v, stOk)

/-- A write into a program bank (R130): refused where the bank is live, else the bank's OK bit goes. -/
def tatBankWrite (n : Slot) (word : Nat) (v : Word) (L : Lane) : Lane × Nat :=
  let bank := decide (512 ≤ word)
  if L.b (F_TAT_SLOTCFG_EN n.val) && L.b (F_TAT_SLOTCFG_BANK n.val) == bank then (L, tatProgLive)
  else ((({ L with regs := rput L.regs (A_TAT_BANK n.val word) v } : Lane).healed (A_TAT_BANK n.val word) 4).s
    (if bank then F_TAT_PROG_OK1 n.val else F_TAT_PROG_OK0 n.val) 0, stOk)

/-- A write to TAT_BQCOMMIT (R126): the bits written as 1 wait for their slots' instants. -/
def tatBqCommit (v : Word) (L : Lane) : Lane × Nat :=
  let cmt := bits v 7 0
  let L := L.s F_TAT_BQCOMMIT_CMT (L.f F_TAT_BQCOMMIT_CMT ||| cmt)
  ((List.finRange 8).foldl (fun L n =>
    if cmt.testBit n.val && (bits v 15 8).testBit n.val then L.updSlot n fun s => { s with bqClr := true } else L) L, stOk)

/-! ### The trace recorder -/

/-- TRC states (Table 5.17). -/
def trcIdle : Nat := 0
def trcFilling : Nat := 1
def trcArmed : Nat := 2
def trcTriggered : Nat := 3
def trcDone : Nat := 4
/-- TRC_BUSY. -/
def stTrcBusy : Nat := 0x40

/-- Is the recorder recording? -/
def Lane.tracing (L : Lane) : Bool :=
  let st := L.f F_TRC_STAT_STATE
  decide (trcFilling ≤ st) && decide (st ≤ trcTriggered)

/-- ARM (R142), after the register's fields have been stored: it waits for the next trace sample (R143). With LEN 0 it is a NOOP, also while the
recorder records (DESIGN CHOICE, log 170). -/
def trcArm (L : Lane) : Lane × Nat :=
  if L.f F_TRC_CTRL_LEN = 0 then (L, stNoop)
  else if L.tracing then (L, stTrcBusy)
  else ({ L with trc := { L.trc with arm := true, force := false } }, stOk)

/-- ARM takes effect: the lengths in use, the ring empty, FILLING or ARMED (Table 5.17). -/
def trcStart (L : Lane) : Lane :=
  let len0 := L.f F_TRC_CTRL_LEN
  let len := min 4096 len0
  let pre0 := L.f F_TRC_PRE_PRE
  let pre := min len pre0
  let L := { L with trc := { L.trc with taken := 0, wr := 0, after := 0, lastVal := none, arm := false, slotEvent := false, len := len, pre := pre } }
  let L := (L.s F_TRC_STAT_STATE (if pre = 0 then trcArmed else trcFilling)).sb F_TRC_STAT_TRUNC (decide (4096 < len0) || decide (len < pre0))
  (((L.s F_TRC_STAT_STOPPED 0).s F_TRC_STAT_TRG 0).s F_TRC_STAT_COUNT 0).s F_TRC_STAT_START 0

/-- STOP (R143): takes effect at the next trace sample. -/
def trcStop (L : Lane) : Lane × Nat :=
  if L.tracing then ({ L with trc := { L.trc with stop := true } }, stOk) else (L, stNoop)

/-- FORCE (R143): takes effect at the next trace sample. -/
def trcForce (L : Lane) : Lane × Nat :=
  if L.tracing || L.trc.arm then ({ L with trc := { L.trc with force := true } }, stOk) else (L, stNoop)

/-- The trace ends: the samples kept, the oldest of them, and the event (R141), whose word has bit 16, the first event bit (DESIGN CHOICE, log 170). -/
def trcEnd (L : Lane) : Lane :=
  let kept := min L.trc.taken L.trc.len
  (((L.s F_TRC_STAT_STATE trcDone).s F_TRC_STAT_COUNT kept).s F_TRC_STAT_START ((L.trc.wr + 4096 - kept) % 4096)).event
    peerTrc (evBit 16)

/-- The trigger condition on the channel tested (TRC_TRIG), from its last and present values: a sample at the level has passed through it, and the first
sample has no edge (DESIGN CHOICE, log 170). -/
def trcTrigger (cond : Nat) (level cur : Int) (last : Option Int) (slotEvent : Bool) : Bool :=
  match cond with
  | 1 => (match last with | some p => decide (p < level) && decide (level ≤ cur) | none => false)
  | 2 => (match last with | some p => decide (level < p) && decide (cur ≤ level) | none => false)
  | 3 => decide (level < cur)
  | 4 => decide (cur < level)
  | 5 => slotEvent
  | _ => false

/-- Writing one record: every enabled channel as it was latched, into its ring (R141). -/
def trcRecord (v : Vector Word 16) (L : Lane) : Lane :=
  let M := (List.finRange 16).foldl (fun (M : Lane) c =>
    if L.b (F_TRC_CHSEL_EN c.val) then M.tsPut (0x40000 + c.val * 0x4000 + L.trc.wr * 4) (wordBytes v[c]) else M) L
  { M with trc := { L.trc with wr := (L.trc.wr + 1) % 4096, taken := L.trc.taken + 1 } }

/-- What a trace sample records, and the state it leaves (R141, Table 5.17). -/
def trcTake (v : Vector Word 16) (L : Lane) : Lane :=
  let st := L.f F_TRC_STAT_STATE
  let cur := (v[(fin 16 (by decide) (L.f F_TRC_TRIG_CH) : Fin 16)]).toInt
  let hit := st != trcTriggered && (L.trc.force ||
    (st == trcArmed && trcTrigger (L.f F_TRC_TRIG_COND) (L.i F_TRC_LEVEL_LEVEL) cur L.trc.lastVal L.trc.slotEvent))
  let L := trcRecord v L
  let L := { L with trc := { L.trc with lastVal := some cur, slotEvent := false, force := false } }
  if hit then
    let after := L.trc.len - L.trc.pre - 1
    let L := ((L.s F_TRC_STAT_TRG 1).s F_TRC_TTIME0_TIME (L.gtime % 2 ^ 32)).s F_TRC_TTIME1_TIME (L.gtime / 2 ^ 32)
    let L := { L with trc := { L.trc with after := after } }
    if after = 0 then trcEnd L else L.s F_TRC_STAT_STATE trcTriggered
  else if st = trcFilling then (if L.trc.pre ≤ L.trc.taken then L.s F_TRC_STAT_STATE trcArmed else L)
  else if st = trcTriggered then
    let after := L.trc.after - 1
    let L : Lane := { L with trc := { L.trc with after := after } }
    if after = 0 then trcEnd L else L
  else L

/-- A trace sample that is due (R141, R143): the commands that wait act first. -/
def trcSample (L : Lane) : Lane :=
  match L.trc.latched with
  | none => L
  | some v =>
    let L := { L with trc := { L.trc with latched := none } }
    let L := if L.trc.arm then trcStart L else L
    if !L.tracing then L
    else if L.trc.stop then
      trcEnd (({ L with trc := { L.trc with stop := false, force := false } }).s F_TRC_STAT_STOPPED 1)
    else trcTake v L

/-! ### Meanings -/

/-- LGAIN (R125). -/
def execLgain (l : LaneId) (n : Slot) (rd rs : RegNo) (s : State) : Host.Outcome State Fault Refusal :=
  lift (onBlock l .tat (tatLgain n rd rs)) s
/-- BQD (R126). -/
def execBqd (l : LaneId) (n : Slot) (rd rs : RegNo) (sec : AccNo) (s : State) : Host.Outcome State Fault Refusal :=
  lift (onBlock l .tat (tatBqd n rd rs sec)) s
/-- LCLMP (R127). -/
def execLclmp (l : LaneId) (n : Slot) (rd rs : RegNo) (pair : AccNo) (s : State) : Host.Outcome State Fault Refusal :=
  lift (onBlock l .tat (tatLclmp n rd rs pair)) s
/-- OUT (R128). -/
def execOut (l : LaneId) (n : Slot) (rs : RegNo) (port : AccNo) (last : Bool) (s : State) : Host.Outcome State Fault Refusal :=
  lift (onBlock l .tat (tatOut n rs port last)) s
/-- SLOT_SAMPLE_INSTANT (R117). -/
def execSlotSampleInstant (l : LaneId) (n : Slot) (s : State) : Host.Outcome State Fault Refusal :=
  lift (onBlock l .tat (tatSample n)) s
/-- SLOT_RUN (R119): the pending slot whose deadline comes first, if any. -/
def execSlotRun (l : LaneId) (ecc : Ecc) (s : State) : Host.Outcome State Fault Refusal :=
  lift (onBlock l .tat fun L => match tatNext L with | some n => tatRun n ecc L | none => L) s
/-- SLOT_RESULT (R56). -/
def execSlotResult (l : LaneId) (n : Slot) (sub : Nat) (s : State) : Host.Outcome State Fault Refusal :=
  lift (onBlock l .tat (tatResult n sub)) s
/-- SLOT_DEADLINE (R120). -/
def execSlotDeadline (l : LaneId) (n : Slot) (s : State) : Host.Outcome State Fault Refusal :=
  lift (onBlock l .tat (tatDeadline n)) s
/-- TRACE_SAMPLE (R141). -/
def execTraceSample (l : LaneId) (s : State) : Host.Outcome State Fault Refusal :=
  lift (onBlock l .trc trcSample) s

end Sys2Proof.Machine
end

