-- ==== Sys2Proof/Machine/ResetCore.lean ====
section
/-!
DEFINITION. Resets (spec 01, 02, 03): of a block with its crossings, of an engine with its reload, of a quarter, the lane-logic restart, HALTED, and of a lane;
the escalation of R24 and R25.
-/
namespace Sys2Proof.Machine

/-- Block reset causes, as SYS_BLKSTATb codes them (Table 18.3). -/
def bcRequest : Nat := 1
def bcSelfCheck : Nat := 2
def bcHandshake : Nat := 3
def bcDoubleFault : Nat := 4
def bcQuarter : Nat := 5

/-- Bits of SYS_RSTCAUSE (Table 1.8). -/
def rbPor : Nat := 0
def rbXres : Nat := 1
def rbSupv : Nat := 2
def rbHoopFault : Nat := 3
def rbCoreSupply : Nat := 4
def rbPllLoss : Nat := 5
def rbSebFlt : Nat := 6
def rbLogicRestart : Nat := 7
def rbHalted : Nat := 12
def rbWake : Nat := 13
def rbPeerrst : Nat := 14

/-- A bit of a lane's SYS_RSTCAUSE is set; the supervisor holds it. -/
def World.rstBit (l : LaneId) (k : Nat) (w : World) : World :=
  { w with sup := { w.sup with rstCause := w.sup.rstCause.set (laneIx l) (w.sup.rstCause[laneIx l] ||| (1#32 <<< k)) } }

/-- The times of a history within a window of the present. -/
def recent (now window : Nat) (ts : List Nat) : List Nat := ts.filter fun t => decide (now < t + window)

/-! ### Crossings (R52 to R54) -/

/-- The crossings of a block (Table 2.10), and whether the block is their core side. -/
def blockXings : Block → List (Fin 48) × Bool
  | .tat => ((List.finRange 16).map (fun n => ⟨n.val, by omega⟩) ++ [21, 22, 23, 24], true)
  | .spg => ([16], true)
  | .bob => ([17, 18], true)
  | .drv => ([19, 20], true)
  | .dor => ([21, 22, 23, 24], false)
  | .spi => ([25], false)
  | .can n => ([⟨26 + n.val, by omega⟩, ⟨30 + n.val, by omega⟩], false)
  | .pic => ([34, 35], false)
  | .usb => ([36, 37], false)
  | _ => ([], true)

/-- The crossings whose core side is the ring of a quarter and whose other side is a block of the same quarter: a Quarter reset resets both sides
(R53, Table 2.10); and that of the engine timers, whose core side is the engines of the keeping quarter. -/
def quarterXings : Quarter → List (Fin 48)
  | .group => [34, 35]
  | .port => [25, 26, 27, 28, 29, 30, 31, 32, 33, 36, 37]
  | .keeping => [47]
  | .control => []

/-- XCR_OPEN of a crossing written. -/
def Lane.setXOpen (L : Lane) (n : Nat) (b : Bool) : Lane :=
  if n < 32 then { L with regs := setBit L.regs F_XCR_OPEN0_OPEN n b } else { L with regs := setBit L.regs F_XCR_OPEN1_OPEN (n - 32) b }

/-- One side of a crossing enters reset (Table 2.11, steps 1 to 3): closed, flushed, counted. Each reset of a side counts, one too that comes before
the side has left the last (DESIGN CHOICE, log 159). -/
def xingReset (core : Bool) (L : Lane) (n : Fin 48) : Lane :=
  let c := L.xing[n]
  let L := (L.setXOpen n.val false).inc F_XCR_CNT_RESETS
  { L with
    xing := L.xing.set n { coreReset := c.coreReset || core, islandReset := c.islandReset || !core }
    tick := if 46 ≤ n.val then Vector.ofFn fun e => if timerXing e = n then 0 else L.tick[e] else L.tick }

/-- A reset side announces READY (steps 4 to 6): the crossing reopens, with toggle parity 0, once neither side is in reset (R53). -/
def xingReady (n : Fin 48) (core : Bool) (L : Lane) : Lane :=
  let c := L.xing[n]
  let c1 := if core then { c with coreReset := false } else { c with islandReset := false }
  let L1 := { L with xing := L.xing.set n c1 }
  if (if core then c.coreReset else c.islandReset) && !c1.coreReset && !c1.islandReset then L1.setXOpen n.val true else L1

/-- The crossings of a block, as its reset begins. -/
def blockXReset (b : Block) (L : Lane) : Lane := (blockXings b).1.foldl (xingReset (blockXings b).2) L

/-! ### Blocks -/

/-- The registers of a block that lie in its own range. -/
def blockRange : Block → Nat × Nat
  | .eng _ => (0, 0)
  | .tat => (0x40030000, 0x40040000)
  | .spg => (0x40040000, 0x40050000)
  | .bob => (0x40050000, 0x40060000)
  | .drv => (0x40060000, 0x40070000)
  | .dor => (0x40070000, 0x40080000)
  | .sel => (0x40080000, 0x40090000)
  | .prk => (0x40090000, 0x400A0000)
  | .pic => (0x400E0000, 0x400F0000)
  | .can n => (0x400D0000 + 0x4000 * n.val, 0x400D4000 + 0x4000 * n.val)
  | .usb => (0x400F0000, 0x400F8000)
  | .spi => (0x400F8000, 0x40100000)
  | .nvm => (0x40100000, 0x40110000)
  | .trc => (0x40120000, 0x40130000)
  | .mea => (0x40130000, 0x40140000)

/-- A block's registers after a reset of a level; its macros have valid check bits (R72). -/
def blockRegs (lvl : Nat) (b : Block) (L : Lane) : Lane :=
  let (lo, hi) := blockRange b
  { L with regs := resetRange lvl lo hi L.regs, ue := L.ue.filter fun x => decide (x < lo) || decide (hi ≤ x) }

/-- TAT: guard paths, latches and slot registers run on; every slot that is not OFF enters GUARD at its next instant (R137); the working registers and
biquad states are lost. -/
def tatBlockReset (L : Lane) : Lane :=
  { L with tat := { slots := Vector.ofFn fun n : Fin 8 =>
      let s := L.tat.slots[n]
      { s with
        pending := false, sent := none, bqClr := false
        bq := s.bq.map fun q => { q with s1 := 0, s2 := 0 }
        guardReq := if L.slotState n = slOff then s.guardReq else some gcTatReset } } }

/-- A door operator after a Block reset: gates off, its reference lost. -/
def doorBlockReset (d : Door) (L : Lane) : Lane :=
  let o := L.door[d]
  let L := L.updDoor d fun _ => { lc := o.lc, dc := o.dc, locks := o.locks, perm := o.perm, fsel := o.fsel }
  let L := (L.s (F_DOR_STAT_REFD d.val) 0).s (F_DOR_STAT_GATES d.val) 0
  dorEn d (L.b (F_DOR_CTRL_EN d.val)) (L.s (F_DOR_STAT_STATE d.val) 0)

/-- MEA reset (R480): the report being formed is discarded, and an ATTEST in progress ends with ABORT_RESET (Table 4.18). -/
def meaReset (L : Lane) : Lane :=
  let L := { L.s F_MEA_STAT_BUSY 0 with mea := { L.mea with forming := none } }
  (List.finRange 2).foldl (fun L n =>
    if (L.svc[n].busy.map (·.2)) == some 0x40 then svcEnd n stAbortReset [] (L.updSvc n fun s => { s with nonce := none }) else L) L

/-- The datapath of a block cleared by its Block reset. Where the manual gives no more than that (R4), the block then stands as after its enable was
written. -/
def blockClear (b : Block) (L : Lane) : Lane :=
  match b with
  | .eng _ => L
  | .tat => tatBlockReset L
  | .spg =>
    let L := (L.reqChange fun L => L.updSpg fun _ => {}).s F_SPG_FIFOSTAT_LEVEL 0
    if L.spgSt = spgOff then L else L.spgGo spgIdle
  | .bob => L.updBob fun b => { pub := b.pub, ltAct := b.ltAct, ltChk := b.ltChk, caps := b.caps, capWait := b.capWait, rst := true }
  | .drv => drvEn (L.b F_DRV_CTRL_EN) (L.updDrv fun _ => {})
  | .dor => doorBlockReset 1 (doorBlockReset 0 L)
  | .sel =>
    let L := ((L.updSel fun s => { since := s.since }).s F_SEL_STAT_PEND 0).s F_SEL_STAT_GRANT 0
    if L.b F_SEL_CFG_EN then L.selGo 1 else L
  | .prk => prkShow (L.updPrk fun p =>
      { hostOf := p.hostOf, changed := p.changed, seq := p.seq, mirSync := p.mirSync, fullGot := p.fullGot, fullAt := p.fullAt, setTime := p.setTime,
        mode := p.mode })
  | .pic => picRxShow (L.updPic fun p => { seqs := p.seqs, bucketAt := p.bucketAt, dup := p.dup })
  | .can n => canBlockReset n L
  | .usb => usbShow (usbEval (L.updUsb fun u => { u with rx := [], tx := [] }))
  | .spi => L.updUsb fun u => { u with spiLen := 0, spiWait := none }
  | .nvm => { L with bg := { L.bg with nvm := Vector.replicate 4 none } }
  | .trc => { L with trc := {} }
  | .mea => meaReset L

/-- The struct of a block cleared by a reset of its quarter, whose registers return to their reset values. -/
def blockForget (b : Block) (L : Lane) : Lane :=
  match b with
  | .eng _ => L
  | .tat => { L with tat := {} }
  | .spg => { L with spg := {} }
  | .bob => sebZoneClear true (sebZoneClear false ({ L with bob := { ltChk := L.b F_BOB_LTCTL_LTSEL } }.s F_BOB_LTCTL_BUSY 1))
  | .drv => { L with drv := {} }
  | .dor => { L with door := Vector.replicate 2 {} }
  | .sel => { L with sel := {} }
  | .prk => { L with prk := {} }
  | .pic => L.updPic fun p => { dup := p.dup }
  | .can n => canBlockReset n L
  | .usb => usbShow (usbEval (L.updUsb fun u => { u with rx := [], tx := [] }))
  | .spi => L.updUsb fun u => { u with spiLen := 0, spiWait := none }
  | .nvm => { L with bg := { L.bg with nvm := Vector.replicate 4 none } }
  | .trc => { L with trc := {} }
  | .mea => meaReset L

/-! ### Engines (R60 to R63, R91) -/

/-- The window base of an engine. -/
def engBase (e : Eng) : Nat := 0x20000000 + 0x20000 * e.val
/-- The size of an engine's local SRAM. -/
def engSize (e : Eng) : Nat := if e.val < 8 then 0x18000 else 0x4000

/-- Bytes of an engine's local SRAM cleared or loaded by its reset: the holder marks the lines of them that the firmware has replicated (R391). -/
def engMark (e : Eng) (off n : Nat) (L : Lane) : Lane :=
  if !L.holder then L
  else
    let lo := engBase e + off
    (List.range 16).foldl (fun L k =>
      let b := L.f (F_LNK_REPLB_BASE k)
      ((List.range (L.f (F_LNK_REPLL_LEN k) / 64)).filter fun j => decide (lo < b + 64 * j + 64) && decide (b + 64 * j < lo + n)).foldl
        (fun L j => L.dirty (b + 64 * j)) L) L

/-- RUN of an engine (RUN0 for E0). -/
def Lane.engRun (L : Lane) (e : Eng) : Bool := (rget L.regs A_SYS_ENGCTL).getLsbD e.val
/-- RUN of E1 to E7 written. -/
def Lane.setRun (L : Lane) (e : Eng) (b : Bool) : Lane := { L with regs := rput L.regs A_SYS_ENGCTL (putBit (rget L.regs A_SYS_ENGCTL) e.val b) }

/-- The enabled endpoints bound to an engine: engine, endpoint, read off the listed SYS_CHCFG words. E8 to E11 have no channels: PEER 8 is the engine timer. -/
def Lane.boundEng (L : Lane) (e : Eng) : List (Eng × ChNo) :=
  L.regs.filterMap fun (a, w) =>
    if A_SYS_CHCFG 0 0 ≤ a ∧ a < A_SYS_CHCFG 0 0 + 0x800 ∧ w.getLsbD 31 ∧ bits w 21 16 = e.val ∧ e.val < 8
    then some (fin 12 (by decide) ((a - A_SYS_CHCFG 0 0) / 0x100), fin 64 (by decide) ((a - A_SYS_CHCFG 0 0) % 0x100 / 4))
    else none

/-- An endpoint is told that its peer has been reset (R107): to be reported once, and no wait goes on. Where a gate closed between them, the report is
ABORT_RESET (R32), an answer the gate gives, and counts, where an operation was pending (R27; that a report taken later is no second answer is DEDUCED,
log 169). -/
def epTold (gated : Bool) (x : Eng) (ch : ChNo) (L : Lane) : Lane :=
  (L.updEng x fun g => { g with
    ep := g.ep.set ch { g.ep[ch] with peerReset := some (if gated then stAbortReset else stPeerReset) }, wait := none }).ifDo
      (gated && waitsOn L.eng[x].wait ch) fun L => L.inc F_SYS_DGCNT_ABORTS

/-- The peers of an engine that is reset: its channel operations end with a peer reset. -/
def engPeers (e : Eng) (gate : Bool) (L : Lane) : Lane :=
  (L.boundEng e).foldl (fun L (x, ch) => if x = e then L else epTold (gate && engQuarter x != engQuarter e) x ch L) L

/-- The PEER codes of a block that is a hardware source (Table 4.17). -/
def blockPeers : Block → List Nat
  | .eng _ | .spi => []
  | .tat => [16, 17, 18, 19, 20, 21, 22, 23]
  | .spg => [24]
  | .bob => [25]
  | .drv => [26]
  | .dor => [27, 28]
  | .sel => [29]
  | .prk => [30]
  | .can n => [32 + n.val]
  | .pic => [36]
  | .usb => [37]
  | .nvm => [40]
  | .trc => [41]
  | .mea => [43]

/-- The endpoints bound to a hardware source that is reset (R107), as those of an engine. -/
def hwPeers (b : Block) (gate : Bool) (L : Lane) : Lane :=
  ((blockPeers b).flatMap L.boundTo).foldl (fun L (x, ch) => epTold (gate && engQuarter x != b.quarter) x ch L) L

/-- Every endpoint whose peer is in a block that is reset. -/
def blockPeersTold (gate : Bool) (b : Block) (L : Lane) : Lane :=
  match b with
  | .eng e => engPeers e gate L
  | _ => hwPeers b gate L

/-- An engine reset (R91): registers, control registers and endpoints at their Block reset values but the sticky bits of KSR; its local SRAM cleared, which
the holder marks for the other lane (R391); it reloads where RUN is 1 (R60, R61). -/
def engReset (e : Eng) (L : Lane) : Lane :=
  let L := { L with tick := L.tick.set e 0 }
  let L := L.updEng e fun g =>
    { Engine.fresh e with
      core := { ksr := g.core.ksr &&& 0x700#32 }, qdata := g.qdata, trunc := g.trunc, pc := g.pc
      phase := if e.val < 8 && L.engRun e then .reloading else .stopped }
  let L := { L with ue := L.ue.filter fun a => decide (a < engBase e) || decide (engBase e + 0x20000 ≤ a) }
  if e.val < 8 then engMark e 0 (engSize e) L else { L with regs := setBit L.regs F_SYS_ENGCTL_BGRUN (e.val - 8) false }

/-- The slot the lane is running from, by its flash offset. -/
def Lane.slotBase (L : Lane) : Nat := if L.b F_LNK_UPDSTAT_SLOT then 0x300000 else 0
/-- A word of the flash. -/
def Lane.flashWord (L : Lane) (off : Nat) : Nat := leNat (readBytes 0xFF L.flash off 4)

/-- The reload routine (R60, R75): the engine's section of the running slot copied to its local SRAM, then its firmware entered with w14 at the end of
the SRAM. An engine without code stays stopped with RUN 0; one whose section does not fit is marked TRUNC and not started, its RUN bit left as it was
(DESIGN CHOICE, log 159). The words written in full have valid check bits (R72), and their lines are marked (R391). -/
def engReload (e : Eng) (L : Lane) : Lane :=
  let d := L.slotBase + 0x10 + 16 * e.val
  let src := L.flashWord d
  let len := L.flashWord (d + 4)
  let load := L.flashWord (d + 8)
  let entry := L.flashWord (d + 12)
  let room := engSize e - load
  let data := readBytes 0xFF L.flash (L.slotBase + src) (min len room)
  let L := if len = 0 then L else engMark e load data.length (L.healed (engBase e + load) data.length)
  if len = 0 then (L.updEng e fun g => { g with phase := .stopped }).setRun e (e.val == 0)
  else if room < len then
    L.updEng e fun g => { g with ram := writeBytes 0 g.ram load data, phase := .stopped, trunc := true }
  else
    L.updEng e fun g => { g with
      ram := writeBytes 0 g.ram load data, phase := .running, trunc := false
      pc := BitVec.ofNat 32 (engBase e + entry)
      core := { g.core with w := g.core.w.set 14 (BitVec.ofNat 32 (engBase e + engSize e)) } }

/-! ### The Block reset and its record (R24, R503) -/

/-- SYS_BLKSTATb after a Block reset. It alone records a handshake time-out (R37): Table 1.8 gives SYS_RSTCAUSE no bit for a Block reset (DESIGN
CHOICE, log 137). -/
def blkNote (b : Block) (cause : Nat) (L : Lane) : Lane := (L.inc (F_SYS_BLKSTAT_RSTCNT b.num)).s (F_SYS_BLKSTAT_CAUSE b.num) cause

/-- The index of a block among the 30. -/
def blkIx (b : Block) : Fin 30 := fin 30 (by decide) b.num

/-- The reset of one block as it is carried out within a lane. -/
def blockDo (b : Block) (cause : Nat) (L : Lane) : Lane :=
  let L := blkNote b cause L
  let L := { L with tags := L.tags.set (blkIx b) ((L.tags[blkIx b] + 1) % 256) }
  let L := blockPeersTold false b L
  match b with
  | .eng e => engReset e L
  | _ => blockClear b (blockRegs 0 b (blockXReset b L))

/-- The end of what a reset of an engine ends (R460, R472). -/
def World.engSession (l : LaneId) (b : Block) (w : World) : World :=
  match b with
  | .eng e => (w.updLane l (svcLost e)).sessEndEng l e scReset
  | _ => w

/-- The blocks of a quarter. -/
def quarterBlocks : Quarter → List Block
  | .control => [.eng 1, .eng 2, .eng 3, .tat, .spg, .bob, .drv, .dor]
  | .group => [.eng 4, .sel, .prk, .pic]
  | .port => [.eng 0, .eng 5, .eng 6, .eng 7, .can 0, .can 1, .can 2, .can 3, .usb, .spi]
  | .keeping => [.eng 8, .eng 9, .eng 10, .eng 11, .nvm, .trc, .mea]

/-- A block within a reset of its quarter. -/
def blockInQuarter (b : Block) (L : Lane) : Lane :=
  let L := blkNote b bcQuarter L
  let L := { L with tags := L.tags.set (blkIx b) ((L.tags[blkIx b] + 1) % 256) }
  match b with
  | .eng e => engReset e L
  | _ => blockForget b (blockRegs 1 b (blockXReset b L))

/-- The quarter reset carried out (R23, R26): its blocks reset, its gate CLOSED with cause RESET until READY (R31). All of them are reset together:
first every peer is told, then each block is cleared, so that no endpoint of an engine that is reset keeps a report (DESIGN CHOICE, log 159). -/
def World.quarterDo (l : LaneId) (q : Quarter) (w : World) : World :=
  let bs := quarterBlocks q
  let w := bs.foldl (fun w b => w.engSession l b) w
  let w := w.updLane l fun L =>
    let L := bs.foldl (fun L b => blockPeersTold true b L) L
    let L := (quarterXings q).foldl (xingReset true) (bs.foldl (fun L b => blockInQuarter b L) L)
    let L := if q = .keeping then
        { L with regs := resetRange 1 0x40110000 0x40120000 L.regs, bg := { L.bg with sweepUe := [] }, post := [] } else L
    (L.setGate q.num gClosed gcReset).inc F_SYS_RSTCAUSE_QRST_CNT
  w.rstBit l (8 + q.num)

/-- All quarters reset in turn (Table 1.6), and with the engines E0 to E7 of three of them the core side of crossing 46. -/
def World.quartersDo (l : LaneId) (w : World) : World :=
  ([Quarter.keeping, .port, .group, .control].foldl (fun w q => w.quarterDo l q) w).updLane l fun L => xingReset true L 46

/-- HALTED (R25): all quarters held in reset, engines stopped, until a Lane reset. -/
def World.haltDo (l : LaneId) (w : World) : World :=
  let w := w.quartersDo l
  let w := w.updLane l fun L =>
    let L := { L with due := [], eng := L.eng.map fun g => { g with phase := .stopped } }
    lnkTo lsHalted L
  w.rstBit l rbHalted

/-- The resets that waited for the Hoop are carried out once the lane no longer holds it (R390); a lane-logic restart then follows by itself. -/
def World.runDue (l : LaneId) (w : World) : World :=
  if w.fd.heldBy l then w
  else
    let ds := (w.lane l).due
    let w := w.updLane l fun L => { L with due := L.due.filter fun d => d == .restart }
    ds.foldl (fun w d => match d with
      | .quarter q => w.quarterDo l q
      | .halt => w.haltDo l
      | .restart => w) w

/-- A reset is due. -/
def Lane.addDue (L : Lane) (d : ResetDue) : Lane := if L.due.contains d then L else { L with due := L.due ++ [d] }

/-- A fault-caused lane-logic restart is due: performed, or within 60 s of the previous one HALTED instead (R25). -/
def World.restartFault (l : LaneId) (w : World) : World :=
  let w := w.updLane l fun L =>
    let soon := match L.lastRestart with
      | some t => decide (w.time < t + 60000000)
      | none => false
    if soon then L.addDue .halt else { L.addDue .restart with lastRestart := some w.time }
  w.runDue l

/-- FAILED and its lane-logic restart (R24, R382); a holder releases first. -/
def World.laneFail (l : LaneId) (w : World) : World :=
  let L := w.lane l
  if L.lst = lsHalted then w
  else
    let w := w.updLane l fun L => if L.lst = lsActive then lnkRelease rcFailed L else lnkTo lsFailed L
    w.restartFault l

/-- A Quarter reset becomes due (R23, R24): after a release of the Hoop where it must be; the third fault-caused one of a quarter within 10 s fails the
lane. -/
def World.quarterReset (l : LaneId) (q : Quarter) (fault : Bool) (w : World) : World :=
  let L := w.lane l
  if !L.spine || L.held q then w
  else
    let hist := recent w.time 10000000 L.qHist[q.num]!
    let third := fault && decide (2 ≤ hist.length)
    let w := if fault then w.updLane l fun L => { L with qHist := L.qHist.set! q.num (w.time :: hist) } else w
    if third then w.laneFail l
    else if q ≠ .keeping ∧ w.fd.heldBy l then
      w.updLane l fun L => (lnkRelease rcQuarter L).addDue (.quarter q)
    else w.quarterDo l q

/-- A Block reset (R24): a fault after three fault-caused resets within 1 s resets the quarter instead. -/
def World.blockReset (l : LaneId) (b : Block) (cause : Nat) (fault : Bool) (w : World) : World :=
  let L := w.lane l
  if !L.spine || L.held b.quarter then w
  else
    let hist := recent w.time 1000000 L.blkHist[blkIx b]
    if fault ∧ 3 ≤ hist.length then w.quarterReset l b.quarter true
    else
      let w := w.engSession l b
      let w := match b with
        | .can n => w.canCutPort l n
        | _ => w
      w.updLane l fun L =>
        let hist := if fault then w.time :: hist else hist
        blockDo b cause { L with blkHist := L.blkHist.set (blkIx b) hist }

/-- The lane-logic restart carried out (Table 1.6): the quarters in turn. -/
def World.restartDo (l : LaneId) (w : World) : World :=
  if !(w.lane l).due.contains .restart || w.fd.heldBy l then w
  else
    let w := w.updLane l fun L => { L with due := L.due.filter fun d => d != .restart }
    (w.quartersDo l).rstBit l rbLogicRestart

/-- A requested lane-logic restart (R24): the Hoop is released first. -/
def World.restartRequest (l : LaneId) (w : World) : World :=
  let w := if w.fd.heldBy l then w.updLane l (lnkRelease rcQuarter) else w
  w.updLane l fun L => L.addDue .restart

/-- A write to SYS_RSTREQ (Table 1.9). -/
def World.rstReq (l : LaneId) (v : Word) (w : World) : World × Nat :=
  if bits v 31 24 ≠ 0x5A then (w, stBadValue)
  else match bits v 3 0 with
    | 0 => (w, stOk)
    | 1 => (w.quarterReset l .control false, stOk)
    | 2 => (w.quarterReset l .group false, stOk)
    | 3 => (w.quarterReset l .port false, stOk)
    | 4 => (w.quarterReset l .keeping false, stOk)
    | 5 => (w.restartRequest l, stOk)
    | _ => (w, stBadValue)

/-- FAILED is left once the restart is complete: every quarter gate is open and nothing is due (Table 13.3); what the fault was is cleared. -/
def lnkRecovered (L : Lane) : Lane :=
  if L.lst = lsFailed ∧ L.due.isEmpty ∧ L.gateState 0 = gOpen ∧ L.gateState 1 = gOpen ∧ L.gateState 2 = gOpen ∧ L.gateState 3 = gOpen ∧ ¬ L.holder then
    lnkTo lsSync (L.updLnk fun k => { k with ue := false, fwfail := false })
  else L

/-- The quarters that have announced READY open together, once no quarter of the lane is still in reset (R33, log 136). -/
def quartersOpen (L : Lane) : Lane :=
  if [Quarter.control, .group, .port, .keeping].any L.held then L
  else [0, 1, 2, 3].foldl (fun L n => if L.gateState n = gReopening then L.setGate n gOpen 0 else L) L

/-- The domain behind a gate announces READY (R31, R33): the gate reopens, a quarter's with those that were reset beside it. The quarters of a HALTED lane
or of one that is updated stay closed, and the lane link's gate while the other lane is in reset. -/
def World.gateReopen (l : LaneId) (g : Fin 7) (w : World) : World :=
  let L := w.lane l
  let barred := (decide (g.val < 4) && (L.lst == lsHalted || L.lst == lsUpdate)) || (g.val == 5 && !(w.lane l.other).spine)
  if !L.spine || L.gateState g.val = gOpen || barred then w
  else if 4 ≤ g.val then w.updLane l fun L => lnkRecovered (L.setGate g.val gOpen 0)
  else w.updLane l fun L => lnkRecovered (quartersOpen (L.setGate g.val gReopening (L.gateCause g.val)))

/-! ### The Lane reset -/

/-- What a Lane reset leaves of a lane: its flash and what E10 keeps there, the count of Lane resets, the pins; a duplicate position until a Carrier
reset (R443). -/
def laneCleared (cold : Bool) (L : Lane) : Lane :=
  { regs := resetRange 2 0x40000000 0x40150000 L.regs, phase := .reset
    flash := L.flash, wer := L.wer, mea := { bootCnt := min (L.mea.bootCnt + 1) (2 ^ 32 - 1) }
    usb := { vbus := L.usb.vbus, low := L.usb.low }, bg := { spares := L.bg.spares }
    lnk := { cold := cold }, pic := { dup := !cold && L.pic.dup } }

/-- A Lane reset (R4, R529): the other lane's gate toward it closes and debug ends (R484); its pulse trains and its hold train stop, and its
door permissions end (R233). -/
def World.laneResetIn (l : LaneId) (cold : Bool) (w : World) : World :=
  if (w.lane l).phase = .off then w
  else
    let w := (w.canCut l).updLane l (laneCleared cold)
    (w.updLane l.other fun L => if L.spine then (dbgClose (dbgOff L)).setGate 5 gClosed gcReset else L).sebPerms

/-- A Lane reset with its cause recorded. -/
def World.laneReset (l : LaneId) (bit : Nat) (w : World) : World := (w.laneResetIn l false).rstBit l bit

end Sys2Proof.Machine
end

