-- ==== Sys2Proof/Machine/ChanCore.lean ====
section
/-!
DEFINITION. Channel endpoints (spec 04, Table 4.17, R105 to R108): when an endpoint is bound, what a peer's words hold, what a send and a receive
find, and whether an engine's wait is over.
-/
namespace Sys2Proof.Machine

/-- The SYS_CHCFG word of an endpoint; E8 to E11 have none (R62). -/
def Lane.chWord (L : Lane) (e : Eng) (ch : ChNo) : Word := if e.val < 8 then rget L.regs (A_SYS_CHCFG e.val ch.val) else 0

/-- EN of an endpoint; that of ch63 follows KTPER (R105). -/
def Lane.chEn (L : Lane) (e : Eng) (ch : ChNo) : Bool :=
  if ch.val = 63 then decide (e.val < 8) && L.eng[e].ktper != 0 else (L.chWord e ch).getLsbD 31

/-- The endpoint receives. -/
def Lane.chRecv (L : Lane) (e : Eng) (ch : ChNo) : Bool := ch.val = 63 || (L.chWord e ch).getLsbD 30

/-- The endpoint of another engine that an endpoint names. -/
def Lane.chPeer (L : Lane) (e : Eng) (ch : ChNo) : Option (Eng × ChNo) :=
  let w := L.chWord e ch
  if ch.val ≠ 63 ∧ bits w 21 16 < 8 then some (fin 12 (by decide) (bits w 21 16), fin 64 (by decide) (bits w 13 8)) else none

/-- The endpoint is bound (R105): to the engine timer; to an endpoint that names it, in the other direction; or, receiving, to a hardware source. -/
def Lane.chBound (L : Lane) (e : Eng) (ch : ChNo) : Bool :=
  L.chEn e ch &&
  (if ch.val = 63 then true
   else match L.chPeer e ch with
    | none => L.chRecv e ch
    | some (p, q) => L.chEn p q && L.chPeer p q == some (e, ch) && (L.chRecv p q != L.chRecv e ch) && decide (q.val ≠ 63))

/-- A peer engine answers nothing: held stopped, or with its quarter. -/
def Lane.engInReset (L : Lane) (p : Eng) : Bool := decide (L.eng[p].phase = .stopped) || L.held (engQuarter p)

/-- A request to a peer engine meets a gate that is not open, or a block in retention (R27, R35). -/
def Lane.peerGated (L : Lane) (e p : Eng) : Bool :=
  (engQuarter p != engQuarter e && L.gateState (engQuarter p).num != gOpen) || L.retains (.eng p)

/-- The free words of a peer's FIFO. -/
def Lane.peerRoom (L : Lane) (e : Eng) (ch : ChNo) : Nat :=
  match L.chPeer e ch with
  | some (p, q) => if L.engInReset p then 0 else 4 - L.eng[p].ep[q].fifo.length
  | none => 0

/-- The blocks that can be a hardware peer. -/
def hwBlocks : List Block :=
  [.tat, .spg, .bob, .drv, .dor, .sel, .prk, .can 0, .can 1, .can 2, .can 3, .pic, .usb, .nvm, .trc, .mea]

/-- A block is in reset: with its quarter; or by itself, until it announces READY at its crossings (Table 2.11), BOB until its reset ends (R534). -/
def Lane.blockInReset (L : Lane) (b : Block) : Bool :=
  L.held b.quarter || (b == .bob && L.bob.rst) ||
  (blockXings b).1.any fun n => if (blockXings b).2 then L.xing[n].coreReset else L.xing[n].islandReset

/-- A hardware peer is in reset. -/
def Lane.hwInReset (L : Lane) (peer : Nat) : Bool := hwBlocks.any fun b => (blockPeers b).contains peer && L.blockInReset b

/-- The peer of an endpoint is in reset (CHSTAT bit 8). -/
def Lane.peerInReset (L : Lane) (e : Eng) (ch : ChNo) : Bool :=
  match L.chPeer e ch with
  | some (p, _) => L.engInReset p
  | none => ch.val ≠ 63 && L.hwInReset (bits (L.chWord e ch) 21 16)

/-- What a send or a receive meets. -/
inductive ChRes where
  | done
  | status (st : Nat)
  | wait
deriving DecidableEq, Repr

/-- The wait at an endpoint was ended as UNBOUND, and the operation has not yet met that (R105). -/
def Lane.chCut (L : Lane) (e : Eng) (ch : ChNo) : Bool := L.eng[e].ep[ch].cut

/-- What SEND finds (R106, R107). -/
def Lane.sendFinds (L : Lane) (e : Eng) (ch : ChNo) : ChRes :=
  if L.chCut e ch || !L.chBound e ch || L.chRecv e ch then .status stUnbound
  else match L.eng[e].ep[ch].peerReset with
    | some st => .status st
    | none => match L.chPeer e ch with
      | none => .status stUnbound
      | some (p, _) =>
        if L.peerGated e p then .status stAbortReset
        else if 0 < L.peerRoom e ch then .done
        else .wait

/-- What RECV finds: earlier words first (R107). -/
def Lane.recvFinds (L : Lane) (e : Eng) (ch : ChNo) : ChRes :=
  if L.chCut e ch || !L.chBound e ch || !L.chRecv e ch then .status stUnbound
  else if L.eng[e].ep[ch].fifo ≠ [] then .done
  else match L.eng[e].ep[ch].peerReset with
    | some st => .status st
    | none => .wait

/-- The report CHSEL finds at an endpoint: of a receive endpoint without a word, a peer's reset (R108); of any, that its wait was ended as UNBOUND (R105). -/
def Lane.chReport (L : Lane) (e : Eng) (ch : ChNo) : Option Nat :=
  let p := L.eng[e].ep[ch]
  if L.chCut e ch then some stUnbound
  else if L.chRecv e ch && p.fifo.isEmpty then p.peerReset
  else none

/-- CHSEL accepts an endpoint (R108). -/
def Lane.chReady (L : Lane) (e : Eng) (ch : ChNo) : Bool :=
  (L.chReport e ch).isSome || (if L.chRecv e ch then L.eng[e].ep[ch].fifo != [] else L.chBound e ch && decide (0 < L.peerRoom e ch))

/-- The endpoint of two masks that CHSEL names: one at which its wait was ended (R105), else the lowest that it accepts (R108). -/
def Lane.chSelect (L : Lane) (e : Eng) (m0 m1 : Word) : Option ChNo :=
  match (List.finRange 64).find? fun ch => inMasks m0 m1 ch && L.chCut e ch with
  | some ch => some ch
  | none => (List.finRange 64).find? fun ch => inMasks m0 m1 ch && L.chReady e ch

/-- What an engine waits for has come, or it does not wait (R106, R108). -/
def Lane.waitOver (L : Lane) (e : Eng) : Bool :=
  match L.eng[e].wait with
  | none => true
  | some (.send ch) => L.sendFinds e ch != .wait
  | some (.recv ch) => L.recvFinds e ch != .wait
  | some (.sel m0 m1) => (L.chSelect e m0 m1).isSome

end Sys2Proof.Machine
end

