-- ==== Sys2Proof/Machine/LnkCmd.lean ====
section
/-!
DEFINITION. What writes to the registers of LNK do (spec 13, Table 13.10): READY, RELEASE, SELFTEST, RESTART_PEER, the firmware's self-test, the planned
switchover, the update commands and the replicated regions.
-/
namespace Sys2Proof.Machine

/-- A lane in START whose E0 has written READY enters SYNC once it sees a holder (Table 13.3). -/
def lnkJoin (L : Lane) : Lane :=
  if L.lst = lsStart ∧ L.lnk.ready ∧ L.partnerHolds ∧ ¬ L.lnk.hbLost ∧ ¬ L.lnk.coldTrain then lnkTo lsSync L else L

/-- RESTART_PEER (R385). -/
def lnkRestartPeer (role : Role) (L : Lane) : Lane × Nat :=
  if role ≠ .ins ∧ role ≠ .mkr then (L, stRoleDenied)
  else if !L.holder then (L, stNotHolder)
  else if L.pstate ≠ lsHalted then (L, lnkPartNotready)
  else (L.updLnk fun k => { k with ctrlOut := k.ctrlOut ++ [CtrlMsg.restart] }, stOk)

/-- A write to LNK_CTRL. -/
def lnkCtrl (wr : Writer) (v : Word) (L : Lane) : Lane × Nat :=
  match bits v 3 0 with
  | 0 => (L, stOk)
  | 1 => if L.writerEng wr = some 0 then (lnkJoin (L.updLnk fun k => { k with ready := true }), stOk) else (L, stRoleDenied)
  | 2 => if L.lst ≠ lsActive then (L, stNoop) else (lnkRelease rcFirmware L, stOk)
  | 3 => if L.lst ≠ lsStandby then (L, stNoop) else (lnkTo lsSuspect L, stOk)
  | 4 => lnkRestartPeer (L.writerRole wr) L
  | _ => (L, stBadValue)

/-- A write to LNK_FWTEST (R381, R382): OK renews the self-test, FAIL fails the lane. The debug port holds FWSTALE at 1 (R483). -/
def World.lnkFwtest (l : LaneId) (ok fail : Bool) (w : World) : World :=
  let w := if ok then w.updLane l fun L => lnkShow (L.updLnk fun k => { k with fwstale := L.b F_SYS_DBGCTL_DBGON }) else w
  if fail then (w.updLane l fun L => lnkShow (L.updLnk fun k => { k with fwfail := true })).laneFail l else w

/-- The conditions of R402: none where they hold, else the refusal. -/
def Lane.partRefused (L : Lane) : Option Nat :=
  if !L.holder then some stNotHolder
  else if !L.partnerElig then some lnkPartNotready
  else if L.spgSt ≠ spgIdle ∨ L.ps 0 ≠ psOff ∨ L.ps 1 ≠ psOff then some lnkNotParked
  else none

/-- A write to LNK_SWITCH (R402). -/
def lnkSwitch (v : Word) (L : Lane) : Lane × Nat :=
  if !v.getLsbD 0 then (L, stOk)
  else match L.partRefused with
    | some st => (L, st)
    | none =>
      (lnkRelease rcSwitch (L.updLnk fun k => { k with ctrlOut := k.ctrlOut ++ [CtrlMsg.switch] }), stOk)

/-- A message of an update is sent, with the event that reports the step. -/
def lnkUpdSend (m : CtrlMsg) (on : Bool) (L : Lane) : Lane :=
  (L.updLnk fun k => { k with updActive := on, updOut := none, updPos := 0, ctrlOut := k.ctrlOut ++ [m] }).event peerLnk (evBit 21)

/-- A write to LNK_UPD (R405, R406). -/
def lnkUpd (wr : Writer) (v : Word) (L : Lane) : Lane × Nat :=
  if bits v 3 0 = 0 then (L, stOk)
  else if !L.holder then (L, stNotHolder)
  else match bits v 3 0 with
    | 1 =>
      if L.lnk.updActive then (L, lnkUpdBusy)
      else match L.partRefused with
        | some st => (L, st)
        | none => ((lnkUpdSend .updateStart true L).updAuth fun a => { a with updSess := (L.writerEng wr).bind fun e => L.sessOf e }, stOk)
    | 2 => if L.lnk.updActive then ((imgDrop (lnkUpdSend .updateCommit false L)).updAuth fun a => { a with updSess := none }, stOk) else (L, stNoop)
    | 3 => if L.lnk.updActive then (lnkUpdAbort L, stOk) else (L, stNoop)
    | _ => (L, stBadValue)

/-- A write to the base of a replicated region (Table 13.10). -/
def lnkReplB (a : Nat) (v : Word) (L : Lane) : Lane × Nat :=
  let b := v.toNat
  let local_ := decide (0x20000000 ≤ b) && decide (b < 0x20100000) && decide (b % 0x20000 < 0x18000)
  if b % 64 = 0 ∧ (local_ ∨ (0x30090000 ≤ b ∧ b < 0x30180000)) then (replShow (L.store a v), stOk) else (L, stBadValue)

/-- A write to the length of a replicated region. -/
def lnkReplL (a : Nat) (v : Word) (L : Lane) : Lane × Nat :=
  let L' := L.store a v
  let total := (List.range 16).foldl (fun n k => n + L'.f (F_LNK_REPLL_LEN k)) 0
  if v.toNat % 64 = 0 ∧ total ≤ 524288 then (replShow L', stOk) else (L, stBadValue)

/-- A write to a register of LNK, accepted by the generic checks. -/
def World.lnkWrite (l : LaneId) (wr : Writer) (a : Nat) (v : Word) (w : World) : World × Nat :=
  let L := w.lane l
  let put := fun (r : Lane × Nat) => (w.setLane l r.1, r.2)
  if a = A_LNK_CTRL then put (lnkCtrl wr v L)
  else if a = A_LNK_FWTEST then (w.lnkFwtest l (v.getLsbD 0) (v.getLsbD 1), stOk)
  else if a = A_LNK_SWITCH then put (lnkSwitch v L)
  else if a = A_LNK_UPD then put (lnkUpd wr v L)
  else if A_LNK_REPLB 0 ≤ a ∧ a < A_LNK_REPLB 16 then
    put (if a % 8 = 0 then lnkReplB a v L else lnkReplL a v L)
  else (w.updLane l fun L => L.store a v, stOk)

end Sys2Proof.Machine
end

