-- ==== Sys2Proof/Machine/Seb.lean ====
section
/-!
DEFINITION. The commands of the safety evaluation block (spec 11): its cycle, the times that run out, the words and requests of the other lane, the state frame
of the field die, the latch record, the reset button and the steps of the configuration session.
-/
namespace Sys2Proof.Machine

/-- The lane's SEB works: its self-test has passed (R346). -/
def Lane.sebUp (L : Lane) : Bool := L.spine && L.seb.up

/-- What a lane's SEB does when it works, with the supervisor's copy of its latches. -/
def World.onSeb (l : LaneId) (f : Lane → Lane) (w : World) : World :=
  if (w.lane l).sebUp then (w.updLane l f).sebSync l else w

/-- A bit of SEB_ACT set, and BLOCK shown. -/
def sebActBlock (k : Nat) (L : Lane) : Lane :=
  ({ L with regs := setBit L.regs F_SEB_ACT_ACT k true }).s F_SEB_STAT_BLOCK 1

/-! ### Times that run out -/

/-- A filter time has passed (R296): the filtered state takes the raw one. -/
def sebFilter (k : SafetySignal) (L : Lane) : Lane := L.updSeb fun b => { b with filt := b.filt.set k (L.sebRaw k) }

/-- A group's channels have disagreed beyond its time (R298). -/
def sebDiscrepancy (g : SafetyGroup) (L : Lane) : Lane :=
  if !L.groupMapped g || L.seb.disc[g] || L.seb.filt[groupA g] == L.seb.filt[groupB g] then L
  else
    let L := L.updSeb fun b => { b with disc := b.disc.set g true, discSeen := b.discSeen.set g 0 }
    L.latchNow (latchIf true (discBit g))

/-- The three buttons UP, DN and COM, and one that is pressed and whose 500 ms still run. -/
def Lane.thTimed (L : Lane) (k : Fin 3) : Bool := L.sig ⟨14 + k.val, by omega⟩ && !L.seb.thOver[k]

/-- 500 ms since a button was pressed (R302), of those whose time still runs the one pressed first, or the ones that were: a second press to go with it is
late from now on, one that comes again while it is held too. -/
def sebTwoHandLate (L : Lane) : Lane :=
  L.updSeb fun b => { b with
    thOver := Vector.ofFn fun k => b.thOver[k] || (L.thTimed k && (List.finRange 3).all fun j => !L.thTimed j || decide (b.thAge[j] ≤ b.thAge[k])) }

/-- Four unusable own samples in a row (R316). -/
def sebEncLost (L : Lane) : Lane := sebDrop ((L.updSeb fun b => { b with encBad := 4 }).latchNow (latchIf true lbEnclost))

/-- Four cycles without a new BOB report (R320). -/
def sebBobMissing (L : Lane) : Lane :=
  let L := if L.seb.bobMiss = 4 then L else L.inc F_SEB_CNT_MISSED
  sebActBlock 4 (L.updSeb fun b => { b with bobMiss := 4 })

/-- 3 ms without a SEL report (R321). -/
def sebSelMissing (L : Lane) : Lane :=
  if !L.b F_SEL_CFG_EN then L
  else
    let L := if L.seb.selMiss = 12 then L else L.inc F_SEB_CNT_MISSED
    let L := sebActBlock 5 (L.updSeb fun b => { b with selMiss := 12 })
    if L.seb.pwLost || (match L.seb.pw with | some w => w.selrep | none => false) then sebDrop L else L

/-- The demand has differed from the partner's for four cycles (R324). -/
def sebMismatch (L : Lane) : Lane := sebDrop ((L.updSeb fun b => { b with mism := Vector.replicate 2 4 }).latchNow (latchIf true lbXcmp))

/-- Four cycles without a new partner word (R325). -/
def sebPartnerLost (L : Lane) : Lane :=
  sebDrop { L.updSeb fun b => { b with pwMiss := 4, pwGood := 0, pwLost := true } with
    regs := setBit L.regs F_SEB_ACT_ACT 6 true }

/-- Words have come without a break for 100 ms (R325). -/
def sebPartnerBack (L : Lane) : Lane :=
  if L.seb.pwMiss ≠ 0 then L
  else { L.updSeb fun b => { b with pwGood := 400, pwLost := false } with regs := setBit L.regs F_SEB_ACT_ACT 6 false }

/-- 5 ms after a transfer of the Hoop without a request (R328). -/
def sebRequestTimeout (L : Lane) : Lane :=
  if L.seb.reqWait then L.updSeb fun b => { b with req := #v[false, false], reqWait := false } else L

/-- A pair enters FAULT outside a cycle: STOP with it, and the events of step 6 of Table 11.1. -/
def sebFaultNow (p : Pair) (cause : Nat) (L : Lane) : Lane :=
  (sebFall (sebPairFault p cause L)).event peerSeb (evBit 16 + if L.latched (lbOutflt0 + p.val) then 0 else evBit 17)

/-- A pair's feedback has not followed, or has disagreed, for FBT (R330). -/
def sebFeedbackTimeout (p : Pair) (L : Lane) : Lane :=
  let st := L.ps p
  let fb := L.feedback p
  if (st = psOff ∧ fb = some false) ∨ (st = psDropout ∧ fb ≠ some true) then sebFaultNow p 2 L
  else if st = psPullin ∧ fb ≠ some false then sebFaultNow p 1 L
  else L

/-- STO_A and STO_B have differed for FBT (R331). -/
def sebSto (L : Lane) : Lane :=
  if L.b F_SEB_OUTCFG_STO0 ∧ L.b F_DRV_STAT_STO_A ≠ L.b F_DRV_STAT_STO_B then sebDrop (L.latchNow (latchIf true lbSto)) else L

/-! ### The other lane -/

/-- A partner word arrives (R322); new is one with another number. -/
def sebPartnerWord (m : PartnerWord) (L : Lane) : Lane :=
  L.updSeb fun b => { b with
    pw := some m
    pwFresh := b.pwFresh || (match b.pw with
      | some o => o.seq != m.seq
      | none => true) }

/-- The holder's requests arrive (R327). -/
def sebRequests (r : Bool × Bool) (L : Lane) : Lane :=
  if L.holder then L else L.updSeb fun b => { b with req := #v[r.1, r.2], reqWait := false }

/-! ### The state frame (R353, R84) -/

/-- The switch-ons and safety stops of a pair counted in the wear counters. -/
def wearPair (p : Pair) (old : Vector Bool 4) (L : Lane) : Lane :=
  let sw := L.seb.sw
  let a : Fin 4 := ⟨2 * p.val, by omega⟩
  let b : Fin 4 := ⟨2 * p.val + 1, by omega⟩
  let L := if sw[a] && sw[b] && !(old[a] && old[b]) then L.wear (0x20 + 4 * p.val) else L
  if L.seb.req[p] && ((old[a] && !sw[a]) || (old[b] && !sw[b])) then L.wear (0x28 + 4 * p.val) else L

/-- The state frame the field die sends (R353). -/
def FieldDie.frameOut (d : FieldDie) : StateFrame :=
  { code := d.inp.map FioIn.code, rbk := Vector.ofFn d.rbk, sw := Vector.ofFn d.swState, vstate := d.vstate, forced := d.forced }

/-- What a state frame brings to a lane, the readback faults reported with it (R368). -/
def sebFrame (x : StateFrame) (rep : Vector Nat 4) (L : Lane) : Lane :=
  let old := L.seb.sw
  let L := L.updSeb fun b => { b with
    frame := x
    inp := x.code.map codeValue
    rbk := Vector.ofFn fun k : Switch => x.rbk[k.val + 4]
    sw := x.sw.map (· == 1)
    vlow := decide (vsLow ≤ x.vstate)
    forced := x.forced
    rbf := Vector.ofFn fun p : Pair =>
      if b.rbf[p] ≠ 0 then b.rbf[p]
      else if rep[2 * p.val]'(by omega) ≠ 0 then rep[2 * p.val]'(by omega) else rep[2 * p.val + 1]'(by omega) }
  wearPair 1 old (wearPair 0 old L)

/-- A state frame to a lane, at its edge of F: the readbacks as they are now, sent once; a lost frame is none at all. The snoop port takes the field
die's registers with it (R512; those R353 does not name as they stand then: DEDUCED, log 27). -/
def World.stateFrame (l : LaneId) (pads : PadVolts) (hot : SourceBits) (w : World) : World :=
  if !w.fdUp then w else
  let w := w.fioOut fun d => { d with
    held := Vector.ofFn fun k => d.padHeld k (listGet none pads k.val)
    hot := Vector.ofFn fun k => hot.getLsbD k.val }
  if !(w.lane l).spine || (instantIn (w.lane l).fclk 1600 0).isNone then w
  else
    let rep := w.fd.report[laneIx l]
    let w := w.updLane l fun L =>
      let L := sebFrame w.fd.frameOut rep L
      { L with bg := { L.bg with fio := w.fd.regs, fioOwn := w.fd.copy l, fioHoop := rget L.regs F_LNK_HOOP_STATE.addr } }
    w.updFd fun d => { d with report := d.report.set (laneIx l) (Vector.replicate 4 0) }

/-! ### The reset button and the session -/

/-- RESET_BTN_STUCK to the event log (log 63): it waits where the queue takes no entry. -/
def sebStuck (L : Lane) : Lane := evStuck (L.updSeb fun b => { b with stuck := b.stuck + 1 })

/-- The button is released after a press of so many ms (R335). -/
def sebButton (ms : Nat) (L : Lane) : Lane :=
  if 5000 < ms then sebStuck (L.s F_SEB_FLAG_RSTBTN_S 1) else if 100 ≤ ms then sebReset true L else L

/-- The store of a committed record ends (R342, R468): not before the session's entries are in flash. -/
def World.sebStoreEnd (l : LaneId) (ok : Bool) (w : World) : World :=
  let L := w.lane l
  if L.f F_SEB_SESS_STATE ≠ 2 ∨ L.log.clSafe ≠ 0 then w
  else if ok then w.updLane l fun L => sebShowId (sebStored L)
  else (w.updLane l fun L => L.s F_SEB_SESS_STORE_FAIL 1).sebRevert l

/-- The stored values are reloaded, the field die's copies too (R340, R350). -/
def World.sebRevertEnd (l : LaneId) (w : World) : World :=
  if (w.lane l).f F_SEB_SESS_STATE ≠ 3 then w
  else
    let w := w.updLane l sebReverted
    fioApply (w.updFd fun d => d.setCopy l ((List.range 24).foldl (fun r n =>
      match (w.lane l).seb.fioCfg[n]? with
      | some v => rput r (A_FIO_INCFG n) v
      | none => r) (d.copy l)))

/-! ### Meanings -/

/-- SEB_CYCLE (R293 to R333), at its edge of F; a difference of the datapaths is a fault of the SEB (R346). -/
def execSebCycle (l : LaneId) (mismatch : Bool) (s : State) : Host.Outcome State Fault Refusal :=
  lift (fun w => if !(w.lane l).sebUp || (instantIn (w.lane l).fclk 20000 18000).isNone then w else if mismatch then w.laneReset l rbSebFlt else w.sebCycle l) s

/-- INPUT_FILTER_EXPIRY (R296). -/
def execInputFilterExpiry (l : LaneId) (k : SafetySignal) (s : State) : Host.Outcome State Fault Refusal :=
  lift (World.onSeb l (sebFilter k)) s

/-- DISCREPANCY_TIMEOUT (R298). -/
def execDiscrepancyTimeout (l : LaneId) (g : SafetyGroup) (s : State) : Host.Outcome State Fault Refusal :=
  lift (World.onSeb l (sebDiscrepancy g)) s

/-- TWO_HAND_TIMEOUT (R302). -/
def execTwoHandTimeout (l : LaneId) (s : State) : Host.Outcome State Fault Refusal :=
  lift (World.onSeb l sebTwoHandLate) s

/-- ENCLOST (R316). -/
def execEnclost (l : LaneId) (s : State) : Host.Outcome State Fault Refusal := lift (World.onSeb l sebEncLost) s

/-- BOB_REPORT_MISSING (R320). -/
def execBobReportMissing (l : LaneId) (s : State) : Host.Outcome State Fault Refusal :=
  lift (World.onSeb l sebBobMissing) s

/-- SEL_REPORT_TIMEOUT (R321). -/
def execSelReportTimeout (l : LaneId) (s : State) : Host.Outcome State Fault Refusal :=
  lift (World.onSeb l sebSelMissing) s

/-- DEMAND_MISMATCH (R324). -/
def execDemandMismatch (l : LaneId) (s : State) : Host.Outcome State Fault Refusal := lift (World.onSeb l sebMismatch) s

/-- PARTNER_LOST (R325). -/
def execPartnerLost (l : LaneId) (s : State) : Host.Outcome State Fault Refusal := lift (World.onSeb l sebPartnerLost) s

/-- PARTNER_RESTORED (R325). -/
def execPartnerRestored (l : LaneId) (s : State) : Host.Outcome State Fault Refusal :=
  lift (World.onSeb l sebPartnerBack) s

/-- PARTNER (R322): it bypasses gate G5. -/
def execPartner (l : LaneId) (s : State) : Host.Outcome State Fault Refusal :=
  lift (World.takeOut l Lnk.partnerOut (fun k => { k with partnerOut := none }) fun m => World.onSeb l (sebPartnerWord m)) s

/-- SEBREQ (R327). -/
def execSebreq (l : LaneId) (s : State) : Host.Outcome State Fault Refusal :=
  lift (World.takeOut l Lnk.sebreqOut (fun k => { k with sebreqOut := none }) fun r => World.onSeb l (sebRequests r)) s

/-- REQUEST_TIMEOUT (R328). -/
def execRequestTimeout (l : LaneId) (s : State) : Host.Outcome State Fault Refusal :=
  lift (World.onSeb l sebRequestTimeout) s

/-- FEEDBACK_TIMEOUT (R330). -/
def execFeedbackTimeout (l : LaneId) (p : Pair) (s : State) : Host.Outcome State Fault Refusal :=
  lift (World.onSeb l (sebFeedbackTimeout p)) s

/-- STO_MISMATCH (R331). -/
def execStoMismatch (l : LaneId) (s : State) : Host.Outcome State Fault Refusal := lift (World.onSeb l sebSto) s

/-- LATCH_RECORD_WRITE (R334). -/
def execLatchRecordWrite (l : LaneId) (s : State) : Host.Outcome State Fault Refusal := lift (World.onSeb l latWrite) s

/-- LATCH_RECORD_ERASE_DONE (R334). -/
def execLatchRecordEraseDone (l : LaneId) (s : State) : Host.Outcome State Fault Refusal := lift (World.onSeb l latErased) s

/-- RESET_BUTTON (R335, R337): a press the SEB accepts also acknowledges a cut, where an acknowledge counts (Table 12.8). -/
def execResetButton (l : LaneId) (ms : Nat) (s : State) : Host.Outcome State Fault Refusal :=
  lift (fun w =>
    let w' := w.onSeb l (sebButton ms)
    if (w.lane l).sebUp ∧ 100 ≤ ms ∧ ms ≤ 5000 then (fioAck w').1 else w') s

/-- CONFIG_STORE_COMPLETE (R342). -/
def execConfigStoreComplete (l : LaneId) (ok : Bool) (s : State) : Host.Outcome State Fault Refusal :=
  lift (fun w => if (w.lane l).spine then w.sebStoreEnd l ok else w) s

/-- REVERT_COMPLETE (R340). -/
def execRevertComplete (l : LaneId) (s : State) : Host.Outcome State Fault Refusal :=
  lift (fun w => if (w.lane l).spine then w.sebRevertEnd l else w) s

/-- SESSION_IDLE_TIMEOUT (R340). -/
def execSessionIdleTimeout (l : LaneId) (s : State) : Host.Outcome State Fault Refusal :=
  lift (fun w => if (w.lane l).f F_SEB_SESS_STATE = 1 then w.sebRevert l else w) s

/-- PW_LOCK_EXPIRY (R345). -/
def execPwLockExpiry (l : LaneId) (s : State) : Host.Outcome State Fault Refusal :=
  lift (onSpine l fun L => L.updSeb fun b => { b with pwLock := false }) s

/-- STATE_FRAME (R353, R84). -/
def execStateFrame (l : LaneId) (pads : PadVolts) (hot : SourceBits) (s : State) : Host.Outcome State Fault Refusal :=
  lift (World.stateFrame l pads hot) s

/-- SEB_SELFTEST (R346, R529). -/
def execSebSelftest (l : LaneId) (ok : Bool) (s : State) : Host.Outcome State Fault Refusal :=
  lift (fun w =>
    if !(w.lane l).spine || (w.lane l).seb.up then w
    else if ok then w.updLane l fun L => L.updSeb fun b => { b with up := true }
    else w.laneReset l rbSebFlt) s

end Sys2Proof.Machine
end

