-- ==== Sys2Proof/Machine/PowerCore.lean ====
section
/-!
DEFINITION. The supplies, the supervisor and the power states (spec 17): Carrier and power-on resets, Doze and Hush with their commands and conditions, and wake.
-/
namespace Sys2Proof.Machine

/-- Events of PWR go to PEER 42. -/
def peerPwr : Nat := 42

/-- Status codes of PWR. -/
def pwrNotParked : Nat := 0x40
def pwrBusy : Nat := 0x41

/-- What both lanes do. -/
def World.both (f : Lane → Lane) (w : World) : World := (w.updLane .a f).updLane .b f

/-- The supervisor's registers updated. -/
def World.updSup (w : World) (f : RegFile → RegFile) : World := { w with sup := { w.sup with regs := f w.sup.regs } }

/-- An event of PWR in both lanes. -/
def World.pwrEvent (k : Nat) (w : World) : World := w.both fun L => if L.spine then L.event peerPwr (evBit k) else L

/-! ### Carrier and power-on reset -/

/-- What a Carrier reset leaves of a lane. -/
def laneCarrier (L : Lane) : Lane :=
  let L := laneCleared true L
  { L with regs := resetRange 3 0x40000000 0x40150000 L.regs }

/-- The supervisor's registers after a Carrier reset: a Hold stands until XRES_L has been high for 50 ms (R499). -/
def supReset (r : RegFile) : RegFile :=
  if getB r F_PWR_STAT_HOLD then setF (setF supResetRegs F_PWR_STAT_HOLD 1) F_PWR_STAT_RSTSTUCK_S 1 else supResetRegs

/-- A Carrier reset (R4): both lanes, whose straps are read again (R443), and the field die; the supervisor's Carrier-domain registers. The latch
copies and counters it keeps stand, as do a brown-out (R488) and a Hold. -/
def World.carrierReset (bit : Nat) (w : World) : World :=
  if w.sup.off then w
  else
    let w := { w.both fun L => (laneCarrier L).s F_PIC_STAT_POS w.sup.straps.val with
      fd := {}, sup := { w.sup with regs := supReset w.sup.regs, entering := false, hush := false, waking := false, wake := [], wakeDec := Vector.replicate 4 0 } }
    (w.rstBit .a bit).rstBit .b bit

/-- A lane right after power-on: its flash alone stands, and the straps are read (R443). -/
def lanePowerOn (pos : GroupPos) (L : Lane) : Lane :=
  ({ ({} : Lane) with flash := L.flash, wer := L.wer, bg := { spares := L.bg.spares } }).s F_PIC_STAT_POS pos.val

/-- The number after a region's newest committed entry (R464). -/
def nextSeq (o : Option Nat) : Nat := match o with
  | some n => (n + 1) % 2 ^ 32
  | none => 0

/-- VLOG rises through VPOR (R501): everything begins anew but the flash; the change log's numbers resume. -/
def World.powerOn (pos : GroupPos) (w : World) : World :=
  let a := lanePowerOn pos w.laneA
  let b := lanePowerOn pos w.laneB
  { w with
    laneA := a, laneB := b, fd := {}
    sup := { seqGen := #v[nextSeq a.wer.genSeq, nextSeq b.wer.genSeq], seqSaf := #v[nextSeq a.wer.safSeq, nextSeq b.wer.safSeq], straps := pos } }

/-- VLOG below VPOR: the part is off (R485). -/
def World.powerOff (w : World) : World :=
  let off := fun (L : Lane) => { ({} : Lane) with flash := L.flash, wer := L.wer, bg := { spares := L.bg.spares }, phase := LanePhase.off }
  { w.both off with fd := {}, sup := { off := true, rstCause := Vector.replicate 2 0 } }

/-- FAULT_L is asserted (R500, R529, R498): a lane from its reset to the passed self-test or HALTED, Carrier reset, Hold, or a forced safe state;
below VPOR it is released (Table 19.14). -/
def World.faultL (w : World) : Bool :=
  let lane := fun (L : Lane) => (L.phase != .off && !L.sebUp) || L.lst == lsHalted
  !w.sup.off && (lane w.laneA || lane w.laneB || w.sup.xres || getB w.sup.regs F_PWR_STAT_HOLD || w.fd.forced)

/-- The lane whose outputs the pad multiplexer drives (R21, R388); none while the Hoop is FREE or in FAULT. -/
def World.padLane (w : World) : Option LaneId := if w.fd.hoop = 1 then some .a else if w.fd.hoop = 2 then some .b else none

/-- The logic-side pads that the pad multiplexer, the supervisor or the reset pulls hold (Table 19.14). -/
inductive Pad where
  | canTxd (n : Port)
  | dlTxd
  | ssiClk (l : LaneId)
  | dlSync
  | doorGate (d : Door)
  | canStb (pair : Pair)
  | spi
  | spiCs (n : Fin 2)
  | gp (n : Fin 11)
  | faultL
  | usb
  | picot (n : Fin 2)
  | dbgIo
  | crystal
  | input
deriving DecidableEq, Repr

/-- What a pad shows: a level, by its driver or its reset pull; high impedance; what a lane drives; or, of the special pads, an open drain asserted,
an input, USB detached, Picot transmitters off with their terminations on, the crystal oscillating. -/
inductive PadLevel where
  | high
  | low
  | highZ
  | drivenBy (l : LaneId)
  | asserted
  | input
  | detached
  | txOff
  | oscillating
deriving DecidableEq, Repr

/-- The level of a standby pin: the supervisor drives it at the standby level from the Hoop's release on the way into Hush (Table 17.3, step 4), of
the settings it copied; else the holder does (R433), else no one (R388). -/
def World.canStb (pair : Pair) (w : World) : Option Bool :=
  if w.sup.entering || w.sup.hush then some (getB w.sup.wake (F_CAN_WAKECFG_STBPOL (2 * pair.val)))
  else w.padLane.bind fun l => (w.lane l).canStandby pair

/-- The lane that has DBG_IO (R483, R484): the one whose debug port is enabled; none while DBGON is 0 in both. -/
def World.dbgLane (w : World) : Option LaneId := [LaneId.a, LaneId.b].find? fun l => (w.lane l).spine && (w.lane l).b F_SYS_DBGCTL_DBGON

/-- What a pad shows (R21, R388, R525; Table 19.14): in Carrier reset, in Hush and where no lane holds the Hoop the levels of R388; below VPOR all
high impedance, FAULT_L released, the crystal stopped. -/
def World.pad (p : Pad) (w : World) : PadLevel :=
  if w.sup.off then .highZ
  else
    let drive := if w.sup.xres || w.sup.hush then none else w.padLane
    match p with
    | .canTxd _ | .dlTxd => match drive with | some l => .drivenBy l | none => .high
    | .ssiClk l => if (w.lane l).spine then .drivenBy l else .high
    | .dlSync => match drive with | some l => .drivenBy l | none => .low
    | .doorGate _ => match drive with | some l => if w.fd.b F_FIO_STAT_DOOREN then .drivenBy l else .low | none => .low
    | .canStb k => match w.canStb k with | some true => .high | some false => .low | none => .highZ
    | .spi | .gp _ => match drive with | some l => .drivenBy l | none => .highZ
    | .spiCs _ => match drive with | some l => .drivenBy l | none => .high
    | .faultL => if w.faultL then .asserted else .highZ
    | .usb => match drive with | some l => if (w.lane l).b F_USB_STAT_ATTACHED then .drivenBy l else .detached | none => .detached
    | .picot _ => match drive with | some l => .drivenBy l | none => .txOff
    | .dbgIo => match drive.bind fun _ => w.dbgLane with | some l => .drivenBy l | none => .highZ
    | .crystal => .oscillating
    | .input => .input

/-! ### Doze and Hush (R490 to R493) -/

/-- Both doors are in OFF or CLOSED with GATES 0. -/
def Lane.doorsParked (L : Lane) : Bool :=
  (List.range 2).all fun d => (L.f (F_DOR_STAT_STATE d) == dsOff || L.f (F_DOR_STAT_STATE d) == dsClosed) && !L.b (F_DOR_STAT_GATES d)

/-- Both lanes show a power state. -/
def World.pwrState (st : Nat) (w : World) : World := w.both fun L => if L.spine then usbEval (lnkShow (L.s F_PWR_STAT_STATE st)) else L

/-- The conditions of DOZE (R491). -/
def World.dozeOk (l : LaneId) (w : World) : Bool := (w.lane l).spgSt == spgIdle && (w.lane l).doorsParked

/-- The conditions of HUSH (R492). -/
def World.hushOk (l : LaneId) (w : World) : Bool :=
  let L := w.lane l
  let busy := fun (L : Lane) =>
    L.sst 0 != ssIdle || L.sst 1 != ssIdle || L.f F_SEB_SESS_STATE != 0 || L.lnk.updActive || L.lst == lsUpdate || L.lnk.bulkActive
  carAtRest L && L.doorsParked && w.pairsOff && (!L.b F_SEL_CFG_EN || L.b F_SEL_STAT_PARKED) && !L.b F_PIC_STAT_JOINED &&
    !busy w.laneA && !busy w.laneB && (L.partnerElig || L.pstate == lsHalted)

/-- The wake settings the supervisor copies (Table 17.3, step 1): those of the holder's CAN ports, and PWR_WAKECFG. -/
def wakeCopy (r : RegFile) (sup : RegFile) : RegFile :=
  (List.range 4).foldl (fun x n =>
    ([A_CAN_WAKECFG n, A_CAN_WAKEID n, A_CAN_WAKEIDM n, A_CAN_WAKEDATA n 0, A_CAN_WAKEDATA n 1, A_CAN_WAKEDM n 0, A_CAN_WAKEDM n 1, (F_CAN_STAT_PSTATE n).addr]).foldl
      (fun x a => rput x a (rget r a)) x) (rput [] A_PWR_WAKECFG (rget sup A_PWR_WAKECFG))

/-- Steps 1 to 4 of the entry into Hush (Table 17.3): wake settings copied, counters committed, the outputs in their safe states, the Hoop
released. -/
def World.hushEnter (l : LaneId) (w : World) : World :=
  let w := { w with sup := { w.sup with entering := true, wake := wakeCopy (w.lane l).regs w.sup.regs, wakeDec := Vector.replicate 4 0 } }
  let w := w.both fun L => if L.up (.eng 10) then wearCommit L else { L with wer := { L.wer with plDue := true } }
  let w := (w.pwrState pwrEntering).fioForce fcSilence
  w.updLane l (lnkRelease rcFirmware)

/-- A write to PWR_CTRL (R490 to R492): of the Hoop holder only. -/
def World.pwrCtrl (l : LaneId) (v : Word) (w : World) : World × Nat :=
  let st := (w.lane l).f F_PWR_STAT_STATE
  if !(w.lane l).holder then (w, stNotHolder)
  else match bits v 3 0 with
    | 0 => (w, stOk)
    | 1 => if w.sup.entering then (w, pwrBusy) else if st = pwrDoze then (w, stNoop)
        else if w.dozeOk l then (w.pwrState pwrDoze, stOk) else (w, pwrNotParked)
    | 2 => if w.sup.entering then (w, pwrBusy) else if w.hushOk l then (w.hushEnter l, stOk) else (w, pwrNotParked)
    | 3 => if st = pwrDoze then (w.pwrState pwrRun, stOk) else (w, stNoop)
    | _ => (w, stBadValue)

/-- Step 5 of the entry into Hush: the lanes lose their supply. -/
def World.hushDone (w : World) : World :=
  if !w.sup.entering then w
  else { w.both fun L => { laneCleared false L with phase := LanePhase.off, mea := { bootCnt := L.mea.bootCnt } } with sup := { w.sup with entering := false, hush := true } }

/-! ### Wake (R494, R495) -/

/-- The bounds on an enabled CAN wake: what a port's decoder makes of what it saw, from given settings and its error count: the cause, if it wakes,
and the count (R434). -/
def wakeCan (r : RegFile) (n : Port) (dec : Nat) (by_ : CanWakeBy) : Option Nat × Nat :=
  match by_ with
  | .edge => (if getF r (F_CAN_WAKECFG_WMODE n) = 1 then some 1 else none, dec)
  | .frame fr good =>
    if getF r (F_CAN_WAKECFG_WMODE n) ≠ 2 ∨ fr.fdf then (none, dec)
    else if !good then (if 32 ≤ dec + 1 then some 2 else none, dec + 1)
    else if canWakeMatch r n fr then (some 2, dec)
    else (none, dec - 1)

/-- The wake criterion of a source: CAUSE and INDEX of PWR_WAKESTAT where it is enabled and met, and the decoders' counts. -/
def wakeJudge (r : RegFile) (cfg : RegFile) (dec : Vector Nat 4) (src : WakeSource) : Option (Nat × Nat) × Vector Nat 4 :=
  match src with
  | .can n by_ =>
    if !getBit cfg F_PWR_WAKECFG_CAN n.val then (none, dec)
    else
      let (c, d) := wakeCan r n dec[n] by_
      (c.map fun c => (c, n.val), dec.set n d)
  | .field n => (if getBit cfg F_PWR_WAKECFG_FI n.val then some (3, n.val) else none, dec)
  | .vbus => (if getB cfg F_PWR_WAKECFG_USB then some (4, 0) else none, dec)
  | .wakeL => (if getB cfg F_PWR_WAKECFG_WAKEL then some (5, 0) else none, dec)

/-- PWR_WAKESTAT after a source: the first is recorded, a later one counted. -/
def wakeRecord (cause ix : Nat) (r : RegFile) : RegFile :=
  if getF r F_PWR_WAKESTAT_CAUSE = 0 then setF (setF r F_PWR_WAKESTAT_CAUSE cause) F_PWR_WAKESTAT_INDEX ix
  else addF r F_PWR_WAKESTAT_MORE 1

/-- A wake from Hush (R495): both lanes are reset and start. -/
def World.hushWake (w : World) : World :=
  let w := { w.both fun L => { laneCleared false L with phase := LanePhase.reset } with sup := { w.sup with hush := false, waking := true } }
  ((w.updSup fun r => setF r F_PWR_STAT_WAKE_S 1).rstBit .a rbWake).rstBit .b rbWake

/-- After a wake from Hush, until both lanes run again (R494: before Run). -/
def World.waking (w : World) : Bool := w.sup.waking && !(w.laneA.spine && w.laneB.spine)

/-- A source acts (R493, R494): from Doze back to Run, from the entry into Hush abandoned, from Hush a wake; one that comes while the lanes start is
only counted. -/
def World.wake (src : WakeSource) (w : World) : World :=
  let hold : LaneId := if w.fd.hoop = 2 then .b else .a
  let doze := (w.lane hold).spine && (w.lane hold).dozing
  if w.sup.off || !(doze || w.sup.entering || w.sup.hush || w.waking) then w
  else
    let r := if doze then (w.lane hold).regs else w.sup.wake
    let (hit, dec) := wakeJudge r (if doze then w.sup.regs else w.sup.wake) w.sup.wakeDec src
    let w := { w with sup := { w.sup with wakeDec := dec } }
    match hit with
    | none => w
    | some (c, ix) =>
      let w := w.updSup (wakeRecord c ix)
      if w.sup.hush then w.hushWake
      else if w.sup.entering then
        let w := { w with sup := { w.sup with entering := false } }
        ((w.updSup fun r => setF r F_PWR_STAT_ENTABT_S 1).pwrState pwrRun).pwrEvent 17
      else if doze then (w.pwrState pwrRun).pwrEvent 19
      else w

end Sys2Proof.Machine
end

