-- ==== Sys2Proof/Machine/Power.lean ====
section
/-!
DEFINITION. The commands of supplies, resets, gates, crossings and the core-voltage adaptation (spec 01, 02, 17).
-/
namespace Sys2Proof.Machine

/-! ### Supplies and pins -/

/-- POWER_ON_RESET (R501), with the group position its straps set (R443). -/
def execPowerOnReset (pos : GroupPos) (s : State) : Host.Outcome State Fault Refusal := lift (World.powerOn pos) s

/-- POWER_OFF (R496). -/
def execPowerOff (s : State) : Host.Outcome State Fault Refusal := lift World.powerOff s

/-- POWER_LOSS_WARNING (R487); in Hush only PLW_S (R496). -/
def execPowerLossWarning (s : State) : Host.Outcome State Fault Refusal :=
  lift (fun w =>
    if w.sup.off then w
    else
      let w := w.updSup fun r => setF r F_PWR_STAT_PLW_S 1
      if w.sup.hush then w
      else
        let w := w.updSup fun r => setF r F_PWR_STAT_PLW 1
        (w.both fun L => if L.spine then { L with wer := { L.wer with plDue := true } } else L).pwrEvent 16) s

/-- POWER_LOSS_WARNING_END (R486). -/
def execPowerLossWarningEnd (s : State) : Host.Outcome State Fault Refusal :=
  lift (fun w => w.updSup fun r => setF r F_PWR_STAT_PLW 0) s

/-- BROWN_OUT (R488). In Hush the lanes are unpowered and nothing is left to reset, but they stay down after a wake. -/
def execBrownOut (s : State) : Host.Outcome State Fault Refusal :=
  lift (fun w =>
    if w.sup.off then w
    else if w.sup.hush then { w with sup := { w.sup with bor := true } }
    else
      let w := (w.laneReset .a rbCoreSupply).laneReset .b rbCoreSupply
      { w with sup := { w.sup with bor := true, regs := setF w.sup.regs F_PWR_STAT_BOR_S 1 } }) s

/-- BROWN_OUT_RECOVERY (R488). -/
def execBrownOutRecovery (s : State) : Host.Outcome State Fault Refusal :=
  lift (fun w => { w with sup := { w.sup with bor := false } }) s

/-- XRES_LOW (R497): ignored in Hold (R498). -/
def execXresLow (s : State) : Host.Outcome State Fault Refusal :=
  lift (fun w =>
    if w.sup.off || getB w.sup.regs F_PWR_STAT_HOLD then w
    else
      let w := w.carrierReset rbXres
      { w with sup := { w.sup with xres := true } }) s

/-- XRES_RELEASE (R497). -/
def execXresRelease (s : State) : Host.Outcome State Fault Refusal :=
  lift (fun w => { w with sup := { w.sup with xres := false } }) s

/-- RESET_HOLD (R498): the lanes are released; what the event [18] reports they read in PWR_STAT, since a Lane reset loses it. -/
def execResetHold (s : State) : Host.Outcome State Fault Refusal :=
  lift (fun w =>
    if !w.sup.xres then w
    else
      let w := { w with sup := { w.sup with xres := false, regs := setF (setF w.sup.regs F_PWR_STAT_HOLD 1) F_PWR_STAT_RSTSTUCK_S 1 } }
      w.pwrEvent 18) s

/-- HOLD_END (R499). -/
def execHoldEnd (s : State) : Host.Outcome State Fault Refusal :=
  lift (fun w => if getB w.sup.regs F_PWR_STAT_HOLD then (w.updSup fun r => setF r F_PWR_STAT_HOLD 0).carrierReset rbXres else w) s

/-- CARRIER_RESET (Table 1.5). -/
def execCarrierReset (cause : CarrierCause) (s : State) : Host.Outcome State Fault Refusal :=
  lift (World.carrierReset (match cause with
    | .supervisor => rbSupv
    | .hoopFault => rbHoopFault)) s

/-! ### Lane, quarter and block resets -/

/-- LANE_RESET (R529, Table 1.5). -/
def execLaneReset (l : LaneId) (cause : LaneCause) (s : State) : Host.Outcome State Fault Refusal :=
  lift (World.laneReset l (match cause with
    | .coreSupply => rbCoreSupply
    | .pllLoss => rbPllLoss
    | .sebFault => rbSebFlt)) s

/-- LANE_RESET_END (R26, R343, R333): not while a supply or XRES_L holds the lane. -/
def execLaneResetEnd (l : LaneId) (s : State) : Host.Outcome State Fault Refusal :=
  lift (fun w =>
    if (w.lane l).phase ≠ .reset || w.sup.off || w.sup.bor || w.sup.xres || w.sup.hush then w
    else w.updLane l fun L =>
      let L := sebRestore w.sup.latch[laneIx l] (sebLoad { L with phase := .waitPll })
      replShow (L.updLnk fun k => { k with fWait := true })) s

/-- PLL_LOCK (R45, R377): Lane A without a heartbeat starts F at 0. With both lanes running, a start after a wake is over. -/
def execPllLock (l : LaneId) (s : State) : Host.Outcome State Fault Refusal :=
  lift (fun w =>
    if (w.lane l).phase ≠ .waitPll then w
    else
      let w' := w.updLane l fun L =>
        let L := { L with phase := .run }
        let L := if l = .a ∧ L.lnk.hbSeen = none then { L with fclk := 0, lnk := { L.lnk with fWait := false } } else L
        if (w.lane l.other).spine then L else L.setGate 5 gClosed gcReset
      { w' with sup := { w'.sup with waking := w'.waking } }) s

/-- PLL_LOSS (R46). -/
def execPllLoss (l : LaneId) (s : State) : Host.Outcome State Fault Refusal := lift (World.laneReset l rbPllLoss) s

/-- BLOCK_RESET (R24): a failed self-check of the block. -/
def execBlockReset (l : LaneId) (b : Block) (s : State) : Host.Outcome State Fault Refusal :=
  lift (World.blockReset l b bcSelfCheck true) s

/-- BLOCK_HANDSHAKE_TIMEOUT (R37). -/
def execBlockHandshakeTimeout (l : LaneId) (b : Block) (s : State) : Host.Outcome State Fault Refusal :=
  lift (World.blockReset l b bcHandshake true) s

/-- RING_STALL (R38). -/
def execRingStall (l : LaneId) (q : Quarter) (s : State) : Host.Outcome State Fault Refusal :=
  lift (World.quarterReset l q true) s

/-- QUARTER_RESET (R23, R24): a fault of the quarter. -/
def execQuarterReset (l : LaneId) (q : Quarter) (s : State) : Host.Outcome State Fault Refusal :=
  lift (World.quarterReset l q true) s

/-- LANE_LOGIC_RESTART (R24): the restart that is due. -/
def execLaneLogicRestart (l : LaneId) (s : State) : Host.Outcome State Fault Refusal := lift (World.restartDo l) s

/-! ### Gates and crossings -/

/-- GATE_REOPEN (R31, R33). -/
def execGateReopen (l : LaneId) (g : Fin 7) (s : State) : Host.Outcome State Fault Refusal := lift (World.gateReopen l g) s

/-- CROSSING_READY (R52 to R54): the core side, or the island's, announces READY. -/
def execCrossingReady (l : LaneId) (n : Fin 48) (core : Bool) (s : State) : Host.Outcome State Fault Refusal :=
  lift (onSpine l (xingReady n core)) s

/-- STALE_REPLY (R30). -/
def execStaleReply (l : LaneId) (s : State) : Host.Outcome State Fault Refusal :=
  lift (onSpine l fun L => L.inc F_SYS_DGCNT_LATE) s

/-- A crossing carries events (type P of Table 2.10). -/
def isP (n : Fin 48) : Bool :=
  decide (n.val < 8) || decide (n.val = 16 ∨ n.val = 17 ∨ (30 ≤ n.val ∧ n.val ≤ 33) ∨ n.val = 35 ∨ n.val = 37 ∨ n.val = 42 ∨ n.val = 44 ∨ 46 ≤ n.val)

/-- P_CROSSING_EVENT (R49 to R51), with the source code of the event. On crossings 46 and 47, whose events name an engine that the command does not, the
event takes its place in the crossing's flight and the toggle brings no engine anything (DESIGN CHOICE, log 138). -/
def execPCrossingEvent (l : LaneId) (n : Fin 48) (code : Nat) (s : State) : Host.Outcome State Fault Refusal :=
  lift (onSpine l fun L => if isP n then L.crossEvent n (code % 2 ^ 16) else L) s

/-- TOGGLE_RETURN (R49, R51). -/
def execToggleReturn (l : LaneId) (n : Fin 48) (s : State) : Host.Outcome State Fault Refusal :=
  lift (onSpine l fun L => L.toggleBack n) s

/-! ### Core-voltage adaptation (R40 to R43) -/

/-- One iteration, with the slack of each quarter (the smaller of its two monitors) and of the spine, in percent. VCODE is never set outside VMIN to
VMAX; an iteration in which no branch of the pseudocode applies does not set it. -/
def avsIterate (ctrl group port keep spine : Nat) (L : Lane) : Lane :=
  let L := L.calTake 4
  let cal := fun x : Nat => (L.calGain 4 x).toNat
  let (ctrl, group, port, keep, spine) := (cal ctrl, cal group, cal port, cal keep, cal spine)
  let s := min ctrl (min group (min port (min keep spine)))
  let m := L.dlMargin.getD (L.f F_AVS_STAT_DLMARGIN)
  let vc := L.f F_AVS_STAT_VCODE
  let tgt := L.f F_AVS_CTRL_SLACK_TGT
  let hyst := L.f F_AVS_CTRL_HYST
  let dl := L.f F_AVS_CTRL_DL_MIN
  let hi := L.f F_AVS_VLIM_VMAX
  let lo := L.f F_AVS_VLIM_VMIN
  let want := decide (s < tgt) || (decide (0 < dl) && decide (m < dl))
  let lim := fun x : Nat => max lo (min x hi)
  let r := if s < 10 then (lim (vc + 20), 1)
    else if want then (lim (vc + 4), 0)
    else if tgt + hyst ≤ s ∧ (dl = 0 ∨ dl + hyst ≤ m) then (lim (vc - 1), 0)
    else (vc, L.f F_AVS_STAT_FAST)
  let vc := r.1
  let L := (((L.s F_AVS_STAT_VCODE vc).s F_AVS_STAT_FAST r.2).s F_AVS_STAT_SLACK (min 100 s)).s F_AVS_STAT_DLMARGIN (min 255 m)
  let L := (L.stick (decide (s < 15)) F_AVS_STAT_LOW_S).stick (decide (vc = hi) && want) F_AVS_STAT_CEIL_S
  let L := (((L.s F_AVS_SLACK_CTRL (min 255 ctrl)).s F_AVS_SLACK_GROUP (min 255 group)).s F_AVS_SLACK_PORT (min 255 port)).s F_AVS_SLACK_KEEP (min 255 keep)
  let L := if s < L.f F_AVS_SLKMIN_MIN then L.s F_AVS_SLKMIN_MIN s else L
  { L with dlMargin := none, coreLow := if s < 8 then L.coreLow + 1 else 0 }

/-- AVS_ITERATION (R40, R41, R43). -/
def execAvsIteration (l : LaneId) (ctrl group port keep spine : Nat) (s : State) : Host.Outcome State Fault Refusal :=
  lift (onSpine l (avsIterate ctrl group port keep spine)) s

/-- CORE_SUPPLY_FAULT (R42): the slack has been below 8 % in three consecutive iterations. -/
def execCoreSupplyFault (l : LaneId) (s : State) : Host.Outcome State Fault Refusal :=
  lift (fun w => if 3 ≤ (w.lane l).coreLow then w.laneReset l rbCoreSupply else w) s

/-! ### Hush and wake -/

/-- HUSH_ENTERED (Table 17.3, step 5). -/
def execHushEntered (s : State) : Host.Outcome State Fault Refusal := lift World.hushDone s

/-- WAKE_SOURCE (R494, R495). -/
def execWakeSource (src : WakeSource) (s : State) : Host.Outcome State Fault Refusal := lift (World.wake src) s

end Sys2Proof.Machine
end

