-- ==== Sys2Proof/Machine/Periph.lean ====
section
/-!
DEFINITION. What writes to the registers of USB and SPI, NVM, MEA and to SYS_DBGCTL, SYS_ENGCTL and SYS_CHCFG do, beyond the generic checks (spec 18,
R505 to R508; spec 16, R479, R480, R483; spec 03, R63; spec 04, R105).
-/
namespace Sys2Proof.Machine

/-! ### USB (R507) -/

/-- A write to USB_CTRL. -/
def usbCtrl (v : Word) (L : Lane) : Lane := usbEval (L.store A_USB_CTRL v)

/-- A write to USB_RXPOP. -/
def usbPop (v : Word) (L : Lane) : Lane × Nat :=
  if !v.getLsbD 0 then (L, stOk)
  else if L.usb.rx.isEmpty then (L, stNoop)
  else (usbShow (L.updUsb fun u => { u with rx := u.rx.drop 1 }), stOk)

/-- The bytes of the transmit staging area. -/
def usbStaged (L : Lane) (n : Nat) : Bytes :=
  ((List.range 16).flatMap fun k => wordBytes (rget L.regs (A_USB_TXSTAGE k))).take n

/-- A write to USB_TXPUSH: a packet of more than 64 bytes is sent as 64 (R7). -/
def usbPush (v : Word) (L : Lane) : Lane × Nat :=
  let n := L.f F_USB_TXH_LEN
  if !v.getLsbD 0 then (L, stOk)
  else if !L.b F_USB_STAT_ATTACHED then (L, usbDetached)
  else if n = 0 then (L, stNoop)
  else if 4 ≤ L.usb.tx.length then (L, stQfull)
  else
    let L := L.stick (decide (64 < n)) F_USB_STAT_TRUNC_S
    (usbShow (L.updUsb fun u => { u with tx := u.tx ++ [usbStaged L (min n 64)] }), stOk)

/-! ### SPI (R508) -/

/-- Status code of SPI: a transfer runs. -/
def spiBusy : Nat := 0x40

/-- The island clocks from an expansion transfer's start to its end. -/
def spiTicks (len div : Nat) : Nat := len * 16 * div

/-- A write to SPI_CTRL: LEN beyond the 8-byte buffer is clamped to it (R7; SPI_STAT has no TRUNC to set, log 114). The transfer waits where it would
not end at least 2 µs before the next BOB sample instant, which is noted with it. -/
def spiStart (v : Word) (L : Lane) : Lane × Nat :=
  if bits v 31 28 = 0 then (L, stOk)
  else if !L.holder then (L, stNotHolder)
  else if L.b F_SPI_STAT_BUSY then (L, spiBusy)
  else
    let n := min 8 (bits v 3 0)
    if n = 0 then (L, stNoop)
    else
      let late := decide (20000 < L.fclk % 20000 + spiTicks n (L.f F_SPI_CFG_DIV) + 160)
      let due := if late then some ((L.fclk / 20000 + 1) * 20000) else none
      let L := ((L.s F_SPI_STAT_BUSY 1).s F_SPI_STAT_DONE 0).updUsb fun u => { u with spiLen := n, spiWait := due }
      (L.ifDo late fun L => L.inc F_SPI_STAT_WAITS, stOk)

/-! ### NVM (R74, R505, R506) -/

/-- Status codes of NVM. -/
def nvmNotStandby : Nat := 0x40
def nvmSlotActive : Nat := 0x41
def nvmOwned : Nat := 0x42
def nvmBusy : Nat := 0x43
def nvmBadAddr : Nat := 0x44
def nvmVerify : Nat := 0x45

/-- The bounds of a flash region, by address (Table 3.5). -/
def nvmRegion (r : Nat) : Nat × Nat :=
  match r with
  | 0 => (0x08000000, 0x08300000)
  | 1 => (0x08300000, 0x08600000)
  | 2 => (0x08600000, 0x08780000)
  | _ => (0x08780000, 0x08800000)

/-- The sectors no engine may program or erase: the log bank but for E10; credentials, boot record, and the SEB's configuration and latch
records (R74, R342, R403, R455). -/
def nvmOwnedAt (wr : Writer) (r addr : Nat) : Bool :=
  (decide (r = 3) && wr != .eng 10) || (decide (0x0877A000 ≤ addr) && decide (addr < 0x08780000))

/-- The loader's exception of R74: it programs slot 0 of a lane without a startable image. -/
def nvmLoader (L : Lane) (r : Nat) : Bool := L.b F_LNK_UPDSTAT_LOADER && decide (r = 0)

/-- A write to NVM_CMDr, checked in the order of R505. -/
def nvmCmd (r : Nat) (wr : Writer) (v : Word) (L : Lane) : Lane × Nat :=
  let c := bits v 31 28
  let addr := L.f (F_NVM_ADDR_ADDR r)
  let (lo, hi) := nvmRegion r
  let slot := decide (r ≤ 1) && !nvmLoader L r
  if c = 0 then (L, stOk)
  else if L.b (F_NVM_STAT_BUSY r) then (L, nvmBusy)
  else if addr < lo ∨ hi ≤ addr ∨ addr % (if c = 1 then 16 else 4096) ≠ 0 then (L, nvmBadAddr)
  else if nvmOwnedAt wr r addr then (L, nvmOwned)
  else if slot && L.holder then (L, nvmNotStandby)
  else if slot && L.f F_LNK_UPDSTAT_SLOT == r then (L, nvmSlotActive)
  else
    let L := (L.s (F_NVM_STAT_BUSY r) 1).s (F_NVM_STAT_DONE r) 0
    ({ L with bg := { L.bg with nvm := L.bg.nvm.set! r (some (c * 2 ^ 32 + addr)) } }, stOk)

/-- A write to NVM_ADDRr or NVM_DATArj (R506). -/
def nvmStore (r a : Nat) (v : Word) (L : Lane) : Lane × Nat :=
  if L.b (F_NVM_STAT_BUSY r) then (L, nvmBusy) else (L.store a v, stOk)

/-- A flash command completes (R505). A line that was not erased, or does not read back, holds what the manual does not say. -/
def nvmDone (r : Fin 4) (good : Bool) (ctr : Nat) (L : Lane) : Lane :=
  match L.bg.nvm[r] with
  | none => L
  | some c =>
    let a := c % 2 ^ 32 - 0x08000000
    let data := (List.range 4).flatMap fun j => wordBytes (rget L.regs (A_NVM_DATA r.val j))
    let line := readBytes 0xFF L.flash a 16
    let ok := good && line == List.replicate 16 0xFF
    let L :=
      if c / 2 ^ 32 = 2 then L.flashErase a 4096
      else if ok then L.flashPut a data
      else { L with flash := writeBytes 0xFF L.flash a ((List.range 16).map fun k => Config.flashOver ctr k) }
    let st := if c / 2 ^ 32 = 2 ∨ ok then stOk else nvmVerify
    let L := { L with bg := { L.bg with nvm := L.bg.nvm.set r none } }
    let L := ((L.s (F_NVM_STAT_BUSY r.val) 0).s (F_NVM_STAT_DONE r.val) 1).s (F_NVM_STAT_STATUS r.val) st
    (L.inc (F_NVM_STAT_COUNT r.val)).event 40 (evBit 16)

/-! ### MEA (R479, R480) -/

/-- Status codes of MEA. -/
def meaBusy : Nat := 0x40
def meaLocked : Nat := 0x41

/-- The bytes of a run of registers. -/
def regBytes (L : Lane) (a n : Nat) : Bytes := (List.range n).flatMap fun k => wordBytes (rget L.regs (a + 4 * k))

/-- Bytes written to a run of registers. -/
def putRegBytes (a n : Nat) (b : Bytes) (L : Lane) : Lane :=
  (List.range n).foldl (fun L k => { L with regs := rput L.regs (a + 4 * k) (BitVec.ofNat 32 (leNat ((b.drop (4 * k)).take 4))) }) L

/-- An extend of a measurement register by a digest (R478). -/
def meaExtend (p : Nat) (digest : Bytes) (L : Lane) : Lane :=
  putRegBytes (A_MEA_PCR p 0) 8 (sha256 (regBytes L (A_MEA_PCR p 0) 8 ++ digest)) L

/-- Bytes 0 to 319 of the report (Table 16.6). -/
def meaReport (l : LaneId) (nlen : Nat) (L : Lane) : Bytes :=
  let slot := L.f F_LNK_UPDSTAT_SLOT + 128 * L.f F_LNK_UPDSTAT_BOOTFB
  leBytes 4 0x4B564152 ++ leBytes 2 1 ++ leBytes 1 l.num ++ leBytes 1 slot ++ uidBytes ++ leBytes 4 L.mea.bootCnt ++
  leBytes 4 (L.f F_MEA_STAT_RPTCNT) ++ leBytes 6 (if L.b F_PIC_STAT_TSYNC then L.gtime else 0) ++ leBytes 2 nlen ++
  ((regBytes L (A_MEA_NONCE 0) 8).take nlen ++ List.replicate (32 - nlen) 0) ++ regBytes L (A_MEA_PCR 0 0) 64

/-- A write to MEA_CTRL. -/
def meaCtrl (l : LaneId) (wr : Writer) (v : Word) (L : Lane) : Lane × Nat :=
  let nlen := bits v 13 8
  let p := bits v 2 0
  match bits v 31 28 with
  | 1 =>
    if 32 < nlen then (L, stBadValue)
    else if L.b F_MEA_STAT_BUSY then (L, meaBusy)
    else if nlen = 0 then (L, stNoop)
    else
      let L := { L with mea := { L.mea with forming := some (meaReport l nlen L) } }
      ((L.s F_MEA_STAT_BUSY 1).s F_MEA_STAT_DONE 0, stOk)
  | 2 =>
    if L.writerEng wr ≠ some 0 then (L, stRoleDenied)
    else if p < 5 then (L, meaLocked)
    else (meaExtend p (regBytes L (A_MEA_EXTD 0) 8) L, stOk)
  | _ => (L, stBadValue)

/-- The report is signed (R480): ECDSA over the SHA-256 of its bytes, under the lane's key, with a secret number of the signature's own. -/
def meaSigned (l : LaneId) (ctr : Nat) (L : Lane) : Lane :=
  match L.mea.forming with
  | none => L
  | some b =>
    let sig := ecdsaSign (Config.attestKey l.num) (Config.signSecret ctr) (sha256 b)
    let L := putRegBytes (A_MEA_REPORT 0) 96 (b ++ sig) { L with mea := { L.mea with forming := none } }
    (((L.s F_MEA_STAT_BUSY 0).s F_MEA_STAT_DONE 1).inc F_MEA_STAT_RPTCNT).event 43 (evBit 16)

/-! ### SYS_DBGCTL (R483, R484) -/

/-- A write to SYS_DBGCTL. -/
def dbgCtl (wr : Writer) (v : Word) (L : Lane) : Lane × Nat :=
  let en := v.getLsbD 31
  if L.holder && en && (L.lnk.hbLost || L.pstate == lsUpdate) then (L, sysDbgRefused)
  else if en = L.b F_SYS_DBGCTL_EN then (L, stOk)
  else if !L.holder then (L, stNotHolder)
  else if !en then (dbgOff L, stOk)
  else
    let L := (L.s F_SYS_DBGCTL_EN 1).updLnk fun k => { k with ctrlOut := k.ctrlOut ++ [CtrlMsg.debugOn] }
    (L.updAuth fun a => { a with dbgSess := (L.writerEng wr).bind fun e => L.sessOf e }, stOk)

/-! ### SYS_ENGCTL and SYS_CHCFG (R60, R63, R105) -/

/-- RUN of one engine written. -/
def World.engRunWrite (l : LaneId) (e : Eng) (on : Bool) (w : World) : World :=
  let was := (w.lane l).engRun e
  let ph := (w.lane l).eng[e].phase
  if on then
    w.updLane l fun L => (L.setRun e true).updEng e fun g => if g.phase = .stopped then { g with phase := .reloading } else g
  else if was ∨ ph ≠ .stopped then
    let w := (w.updLane l fun L => L.setRun e false).blockReset l (.eng e) bcRequest false
    w.updLane l fun L => L.updEng e fun g => { g with phase := .stopped }
  else w

/-- A write to SYS_ENGCTL, its KEY right and its writer E0. -/
def World.engCtl (l : LaneId) (v : Word) (w : World) : World :=
  (List.finRange 7).foldl (fun w k => w.engRunWrite l ⟨k.val + 1, by omega⟩ (v.getLsbD (k.val + 1))) w

/-- A channel operation that waits on an endpoint ends: it is issued again and finds what has changed. -/
def unwait (e : Eng) (L : Lane) : Lane := L.updEng e fun g => { g with wait := none }

/-- Clearing EN of an endpoint or of its peer completes what waits on it as a peer reset, UNBOUND (R105): the operation is issued again and meets the report. -/
def epUnbind (e : Eng) (ch : ChNo) (L : Lane) : Lane :=
  if waitsOn L.eng[e].wait ch then L.updEng e fun g => { g with wait := none, ep := g.ep.set ch { g.ep[ch] with cut := true } } else L

/-- Does a write to SYS_CHCFG break R105? -/
def chcfgBad (ch : Nat) (old v : Word) : Bool :=
  decide (ch = 63) || (old.getLsbD 31 && (old.getLsbD 30 != v.getLsbD 30 || bits old 21 16 != bits v 21 16 || bits old 13 8 != bits v 13 8)) ||
  (!v.getLsbD 30 && decide (8 ≤ bits v 21 16))

/-- A write to SYS_CHCFG, its writer E0. -/
def chCfg (n : FgEng) (ch : ChNo) (v : Word) (L : Lane) : Lane × Nat :=
  let a := A_SYS_CHCFG n.val ch.val
  let old := rget L.regs a
  if chcfgBad ch.val old v then (L, stBadValue)
  else
    let L := L.store a v
    let e := fgEng n
    let L := if old.getLsbD 31 && !v.getLsbD 31 then
        let L := epUnbind e ch (L.updEng e fun g => { g with ep := g.ep.set ch { peerReset := g.ep[ch].peerReset } })
        if bits old 21 16 < 8 then epUnbind (fin 12 (by decide) (bits old 21 16)) (fin 64 (by decide) (bits old 13 8)) L else L
      else if !old.getLsbD 31 && v.getLsbD 31 then
        let L := unwait e L
        if bits v 21 16 < 8 then unwait (fin 12 (by decide) (bits v 21 16)) L else L
      else L
    (L, stOk)

end Sys2Proof.Machine
end

