-- ==== Sys2Proof/Machine/RegRead.lean ====
section
/-!
DEFINITION. What a read of a register returns (spec 18, Table 18.7; R11, R13), the gates and crossings a register access passes (R27, R32, R35, R52,
R110), and the rights a write needs (R63, R110, R340, R459).
-/
namespace Sys2Proof.Machine

/-! ### Values -/

/-- The seconds a session has before its idle end (R460). -/
def Lane.idleRem (L : Lane) (now : Nat) (n : Fin 2) : Nat :=
  if L.sst n = ssIdle then 0 else L.f F_SYS_SVCCFG_IDLE - (now - L.sess[n].idleAt) / 1000000

/-- SYS_SVCSTAT with the failures of the last 10 minutes (R458). -/
def Lane.svcStat (L : Lane) (now : Nat) (w : Word) : Word :=
  let n := fun r : Fin 3 => min 255 (L.failTimes now r).length
  setBits (setBits (setBits w 7 0 (n 0)) 15 8 (n 1)) 23 16 (n 2)

/-- A register of the field die, from its registers and a lane's copies of those it keeps per lane (R349, R509). -/
def fioWordOf (regs copy : RegFile) (a : Nat) : Word :=
  let own := rget copy a
  if (A_FIO_INCFG 0 ≤ a ∧ a < A_FIO_INCFG 24) ∨ (A_FIO_EDGESTAT ≤ a ∧ a ≤ A_FIO_EDGEHEAD1) then own
  else if a = A_FIO_STAT then rget regs a ||| own
  else rget regs a

/-- A register of the field die as a lane reads it. -/
def World.fioWord (l : LaneId) (a : Nat) (w : World) : Word := fioWordOf w.fd.regs (w.fd.copy l) a

/-- A word of MEA: the certificate is fixed at manufacture (R481). -/
def meaWord (l : LaneId) (a : Nat) (v : Word) : Word :=
  if a = A_MEA_CERTLEN then BitVec.ofNat 32 (Config.certLen l.num)
  else if A_MEA_CERT 0 ≤ a ∧ a < A_MEA_CERT 256 then Config.cert l.num ((a - A_MEA_CERT 0) / 4)
  else v

/-- A register of SYS: the supervisor holds the Power-on bits of SYS_RSTCAUSE; ESC counts the last second (R24, R503); SYS_CHCFG of ch63 shows its
binding to the engine timer while it is enabled (R105; DESIGN CHOICE, log 159). -/
def World.sysWord (l : LaneId) (a : Nat) (w : World) : Word :=
  let L := w.lane l
  let v := rget L.regs a
  if a = A_SYS_RSTCAUSE then v ||| w.sup.rstCause[laneIx l]
  else if a = (F_SYS_SESSSTAT_STATE 0).addr then setBits v 15 0 (L.idleRem w.time 0)
  else if a = (F_SYS_SESSSTAT_STATE 1).addr then setBits v 15 0 (L.idleRem w.time 1)
  else if a = A_SYS_SVCSTAT then L.svcStat w.time v
  else if A_SYS_BLKSTAT 0 ≤ a ∧ a < A_SYS_BLKSTAT 30 then
    setBits v 19 18 (min 3 (recent w.time 1000000 L.blkHist[fin 30 (by decide) ((a - A_SYS_BLKSTAT 0) / 4)]).length)
  else if A_SYS_CHCFG 0 0 ≤ a ∧ a < A_SYS_CHCFG 8 0 ∧ (a - A_SYS_CHCFG 0 0) % 0x100 / 4 = 63 then
    if L.chEn (fin 12 (by decide) ((a - A_SYS_CHCFG 0 0) / 0x100)) 63 then 0xC0080000#32 else v
  else v

/-- A register of PWR: the supervisor holds all but STATE and the command. -/
def World.pwrWord (l : LaneId) (a : Nat) (w : World) : Word :=
  if a = A_PWR_STAT then rget (w.lane l).regs a ||| rget w.sup.regs a
  else if a = A_PWR_CTRL then 0
  else rget w.sup.regs a

/-- The event-log words an engine has staged (R504). -/
def Lane.qWord (L : Lane) (e : Option Eng) (a : Nat) : Word :=
  match e with
  | some e => L.eng[e].qdata[(⟨(a - A_WER_QDATA 0) / 4 % 8, Nat.mod_lt _ (by decide)⟩ : Fin 8)]
  | none => 0

/-- A register of a door: position and velocity at the present clock (R236). -/
def Lane.dorWord (L : Lane) (a : Nat) (v : Word) : Word :=
  let d : Door := fin 2 (by decide) ((a - 0x40070000) / 0x200)
  if a = A_DOR_POS d.val then wOf (L.dorX d) else if a = A_DOR_VEL d.val then wOf (L.dorV d) else v

/-- What a read of a register returns, for an engine or the debug port. -/
def World.regWord (l : LaneId) (e : Option Eng) (a : Nat) (w : World) : Word :=
  let L := w.lane l
  let v := rget L.regs a
  match a / 0x10000 with
  | 0x4000 => w.sysWord l a
  | 0x4007 => L.dorWord a v
  | 0x400B => w.fioWord l a
  | 0x400D => canView (fin 4 (by decide) ((a - 0x400D0000) / 0x4000)) (a % 0x4000) v L
  | 0x400E => if a = A_PIC_UID 0 then Config.partUid 0 else if a = A_PIC_UID 1 then Config.partUid 1 else v
  | 0x4011 => if A_WER_QDATA 0 ≤ a ∧ a < A_WER_QDATA 8 then L.qWord e a else v
  | 0x4013 => meaWord l a v
  | 0x4014 => w.pwrWord l a
  | _ => v

/-- What a read does beside returning the value: a read of BOB_POS brings the rest of its publication (R163). -/
def World.regReadEffect (l : LaneId) (a : Nat) (w : World) : World :=
  if a = A_BOB_POS then w.updLane l bobPosRead else w

/-! ### Gates and crossings -/

/-- The domain gate of a register (Tables 1.7, 18.1, 18.7): the keep-alive is carried past G6 (R34). -/
def regGateNo (a : Nat) : Nat :=
  let b := a / 0x10000
  if 0x4003 ≤ b ∧ b ≤ 0x4007 then 0
  else if b = 0x4008 ∨ b = 0x4009 ∨ b = 0x400E then 1
  else if b = 0x400D ∨ b = 0x400F then 2
  else if 0x4010 ≤ b ∧ b ≤ 0x4013 then 3
  else if a = A_FIO_KEEPALIVE then 4
  else if b = 0x400B ∨ a = A_LNK_HOOP ∨ a = A_SYS_RSTCAUSE ∨ (b = 0x4014 ∧ a ≠ A_PWR_CTRL) then 6
  else 4

/-- The transfer crossing a register lies behind (Table 2.10), and the quarter of its block. -/
def regXing (a : Nat) : Option (Nat × Quarter) :=
  match a / 0x10000 with
  | 0x400D => some (26 + (a - 0x400D0000) / 0x4000, .port)
  | 0x400E => some (34, .group)
  | 0x400F => some (if a < 0x400F8000 then 36 else 25, .port)
  | _ => none

/-- The register lies in a block retained in Doze: TAT or DOR (R35, R491). -/
def regRetained (a : Nat) : Bool := a / 0x10000 == 0x4003 || a / 0x10000 == 0x4007

/-- The answer of the gates to an access (R27, R32, R35), if they refuse it: the status, and the counters that count it. A crossing that is closed
completes it with PEER_RESET, which the gate in front of it consumes and answers with ABORT_RESET (R32, Table 2.11 step 3). -/
def Lane.regGate (L : Lane) (e : Option Eng) (a : Nat) : Option (Nat × List Field) :=
  if L.gateState (regGateNo a) ≠ gOpen ∨ (L.dozing ∧ regRetained a) then some (stAbortReset, [F_SYS_DGCNT_ABORTS])
  else match regXing a with
    | none => none
    | some (n, q) =>
      if L.xOpen n then none
      else if (e.map engQuarter) = some q then some (stPeerReset, [F_XCR_CNT_PEER])
      else some (stAbortReset, [F_XCR_CNT_PEER, F_SYS_DGCNT_ABORTS])

/-! ### Rights -/

/-- A register of SYS_CREDDATA. -/
def isCredData (a : Nat) : Bool :=
  (decide (A_SYS_CREDDATA 0 0 ≤ a) && decide (a < A_SYS_CREDDATA 0 8)) || (decide (A_SYS_CREDDATA 1 0 ≤ a) && decide (a < A_SYS_CREDDATA 1 8))

/-- A register of SYS_CHCFG. -/
def isChcfg (a : Nat) : Bool := decide (A_SYS_CHCFG 0 0 ≤ a) && decide (a < A_SYS_CHCFG 0 0 + 0x800)

/-- The fields a write would change; of a register that holds a secret and reads 0, all of them. -/
def World.regChanged (l : LaneId) (wr : Writer) (a : Nat) (v : Word) (w : World) : List FieldRow :=
  if a = A_SEB_PWNEW ∨ isCredData a then fieldsOf a else changed a (w.regWord l ((w.lane l).writerEng wr) a) v

/-- The writer may change an SEBW field: an open session, its own engine, INS or above (R340). -/
def Lane.sebwRight (L : Lane) (wr : Writer) : Bool :=
  L.f F_SEB_SESS_STATE == 1 && (match L.writerEng wr with
    | some e => L.f F_SEB_SESS_ENGINE == e.val
    | none => false) && decide (2 ≤ (L.writerRole wr).num)

/-- The writer has the right a field needs. -/
def Lane.fieldRight (L : Lane) (wr : Writer) (a : Nat) (f : FieldRow) : Bool :=
  let r := (L.writerRole wr).num
  match f.acc with
  | .rwl => decide (2 ≤ r)
  | .mkr => decide (r = 3)
  | .sebw => L.sebwRight wr
  | _ => if isCredData a ∨ a = A_SYS_CREDCTL then decide (r = 3) || L.noMkrKey else true

/-- A write is recorded: it changes a field of a role lock (R88), or a credential word (R459). -/
def fieldLogged (a : Nat) (f : FieldRow) : Bool := f.acc == .rwl || f.acc == .mkr || f.acc == .sebw || isCredData a

/-- The registers only the holder may write (R20, R351, R490, FIO_CMD, LNK_UPD). -/
def holderOnly (a : Nat) : Bool :=
  [A_FIO_OUT, A_FIO_CMD, A_FIO_WDCFG, A_FIO_OUTCFG, A_FIO_TPCFG0, A_FIO_TPCFG1, A_LNK_UPD, A_PWR_CTRL].contains a

/-- The refusals of R110 that are judged ahead of every check on values: gate, writer, role. -/
def World.regRights (l : LaneId) (wr : Writer) (a : Nat) (v : Word) (w : World) : Option Nat :=
  let L := w.lane l
  if (a = A_SYS_ENGCTL ∨ isChcfg a) ∧ L.writerEng wr ≠ some 0 then some stRoleDenied
  else if (w.regChanged l wr a v).any fun f => !L.fieldRight wr a f then some stRoleDenied
  else none

end Sys2Proof.Machine
end

