-- ==== Sys2Proof/Machine/SpgCmd.lean ====
section
/-!
DEFINITION. What writes to the registers of SPG do: its commands, the push into the stream, its enable and the limits (spec 07, R177, R183, R185, R194, R197).
-/
namespace Sys2Proof.Machine

/-- Veff, Aeff and Jeff (R182). -/
def spgLimits (L : Lane) : Nat × Nat × Nat :=
  (min (L.f F_SPG_ILIMV_V) (L.f F_SPG_MLIMV_V), min (L.f F_SPG_ILIMA_V) (L.f F_SPG_MLIMA_V), min (L.f F_SPG_ILIMJ_V) (L.f F_SPG_MLIMJ_V))

/-- START and RELEVEL (R197, Table 7.5, steps 1 and 2). -/
def spgStart (relevel src : Bool) (L : Lane) : Lane × Nat :=
  let p := L.bob.pub.pos
  if L.spgSt ≠ spgIdle then (L, spgNotIdle)
  else if L.slotState 0 ≠ slRun then (L, spgNotRun)
  else if !L.b F_DRV_STAT_LINK || !L.b F_DRV_STAT_READY || L.b F_DRV_STAT_FAULT then (L, spgDrvDown)
  else if absI (selClamp L (L.i F_SPG_TGT_TGT) - p) ≤ (L.f F_SPG_STOP_STOPTOL : Int) then (L, stNoop)
  else
    let L := spgTakeTarget (L.s F_SEL_STAT_CLIP 0)
    let L := L.reqChange fun L => L.updSpg fun g => { g with
      lims := spgLimits L, mlims := (L.f F_SPG_MLIMA_V, L.f F_SPG_MLIMJ_V), hold := p, relevel := relevel, src := src, tripCount := true, so0 := true, so1 := false, passed := false }
    let L := if relevel then L else notchC 65536 L
    (spgStep 2 (L.spgGo spgStarting), stOk)

/-- PROFILE: accepted in STREAM and PROFILE, at min(Veff, VCAP) (R188). -/
def spgProfileCmd (L : Lane) : Lane × Nat :=
  if L.spgSt ≠ spgStream ∧ L.spgSt ≠ spgProfile then (L, spgNotStream)
  else
    let L := spgTakeTarget L
    (spgEnterProfile goalTarget scCommand (L.i F_SPG_TGT_TGT) (min L.spg.lims.1 (L.f F_SPG_VCAP_VCAP)) L, stOk)

/-- STREAM (R185): through the capture ramp. -/
def spgStreamCmd (L : Lane) : Lane × Nat :=
  if L.spgSt = spgStream then (L, stNoop)
  else if L.spgSt ≠ spgProfile ∨ L.slotState 0 ≠ slRun then (L, spgNotRun)
  else (((L.updSpg fun g => { g with capReq := true, fresh := true }).s F_SPG_STAT_GOAL 0).spgGo spgStream, stOk)

/-- HALT (after Table 7.10). -/
def spgHaltCmd (L : Lane) : Lane × Nat :=
  if L.spgSt ≠ spgStream ∧ L.spgSt ≠ spgProfile then (L, stNoop) else (spgToHalt scCommand L, stOk)

/-- MODE (R194). -/
def spgModeCmd (mode : Nat) (keep : Bool) (L : Lane) : Lane × Nat :=
  if L.spg.ho.phase ≠ 0 then (L, spgHoBusy)
  else if L.slotState 0 ≠ slRun then (L, spgNotRun)
  else if mode = L.f F_SPG_STAT_MODE ∨ L.spgSt = spgOff then (L, stNoop)
  else (spgHandover mode keep L, stOk)

/-- SPG_CMD. -/
def spgCmd (v : Word) (L : Lane) : Lane × Nat :=
  match bits v 31 28 with
  | 0 => (L, stOk)
  | 1 => spgStart false (v.getLsbD 2) L
  | 2 => spgStart true false L
  | 3 => spgProfileCmd L
  | 4 => spgStreamCmd L
  | 5 => spgHaltCmd L
  | 6 => spgModeCmd (bits v 6 4) (v.getLsbD 3) L
  | _ => (L, stBadValue)

/-- SPG_PUSHC (R177). -/
def spgPush (last : Bool) (L : Lane) : Lane × Nat :=
  if L.spgSt ≠ spgStarting ∧ L.spgSt ≠ spgStream then (L, spgNotStream)
  else if 64 ≤ L.spg.fifo.length then (L, stQfull)
  else
    let e : SpgEntry := ⟨L.i F_SPG_PUSHP_D, L.i F_SPG_PUSHV_D, L.i F_SPG_PUSHA_D, last⟩
    (spgShow (L.updSpg fun g => { g with fifo := g.fifo ++ [e] }), stOk)

/-- SPG_CTRL (Table 7.2): OFF withdraws every request; EN := 1 leads to IDLE, with the mode OFF. The requests may then come from SEB_REQ (R327). -/
def spgCtrl (v : Word) (L : Lane) : Lane × Nat :=
  let was := L.b F_SPG_CTRL_EN
  let L := L.reqChange fun L =>
    let L := L.store A_SPG_CTRL v
    if was && !v.getLsbD 31 then L.updSpg fun g => { g with step := 0, so0 := false, so1 := false, capReq := false, capN := 0 } else L
  if was = v.getLsbD 31 then (L, stOk)
  else if was then
    let L := (if L.spg.ho.phase ≠ 0 then spgHoEnd hrAbandoned L else L).updDrvReq false
    ((((((L.s F_SPG_STAT_GOAL 0).s F_SPG_STAT_MODE cmOff).s F_SPG_STAT_CAPT 0).s F_SPG_STAT_MLIM 0).s F_SPG_STAT_GLIM 0).spgGo spgOff, stOk)
  else ((L.spgMode cmOff false false).spgGo spgIdle, stOk)

/-- An installer limit (R183). -/
def spgIlim (a : Nat) (maker : Field) (v : Word) (L : Lane) : Lane × Nat :=
  if v.toNat = 0 ∨ L.f maker < v.toNat then (L, stBadValue) else (L.store a v, stOk)

/-- SPG_NCFG: enabling the notch starts the tracker at 1 (R192). -/
def spgNcfg (v : Word) (L : Lane) : Lane × Nat :=
  let was := L.b F_SPG_NCFG_EN
  let L := L.store A_SPG_NCFG v
  (if v.getLsbD 31 && !was then notchC 65536 L else L, stOk)

/-- A write to a register of SPG, accepted by the generic checks. -/
def spgWrite (a : Nat) (v : Word) (L : Lane) : Lane × Nat :=
  if a = A_SPG_CTRL then spgCtrl v L
  else if a = A_SPG_CMD then spgCmd v L
  else if a = A_SPG_PUSHC then spgPush (v.getLsbD 0) L
  else if a = A_SPG_ILIMV then spgIlim a F_SPG_MLIMV_V v L
  else if a = A_SPG_ILIMA then spgIlim a F_SPG_MLIMA_V v L
  else if a = A_SPG_ILIMJ then spgIlim a F_SPG_MLIMJ_V v L
  else if a = A_SPG_NCFG then spgNcfg v L
  else (L.store a v, stOk)

end Sys2Proof.Machine
end

