-- ==== Sys2Proof/Machine/StoreBuf.lean ====
section
/-!
DEFINITION. The shared table SRAM as an engine's stores reach it: the words it may not write (R65, R66), what a store does at the macro (R71, R391,
R395), and the two-word store buffer (R99).
-/
namespace Sys2Proof.Machine

/-- A reserved word of the table SRAM (Table 3.4), by offset; the wear counters have twelve words (R84), a car view a header and 64 records (Table 10.2). -/
def tsReserved (o : Nat) : Bool :=
  (decide (0x2B030 ≤ o) && decide (o < 0x2C000)) || (decide (0x2D000 ≤ o) && decide (o < 0x30000)) ||
  (decide (0x3C000 ≤ o) && decide (o < 0x40000) && decide (0x140 ≤ o % 0x200))

/-- A buffer that its block is using (R66), by offset. A block switches at a sample instant (R67), so what it uses is what it latched there: the
landing table's buffer, beside the one LTSEL names, the gain tables' of a slot with EN at 1, a door's friction table. -/
def Lane.tsLive (L : Lane) (o : Nat) : Bool :=
  let sel := fun (b : Bool) (base size : Nat) => decide (base + (if b then size else 0) ≤ o) && decide (o < base + (if b then size else 0) + size)
  let door := fun d : Door => dorUses L d && sel L.door[d].fsel 0x27000 0x2000 && (o - 0x27000) % 0x2000 / 0x1000 == d.val
  let lt := fun b : Bool => L.b (F_BUFOK b) && sel b 0x21000 0x2000
  lt (L.b F_BOB_LTCTL_LTSEL) || lt L.bob.ltAct ||
  (List.finRange 8).any (fun n => L.b (F_TAT_SLOTCFG_EN n.val) && sel L.tat.slots[n].gsel 0x25000 0x1000) || door 0 || door 1
where
  /-- A door is in a state other than OFF and UNREF. -/
  dorUses (L : Lane) (d : Door) : Bool := let st := L.f (F_DOR_STAT_STATE d.val); st != 0 && st != 1

/-- A word its block alone may write while it runs: the trace buffer while TRC records (R144), the call table while PRK is enabled (R275), word 3 of a
node directory entry whose port looks up (R425); by offset. -/
def Lane.tsOwned (L : Lane) (o : Nat) : Bool :=
  (decide (0x40000 ≤ o) && decide (o < 0x80000) && trcBusy L) || (decide (o < 0x20000) && L.b F_PRK_CTRL_EN) ||
  (decide (0x30000 ≤ o) && decide (o < 0x38000) && decide (12 ≤ o % 16) && L.b (F_CAN_DIRCTL_EN (bits (L.ts (o - o % 16 + 4)) 5 4)))
where
  /-- TRC is ARMED, TRIGGERED or FILLING. -/
  trcBusy (L : Lane) : Bool := let st := L.f F_TRC_STAT_STATE; st == 1 || st == 2 || st == 3

/-- A word stored at the macro: not behind a closed gate of the spine (R28), nor in a replicated region of the lane without the Hoop (R395); the word
then has valid check bits (R71), its line is due to the other lane (R391), an entry of the call table to the next mirror set (R287), and a landing table
buffer must be validated anew (R175). -/
def tsStore (a : Nat) (v : Word) (L : Lane) : Lane :=
  if L.gateState 4 ≠ gOpen then L.inc F_SYS_DGCNT_ABORTS
  else if L.replicated a && !L.holder then L.inc F_LNK_CNT_SUPPRESS
  else
    let L := { L with tsram := writeWord L.tsram (a - tsBase) v, ue := L.ue.filter (· != a) }
    let L := if L.replicated a then L.dirty a else L
    let o := a - tsBase
    let L := L.ifDo (decide (o < 0x20000)) fun L => L.updPrk fun p => { p with changed := sput false p.changed (o / 32) true }
    if 0x30021000 ≤ a ∧ a < 0x30023000 then ltTouched false L
    else if 0x30023000 ≤ a ∧ a < 0x30025000 then ltTouched true L
    else L

/-- The oldest word of an engine's store buffer reaches the macro. -/
def sbStep (e : Eng) (L : Lane) : Lane :=
  match L.eng[e].sbuf with
  | [] => L
  | (a, v) :: r => tsStore a v (L.updEng e fun g => { g with sbuf := r })

/-- The store buffer is emptied (R99). -/
def sbDrain (e : Eng) (L : Lane) : Lane := sbStep e (sbStep e L)

/-- A word into the store buffer of two words. -/
def sbPush (e : Eng) (a : Nat) (v : Word) (L : Lane) : Lane :=
  let L := if 2 ≤ L.eng[e].sbuf.length then sbStep e L else L
  L.updEng e fun g => { g with sbuf := g.sbuf ++ [(a, v)] }

/-- A word of the table SRAM as its engine sees it: the newest one in its buffer, else the macro's. -/
def Lane.sbGet (L : Lane) (e : Eng) (a : Nat) : Option Word := (L.eng[e].sbuf.reverse.find? fun c => c.1 == a).map (·.2)

end Sys2Proof.Machine
end

