-- ==== Sys2Proof/Machine/RegWrite.lean ====
section
/-!
DEFINITION. The register write (spec 04, R110): its checks in their order, its change-log entry (R88, R464), and what each block does with a value it
accepts.
-/
namespace Sys2Proof.Machine

/-! ### What each block does -/

/-- A store that must leave the register as a test wants it. -/
def storeIf (ok : Bool) (a : Nat) (v : Word) (L : Lane) : Lane × Nat := if ok then (L.store a v, stOk) else (L, stBadValue)

/-- Input selector codes that name a source (Table 5.4). -/
def inCode (c : Nat) : Bool :=
  decide (c ≤ 9) || (decide (0x10 ≤ c) && decide (c ≤ 0x1F) && decide (c % 8 ≤ 4)) || (decide (0x40 ≤ c) && decide (c ≤ 0x77))

/-- A firmware input word that SPG or DOR writes (R193, R237). -/
def fwinOwned (i : Nat) (L : Lane) : Bool :=
  (decide (i = 15) && L.b F_SPG_CTRL_EN) || (decide (9 ≤ i ∧ i ≤ 11) && L.b (F_DOR_CTRL_EN 0)) || (decide (12 ≤ i ∧ i ≤ 14) && L.b (F_DOR_CTRL_EN 1))

/-- A write to a slot's registers, `r` bytes from their base. -/
def tatSlotWrite (n : Slot) (r a : Nat) (v : Word) (L : Lane) : Lane × Nat :=
  let en := L.b (F_TAT_SLOTCFG_EN n.val)
  match r with
  | 0x00 => if en && bits v 15 0 != L.f (F_TAT_SLOTCFG_PERIOD n.val) then (L, stBadValue) else tatSlotCfg n v L
  | 0x04 => storeIf (!en && decide (bits v 15 0 < L.f (F_TAT_SLOTCFG_PERIOD n.val))) a v L
  | 0x08 => match bits v 3 0 with
    | 1 => tatCheck n (v.getLsbD 4) (bits v 25 16) L
    | 2 => tatResume n L
    | 3 => tatForce n L
    | _ => (L, stOk)
  | 0x20 => if (outDsts v).any fun d => decide (5 < d) then (L, stBadValue) else tatOutDst n v L
  | _ =>
    if 0x10 ≤ r ∧ r < 0x20 then storeIf ((wordBytes v).all fun b => inCode b.toNat) a v L
    else (L.store a v, stOk)

/-- A write to TAT, `o` bytes from its base. -/
def tatWrite (o a : Nat) (v : Word) (L : Lane) : Lane × Nat :=
  if o = 0x08 then tatBqCommit v L
  else if 0x40 ≤ o ∧ o < 0x80 then if fwinOwned ((o - 0x40) / 4) L then (L, tatHwOwned) else (L.store a v, stOk)
  else if 0x100 ≤ o ∧ o < 0x300 then tatSlotWrite (fin 8 (by decide) ((o - 0x100) / 0x40)) (o % 0x40) a v L
  else if 0x400 ≤ o ∧ o < 0x500 then if limOwned ((o - 0x400) / 0x20) (o % 0x20 / 8) L then (L, tatHwOwned) else (L.store a v, stOk)
  else if 0x800 ≤ o ∧ o < 0x880 then
    if L.b F_SPG_NCFG_EN && L.f F_SPG_NCFG_SEC == (o - 0x800) / 0x20 then (L, tatHwOwned) else (L.store a v, stOk)
  else if 0x8000 ≤ o then tatBankWrite (fin 8 (by decide) ((o - 0x8000) / 0x1000)) (o % 0x1000 / 4) v L
  else if 0x4000 ≤ o then ((L.store a v).healed a 4, stOk)
  else (L.store a v, stOk)

/-- A write to TRC: TRC_CTRL's fields and command together (R15). -/
def trcWrite (a : Nat) (v : Word) (L : Lane) : Lane × Nat :=
  if a = A_TRC_CTRL then
    let r := match bits v 31 28 with
      | 1 => trcArm (L.store a v)
      | 2 => trcStop (L.store a v)
      | 3 => trcForce (L.store a v)
      | _ => (L.store a v, stOk)
    if r.2 = stOk then r else (L, r.2)
  else if A_TRC_CHSEL 0 ≤ a then storeIf (bits v 30 28 != 0 || inCode (bits v 7 0)) a v L
  else (L.store a v, stOk)

/-- BOB_SSICFG's limits between fields. -/
def ssiCfgOk (v : Word) : Bool :=
  let len := bits v 25 20
  let posl := bits v 13 8
  decide (len = 0) || (decide (8 ≤ posl) && decide (posl ≤ 32) &&
    decide (bits v 19 14 + posl + (if bits v 28 27 = 0 then 0 else 1) ≤ len) && decide (bits v 5 0 < len))

/-- A write to BOB. -/
def bobWrite (a : Nat) (v : Word) (L : Lane) : Lane × Nat :=
  if a = A_BOB_CTRL then bobCtrl v L
  else if a = A_BOB_LTCTL then
    let r := bobLtCtl v L
    (sebShowId r.1, r.2)
  else if a = A_BOB_SSICFG then storeIf (ssiCfgOk v) a v L
  else if a = A_BOB_ACCCFG then
    storeIf (decide (bits v 11 8 = 0) || decide (bits v 13 12 + (if v.getLsbD 14 then 3 else 2) ≤ bits v 11 8)) a v L
  else if a = A_BOB_RELEV1 then storeIf (decide (bits v 15 0 < bits v 31 16)) a v L
  else if a = A_BOB_CAPPOP then if v.getLsbD 0 then capPop L else (L, stOk)
  else (sebShowId (L.store a v), stOk)

/-- A write to SEL (R217, R227, Table 8.3). -/
def selWrite (a : Nat) (v : Word) (L : Lane) : Lane × Nat :=
  let margins := fun L : Lane => decide (L.f F_SEL_MARGIN1_MS < L.f F_SEL_MARGIN1_M3) && decide (L.f F_SEL_MARGIN1_M3 < L.f F_SEL_MARGIN0_M2) &&
    decide (L.f F_SEL_MARGIN0_M2 < L.f F_SEL_MARGIN0_M1)
  let L' := L.store a v
  if a = A_SEL_CLAIM then selClaimWrite v L
  else if a = A_SEL_CFG then
    if (v.getLsbD 29 && bits v 1 0 == 0) || (v.getLsbD 30 && bits v 1 0 == 3) then (L, stBadValue) else (sebShowId (selSync L'), stOk)
  else if a = A_SEL_MARGIN0 ∨ a = A_SEL_MARGIN1 then if margins L' then (sebShowId L', stOk) else (L, stBadValue)
  else (sebShowId L', stOk)

/-- DOR_HALLMAP names each sector once. -/
def hallMapOk (v : Word) : Bool :=
  let m := (List.range 6).map fun c => bits v (3 * c + 5) (3 * c + 3)
  m.all (fun s => decide (s ≤ 5)) && decide m.Nodup

/-- A write to a door's registers, `r` bytes from their base. -/
def dorWrite (d : Door) (r a : Nat) (v : Word) (L : Lane) : Lane × Nat :=
  let imax := L.f (F_DOR_ILIM_IMAX d.val)
  match r with
  | 0x00 => dorCtrl d (v.getLsbD 31) (v.getLsbD 30) L
  | 0x04 => if bits v 31 28 = 0 then (L, stOk) else dorCommand d (bits v 31 28) L
  | 0x0C => dorCfg d v L
  | 0x10 => storeIf (hallMapOk v) a v L
  | 0x1C => storeIf (decide (v.toNat ≤ 1024 * L.f (F_DOR_BINW_BINW d.val))) a v L
  | 0x2C | 0x30 | 0x34 => dorCaps d a v L
  | 0x64 => if bits v 31 16 ≤ imax ∧ bits v 15 0 ≤ imax then (dorGates d (L.store a v), stOk) else (L, stBadValue)
  | 0x68 => storeIf (decide (bits v 15 0 < bits v 31 16)) a v L
  | 0x6C => storeIf (decide (bits v 15 0 ≤ imax)) a v L
  | _ => (L.store a v, stOk)

/-- A write to PRK. -/
def prkWrite (a : Nat) (v : Word) (L : Lane) : Lane × Nat :=
  if a = A_PRK_SUBPUSH then if v.getLsbD 0 then prkPush L else (L, stOk)
  else if a = A_PRK_ANSPOP then if v.getLsbD 0 then prkPop L else (L, stOk)
  else if a = A_PRK_MODE then prkMode v L
  else if a = A_PRK_SLPUB then slPublish (bits v 7 0) L
  else if 0x40094000 ≤ a then ((L.store a v).healed a 4, stOk)
  else (L.store a v, stOk)

/-- A write to PIC. -/
def picWrite (a : Nat) (v : Word) (L : Lane) : Lane × Nat :=
  if a = A_PIC_CTRL then picCtrl v L
  else if a = A_PIC_TXPUSH then picTxPush v L
  else if a = A_PIC_RXPOP then picRxPop v L
  else if a = A_PIC_EQCFG then picEqcfg v L
  else (L.store a v, stOk)

/-- A write to a CAN port, `o` bytes from its base. -/
def canWrite (n : Port) (o a : Nat) (wr : Writer) (won busy : Bool) (v : Word) (L : Lane) : Lane × Nat :=
  if 0x1000 ≤ o then canObjWrite n (fin 32 (by decide) ((o - 0x1000) / 0x80)) (o % 0x80 / 4) won wr v L
  else match o with
    | 0x00 => canCtrl n busy v L
    | 0x08 => canCmd n busy v L
    | 0x10 => canBt n false v L
    | 0x14 => canBt n true v L
    | 0x18 => canSpcfg n v L
    | 0x28 => canRxcfg n v L
    | 0x5C => canTelband n v L
    | 0x70 => canDirctl n v L
    | 0x88 => canTxPush n v L
    | 0x180 => canRxPop n 0 v L
    | 0x184 => canRxPop n 1 v L
    | _ => (L.store a v, stOk)

/-- A write to USB or SPI. -/
def usbWrite (a : Nat) (v : Word) (L : Lane) : Lane × Nat :=
  if a = A_USB_CTRL then (usbCtrl v L, stOk)
  else if a = A_USB_RXPOP then usbPop v L
  else if a = A_USB_TXPUSH then usbPush v L
  else if a = A_SPI_CTRL then spiStart v L
  else (L.store a v, stOk)

/-- A write to a flash region's command set, `o` bytes from the base of NVM. -/
def nvmWrite (o a : Nat) (wr : Writer) (v : Word) (L : Lane) : Lane × Nat :=
  if o % 0x20 = 0 then nvmCmd (o / 0x20) wr v L
  else if o % 0x20 ≤ 0x14 then nvmStore (o / 0x20) a v L
  else (L.store a v, stOk)

/-- A write to SCR, CAL, WER or TEL: the debug port has no staged event-log entry of its own. -/
def keepWrite (a : Nat) (e : Option Eng) (v : Word) (L : Lane) : Lane × Nat :=
  if a = A_WER_QPUSH then match e with
    | some e => evPush e v L
    | none => (L, stNoop)
  else if A_WER_QDATA 0 ≤ a ∧ a < A_WER_QDATA 8 then match e with
    | some e => (L.updEng e fun g => { g with qdata := g.qdata.set! ((a - A_WER_QDATA 0) / 4) v }, stOk)
    | none => (L, stOk)
  else (L.store a v, stOk)

/-- A write to SEB_CMD (R336, R339 to R341); the change log's room is judged in `pre`, before the write's own entry. -/
def World.sebCmd (l : LaneId) (wr : Writer) (v : Word) (w pre : World) : World × Nat :=
  let L := w.lane l
  let e := match L.writerEng wr with
    | some e => e.val
    | none => 15
  let P := pre.lane l
  let put := fun (r : Lane × Nat) => (w.setLane l r.1, r.2)
  match bits v 3 0 with
  | 1 => put (sebOpen e (L.writerRole wr) w.time (decide (2 ≤ P.safeLeft)) (decide (P.log.clN + 2 ≤ 32)) L)
  | 2 =>
    let r := sebCommit e L
    if r.2 = stOk then
      ((w.setLane l r.1).clPut l (L.writerRole wr).num 9 ckCommit 0 0 (BitVec.ofNat 32 (L.f F_SEB_SESS_SEQ + 1)) true true, stOk)
    else put r
  | 3 => if (sebAbort e L).2 = stOk then (w.sebRevert l, stOk) else (w, (sebAbort e L).2)
  | 4 => (World.onSeb .b (sebReset false) (World.onSeb .a (sebReset false) w), stOk)
  | _ => (w, stOk)

/-- A write to SEB_REQ: without effect in the lane without the Hoop (R327). -/
def sebReqWrite (v : Word) (L : Lane) : Lane :=
  if !L.holder then L
  else
    L.reqChange fun L => L.store A_SEB_REQ v

/-- A write to SEB: an SEBW field changes SEB_CFGID (R344). -/
def World.sebWrite (l : LaneId) (wr : Writer) (a : Nat) (v : Word) (w pre : World) : World × Nat :=
  if a = A_SEB_CMD then w.sebCmd l wr v pre
  else if a = A_SEB_PWD then (w.updLane l fun L => L.updSeb fun b => { b with pwd := v }, stOk)
  else if a = A_SEB_PWNEW then (w.updLane l fun L => L.updSeb fun b => { b with pwdNew := some v }, stOk)
  else if a = A_SEB_REQ then (w.updLane l (sebReqWrite v), stOk)
  else (w.updLane l fun L => sebShowId (L.store a v), stOk)

/-- A write to FIO_INCFGn of a lane: its SEBW field, and the field die's copy (R349, R350). -/
def World.incfgWrite (l : LaneId) (a : Nat) (v : Word) (w : World) : World :=
  let x := mergeWord a (rget (w.fd.copy l) a) v
  let w := w.updLane l fun L => sebShowId (L.updSeb fun b => { b with fioCfg := b.fioCfg.set ((a - A_FIO_INCFG 0) / 4) x })
  fioApply (w.updFd fun d => d.setCopy l (rput (d.copy l) a x))

/-- A write to FIO. -/
def World.fioWrite (l : LaneId) (a : Nat) (v : Word) (w : World) : World × Nat :=
  if a = A_FIO_STAT then
    (w.updFd fun d => { d with regs := rstore d.regs a v }.setCopy l (rstore (d.copy l) a v), stOk)
  else if a = A_FIO_CMD then fioCommand l v w
  else if a = A_FIO_ACK then if v.getLsbD 0 then fioAck w else (w, stOk)
  else if a = A_FIO_KEEPALIVE then fioKeepalive l (bits v 7 0) w
  else if a = A_FIO_OUT then fioOutWrite l v w
  else if a = A_FIO_EDGEPOP then
    if v.getLsbD 0 then
      let r := fioEdgePop l w.fd
      (w.updFd fun _ => r.1, r.2)
    else (w, stOk)
  else if A_FIO_INCFG 0 ≤ a ∧ a < A_FIO_INCFG 24 then (w.incfgWrite l a v, stOk)
  else (w.fioOut fun d => { d with regs := rstore d.regs a v }, stOk)

/-- A write to PWR: any write to PWR_WAKESTAT clears it. -/
def World.pwrWrite (l : LaneId) (a : Nat) (v : Word) (w : World) : World × Nat :=
  if a = A_PWR_CTRL then w.pwrCtrl l v
  else if a = A_PWR_WAKESTAT then (w.updSup fun r => rput r a 0, stOk)
  else (w.updSup fun r => rstore r a v, stOk)

/-- A write to SYS_SESSCTLn: a writer that no session can bind is refused as one bound elsewhere. -/
def World.sessWrite (l : LaneId) (n : Fin 2) (wr : Writer) (v : Word) (w : World) : World × Nat :=
  if bits v 31 28 = 0 then (w, stOk)
  else match (w.lane l).writerEng wr with
    | some e => w.sessCtl l n e v
    | none => (w, sysSessBusy)

/-- A write to SYS. -/
def World.sysWrite (l : LaneId) (wr : Writer) (a : Nat) (v : Word) (w : World) : World × Nat :=
  let put := fun (r : Lane × Nat) => (w.setLane l r.1, r.2)
  let L := w.lane l
  if a = A_SYS_RSTCAUSE then
    let i := laneIx l
    ({ w with sup := { w.sup with rstCause := w.sup.rstCause.set i (mergeWord a w.sup.rstCause[i] v) } }, stOk)
  else if a = A_SYS_RSTREQ then w.rstReq l v
  else if a = A_SYS_ENGCTL then (w.engCtl l v, stOk)
  else if isChcfg a then
    put (chCfg (fin 8 (by decide) ((a - A_SYS_CHCFG 0 0) / 0x100)) (fin 64 (by decide) ((a - A_SYS_CHCFG 0 0) % 0x100 / 4)) v L)
  else if a = A_SYS_SESSCTL 0 then w.sessWrite l 0 wr v
  else if a = A_SYS_SESSCTL 1 then w.sessWrite l 1 wr v
  else if A_SYS_RESP 0 0 ≤ a ∧ a < A_SYS_RESP 0 16 then
    (w.updLane l fun L => L.updSess 0 fun s => { s with resp := s.resp.set! ((a - A_SYS_RESP 0 0) / 4) v }, stOk)
  else if A_SYS_RESP 1 0 ≤ a ∧ a < A_SYS_RESP 1 16 then
    (w.updLane l fun L => L.updSess 1 fun s => { s with resp := s.resp.set! ((a - A_SYS_RESP 1 0) / 4) v }, stOk)
  else if a = A_SYS_CREDCTL then w.setCred l (bits v 31 28) (bits v 25 24) wr
  else if isCredData a then
    let j := if a < A_SYS_CREDDATA 1 0 then (a - A_SYS_CREDDATA 0 0) / 4 else 8 + (a - A_SYS_CREDDATA 1 0) / 4
    (w.updLane l fun L => L.updAuth fun u => { u with cred := u.cred.set! j v }, stOk)
  else if a = A_SYS_DBGCTL then put (dbgCtl wr v L)
  else (w.updLane l fun L => L.store a v, stOk)

/-- What the block behind an address does with a value, beyond the generic checks: its refusal or NOOP, or the write performed. -/
def World.regDo (l : LaneId) (wr : Writer) (a : Nat) (v : Word) (won : Bool) (w pre : World) : World × Nat :=
  let put := fun (r : Lane × Nat) => (w.setLane l r.1, r.2)
  let L := w.lane l
  match a / 0x10000 with
  | 0x4000 => w.sysWrite l wr a v
  | 0x4002 => if a = A_AVS_VLIM then put (storeIf (decide (bits v 7 0 ≤ bits v 15 8)) a v L) else put (L.store a v, stOk)
  | 0x4003 => put (tatWrite (a - 0x40030000) a v L)
  | 0x4004 => put (spgWrite a v L)
  | 0x4005 => put (bobWrite a v L)
  | 0x4006 => put (if a = A_DRV_CTRL then ((drvEn (v.getLsbD 31) L).store a v, stOk) else (L.store a v, stOk))
  | 0x4007 => put (dorWrite (fin 2 (by decide) ((a - 0x40070000) / 0x200)) (a % 0x200) a v L)
  | 0x4008 => put (selWrite a v L)
  | 0x4009 => put (prkWrite a v L)
  | 0x400A => w.sebWrite l wr a v pre
  | 0x400B => w.fioWrite l a v
  | 0x400C => w.lnkWrite l wr a v
  | 0x400D =>
    let n := fin 4 (by decide) ((a - 0x400D0000) / 0x4000)
    put (canWrite n (a % 0x4000) a wr won (w.canBusy l n) v L)
  | 0x400E => put (picWrite a v L)
  | 0x400F => put (usbWrite a v L)
  | 0x4010 => put (nvmWrite (a - 0x40100000) a wr v L)
  | 0x4011 => put (keepWrite a (L.writerEng wr) v L)
  | 0x4012 => put (trcWrite a v L)
  | 0x4013 => put (if a = A_MEA_CTRL then meaCtrl l wr v L else (L.store a v, stOk))
  | 0x4014 => w.pwrWrite l a v
  | _ => put (L.store a v, stOk)

/-! ### The change-log entry (R464, Table 16.2) -/

/-- The new value as it is logged: fields that read 0 as written; passwords and credentials as 0. -/
def loggedNew (a : Nat) (w v : Word) : Word :=
  if a = A_SEB_PWNEW ∨ isCredData a then 0
  else (fieldsOf a).foldl (fun x f => setBits x f.hi f.lo (if f.acc = .cmd then bits v f.hi f.lo else fieldAfter f w v)) w

/-- The entry of an accepted write is queued. -/
def World.regLog (l : LaneId) (wr : Writer) (a : Nat) (v : Word) (safety : Bool) (w : World) : World :=
  let L := w.lane l
  let old := w.regWord l (L.writerEng wr) a
  let dbg := a == A_SYS_DBGCTL
  w.clPut l (L.writerRole wr).num (L.writerSrc wr) (if dbg then ckDebug else ckWrite) (if dbg then 0 else a) old (loggedNew a old v) safety false

/-! ### The write (R110) -/

/-- A write refused before its block judges it: an OPEN clears SEB_PWD even so (R339). -/
def World.refusedWrite (l : LaneId) (a : Nat) (v : Word) (w : World) : World :=
  if a = A_SEB_CMD ∧ bits v 3 0 = 1 then w.updLane l fun L => L.updSeb fun b => { b with pwd := 0 } else w

/-- A register write past the gates: the checks in their order, each at its place though a block judges it; refused, it changes at most a sticky
bit of its block; accepted, its entry is queued, then it is performed, and its record is due to the other lane (R391). -/
def World.regCheck (l : LaneId) (wr : Writer) (a : Nat) (v : Word) (won : Bool) (w : World) : World × Nat :=
  let L := w.lane l
  let chg := w.regChanged l wr a v
  let r := w.regDo l wr a v won w
  let logged := chg.any (fieldLogged a)
  let safety := chg.any fun f => f.acc == .sebw
  match w.regRights l wr a v with
  | some st => (w.refusedWrite l a v, st)
  | none =>
    if r.2 = stRoleDenied then r
    else if a = A_FIO_KEEPALIVE ∧ ¬ L.holder then (w, stNotHolder)
    else if !legalWord a v then (w, stBadValue)
    else if r.2 = stBadValue then r
    else if holderOnly a && !L.holder then (w, stNotHolder)
    else if r.2 = stNotHolder then r
    else if logged && !L.clRoom then (w.refusedWrite l a v, stQfull)
    else if safety && (decide (L.safeLeft ≤ 1) || L.log.archiving) then (w, stLogFull)
    else if r.2 ≠ stOk then r
    else if !logged then (r.1, stOk)
    else
      let w' := ((w.regLog l wr a v safety).regDo l wr a v won w).1
      (if chg.any fun f => f.acc == .rwl || f.acc == .mkr then w'.updLane l (replMark a (L.writerRole wr).num) else w', stOk)

/-- A register write by a writer of a lane. -/
def World.regWrite (l : LaneId) (wr : Writer) (a : Nat) (v : Word) (won : Bool) (w : World) : World × Nat :=
  match (w.lane l).regGate ((w.lane l).writerEng wr) a with
  | some (st, fs) => (w.updLane l fun L => fs.foldl (fun L f => L.inc f) L, st)
  | none => w.regCheck l wr a v won

/-- A register read by an engine, or the debug port: the value, or the gate's answer. -/
def World.regRead (l : LaneId) (e : Option Eng) (a : Nat) (w : World) : World × Word × Nat :=
  match (w.lane l).regGate e a with
  | some (st, fs) => (w.updLane l fun L => fs.foldl (fun L f => L.inc f) L, 0, st)
  | none => (w.regReadEffect l a, w.regWord l e a, stOk)

/-! ### Register commands -/

/-- An engine can issue an instruction: its lane and quarter are up, and it runs, not halted, what it waited for come. -/
def Lane.engLive (L : Lane) (e : Eng) : Bool :=
  L.up (.eng e) && decide (L.eng[e].phase = .running) && !L.eng[e].halted && L.waitOver e

/-- A writer can make a write. -/
def Lane.writerLive (L : Lane) (wr : Writer) : Bool :=
  match wr with
  | .eng e => L.engLive e
  | .svc n => match L.sessEng n with
    | some e => L.engLive e
    | none => false
  | .dbg => L.spine && L.b F_SYS_DBGCTL_DBGON

/-- KLAST of an engine. -/
def setKlast (e : Option Eng) (st : Nat) (L : Lane) : Lane :=
  match e with
  | some e => L.updEng e fun g => { g with klast := st }
  | none => L

/-- The stores an engine has buffered reach the macro before it goes on to a register block (R99). -/
def drainFor (e : Option Eng) (L : Lane) : Lane :=
  match e with
  | some e => sbDrain e L
  | none => L

/-- A register command: the write, where its writer can make it, and its status in KLAST of the writer's engine. -/
def World.regCmd (l : LaneId) (wr : Writer) (a : Nat) (v : Word) (w : World) (won : Bool := false) : World :=
  if !(w.lane l).writerLive wr then w
  else
    let w := w.updLane l (drainFor ((w.lane l).writerEng wr))
    let r := w.regWrite l wr a v won
    r.1.updLane l (setKlast ((w.lane l).writerEng wr) r.2)

end Sys2Proof.Machine
end

