-- ==== Sys2Proof/Machine/BobRegs.lean ====
section
/-!
DEFINITION. Register commands: the commands of BOB (spec 06). Each is the write its row names, with every check and effect
of a register write (R110).
-/
namespace Sys2Proof.Machine

/-- BOB_RESTART (R159). -/
def execBobRestart (l : LaneId) (wr : Writer) (s : State) : Host.Outcome State Fault Refusal :=
  lift (fun w => w.regCmd l wr A_BOB_CTRL (setBits ((w.lane l).rwWord A_BOB_CTRL) 3 0 1)) s

/-- BOB_ENABLE (R159). -/
def execBobEnable (l : LaneId) (wr : Writer) (en : Bool) (s : State) : Host.Outcome State Fault Refusal :=
  lift (fun w => w.regCmd l wr A_BOB_CTRL (setBits ((w.lane l).rwWord A_BOB_CTRL) 31 31 en.toNat)) s

/-- VALIDATE (R166). -/
def execValidate (l : LaneId) (wr : Writer) (s : State) : Host.Outcome State Fault Refusal :=
  lift (fun w => w.regCmd l wr A_BOB_LTCTL (setBits ((w.lane l).rwWord A_BOB_LTCTL) 31 28 1)) s

/-- LTSEL_WRITE (R168). -/
def execLtselWrite (l : LaneId) (wr : Writer) (sel : Bool) (s : State) : Host.Outcome State Fault Refusal :=
  lift (fun w => w.regCmd l wr A_BOB_LTCTL (setBits ((w.lane l).rwWord A_BOB_LTCTL) 24 24 sel.toNat)) s

/-- CAPTURE_POP (R173). -/
def execCapturePop (l : LaneId) (wr : Writer) (s : State) : Host.Outcome State Fault Refusal :=
  lift (fun w => w.regCmd l wr A_BOB_CAPPOP 1#32) s

/-- BOB_POS_READ (R163): the read, and its status in KLAST of the reader. -/
def execBobPosRead (l : LaneId) (wr : Writer) (s : State) : Host.Outcome State Fault Refusal :=
  lift (fun w =>
    let L := w.lane l
    if L.writerLive wr then
      let r := w.regRead l (L.writerEng wr) A_BOB_POS
      r.1.updLane l (setKlast (L.writerEng wr) r.2.2)
    else w) s

end Sys2Proof.Machine
end

