-- ==== Sys2Proof/Machine/BootCore.lean ====
section
/-!
DEFINITION. The image slots and the boot record (Table 3.7, R403, R404): which slot may start, which one is named, and the record written.
-/
namespace Sys2Proof.Machine

/-- A slot's flash offset. -/
def slotOff (slot : Nat) : Nat := if slot = 1 then 0x300000 else 0

/-- The header of a slot passes its MAGIC, FORMAT and LENGTH checks. -/
def slotOk (slot : Nat) (L : Lane) : Bool :=
  let w := fun o => leNat (readBytes 0xFF L.flash (slotOff slot + o) 4)
  w 0 == 0x4B564931 && w 4 == 1 && decide (256 ≤ w 8) && decide (w 8 ≤ 3145728)

/-- The copies of the boot record: sequence number, slot, CRC-32 in the last word. -/
def bootCopyOff (k : Nat) : Nat := 0x77B000 + 32 * k

/-- A copy of the boot record, if valid: its sequence number and its slot. -/
def bootCopy (k : Nat) (L : Lane) : Option (Nat × Nat) :=
  let b := readBytes 0xFF L.flash (bootCopyOff k) 32
  if BitVec.ofNat 32 (leNat (b.drop 28)) = crc32 (b.take 28) then some (leNat (b.take 4), leNat ((b.drop 4).take 4) % 2) else none

/-- The newer of two copies, where valid: which it is, its number, its slot. -/
def bootPick : Option (Nat × Nat) → Option (Nat × Nat) → Option (Nat × Nat × Nat)
  | some (s0, p0), some (s1, p1) => if s0 < s1 then some (1, s1, p1) else some (0, s0, p0)
  | some (s0, p0), none => some (0, s0, p0)
  | none, some (s1, p1) => some (1, s1, p1)
  | none, none => none

/-- The newer valid copy: its number, sequence number and slot. -/
def bootNewest (L : Lane) : Option (Nat × Nat × Nat) := bootPick (bootCopy 0 L) (bootCopy 1 L)

/-- The boot record names a slot: written over the older copy. -/
def bootWrite (slot : Nat) (L : Lane) : Lane :=
  let (k, seq) := match bootNewest L with
    | some (k, s, _) => (1 - k, s + 1)
    | none => (0, 1)
  let b := leBytes 4 seq ++ leBytes 4 slot ++ List.replicate 20 0
  L.flashPut (bootCopyOff k) (b ++ wordBytes (crc32 b))

/-- The slot the boot ROM starts, if any, with BOOTFB and NOREC (R403, R404). -/
def bootChoose (L : Lane) : Option Nat × Bool × Bool :=
  match bootNewest L with
  | some (_, _, s) =>
    if slotOk s L then (some s, false, false)
    else if slotOk (1 - s) L then (some (1 - s), true, false)
    else (none, false, false)
  | none =>
    if slotOk 0 L then (some 0, false, true)
    else if slotOk 1 L then (some 1, false, true)
    else (none, false, true)

end Sys2Proof.Machine
end

