-- ==== Sys2Proof/Machine/Boot.lean ====
section
/-!
DEFINITION. The boot ROM and the start of the engines (spec 03, R59 to R62, R75; spec 13, R403, R404; spec 16, R478, Table 16.5).
-/
namespace Sys2Proof.Machine

/-- The boot ROM's content. -/
def bootRomBytes : Bytes := (List.range 0x20000).map Config.bootRom

/-- A run of bytes of the slot started, by its offset in the slot. -/
def slotBytes (slot off len : Nat) (L : Lane) : Bytes := readBytes 0xFF L.flash (slotOff slot + off) len

/-- An extend by data (R478). -/
def meaMeasure (p : Nat) (data : Bytes) (L : Lane) : Lane := meaExtend p (sha256 data) L

/-- The sections of a slot's engines that have code, E0 first. -/
def slotSections (slot : Nat) (L : Lane) : List Bytes :=
  ((List.range 8).map fun n => slotBytes slot (leNat (slotBytes slot (0x10 + 16 * n) 4 L)) (leNat (slotBytes slot (0x14 + 16 * n) 4 L)) L).filter (· ≠ [])

/-- The SEB configuration record in force, or 32 zero bytes (Table 16.5). -/
def sebRecordBytes (L : Lane) : Bytes :=
  match cfgNewest L with
  | some (second, _) => readBytes 0xFF L.flash (cfgRecBase second) (4 * sebwRegs.length + 12)
  | none => List.replicate 32 0

/-- The measurements before the handoff (Table 16.5), which lock PCR0 to PCR4. -/
def bootMeasure (slot : Option Nat) (L : Lane) : Lane :=
  let L := meaMeasure 0 bootRomBytes L
  let L := match bootNewest L with
    | some (k, _) => meaMeasure 0 (readBytes 0xFF L.flash (bootCopyOff k) 32) L
    | none => L
  let L := match slot with
    | none => L
    | some s =>
      let L := meaMeasure 1 (slotBytes s 0 256 L) L
      let L := (slotSections s L).foldl (fun L b => meaMeasure 2 b L) L
      meaMeasure 3 (slotBytes s (leNat (slotBytes s 0x90 4 L)) (leNat (slotBytes s 0x94 4 L)) L) L
  (meaMeasure 4 (sebRecordBytes L) L).s F_MEA_STAT_LOCK 1

/-- E0 in the boot ROM's loader, in place of firmware (R404). -/
def loaderEnter (L : Lane) : Lane := L.updEng 0 fun g => { g with phase := .running, pc := 0 }

/-- E0's firmware, or the loader where no slot may start. -/
def e0Enter (L : Lane) : Lane := if L.b F_LNK_UPDSTAT_LOADER then loaderEnter L else engReload 0 L

/-- The boot after a Lane reset (R59, R403, R404, R478): the slot chosen, the start measured, E0 entered; the loader writes READY itself. -/
def bootStart (L : Lane) : Lane :=
  let (slot, fb, norec) := bootChoose L
  let L := (L.s F_LNK_UPDSTAT_SLOT (slot.getD 0)).sb F_LNK_UPDSTAT_BOOTFB fb
  let L := (L.sb F_LNK_UPDSTAT_NOREC norec).sb F_LNK_UPDSTAT_LOADER slot.isNone
  let L := e0Enter (bootMeasure slot L)
  if slot.isNone then (lnkCtrl (.eng 0) 1#32 L).1 else L

/-- A background engine starts its vendor code (R62): E10 takes up the wear counters at its first start after a Lane reset, and reports a power-loss commit
that did not complete (R86) and change-log entries lost (R464). -/
def World.bgStart (l : LaneId) (k : BgEng) (w : World) : World :=
  let e : Eng := ⟨8 + k.val, by omega⟩
  let L := w.lane l
  if L.eng[e].phase ≠ .stopped then w
  else
    let i := laneIx l
    let next := fun (s : Option Nat) => match s with
      | some n => (n + 1) % 2 ^ 32
      | none => 0
    let first := k = 2 && !L.bg.e10
    let lost := first && (next L.wer.genSeq != w.sup.seqGen[i] || next L.wer.safSeq != w.sup.seqSaf[i])
    w.updLane l fun L =>
      let L := L.updEng e fun g => { g with phase := .running, pc := Config.bgEntry e.val }
      let L := { L with regs := setBit L.regs F_SYS_ENGCTL_BGRUN k.val true }
      if first then
        let L := (L.stick L.wer.plDue F_WER_STAT_PL_FAIL_S).stick lost F_WER_STAT_CLLOST_S
        werShow (wearStart { L.updWer (fun r => { r with plDue := false }) with bg := { L.bg with e10 := true } })
      else L

/-! ### Meanings -/

/-- RELOAD_ENTRY (R60). -/
def execReloadEntry (l : LaneId) (e : FgEng) (s : State) : Host.Outcome State Fault Refusal :=
  lift (onBlock l (.eng (fgEng e)) fun L => if e.val ≠ 0 ∧ L.eng[fgEng e].phase = .reloading then engReload (fgEng e) L else L) s

/-- E0_WARM_ENTRY (R61). -/
def execE0WarmEntry (l : LaneId) (s : State) : Host.Outcome State Fault Refusal :=
  lift (onBlock l (.eng 0) fun L => if L.eng[0].phase = .reloading then e0Enter L else L) s

/-- BG_ENGINE_START (R62). -/
def execBgEngineStart (l : LaneId) (k : BgEng) (s : State) : Host.Outcome State Fault Refusal :=
  lift (fun w => if (w.lane l).up (.eng ⟨8 + k.val, by omega⟩) then w.bgStart l k else w) s

/-- BOOT_ROM_START (R403): once after a Lane reset, before E0 has received control; E8 to E11 already run (R59). -/
def execBootRomStart (l : LaneId) (s : State) : Host.Outcome State Fault Refusal :=
  lift (onBlock l (.eng 0) fun L =>
    if L.eng[0].phase = .stopped ∧ ¬ L.b F_MEA_STAT_LOCK ∧ [8, 9, 10, 11].all (fun e : Eng => L.eng[e].phase == .running) then bootStart L else L) s

end Sys2Proof.Machine
end

