-- ==== Sys2Proof/Machine/CanRegs.lean ====
section
/-!
DEFINITION. Register commands: the commands of CAN (spec 14). Each is the write its row names, with every check and effect
of a register write (R110).
-/
namespace Sys2Proof.Machine

/-- CAN_TXPUSH (R412). -/
def execCanTxpush (l : LaneId) (n : Port) (wr : Writer) (s : State) : Host.Outcome State Fault Refusal :=
  lift (fun w => w.regCmd l wr (A_CAN_TXPUSH n.val) 1#32) s

/-- CANCEL (R415). -/
def execCancel (l : LaneId) (n : Port) (k : CanObjNo) (won : Bool) (wr : Writer) (s : State) : Host.Outcome State Fault Refusal :=
  lift (fun w => w.regCmd l wr (A_CAN_OBJ3 n.val k.val) 1#32 won) s

/-- CAN_OBJ_RELEASE (R414). -/
def execCanObjRelease (l : LaneId) (n : Port) (k : CanObjNo) (wr : Writer) (s : State) : Host.Outcome State Fault Refusal :=
  lift (fun w => w.regCmd l wr (A_CAN_OBJ3 n.val k.val) 2#32) s

/-- CAN_RXPOP (R422). -/
def execCanRxpop (l : LaneId) (n : Port) (f : Bool) (wr : Writer) (s : State) : Host.Outcome State Fault Refusal :=
  lift (fun w => w.regCmd l wr (A_CAN_RXPOP n.val f.toNat) 1#32) s

/-- REBUILD (R424). -/
def execRebuild (l : LaneId) (n : Port) (wr : Writer) (s : State) : Host.Outcome State Fault Refusal :=
  lift (fun w => w.regCmd l wr (A_CAN_DIRCTL n.val) (setBits ((w.lane l).rwWord (A_CAN_DIRCTL n.val)) 3 0 1)) s

/-- CAN_MODE_WRITE (R426). -/
def execCanModeWrite (l : LaneId) (n : Port) (mode : CanModeNo) (wr : Writer) (s : State) : Host.Outcome State Fault Refusal :=
  lift (fun w => w.regCmd l wr (A_CAN_CTRL n.val) (setBits ((w.lane l).rwWord (A_CAN_CTRL n.val)) 31 29 mode.val)) s

/-- CAN_RESTART (R427). -/
def execCanRestart (l : LaneId) (n : Port) (wr : Writer) (s : State) : Host.Outcome State Fault Refusal :=
  lift (fun w => w.regCmd l wr (A_CAN_CMD n.val) 3#32) s

/-- SLEEP (R432). -/
def execSleep (l : LaneId) (n : Port) (wr : Writer) (s : State) : Host.Outcome State Fault Refusal :=
  lift (fun w => w.regCmd l wr (A_CAN_CMD n.val) 1#32) s

/-- WAKE (R434). -/
def execWake (l : LaneId) (n : Port) (wr : Writer) (s : State) : Host.Outcome State Fault Refusal :=
  lift (fun w => w.regCmd l wr (A_CAN_CMD n.val) 2#32) s

end Sys2Proof.Machine
end

