-- ==== Sys2Proof/Machine/DorRegs.lean ====
section
/-!
DEFINITION. Register commands: the commands of DOR (spec 09). Each is the write its row names, with every check and effect
of a register write (R110).
-/
namespace Sys2Proof.Machine

/-- OPEN (R242). -/
def execDoorOpen (l : LaneId) (wr : Writer) (d : Door) (s : State) : Host.Outcome State Fault Refusal :=
  lift (fun w => w.regCmd l wr (A_DOR_CMD d.val) 0x10000000#32) s

/-- CLOSE (R258). -/
def execDoorClose (l : LaneId) (wr : Writer) (d : Door) (s : State) : Host.Outcome State Fault Refusal :=
  lift (fun w => w.regCmd l wr (A_DOR_CMD d.val) 0x20000000#32) s

/-- NUDGE (R242). -/
def execNudge (l : LaneId) (wr : Writer) (d : Door) (s : State) : Host.Outcome State Fault Refusal :=
  lift (fun w => w.regCmd l wr (A_DOR_CMD d.val) 0x30000000#32) s

/-- PREOPEN (R243). -/
def execPreopen (l : LaneId) (wr : Writer) (d : Door) (s : State) : Host.Outcome State Fault Refusal :=
  lift (fun w => w.regCmd l wr (A_DOR_CMD d.val) 0x40000000#32) s

/-- DOOR_STOP (R242). -/
def execDoorStop (l : LaneId) (wr : Writer) (d : Door) (s : State) : Host.Outcome State Fault Refusal :=
  lift (fun w => w.regCmd l wr (A_DOR_CMD d.val) 0x50000000#32) s

/-- REFERENCE (R244). -/
def execReference (l : LaneId) (wr : Writer) (d : Door) (s : State) : Host.Outcome State Fault Refusal :=
  lift (fun w => w.regCmd l wr (A_DOR_CMD d.val) 0x60000000#32) s

/-- LEARN (R249). -/
def execLearn (l : LaneId) (wr : Writer) (d : Door) (s : State) : Host.Outcome State Fault Refusal :=
  lift (fun w => w.regCmd l wr (A_DOR_CMD d.val) 0x70000000#32) s

/-- DOOR_CLRFLT (R242). -/
def execDoorClrflt (l : LaneId) (wr : Writer) (d : Door) (s : State) : Host.Outcome State Fault Refusal :=
  lift (fun w => w.regCmd l wr (A_DOR_CMD d.val) 0x80000000#32) s

/-- FSEL_WRITE (R250). -/
def execFselWrite (l : LaneId) (wr : Writer) (d : Door) (en : Bool) (fsel : Bool) (s : State) : Host.Outcome State Fault Refusal :=
  lift (fun w => w.regCmd l wr (A_DOR_CTRL d.val) (setBits (setBits ((w.lane l).rwWord (A_DOR_CTRL d.val)) 31 31 en.toNat) 30 30 fsel.toNat)) s

/-- DEADT_WRITE (R232). -/
def execDeadtWrite (l : LaneId) (wr : Writer) (d : Door) (v : Word) (s : State) : Host.Outcome State Fault Refusal :=
  lift (fun w => w.regCmd l wr (A_DOR_CFG d.val) v) s

/-- CAPS_WRITE (R260). -/
def execCapsWrite (l : LaneId) (wr : Writer) (d : Door) (reg : DorCapReg) (v : Word) (s : State) : Host.Outcome State Fault Refusal :=
  lift (fun w => w.regCmd l wr (match reg with | .caps => A_DOR_CAPS d.val | .nudge => A_DOR_NUDGE d.val | .mcaps => A_DOR_MCAPS d.val) v) s

end Sys2Proof.Machine
end

