-- ==== Sys2Proof/Machine/Fio.lean ====
section
/-!
DEFINITION. Meanings of the field die's own steps (spec 12): measurements, edges, thresholds, tests, faults, the field
supply, the watchdog and the loading of the input configuration. State frames stand with the SEB, commands of the registers with the
register writes.
-/
namespace Sys2Proof.Machine

/-- SUPERVISED_MEASURE (R355, R356). -/
def execSupervisedMeasure (k : Ratios) (s : State) : Host.Outcome State Fault Refusal :=
  lift (World.fdStep (World.fioInputs fun d => { d with inp := Vector.ofFn fun n => fioMeasure (listGet none k n.val) d.inp[n] })) s

/-- INPUT_EDGE (R352, R357, R358, R533). -/
def execInputEdge (n : FieldInput) (mv : Nat) (s : State) : Host.Outcome State Fault Refusal := lift (World.fdStep (fioPin n mv)) s

/-- THRESHOLD_UPDATE (R352): FIO_VFLD and, unless VFLD is LOW or CUT, the rising threshold, with which the falling one goes. -/
def execThresholdUpdate (v : Nat) (s : State) : Host.Outcome State Fault Refusal :=
  lift (World.fdStep (World.updFd · fun d =>
    let d := d.s F_FIO_VFLD_VFLD (min v 65535)
    if d.vstate ≤ vsWarn then { d with thr := min (4 * v + 500) 10700 } else { d with thr := thrFrozen })) s

/-- TEST_SLOT (R359 to R365, R369). -/
def execTestSlot (obs : TestObs) (s : State) : Host.Outcome State Fault Refusal := lift (World.fdStep (fioSlot obs)) s

/-- OUTPUT_FAULT (R366, R368, Table 12.6): a fault is judged only of a source in the state it speaks of, and not twice. -/
def execOutputFault (src : Source) (what : OutTrouble) (s : State) : Host.Outcome State Fault Refusal :=
  lift (World.fdStep fun w =>
    let d := w.fd
    if d.flt src.val ≠ 0 then w
    else match what with
      | .short => if d.on[src] then w
          else World.fioFault src (if srcHigh src.val then 1 else 2) (w.fioOut fun d => { d with held := d.held.set src (some true) })
      | .drop => if d.on[src] then w.fioFault src 3 else w
      | .overload hot => if d.on[src] then World.fioFault src 4 (w.updFd fun d => { d with hot := d.hot.set src hot }) else w) s

/-- VFLD_FALL (R370, Table 12.7). -/
def execVfldFall (mv : Nat) (s : State) : Host.Outcome State Fault Refusal := lift (World.fdStep (fioFall mv)) s

/-- VFLD_RISE (R370, Table 12.7). -/
def execVfldRise (mv : Nat) (s : State) : Host.Outcome State Fault Refusal := lift (World.fdStep (fioRise mv)) s

/-- LOW_TIMEOUT (Table 12.7): LOW has held for more than 20 ms. -/
def execLowTimeout (s : State) : Host.Outcome State Fault Refusal :=
  lift (World.fdStep fun w => if w.fd.vstate = vsLow then w.fioVfld vsCut else w) s

/-- OUTPUTS_CUT_DELAY (R370). -/
def execOutputsCutDelay (s : State) : Host.Outcome State Fault Refusal := lift (World.fdStep fioCutOutputs) s

/-- WATCHDOG_EXPIRY (R372). -/
def execWatchdogExpiry (s : State) : Host.Outcome State Fault Refusal := lift (World.fdStep fioWatchdog) s

/-- SWITCH_DRIVE_LOST (R17): the pulse train of a safety switch has been absent for 20 µs. -/
def execSwitchDriveLost (k : Switch) (s : State) : Host.Outcome State Fault Refusal :=
  lift (fun w =>
    let L := w.lane (if k.val % 2 = 0 then .a else .b)
    if L.seb.drive[k.val / 2] then w else w.fioOut fun d => { d with train := d.train.set k false }) s

/-- FIO_CONFIG_LOAD (R349, R350, R533): the lane writes the copies of its loaded record. -/
def execFioConfigLoad (l : LaneId) (s : State) : Host.Outcome State Fault Refusal :=
  lift (fun w =>
    if !(w.lane l).spine then w
    else fioApply (w.updFd fun d =>
      d.setCopy l ((List.range 24).foldl (fun r n =>
        match (w.lane l).seb.fioCfg[n]? with
        | some v => rput r (A_FIO_INCFG n) v
        | none => r) (d.copy l)))) s

end Sys2Proof.Machine
end

