-- ==== Sys2Proof/Machine/FioRegs.lean ====
section
/-!
DEFINITION. Register commands: the commands of FIO (spec 12). Each is the write its row names, with every check and effect
of a register write (R110).
-/
namespace Sys2Proof.Machine

/-- EDGE_POP (R358). -/
def execEdgePop (l : LaneId) (wr : Writer) (s : State) : Host.Outcome State Fault Refusal :=
  lift (fun w => w.regCmd l wr A_FIO_EDGEPOP 1#32) s

/-- KEEPALIVE (R371). -/
def execKeepalive (l : LaneId) (wr : Writer) (key : Byte) (s : State) : Host.Outcome State Fault Refusal :=
  lift (fun w => w.regCmd l wr A_FIO_KEEPALIVE (key.zeroExtend 32)) s

/-- FIO_RELEASE (R373). -/
def execFioRelease (l : LaneId) (wr : Writer) (s : State) : Host.Outcome State Fault Refusal :=
  lift (fun w => w.regCmd l wr A_FIO_CMD 1#32) s

/-- FIO_CLRFLT (R368). -/
def execFioClrflt (l : LaneId) (wr : Writer) (mask : SourceBits) (s : State) : Host.Outcome State Fault Refusal :=
  lift (fun w => w.regCmd l wr A_FIO_CMD (BitVec.ofNat 32 (mask.toNat * 0x10000 + 2))) s

/-- ACKCUT (R373). -/
def execAckcut (l : LaneId) (wr : Writer) (s : State) : Host.Outcome State Fault Refusal :=
  lift (fun w => w.regCmd l wr A_FIO_ACK 1#32) s

/-- FIO_OUT_WRITE (R367). -/
def execFioOutWrite (l : LaneId) (wr : Writer) (v : Byte) (s : State) : Host.Outcome State Fault Refusal :=
  lift (fun w => w.regCmd l wr A_FIO_OUT (v.zeroExtend 32)) s

end Sys2Proof.Machine
end

