-- ==== Sys2Proof/Machine/KreviaBase.lean ====
section
/-!
DEFINITION. How an engine runs an instruction (spec 04): the checks of the fetch stage, taking an exception (R113 to R115, Tables 4.19, 4.20), and the
loads and stores of its view of memory (Table 3.3, R64 to R72, R98, R99, R109 to R112).
-/
namespace Sys2Proof.Machine

/-! ### Results -/

/-- What an instruction, or a part of one, comes to: a value, or the cause of an exception: code, sub-cause and address (Table 4.19). -/
inductive KRes (α : Type) where
  | ok (w : World) (v : α)
  | exc (w : World) (code sub addr : Nat)

/-- Going on where no exception was met. -/
def KRes.bind {α β : Type} (r : KRes α) (f : World → α → KRes β) : KRes β :=
  match r with
  | .ok w v => f w v
  | .exc w c s a => .exc w c s a

/-- Where an engine goes on: behind the instruction, elsewhere, or at the same instruction, which waits. -/
inductive KNext where
  | next
  | goto (pc : Word)
  | stay
deriving DecidableEq, Repr

/-- Exception codes (Table 4.19). -/
def xFetch : Nat := 1
def xAlign : Nat := 2
def xUecc : Nat := 3
def xRole : Nat := 4
def xChan : Nat := 5
def xIllegal : Nat := 6

/-- Sub-causes of FETCH_ERROR. -/
def xsRights : Nat := 1
def xsTableLive : Nat := 2
def xsReserved : Nat := 3
def xsUnpopulated : Nat := 4
def xsNotAtomic : Nat := 5
/-- Sub-causes of ALIGN. -/
def xsData : Nat := 1
def xsRegSize : Nat := 2
def xsTarget : Nat := 3
/-- Sub-causes of UECC. -/
def xsFetch : Nat := 1
def xsDataUe : Nat := 2
/-- Sub-causes of ILLEGAL. -/
def xsBits : Nat := 2
def xsOperand : Nat := 3
def xsEret : Nat := 4

/-! ### The engine and its exceptions -/

/-- An engine updated, while it runs: not where the instruction has reset it. -/
def World.kUpd (l : LaneId) (e : Eng) (f : Engine → Engine) (w : World) : World :=
  if (w.lane l).eng[e].phase = .running then w.updLane l fun L => L.updEng e f else w

/-- The registers of an engine updated. -/
def World.kCore (l : LaneId) (e : Eng) (f : KCore → KCore) (w : World) : World := w.kUpd l e fun g => { g with core := f g.core }

/-- An engine's registers. -/
def World.core (w : World) (l : LaneId) (e : Eng) : KCore := (w.lane l).eng[e].core

/-- Entering an exception (Table 4.20). -/
def Engine.enter (code sub addr : Nat) (g : Engine) : Engine :=
  { g with
    kesr := g.core.ksr, kepc := g.pc
    kcause := BitVec.ofNat 32 (code + 256 * sub), keaddr := BitVec.ofNat 32 addr
    core := (g.core.setFlag ksrExc true).stick ksrChan (code == xChan)
    pc := g.kvbr + BitVec.ofNat 32 (16 * code), wait := none }

/-- An exception is raised: entered, or while KSR.EXC is 1 a Block reset (R115). -/
def World.kRaise (l : LaneId) (e : Eng) (code sub addr : Nat) (w : World) : World :=
  if (w.core l e).flag ksrExc then w.blockReset l (.eng e) bcDoubleFault true
  else w.kUpd l e (Engine.enter code sub addr)

/-- An engine may fetch at an address (Table 3.3): from the boot ROM, E0 to E7 from their own local SRAM too. -/
def kFetchOk (e : Eng) (pc : Nat) : Bool :=
  decide (pc < 0x20000) || (decide (e.val < 8) && decide (engBase e ≤ pc) && decide (pc < engBase e + engSize e))

/-- What an instruction's outcome does to its engine. -/
def World.kDone (l : LaneId) (e : Eng) (r : KRes KNext) : World :=
  match r with
  | .ok w .next => w.kUpd l e fun g => { g with pc := g.pc + 4 }
  | .ok w (.goto p) => w.kUpd l e fun g => { g with pc := p }
  | .ok w .stay => w
  | .exc w c s a => w.kRaise l e c s a

/-- One instruction of an engine, the causes in the order of R114: the fetch, the encoding (its sub-cause where illegal), then the
instruction's own. -/
def World.kExec (l : LaneId) (e : Eng) (illegal : Option Nat) (body : World → KRes KNext) (w : World) : World :=
  let pc := (w.lane l).eng[e].pc.toNat
  let w := w.kUpd l e fun g => { g with wait := none }
  if !kFetchOk e pc then w.kRaise l e xFetch xsRights pc
  else if (w.lane l).ue.contains (pc - pc % 4) then (w.updLane l (eccLost (pc - pc % 4))).kRaise l e xUecc xsFetch pc
  else match illegal with
    | some sub => w.kRaise l e xIllegal sub 0
    | none => World.kDone l e (body w)

/-- An instruction command: nothing happens where its engine issues none. -/
def World.kRun (l : LaneId) (e : Eng) (illegal : Option Nat) (body : World → KRes KNext) (w : World) : World :=
  if (w.lane l).engLive e then w.kExec l e illegal body else w

/-- An encoding that is illegal unless a condition holds: OPERAND. -/
def kNeed (c : Bool) : Option Nat := if c then none else some xsOperand

/-- The body of an instruction that works on the engine's registers alone. -/
def kAlu (l : LaneId) (e : Eng) (f : KCore → KCore) (w : World) : KRes KNext := .ok (w.kCore l e f) .next

/-! ### Error correction on reads (R69 to R71) -/

/-- The value of a read of a word at `a`, whose check bits lie with the word or line at `at_`; `x` is the address the instruction names. -/
def World.eccRead (l : LaneId) (k : EccKind) (at_ x : Nat) (v : Word) (w : World) : KRes Word :=
  if (w.lane l).ue.contains at_ ∨ k = .uncorrectable then .exc (w.updLane l (eccLost at_)) xUecc xsDataUe x
  else if k = .corrected then .ok (w.updLane l (eccCorrected at_)) v
  else .ok w v

/-- What the environment's report says of the k-th word an instruction reads. -/
def eccAt (c : Ecc) (k : Nat) : EccKind := if c.pos = k then c.kind else .clean

/-! ### Regions (Table 3.3) -/

/-- The regions of an engine's view. -/
inductive KRegion where
  | rom
  | flash
  | own
  | table
  | reg
  | none
deriving DecidableEq, Repr

/-- The registers a background engine reaches: its own block (Table 18.1); E10 the command set of the log bank in NVM too (Table 3.3). -/
def ownKeep (e : Eng) (a : Nat) : Bool :=
  (decide (8 ≤ e.val) && decide (0x40110000 + 0x4000 * (e.val - 8) ≤ a) && decide (a < 0x40110000 + 0x4000 * (e.val - 7))) ||
  (decide (e.val = 10) && decide (0x40100060 ≤ a) && decide (a < 0x40100080))

/-- The region of the register blocks (R109). -/
def inRegs (a : Nat) : Bool := decide (0x40000000 ≤ a) && decide (a < 0x40150000)

/-- The region of an address, as engine e may reach it. -/
def kRegion (e : Eng) (a : Nat) : KRegion :=
  if a < 0x20000 then .rom
  else if engBase e ≤ a ∧ a < engBase e + engSize e then .own
  else if e.val < 8 ∧ 0x08000000 ≤ a ∧ a < 0x08800000 then .flash
  else if e.val < 8 ∧ tsBase ≤ a ∧ a < tsBase + 0x180000 then .table
  else if inRegs a ∧ (e.val < 8 ∨ ownKeep e a ∨ e.val = 11) then .reg
  else .none

/-! ### Register blocks (R109 to R112) -/

/-- The sub-cause of CHAN for a status. -/
def chanSub (st : Nat) : Nat := if st = stPeerReset then 1 else if st = stAbortReset then 2 else 3

/-- A word of a register window that lies in its block's macro, with check bits of its own: TAT's data RAM and banks, PRK's landing RAM, the receive heads
and the objects of a CAN port (DEDUCED, log 173). -/
def regMacro (a : Nat) : Bool :=
  (decide (0x40034000 ≤ a) && decide (a < 0x40036000)) || (decide (0x40038000 ≤ a) && decide (a < 0x40040000)) ||
  (decide (0x40094000 ≤ a) && decide (a < 0x40095000)) ||
  (decide (0x400D0000 ≤ a) && decide (a < 0x400E0000) &&
    ((decide (0x200 ≤ a % 0x4000) && decide (a % 0x4000 < 0x350)) || (decide (0x1000 ≤ a % 0x4000) && decide (a % 0x4000 < 0x2000))))

/-- A register read with its status, KLAST written. What lies outside the registers an engine may reach is RIGHTS before it is UNPOPULATED (R64, R109,
R502; DEDUCED, log 158). E11 reads other blocks through its snoop port (R90). A word of a block's macro is read with its check bits (R71). -/
def World.kRegGet (l : LaneId) (e : Eng) (k : EccKind) (a : Nat) (w : World) : KRes (Word × Nat) :=
  if a % 4 ≠ 0 then .exc w xAlign xsData a
  else if kRegion e a ≠ .reg then .exc w xFetch xsRights a
  else if (rowOf a).isNone then .exc w xFetch xsUnpopulated a
  else
    let w := w.updLane l (sbDrain e)
    if e.val = 11 ∧ !ownKeep e a then .ok w (sget 0 (w.lane l).bg.shadow a, stOk)
    else
      let r := w.regRead l (some e) a
      let w := r.1.kUpd l e fun g => { g with klast := r.2.2 }
      if r.2.2 = stOk ∧ regMacro a then (w.eccRead l k a a r.2.1).bind fun w v => .ok w (v, stOk) else .ok w r.2

/-- A register write with its status, KLAST written. -/
def World.kRegPut (l : LaneId) (e : Eng) (a : Nat) (v : Word) (w : World) : KRes Nat :=
  if a % 4 ≠ 0 then .exc w xAlign xsData a
  else if kRegion e a ≠ .reg then .exc w xFetch xsRights a
  else if (rowOf a).isNone then .exc w xFetch xsUnpopulated a
  else if e.val = 11 ∧ !ownKeep e a then .exc w xFetch xsRights a
  else
    let w := w.updLane l (sbDrain e)
    let r := w.regWrite l (.eng e) a v false
    .ok (r.1.kUpd l e fun g => { g with klast := r.2 }) r.2

/-- The sub-cause of ROLE of a refused write (Table 4.19): another engine than E0 at SYS_ENGCTL or SYS_CHCFG; no session that may change an SEBW
field (R340), whatever the role; else the role. -/
def World.roleSub (l : LaneId) (e : Eng) (a : Nat) (v : Word) (w : World) : Nat :=
  let L := w.lane l
  let miss := (w.regChanged l (.eng e) a v).filter fun f => !L.fieldRight (.eng e) a f
  if (a = A_SYS_ENGCTL ∨ isChcfg a) ∧ e.val ≠ 0 then 2
  else if miss ≠ [] ∧ miss.all (fun f => f.acc == .sebw) then 3
  else 1

/-- A word store to a register: the exceptions of R111. -/
def World.kRegStore (l : LaneId) (e : Eng) (a : Nat) (v : Word) (w : World) : KRes Unit :=
  (w.kRegPut l e a v).bind fun w' st =>
    if st = stRoleDenied then .exc w' xRole (w.roleSub l e a v) a
    else if st = stAbortReset ∨ st = stPeerReset then .exc w' xChan (chanSub st) a
    else .ok w' ()

/-- A word load from a register: the exceptions of R111. -/
def World.kRegLoad (l : LaneId) (e : Eng) (k : EccKind) (a : Nat) (w : World) : KRes Word :=
  (w.kRegGet l e k a).bind fun w r =>
    if r.2 = stAbortReset ∨ r.2 = stPeerReset then .exc w xChan (chanSub r.2) a else .ok w r.1

/-! ### Loads -/

/-- The word around an address as an access of memory reads it; `x` is the address the instruction names. -/
def World.kMemWord (l : LaneId) (e : Eng) (k : EccKind) (x : Nat) (w : World) : KRes Word :=
  let a := x - x % 4
  let L := w.lane l
  match kRegion e x with
  | .rom => .ok w (BitVec.ofNat 32 (leNat ((List.range 4).map fun i => Config.bootRom (a + i))))
  | .flash => w.eccRead l k (x - x % 16) x (BitVec.ofNat 32 (L.flashWord (a - 0x08000000)))
  | .own => w.eccRead l k a x (readWord L.eng[e].ram (a - engBase e))
  | .table => match L.sbGet e a with
    | some v => .ok w v
    | none => w.eccRead l k a x (L.ts (a - tsBase))
  | _ => .exc w xFetch xsRights x

/-- A load of a word. -/
def World.kLoad (l : LaneId) (e : Eng) (k : EccKind) (x : Nat) (w : World) : KRes Word :=
  if x % 4 ≠ 0 then .exc w xAlign xsData x
  else if kRegion e x = .reg then w.kRegLoad l e k x
  else w.kMemWord l e k x

/-- A load of n = 1 or 2 bytes, unsigned. -/
def World.kLoadPart (l : LaneId) (e : Eng) (k : EccKind) (n x : Nat) (w : World) : KRes Nat :=
  if x % n ≠ 0 then .exc w xAlign xsData x
  else if inRegs x then .exc w xAlign xsRegSize x
  else (w.kMemWord l e k x).bind fun w v => .ok w (bits v (8 * (x % 4) + 8 * n - 1) (8 * (x % 4)))

/-! ### Stores -/

/-- A store into the table SRAM is refused: a reserved word, or a live table. -/
def Lane.tsRefuses (L : Lane) (x : Nat) : Option Nat :=
  if tsReserved (x - tsBase) then some xsReserved else if L.tsLive (x - tsBase) || L.tsOwned (x - tsBase) then some xsTableLive else none

/-- A word into an engine's local SRAM; the word has valid check bits then (R71). In a region of LNK_REPLn it is suppressed in the lane without the
Hoop (R395), and its line is due in the holder (R391). -/
def ownPut (e : Eng) (a : Nat) (v : Word) (L : Lane) : Lane :=
  let put := fun L : Lane => { L.updEng e fun g => { g with ram := writeWord g.ram (a - engBase e) v } with ue := L.ue.filter (· != a) }
  if !replRegion L a then put L
  else if !L.holder then L.inc F_LNK_CNT_SUPPRESS
  else (put L).dirty a

/-- A store of a word. -/
def World.kStore (l : LaneId) (e : Eng) (x : Nat) (v : Word) (w : World) : KRes Unit :=
  if x % 4 ≠ 0 then .exc w xAlign xsData x
  else match kRegion e x with
    | .reg => w.kRegStore l e x v
    | .own => .ok (w.updLane l (ownPut e x v)) ()
    | .table => match (w.lane l).tsRefuses x with
      | some sub => .exc w xFetch sub x
      | none => .ok (w.updLane l (sbPush e x v)) ()
    | _ => .exc w xFetch xsRights x

/-- A store of n = 1 or 2 bytes: a read-modify-write at the macro, past the store buffer (R72, R99). -/
def World.kStorePart (l : LaneId) (e : Eng) (k : EccKind) (n x v : Nat) (w : World) : KRes Unit :=
  let a := x - x % 4
  let ins := fun old : Word => setBits old (8 * (x % 4) + 8 * n - 1) (8 * (x % 4)) v
  if x % n ≠ 0 then .exc w xAlign xsData x
  else if inRegs x then .exc w xAlign xsRegSize x
  else match kRegion e x with
    | .own => (w.kMemWord l e k x).bind fun w old => .ok (w.updLane l (ownPut e a (ins old))) ()
    | .table => match (w.lane l).tsRefuses x with
      | some sub => .exc w xFetch sub x
      | none => ((w.updLane l (sbDrain e)).kMemWord l e k x).bind fun w old => .ok (w.updLane l (tsStore a (ins old))) ()
    | _ => .exc w xFetch xsRights x

/-- A register written by an instruction. -/
def World.kPut (l : LaneId) (e : Eng) (r : RegNo) (v : Word) (w : World) : World := w.kCore l e fun c => c.put r v

end Sys2Proof.Machine
end

