-- ==== Sys2Proof/Machine/Keep.lean ====
section
/-!
DEFINITION. What the background engines do (spec 03, R69 to R90; spec 14, R435), the ends of operations of NVM, MEA and SPI (spec 16, R480; spec 18, R505, R508), the
times of the sessions (spec 16, R456 to R460), and USB as the host and the supplies drive it (spec 16, R463, R477; R507, R522).
-/
namespace Sys2Proof.Machine

/-- A background engine acts: its quarter is up and it runs its vendor code. -/
def onBg (l : LaneId) (e : Eng) (f : World → World) (w : World) : World :=
  if (w.lane l).up (.eng e) ∧ (w.lane l).eng[e].phase = .running then f w else w

/-! ### Scrub -/

/-- The engine in whose window an address lies, for its ECC status. -/
def engOfAddr (a : Nat) : Eng := fin 12 (by decide) ((a - 0x20000000) / 0x20000)

/-- A word that fails the lane (R382, bit UE of the health word): in the image slot in use, or in the local SRAM of an engine with RUN set. -/
def Lane.ueFatal (L : Lane) (a : Nat) : Bool :=
  (decide (0x08000000 + L.slotBase ≤ a) && decide (a < 0x08300000 + L.slotBase)) ||
  (decide (0x20000000 ≤ a) && decide (a < 0x20100000) && L.engRun (engOfAddr a))

/-- The end of a sweep: its count of uncorrectable words. -/
def sweepEnd (L : Lane) : Lane :=
  { L.s F_SCR_STAT_UE (min 255 L.bg.sweepUe.length) with bg := { L.bg with sweepUe := [] } }

/-- A word swept (R70, R503): a single-bit error is corrected, an uncorrectable word counted and its address shown. -/
def World.scrubWord (l : LaneId) (a : Nat) (k : EccKind) (done : Bool) (w : World) : World :=
  let blk := eccBlock a
  let L := w.lane l
  let k := if L.ue.contains a then .uncorrectable else k
  let w := match k with
    | .clean => w
    | .corrected => w.updLane l fun L => (L.inc (F_SYS_BLKSTAT_CE blk)).inc F_SCR_STAT_CE
    | .uncorrectable => w.updLane l fun L =>
      let L := (eccLost a L).s F_SCR_UEADDR_ADDR a
      { L with bg := { L.bg with sweepUe := a :: L.bg.sweepUe } }
  let w := if done then w.updLane l sweepEnd else w
  if k = .uncorrectable ∧ L.ueFatal a ∧ ¬ L.lnk.ue then
    (w.updLane l fun L => lnkShow (L.updLnk fun k => { k with ue := true })).laneFail l
  else w

/-- The flash region of an address. -/
def flashRegion (a : Nat) : Fin 4 :=
  if a < 0x08300000 then 0 else if a < 0x08600000 then 1 else if a < 0x08780000 then 2 else 3

/-- A weak line's sector is relocated (R80, R81): its content stays; in the log bank it is reported to E10. -/
def flashRefresh (a : Nat) (L : Lane) : Lane :=
  let r := flashRegion a
  if r = 3 then
    let p := (a - 0x08780000) / 0x1000
    if L.wer.weak.contains p then L else L.updWer fun r => { r with weak := r.weak ++ [p] }
  else if 0 < L.bg.spares[r] then { L with bg := { L.bg with spares := L.bg.spares.set r (L.bg.spares[r] - 1) } }
  else L.s F_SCR_STAT_SPARE_OUT_S 1

/-- The oldest posted word is rewritten, unless a foreground write was newer (R69, R78); flash is rewritten by relocation of its sector (R80; DEDUCED,
log 20). -/
def scrubRewrite (newer : Bool) (L : Lane) : Lane :=
  match L.post with
  | [] => L
  | a :: r => ({ L with post := r }).ifDo (!newer) fun L => if a < 0x20000000 then flashRefresh a L else L.inc F_SCR_STAT_CE

/-! ### Calibration -/

/-- The place and the freeze bit of a calibrated item (Table 3.11). -/
def calPlace : CalItem → Fin 5 × Field
  | .d0i => (0, F_CAL_STAT_D0I_S)
  | .d1i => (1, F_CAL_STAT_D1I_S)
  | .lw => (2, F_CAL_STAT_LW_S)
  | .temp => (3, F_CAL_STAT_TEMP_S)
  | .slack => (4, F_CAL_STAT_SLACK_S)

/-- A new coefficient set (R82), or the item frozen (R83): a gain moves by at most 0.5 %; a door's offset only while its PWM is disabled. The set waits for
its user's next sample instant; the temperature sensor has none and takes it at once (DEDUCED, log 127). -/
def calUpdate (item : CalItem) (gain ofs : Int) (arefOk cycle : Bool) (L : Lane) : Lane :=
  let (i, f) := calPlace item
  let L := L.ifDo cycle fun L => L.inc F_CAL_STAT_CYCLES
  if !arefOk then L.s F_CAL_STAT_AREF_S 1
  else if 50000 < absI gain then L.s f 1
  else
    let (g, o) := (L.bg.calNext[i]).getD (L.bg.cal[i], if h : i.val < 2 then L.bg.calOfs[i.val] else 0)
    let d := (1000000 + g) * 5 / 1000
    let still := match item with
      | .d0i => !L.b (F_DOR_STAT_GATES 0)
      | .d1i => !L.b (F_DOR_STAT_GATES 1)
      | _ => false
    let L := { L with bg := { L.bg with calNext := L.bg.calNext.set i (some (clampI (g - d) (g + d) gain, if still then ofs else o)) } }
    match item with
    | .temp => L.calTake i
    | _ => L

/-! ### Telemetry (R90, R435, R512) -/

/-- The addresses of a row's registers. -/
def rowAddrs (r : RegRow) : List Nat := (List.range r.n).flatMap fun i => (List.range r.m).map fun j => r.addr + i * r.s + j * r.t

/-- The registers the snoop port shadows: every one with an RO or RWS field. -/
def snoopAddrs : List Nat :=
  (List.range 21).flatMap fun b => ((blockRows ((0x4000 + b) * 0x10000)).filter fun r => r.fields.any fun f => f.acc == .ro || f.acc == .rws).flatMap rowAddrs

/-- The shadow copies are refreshed (R90): no read has an effect. The field die's registers, LNK_HOOP with them (Table 18.7), come
from the latest state frame (R512). -/
def World.snoop (l : LaneId) (w : World) : World :=
  let g := (w.lane l).bg
  let sh := snoopAddrs.foldl (fun m a => sput 0 m a (if a / 0x10000 = 0x400B then fioWordOf g.fio g.fioOwn a else if a = F_LNK_HOOP_STATE.addr then g.fioHoop else w.regWord l none a)) []
  w.updLane l fun L => { L with bg := { L.bg with shadow := sh } }

/-- E11's objects of a port: those done are released, then frames of the samples fill the free ones (R435). -/
def telCan (n : Port) (xs : List Word) (L : Lane) : Lane :=
  let own : List CanObjNo := [28, 29, 30, 31]
  let L := own.foldl (fun L k => if ((L.cn n).objs[k]).st = coDone then (canRelease n k L).1 else L) L
  let m := (L.cn n).mode
  if m = canModeOff ∨ m = canModeListen ∨ m = canModeAuto then L
  else
    let free := own.filter fun k => ((L.cn n).objs[k]).st == coFree
    let fd := L.b (F_CAN_CTRL_FDEN n)
    let lo := L.f (F_CAN_TELBAND_LO n)
    let width := L.f (F_CAN_TELBAND_HI n) + 1 - lo
    (free.take (Config.telCount xs)).zipIdx.foldl (fun L (k, i) =>
      let id := lo + Config.telId xs i % width
      let dlc := Config.telDlc xs i % 16
      let data := (List.range (dlcLen fd dlc)).map (Config.telByte xs i)
      canFill n k (setBits (BitVec.ofNat 32 id) 30 30 fd.toNat) (BitVec.ofNat 32 dlc) data L) L

/-- A sample is taken of the list through the snoop port and sent where TEL_CFG says. -/
def telSample (L : Lane) : Lane :=
  if L.f F_TEL_CFG_PERIOD = 0 then L
  else
    let xs := (List.range (L.f F_TEL_CFG_NREG)).map fun i => sget 0 L.bg.shadow (rget L.regs (A_TEL_LIST i)).toNat
    let n : Port := fin 4 (by decide) (L.f F_TEL_CFG_PORT)
    let L := if L.b F_TEL_CFG_CAN && L.up (.can n) then telCan n xs L else L
    if L.b F_TEL_CFG_PIC && L.up .pic && L.b F_PIC_STAT_JOINED then
      picSend ftTel 0x3F ((List.range (Config.telPicLen xs).val).map (Config.telPicByte xs)) L
    else L

/-! ### SPI and sessions -/

/-- The transfer on SPI_CS1_L ends (R508); one that waits has not begun. -/
def spiDone (rx0 rx1 : Word) (L : Lane) : Lane :=
  if !L.b F_SPI_STAT_BUSY ∨ L.usb.spiWait.isSome then L
  else
    let b := ((wordBytes rx0 ++ wordBytes rx1).take L.usb.spiLen) ++ List.replicate (8 - L.usb.spiLen) 0
    let old := wordBytes (rget L.regs (A_SPI_RX 0)) ++ wordBytes (rget L.regs (A_SPI_RX 1))
    let x := b.take L.usb.spiLen ++ old.drop L.usb.spiLen
    putRegBytes (A_SPI_RX 0) 2 x ((L.s F_SPI_STAT_BUSY 0).s F_SPI_STAT_DONE 1)

/-- The challenge of a session is 30 s old (R456). -/
def chalExpire (n : SessNo) (L : Lane) : Lane := (L.updSess n fun s => { s with pending := false }).s (F_SYS_SESSSTAT_CHALV n.val) 0

/-! ### USB -/

/-- A change of what the USB device needs, in every lane (R476, R477, R522). -/
def World.usbPins (f : Usb → Usb) (w : World) : World :=
  let g := fun (L : Lane) => let L := L.updUsb f; if L.up .usb then usbEval L else L
  (w.updLane .a g).updLane .b g

/-- The lanes in which the device is attached, and session 0 ends with it. -/
def World.usbDrop (f : Usb → Usb) (always : Bool) (w : World) : World :=
  let go := fun (w : World) (l : LaneId) => if always || (w.lane l).b F_USB_STAT_ATTACHED then w.sessEnd l 0 scVbus else w
  (go (go w .a) .b).usbPins f

/-- A packet from the host (R507): queued, or answered NAK; none reaches a device that is not attached. -/
def usbRx (data : Bytes) (L : Lane) : Lane :=
  if !L.b F_USB_STAT_ATTACHED ∨ 4 ≤ L.usb.rx.length then L
  else (usbShow ((L.s F_USB_STAT_CONFIGURED 1).updUsb fun u => { u with rx := u.rx ++ [data] })).event peerUsb (evBit 16)

/-- The host takes the oldest packet. -/
def usbSent (L : Lane) : Lane :=
  if !L.b F_USB_STAT_ATTACHED ∨ L.usb.tx.isEmpty then L
  else (usbShow (L.updUsb fun u => { u with tx := u.tx.drop 1 })).event peerUsb (evBit 17)

/-! ### Meanings -/

/-- SCRUB_REWRITE (R69, R78). -/
def execScrubRewrite (l : LaneId) (newer : Bool) (s : State) : Host.Outcome State Fault Refusal :=
  lift (onBg l 8 fun w => w.updLane l (scrubRewrite newer)) s

/-- SCRUB_SWEEP (R70, R79). -/
def execScrubSweep (l : LaneId) (addr : Nat) (found : EccKind) (done : Bool) (s : State) : Host.Outcome State Fault Refusal :=
  lift (onBg l 8 fun w => w.scrubWord l (addr - addr % 4) found done) s

/-- SCRUB_SWEEP_LATE (R79). -/
def execScrubSweepLate (l : LaneId) (s : State) : Host.Outcome State Fault Refusal :=
  lift (onBg l 8 fun w => w.updLane l fun L => L.s F_SCR_STAT_LATE_S 1) s

/-- FLASH_REFRESH (R80, R81). -/
def execFlashRefresh (l : LaneId) (off : FlashOff) (s : State) : Host.Outcome State Fault Refusal :=
  lift (onBg l 8 fun w => w.updLane l (flashRefresh (0x08000000 + off.val))) s

/-- CAL_UPDATE (R82, R83). -/
def execCalUpdate (l : LaneId) (item : CalItem) (gain : Int) (ofs : Int) (arefOk : Bool) (cycle : Bool) (s : State) : Host.Outcome State Fault Refusal :=
  lift (onBg l 9 fun w => w.updLane l (calUpdate item gain ofs arefOk cycle)) s

/-- WEAR_COMMIT (R85). -/
def execWearCommit (l : LaneId) (s : State) : Host.Outcome State Fault Refusal :=
  lift (onBg l 10 fun w => w.updLane l wearCommit) s

/-- CHANGE_LOG_COMMIT (R464, R465). -/
def execChangeLogCommit (l : LaneId) (s : State) : Host.Outcome State Fault Refusal :=
  lift (onBg l 10 fun w => w.updLane l (clCommit l)) s

/-- EVENT_LOG_COMMIT (R87, R89). -/
def execEventLogCommit (l : LaneId) (s : State) : Host.Outcome State Fault Refusal :=
  lift (onBg l 10 fun w => w.updLane l evCommit) s

/-- TELEMETRY_SAMPLE (R90, R435). -/
def execTelemetrySample (l : LaneId) (s : State) : Host.Outcome State Fault Refusal :=
  lift (onBg l 11 fun w => w.updLane l telSample) s

/-- SNOOP_REFRESH (R90, R512). -/
def execSnoopRefresh (l : LaneId) (s : State) : Host.Outcome State Fault Refusal := lift (onBg l 11 (World.snoop l)) s

/-- NVM_DONE (R505). -/
def execNvmDone (l : LaneId) (r : Region) (good : Bool) (s : State) : Host.Outcome State Fault Refusal :=
  lift (fun w => if (w.lane l).up .nvm then { w.updLane l (nvmDone r good w.freeCtr) with freeCtr := w.freeCtr + 1 } else w) s

/-- SPI_DONE (R508). -/
def execSpiDone (l : LaneId) (rx0 : Word) (rx1 : Word) (s : State) : Host.Outcome State Fault Refusal :=
  lift (onBlock l .spi (spiDone rx0 rx1)) s

/-- SESSION_IDLE_END (R460). -/
def execSessionIdleEnd (l : LaneId) (n : SessNo) (s : State) : Host.Outcome State Fault Refusal :=
  lift (fun w => if (w.lane l).spine then w.sessEnd l n scIdle else w) s

/-- CHALLENGE_EXPIRY (R456). -/
def execChallengeExpiry (l : LaneId) (n : SessNo) (s : State) : Host.Outcome State Fault Refusal :=
  lift (onSpine l (chalExpire n)) s

/-- AUTH_LOCKOUT_EXPIRY (R458). -/
def execAuthLockoutExpiry (l : LaneId) (role : Role) (s : State) : Host.Outcome State Fault Refusal :=
  lift (onSpine l fun L => if role = .none then L else L.updAuth fun a => { a with locked := a.locked.set (roleIx role.num) false }) s

/-- VBUS_FALL (R477). -/
def execVbusFall (s : State) : Host.Outcome State Fault Refusal := lift (World.usbDrop (fun u => { u with vbus := false }) true) s

/-- VBUS_RISE (R477). -/
def execVbusRise (s : State) : Host.Outcome State Fault Refusal := lift (World.usbPins fun u => { u with vbus := true }) s

/-- USB_VLOG_LOW (R522). -/
def execUsbVlogLow (s : State) : Host.Outcome State Fault Refusal := lift (World.usbDrop (fun u => { u with low := true }) false) s

/-- USB_VLOG_OK (R522). -/
def execUsbVlogOk (s : State) : Host.Outcome State Fault Refusal := lift (World.usbPins fun u => { u with low := false }) s

/-- USB_CONNECT_AFTER_GRANT (R463). -/
def execUsbConnectAfterGrant (l : LaneId) (s : State) : Host.Outcome State Fault Refusal :=
  lift (onSpine l fun L => if L.holder then (let L := L.updUsb fun u => { u with wait := false }; if L.up .usb then usbEval L else L) else L) s

/-- USB_PACKET_RX (R507). -/
def execUsbPacketRx (data : Bytes) (s : State) : Host.Outcome State Fault Refusal :=
  lift (World.pads fun l => onBlock l .usb (usbRx (data.take 64))) s

/-- USB_PACKET_SENT (R507). -/
def execUsbPacketSent (l : LaneId) (s : State) : Host.Outcome State Fault Refusal := lift (onBlock l .usb usbSent) s

end Sys2Proof.Machine
end

