-- ==== Sys2Proof/Machine/KeepRegs.lean ====
section
/-!
DEFINITION. Register commands: the commands of the logs, sessions, MEA, NVM, USB and SPI (spec 03, 16, 18). Each is the write its row names, with every check and effect
of a register write (R110).
-/
namespace Sys2Proof.Machine

/-- LOG_PUSH (R504). -/
def execLogPush (l : LaneId) (wr : Writer) (s : State) : Host.Outcome State Fault Refusal :=
  lift (fun w => w.regCmd l wr A_WER_QPUSH 1#32) s

/-- CHAL (R456). -/
def execChal (l : LaneId) (wr : Writer) (n : SessNo) (role : Role) (s : State) : Host.Outcome State Fault Refusal :=
  lift (fun w => w.regCmd l wr (A_SYS_SESSCTL n.val) (BitVec.ofNat 32 (0x10000000 + role.num * 0x1000000))) s

/-- LOGIN (R457). -/
def execLogin (l : LaneId) (wr : Writer) (n : SessNo) (s : State) : Host.Outcome State Fault Refusal :=
  lift (fun w => w.regCmd l wr (A_SYS_SESSCTL n.val) 0x20000000#32) s

/-- LOGOUT (R460). -/
def execLogout (l : LaneId) (wr : Writer) (n : SessNo) (s : State) : Host.Outcome State Fault Refusal :=
  lift (fun w => w.regCmd l wr (A_SYS_SESSCTL n.val) 0x30000000#32) s

/-- KEEP (R460). -/
def execKeep (l : LaneId) (wr : Writer) (n : SessNo) (s : State) : Host.Outcome State Fault Refusal :=
  lift (fun w => w.regCmd l wr (A_SYS_SESSCTL n.val) 0x40000000#32) s

/-- SETCRED (R459). -/
def execSetcred (l : LaneId) (wr : Writer) (role : Role) (s : State) : Host.Outcome State Fault Refusal :=
  lift (fun w => w.regCmd l wr A_SYS_CREDCTL (BitVec.ofNat 32 (0x10000000 + role.num * 0x1000000))) s

/-- DBGCTL_WRITE (R483). -/
def execDbgctlWrite (l : LaneId) (wr : Writer) (en : Bool) (s : State) : Host.Outcome State Fault Refusal :=
  lift (fun w => w.regCmd l wr A_SYS_DBGCTL (BitVec.ofNat 32 (en.toNat * 2 ^ 31))) s

/-- SIGN (R480). -/
def execSign (l : LaneId) (wr : Writer) (nlen : NonceLen) (s : State) : Host.Outcome State Fault Refusal :=
  lift (fun w => w.regCmd l wr A_MEA_CTRL (BitVec.ofNat 32 (0x10000000 + nlen.val * 256))) s

/-- EXTEND (R479). -/
def execExtend (l : LaneId) (wr : Writer) (pcr : PcrNo) (s : State) : Host.Outcome State Fault Refusal :=
  lift (fun w => w.regCmd l wr A_MEA_CTRL (BitVec.ofNat 32 (0x20000000 + pcr.val))) s

/-- NVM_PROGRAM (R505). -/
def execNvmProgram (l : LaneId) (wr : Writer) (r : Region) (s : State) : Host.Outcome State Fault Refusal :=
  lift (fun w => w.regCmd l wr (A_NVM_CMD r.val) 0x10000000#32) s

/-- NVM_ERASE (R505). -/
def execNvmErase (l : LaneId) (wr : Writer) (r : Region) (s : State) : Host.Outcome State Fault Refusal :=
  lift (fun w => w.regCmd l wr (A_NVM_CMD r.val) 0x20000000#32) s

/-- NVM_ADDR_WRITE (R506). -/
def execNvmAddrWrite (l : LaneId) (wr : Writer) (r : Region) (reg : NvmReg) (v : Word) (s : State) : Host.Outcome State Fault Refusal :=
  lift (fun w => w.regCmd l wr ((if reg.val = 0 then A_NVM_ADDR r.val else A_NVM_DATA r.val (reg.val - 1))) v) s

/-- USB_TXPUSH (R507). -/
def execUsbTxpush (l : LaneId) (wr : Writer) (s : State) : Host.Outcome State Fault Refusal :=
  lift (fun w => w.regCmd l wr A_USB_TXPUSH 1#32) s

/-- USB_RXPOP (R507). -/
def execUsbRxpop (l : LaneId) (wr : Writer) (s : State) : Host.Outcome State Fault Refusal :=
  lift (fun w => w.regCmd l wr A_USB_RXPOP 1#32) s

/-- SPI_START (R508). -/
def execSpiStart (l : LaneId) (wr : Writer) (len : SpiLen) (s : State) : Host.Outcome State Fault Refusal :=
  lift (fun w => w.regCmd l wr A_SPI_CTRL (BitVec.ofNat 32 (0x10000000 + len.val))) s

end Sys2Proof.Machine
end

