-- ==== Sys2Proof/Machine/KreviaAlu.lean ====
section
/-!
DEFINITION. The meanings of Krevia's arithmetic, logic, move and accumulator instructions (spec 04, Tables 4.6 to 4.9, 4.12), each the operation of
`KreviaCore` on the registers of the engine that runs it.
-/
namespace Sys2Proof.Machine

/-- ADD. -/
def execAdd (l : LaneId) (e : Eng) (rd : RegNo) (rs : RegNo) (rt : RegNo) (s : State) : Host.Outcome State Fault Refusal :=
  lift (World.kRun l e none (kAlu l e (kAdd rd rs rt))) s

/-- SUB. -/
def execSub (l : LaneId) (e : Eng) (rd : RegNo) (rs : RegNo) (rt : RegNo) (s : State) : Host.Outcome State Fault Refusal :=
  lift (World.kRun l e none (kAlu l e (kSub rd rs rt))) s

/-- ADDU. -/
def execAddu (l : LaneId) (e : Eng) (rd : RegNo) (rs : RegNo) (rt : RegNo) (s : State) : Host.Outcome State Fault Refusal :=
  lift (World.kRun l e none (kAlu l e (kAddu rd rs rt))) s

/-- SUBU. -/
def execSubu (l : LaneId) (e : Eng) (rd : RegNo) (rs : RegNo) (rt : RegNo) (s : State) : Host.Outcome State Fault Refusal :=
  lift (World.kRun l e none (kAlu l e (kSubu rd rs rt))) s

/-- NEG. -/
def execNeg (l : LaneId) (e : Eng) (rd : RegNo) (rs : RegNo) (s : State) : Host.Outcome State Fault Refusal :=
  lift (World.kRun l e none (kAlu l e (kNeg rd rs))) s

/-- ABS. -/
def execAbs (l : LaneId) (e : Eng) (rd : RegNo) (rs : RegNo) (s : State) : Host.Outcome State Fault Refusal :=
  lift (World.kRun l e none (kAlu l e (kAbs rd rs))) s

/-- MUL. -/
def execMul (l : LaneId) (e : Eng) (rd : RegNo) (rs : RegNo) (rt : RegNo) (s : State) : Host.Outcome State Fault Refusal :=
  lift (World.kRun l e none (kAlu l e (kMul rd rs rt))) s

/-- MULH. -/
def execMulh (l : LaneId) (e : Eng) (rd : RegNo) (rs : RegNo) (rt : RegNo) (s : State) : Host.Outcome State Fault Refusal :=
  lift (World.kRun l e none (kAlu l e (kMulh rd rs rt))) s

/-- DIV. -/
def execDiv (l : LaneId) (e : Eng) (rd : RegNo) (rs : RegNo) (rt : RegNo) (s : State) : Host.Outcome State Fault Refusal :=
  lift (World.kRun l e none (kAlu l e (kDiv rd rs rt))) s

/-- REM. -/
def execRem (l : LaneId) (e : Eng) (rd : RegNo) (rs : RegNo) (rt : RegNo) (s : State) : Host.Outcome State Fault Refusal :=
  lift (World.kRun l e none (kAlu l e (kRem rd rs rt))) s

/-- MIN. -/
def execMin (l : LaneId) (e : Eng) (rd : RegNo) (rs : RegNo) (rt : RegNo) (s : State) : Host.Outcome State Fault Refusal :=
  lift (World.kRun l e none (kAlu l e (kMin rd rs rt))) s

/-- MAX. -/
def execMax (l : LaneId) (e : Eng) (rd : RegNo) (rs : RegNo) (rt : RegNo) (s : State) : Host.Outcome State Fault Refusal :=
  lift (World.kRun l e none (kAlu l e (kMax rd rs rt))) s

/-- CLAMP. -/
def execClamp (l : LaneId) (e : Eng) (rd : RegNo) (rs : RegNo) (rt : RegNo) (s : State) : Host.Outcome State Fault Refusal :=
  lift (World.kRun l e none (kAlu l e (kClamp rd rs rt))) s

/-- ADDI. -/
def execAddi (l : LaneId) (e : Eng) (rd : RegNo) (rs : RegNo) (imm : Imm17) (s : State) : Host.Outcome State Fault Refusal :=
  lift (World.kRun l e none (kAlu l e (kAddi rd rs imm))) s

/-- MULI. -/
def execMuli (l : LaneId) (e : Eng) (rd : RegNo) (rs : RegNo) (imm : Imm17) (s : State) : Host.Outcome State Fault Refusal :=
  lift (World.kRun l e none (kAlu l e (kMuli rd rs imm))) s

/-- CMP. -/
def execCmp (l : LaneId) (e : Eng) (rs : RegNo) (rt : RegNo) (s : State) : Host.Outcome State Fault Refusal :=
  lift (World.kRun l e none (kAlu l e (kCmp rs rt))) s

/-- CMPI. -/
def execCmpi (l : LaneId) (e : Eng) (rs : RegNo) (imm : Imm17) (s : State) : Host.Outcome State Fault Refusal :=
  lift (World.kRun l e none (kAlu l e (kCmpi rs imm))) s

/-- ADDM. -/
def execAddm (l : LaneId) (e : Eng) (rd : RegNo) (rs : RegNo) (rt : RegNo) (s : State) : Host.Outcome State Fault Refusal :=
  lift (World.kRun l e none (kAlu l e (kAddm rd rs rt))) s

/-- SUBM. -/
def execSubm (l : LaneId) (e : Eng) (rd : RegNo) (rs : RegNo) (rt : RegNo) (s : State) : Host.Outcome State Fault Refusal :=
  lift (World.kRun l e none (kAlu l e (kSubm rd rs rt))) s

/-- ADDMI. -/
def execAddmi (l : LaneId) (e : Eng) (rd : RegNo) (rs : RegNo) (imm : Imm17) (s : State) : Host.Outcome State Fault Refusal :=
  lift (World.kRun l e none (kAlu l e (kAddmi rd rs imm))) s

/-- MULM. -/
def execMulm (l : LaneId) (e : Eng) (rd : RegNo) (rs : RegNo) (rt : RegNo) (s : State) : Host.Outcome State Fault Refusal :=
  lift (World.kRun l e none (kAlu l e (kMulm rd rs rt))) s

/-- STEPM. -/
def execStepm (l : LaneId) (e : Eng) (rd : RegNo) (rs : RegNo) (rt : RegNo) (s : State) : Host.Outcome State Fault Refusal :=
  lift (World.kRun l e none (kAlu l e (kStepm rd rs rt))) s

/-- AND. -/
def execAnd (l : LaneId) (e : Eng) (rd : RegNo) (rs : RegNo) (rt : RegNo) (s : State) : Host.Outcome State Fault Refusal :=
  lift (World.kRun l e none (kAlu l e (kAnd rd rs rt))) s

/-- OR. -/
def execOr (l : LaneId) (e : Eng) (rd : RegNo) (rs : RegNo) (rt : RegNo) (s : State) : Host.Outcome State Fault Refusal :=
  lift (World.kRun l e none (kAlu l e (kOr rd rs rt))) s

/-- XOR. -/
def execXor (l : LaneId) (e : Eng) (rd : RegNo) (rs : RegNo) (rt : RegNo) (s : State) : Host.Outcome State Fault Refusal :=
  lift (World.kRun l e none (kAlu l e (kXor rd rs rt))) s

/-- ANDI. -/
def execAndi (l : LaneId) (e : Eng) (rd : RegNo) (rs : RegNo) (imm : Imm17) (s : State) : Host.Outcome State Fault Refusal :=
  lift (World.kRun l e none (kAlu l e (kAndi rd rs imm))) s

/-- ORI. -/
def execOri (l : LaneId) (e : Eng) (rd : RegNo) (rs : RegNo) (imm : Imm17) (s : State) : Host.Outcome State Fault Refusal :=
  lift (World.kRun l e none (kAlu l e (kOri rd rs imm))) s

/-- XORI. -/
def execXori (l : LaneId) (e : Eng) (rd : RegNo) (rs : RegNo) (imm : Imm17) (s : State) : Host.Outcome State Fault Refusal :=
  lift (World.kRun l e none (kAlu l e (kXori rd rs imm))) s

/-- SHL. -/
def execShl (l : LaneId) (e : Eng) (rd : RegNo) (rs : RegNo) (n : ShiftBy) (s : State) : Host.Outcome State Fault Refusal :=
  lift (World.kRun l e none (kAlu l e (kShl rd rs n))) s

/-- SHR. -/
def execShr (l : LaneId) (e : Eng) (rd : RegNo) (rs : RegNo) (n : ShiftBy) (s : State) : Host.Outcome State Fault Refusal :=
  lift (World.kRun l e none (kAlu l e (kShr rd rs n))) s

/-- SRA. -/
def execSra (l : LaneId) (e : Eng) (rd : RegNo) (rs : RegNo) (n : ShiftBy) (s : State) : Host.Outcome State Fault Refusal :=
  lift (World.kRun l e none (kAlu l e (kSra rd rs n))) s

/-- SHLS. -/
def execShls (l : LaneId) (e : Eng) (rd : RegNo) (rs : RegNo) (n : ShiftBy) (s : State) : Host.Outcome State Fault Refusal :=
  lift (World.kRun l e none (kAlu l e (kShls rd rs n))) s

/-- ROR. -/
def execRor (l : LaneId) (e : Eng) (rd : RegNo) (rs : RegNo) (n : ShiftBy) (s : State) : Host.Outcome State Fault Refusal :=
  lift (World.kRun l e none (kAlu l e (kRor rd rs n))) s

/-- CLZ. -/
def execClz (l : LaneId) (e : Eng) (rd : RegNo) (rs : RegNo) (s : State) : Host.Outcome State Fault Refusal :=
  lift (World.kRun l e none (kAlu l e (kClz rd rs))) s

/-- POPC. -/
def execPopc (l : LaneId) (e : Eng) (rd : RegNo) (rs : RegNo) (s : State) : Host.Outcome State Fault Refusal :=
  lift (World.kRun l e none (kAlu l e (kPopc rd rs))) s

/-- BFX. -/
def execBfx (l : LaneId) (e : Eng) (rd : RegNo) (rs : RegNo) (pos : Nat) (len : Nat) (s : State) : Host.Outcome State Fault Refusal :=
  lift (World.kRun l e (kNeed (fieldLegal pos len)) (kAlu l e (kBfx rd rs pos len))) s

/-- BFI. -/
def execBfi (l : LaneId) (e : Eng) (rd : RegNo) (rs : RegNo) (pos : Nat) (len : Nat) (s : State) : Host.Outcome State Fault Refusal :=
  lift (World.kRun l e (kNeed (fieldLegal pos len)) (kAlu l e (kBfi rd rs pos len))) s

/-- SEXT. -/
def execSext (l : LaneId) (e : Eng) (rd : RegNo) (rs : RegNo) (b : Nat) (s : State) : Host.Outcome State Fault Refusal :=
  lift (World.kRun l e (if b < 32 then none else some xsBits) (kAlu l e (kSext rd rs b))) s

/-- CRC. -/
def execCrc (l : LaneId) (e : Eng) (rd : RegNo) (rs : RegNo) (s : State) : Host.Outcome State Fault Refusal :=
  lift (World.kRun l e none (kAlu l e (kCrc rd rs))) s

/-- MOV. -/
def execMov (l : LaneId) (e : Eng) (rd : RegNo) (rs : RegNo) (s : State) : Host.Outcome State Fault Refusal :=
  lift (World.kRun l e none (kAlu l e (kMov rd rs))) s

/-- MOVI. -/
def execMovi (l : LaneId) (e : Eng) (rd : RegNo) (imm : Imm17) (s : State) : Host.Outcome State Fault Refusal :=
  lift (World.kRun l e none (kAlu l e (kMovi rd imm))) s

/-- MOVHI. -/
def execMovhi (l : LaneId) (e : Eng) (rd : RegNo) (imm : Imm16) (s : State) : Host.Outcome State Fault Refusal :=
  lift (World.kRun l e none (kAlu l e (kMovhi rd imm))) s

/-- SEL. -/
def execSel (l : LaneId) (e : Eng) (rd : RegNo) (rs : RegNo) (rt : RegNo) (cond : Nat) (s : State) : Host.Outcome State Fault Refusal :=
  lift (World.kRun l e (kNeed (condLegal cond)) (kAlu l e (kSel rd rs rt cond))) s

/-- MAC. -/
def execMac (l : LaneId) (e : Eng) (ad : AccNo) (rs : RegNo) (rt : RegNo) (sh : ShAmt) (s : State) : Host.Outcome State Fault Refusal :=
  lift (World.kRun l e none (kAlu l e (kMac ad rs rt sh))) s

/-- MSU. -/
def execMsu (l : LaneId) (e : Eng) (ad : AccNo) (rs : RegNo) (rt : RegNo) (sh : ShAmt) (s : State) : Host.Outcome State Fault Refusal :=
  lift (World.kRun l e none (kAlu l e (kMsu ad rs rt sh))) s

/-- MULA. -/
def execMula (l : LaneId) (e : Eng) (ad : AccNo) (rs : RegNo) (rt : RegNo) (sh : ShAmt) (s : State) : Host.Outcome State Fault Refusal :=
  lift (World.kRun l e none (kAlu l e (kMula ad rs rt sh))) s

/-- LDA. -/
def execLda (l : LaneId) (e : Eng) (ad : AccNo) (rs : RegNo) (sh : ShAmt) (raw : Bool) (s : State) : Host.Outcome State Fault Refusal :=
  lift (World.kRun l e (kNeed (rawLegal sh raw)) (kAlu l e (kLda ad rs sh raw))) s

/-- LDAH. -/
def execLdah (l : LaneId) (e : Eng) (ad : AccNo) (rs : RegNo) (s : State) : Host.Outcome State Fault Refusal :=
  lift (World.kRun l e none (kAlu l e (kLdah ad rs))) s

/-- RDA. -/
def execRda (l : LaneId) (e : Eng) (rd : RegNo) (ad : AccNo) (sh : ShAmt) (raw : Bool) (s : State) : Host.Outcome State Fault Refusal :=
  lift (World.kRun l e (kNeed (rawLegal sh raw)) (kAlu l e (kRda rd ad sh raw))) s

/-- RDAH. -/
def execRdah (l : LaneId) (e : Eng) (rd : RegNo) (ad : AccNo) (s : State) : Host.Outcome State Fault Refusal :=
  lift (World.kRun l e none (kAlu l e (kRdah rd ad))) s

/-- ADDA. -/
def execAdda (l : LaneId) (e : Eng) (ad : AccNo) (ae : AccNo) (s : State) : Host.Outcome State Fault Refusal :=
  lift (World.kRun l e none (kAlu l e (kAdda ad ae))) s

/-- SHRA. -/
def execShra (l : LaneId) (e : Eng) (ad : AccNo) (sh : ShAmt) (s : State) : Host.Outcome State Fault Refusal :=
  lift (World.kRun l e none (kAlu l e (kShra ad sh))) s

/-- CLRA. -/
def execClra (l : LaneId) (e : Eng) (ad : AccNo) (s : State) : Host.Outcome State Fault Refusal :=
  lift (World.kRun l e none (kAlu l e (kClra ad))) s

end Sys2Proof.Machine
end

