-- ==== Sys2Proof/Machine/KreviaFlow.lean ====
section
/-!
DEFINITION. Krevia's branches, LOOP, ERET and the control registers (spec 04, Tables 4.2, 4.3, 4.13; R91 to R93, R98).
-/
namespace Sys2Proof.Machine

/-- The pc of an engine. -/
def World.pc (w : World) (l : LaneId) (e : Eng) : Word := (w.lane l).eng[e].pc

/-- A branch taken or not. -/
def kBranch (l : LaneId) (e : Eng) (taken : KCore → Bool) (o : Off17) (w : World) : KRes KNext :=
  if taken (w.core l e) then .ok w (.goto (target17 (w.pc l e) o)) else .ok w .next

/-- A jump to a register, the link written first where asked; a misaligned target raises ALIGN (R98). -/
def kJump (l : LaneId) (e : Eng) (rs : RegNo) (link : Bool) (w : World) : KRes KNext :=
  let t := (w.core l e).get rs
  if t.toNat % 4 ≠ 0 then .exc w xAlign xsTarget t.toNat
  else .ok (if link then w.kPut l e 15 (w.pc l e + 4) else w) (.goto t)

/-- B and BL. -/
def kFar (l : LaneId) (e : Eng) (o : Off25) (link : Bool) (w : World) : KRes KNext :=
  .ok (if link then w.kPut l e 15 (w.pc l e + 4) else w) (.goto (target25 (w.pc l e) o))

/-- LOOP. -/
def kLoop (l : LaneId) (e : Eng) (ws : RegNo) (o : Off17) (w : World) : KRes KNext :=
  let n := (w.core l e).get ws
  if n = 0 then .ok w .next
  else .ok (w.kPut l e ws (n - 1)) (if n - 1 ≠ 0 then .goto (target17 (w.pc l e) o) else .next)

/-- ERET: outside an exception it is illegal; KSR comes back from KESR, and EXC falls. -/
def kEret (l : LaneId) (e : Eng) (w : World) : KRes KNext :=
  if !(w.core l e).flag ksrExc then .exc w xIllegal xsEret 0
  else
    let g := (w.lane l).eng[e]
    .ok (w.kCore l e fun c => { c with ksr := g.kesr &&& 0x70F#32 }) (.goto g.kepc)

/-! ### Control registers -/

/-- What MFK reads (Table 4.2). -/
def kCtl (l : LaneId) (e : Eng) (k : Nat) (L : Lane) : Word :=
  let g := L.eng[e]
  match k with
  | 0 => g.core.ksr
  | 1 => g.kepc
  | 2 => g.kesr
  | 3 => g.kcause
  | 4 => g.keaddr
  | 5 => g.kvbr
  | 6 => BitVec.ofNat 32 (e.val + 256 * l.num)
  | 7 => BitVec.ofNat 32 g.krole.num
  | 8 => BitVec.ofNat 32 g.klast
  | 9 => BitVec.ofNat 32 g.ktper
  | 10 => BitVec.ofNat 32 L.gtime
  | _ => BitVec.ofNat 32 g.ktimeh

/-- MFK; a read of KTIME latches the rest of group time into KTIMEH. -/
def kMfk (l : LaneId) (e : Eng) (r : RegNo) (k : Nat) (w : World) : KRes KNext :=
  let L := w.lane l
  let v := kCtl l e k L
  let w := if k = 10 then w.kUpd l e fun g => { g with ktimeh := L.gtime / 2 ^ 32 % 2 ^ 16 } else w
  .ok (w.kPut l e r v) .next

/-- KSR as MTK leaves it (R93): flags written, sticky bits cleared by 1, EXC kept. -/
def ksrWrite (old v : Word) : Word := (v &&& 0xF#32) ||| (old &&& ~~~ v &&& 0x700#32) ||| (old &&& 0x10000#32)

/-- KTPER written (R93): at most 1000000; at 0 the timer's endpoint is disabled and its words go (R105). -/
def ktperWrite (v : Word) (g : Engine) : Engine :=
  let n := v.toNat
  let g := { g with ktper := min n 1000000, core := g.core.stick ksrSat (decide (1000000 < n)) }
  if n = 0 then { g with ep := g.ep.set 63 {} } else g

/-- MTK; a lowered KROLE that reaches NONE ends the engine's session (R460). -/
def kMtk (l : LaneId) (e : Eng) (k : Nat) (r : RegNo) (w : World) : KRes KNext :=
  let v := (w.core l e).get r
  let up := fun f => .ok (w.kUpd l e f) .next
  match k with
  | 0 => up fun g => { g with core := { g.core with ksr := ksrWrite g.core.ksr v } }
  | 1 => up fun g => { g with kepc := v }
  | 2 => up fun g => { g with kesr := v }
  | 5 => up fun g => { g with kvbr := v &&& ~~~ 0xFF#32 }
  | 7 =>
    let was := (w.lane l).eng[e].krole
    let n := bits v 1 0
    if n < was.num then
      let w := w.kUpd l e fun g => { g with krole := Role.ofNum n }
      .ok (if n = 0 then w.sessEndEng l e scLowered else w) .next
    else .ok w .next
  | _ => .ok ((w.kUpd l e (ktperWrite v)).updLane l fun L => if v = 0 then { L with tick := L.tick.set e 0 } else L) .next

/-! ### Meanings -/

/-- B. -/
def execB (l : LaneId) (e : Eng) (off : Off25) (s : State) : Host.Outcome State Fault Refusal :=
  lift (World.kRun l e none (kFar l e off false)) s

/-- BL. -/
def execBl (l : LaneId) (e : Eng) (off : Off25) (s : State) : Host.Outcome State Fault Refusal :=
  lift (World.kRun l e none (kFar l e off true)) s

/-- BR. -/
def execBr (l : LaneId) (e : Eng) (rs : RegNo) (s : State) : Host.Outcome State Fault Refusal :=
  lift (World.kRun l e none (kJump l e rs false)) s

/-- BLR. -/
def execBlr (l : LaneId) (e : Eng) (rs : RegNo) (s : State) : Host.Outcome State Fault Refusal :=
  lift (World.kRun l e none (kJump l e rs true)) s

/-- BEQ. -/
def execBeq (l : LaneId) (e : Eng) (rs : RegNo) (rt : RegNo) (off : Off17) (s : State) : Host.Outcome State Fault Refusal :=
  lift (World.kRun l e none (kBranch l e (fun c => c.get rs == c.get rt) off)) s

/-- BNE. -/
def execBne (l : LaneId) (e : Eng) (rs : RegNo) (rt : RegNo) (off : Off17) (s : State) : Host.Outcome State Fault Refusal :=
  lift (World.kRun l e none (kBranch l e (fun c => c.get rs != c.get rt) off)) s

/-- BLT. -/
def execBlt (l : LaneId) (e : Eng) (rs : RegNo) (rt : RegNo) (off : Off17) (s : State) : Host.Outcome State Fault Refusal :=
  lift (World.kRun l e none (kBranch l e (fun c => (c.get rs).slt (c.get rt)) off)) s

/-- BGE. -/
def execBge (l : LaneId) (e : Eng) (rs : RegNo) (rt : RegNo) (off : Off17) (s : State) : Host.Outcome State Fault Refusal :=
  lift (World.kRun l e none (kBranch l e (fun c => !(c.get rs).slt (c.get rt)) off)) s

/-- BLTU. -/
def execBltu (l : LaneId) (e : Eng) (rs : RegNo) (rt : RegNo) (off : Off17) (s : State) : Host.Outcome State Fault Refusal :=
  lift (World.kRun l e none (kBranch l e (fun c => (c.get rs).ult (c.get rt)) off)) s

/-- BGEU. -/
def execBgeu (l : LaneId) (e : Eng) (rs : RegNo) (rt : RegNo) (off : Off17) (s : State) : Host.Outcome State Fault Refusal :=
  lift (World.kRun l e none (kBranch l e (fun c => !(c.get rs).ult (c.get rt)) off)) s

/-- BCC. -/
def execBcc (l : LaneId) (e : Eng) (cond : Nat) (off : Off17) (s : State) : Host.Outcome State Fault Refusal :=
  lift (World.kRun l e (kNeed (condLegal cond)) (kBranch l e (fun c => c.cond cond) off)) s

/-- LOOP. -/
def execLoop (l : LaneId) (e : Eng) (ws : RegNo) (off : Off17) (s : State) : Host.Outcome State Fault Refusal :=
  lift (World.kRun l e none (kLoop l e ws off)) s

/-- ERET. -/
def execEret (l : LaneId) (e : Eng) (s : State) : Host.Outcome State Fault Refusal :=
  lift (World.kRun l e none (kEret l e)) s

/-- MFK. -/
def execMfk (l : LaneId) (e : Eng) (w : RegNo) (k : Nat) (s : State) : Host.Outcome State Fault Refusal :=
  lift (World.kRun l e (kNeed (mfkLegal k)) (kMfk l e w k)) s

/-- MTK. -/
def execMtk (l : LaneId) (e : Eng) (k : Nat) (w : RegNo) (s : State) : Host.Outcome State Fault Refusal :=
  lift (World.kRun l e (kNeed (mtkLegal k)) (kMtk l e k w)) s

end Sys2Proof.Machine
end

