-- ==== Sys2Proof/Machine/KreviaMem.lean ====
section
/-!
DEFINITION. Krevia's loads, stores, block moves, atomic and table instructions (spec 04, Tables 4.10, 4.11, 4.16; R98 to R104).
-/
namespace Sys2Proof.Machine

/-! ### Loads and stores -/

/-- The address rs + imm. -/
def World.kAddr (w : World) (l : LaneId) (e : Eng) (rs : RegNo) (i : Imm17) : Nat := (w.core l e).addrOf rs i

/-- LDW. -/
def kLdw (l : LaneId) (e : Eng) (rd rs : RegNo) (i : Imm17) (ecc : Ecc) (w : World) : KRes KNext :=
  (w.kLoad l e (eccAt ecc 0) (w.kAddr l e rs i)).bind fun w v => .ok (w.kPut l e rd v) .next

/-- LDH, LDHU, LDB and LDBU: n bytes, sign-extended or not. -/
def kLdPart (l : LaneId) (e : Eng) (n : Nat) (sign : Bool) (rd rs : RegNo) (i : Imm17) (ecc : Ecc) (w : World) : KRes KNext :=
  (w.kLoadPart l e (eccAt ecc 0) n (w.kAddr l e rs i)).bind fun w v =>
    .ok (w.kPut l e rd (if sign then wOf (signed (8 * n) v) else BitVec.ofNat 32 v)) .next

/-- STW. -/
def kStw (l : LaneId) (e : Eng) (rd rs : RegNo) (i : Imm17) (w : World) : KRes KNext :=
  (w.kStore l e (w.kAddr l e rs i) ((w.core l e).get rd)).bind fun w _ => .ok w .next

/-- STH and STB. -/
def kStPart (l : LaneId) (e : Eng) (n : Nat) (rd rs : RegNo) (i : Imm17) (ecc : Ecc) (w : World) : KRes KNext :=
  (w.kStorePart l e (eccAt ecc 0) n (w.kAddr l e rs i) (bits ((w.core l e).get rd) (8 * n - 1) 0)).bind fun w _ => .ok w .next

/-! ### PUSHM and POPM (R100, R102) -/

/-- The address `k` words from w14, up or down, modulo 2³². -/
def spAt (sp : Word) (k : Int) : Nat := (sp + wOf (4 * k)).toNat

/-- The first address of a transfer that R64 does not allow. -/
def spBad (e : Eng) (write : Bool) (as : List Nat) : Option Nat :=
  as.find? fun a => match kRegion e a with
    | .none => true
    | .rom | .flash => write
    | .reg => (rowOf a).isNone
    | _ => false

/-- Registers stored at the addresses beside them. -/
def kPushAll (l : LaneId) (e : Eng) : List (Nat × Word) → World → KRes Unit
  | [], w => .ok w ()
  | (a, v) :: r, w => (w.kStore l e a v).bind fun w _ => kPushAll l e r w

/-- PUSHM: the highest register at w14 − 4, and down. -/
def kPushm (l : LaneId) (e : Eng) (mask : Imm16) (w : World) : KRes KNext :=
  let c := w.core l e
  let sp := c.get 14
  let rs := (maskRegs mask).reverse
  let cells := rs.zipIdx.map fun p => (spAt sp (-1 - (p.2 : Int)), c.get p.1)
  if rs = [] then .ok w .next
  else if sp.toNat % 4 ≠ 0 then .exc w xAlign xsData (spAt sp (-1))
  else match spBad e true (cells.map (·.1)) with
    | some a => .exc w xFetch (if kRegion e a = .reg then xsUnpopulated else xsRights) a
    | none => (kPushAll l e cells w).bind fun w _ => .ok (w.kPut l e 14 (sp - BitVec.ofNat 32 (4 * rs.length))) .next

/-- Registers loaded from the addresses beside them; their values, in order. -/
def kPopAll (l : LaneId) (e : Eng) (ecc : Ecc) : Nat → List Nat → World → KRes (List Word)
  | _, [], w => .ok w []
  | k, a :: r, w => (w.kLoad l e (eccAt ecc k) a).bind fun w v => (kPopAll l e ecc (k + 1) r w).bind fun w vs => .ok w (v :: vs)

/-- POPM: the reverse of PUSHM, the lowest register from w14, and up. -/
def kPopm (l : LaneId) (e : Eng) (mask : Imm16) (ecc : Ecc) (w : World) : KRes KNext :=
  let sp := (w.core l e).get 14
  let rs := maskRegs mask
  let as := rs.zipIdx.map fun p => spAt sp p.2
  if rs = [] then .ok w .next
  else if sp.toNat % 4 ≠ 0 then .exc w xAlign xsData sp.toNat
  else match spBad e false as with
    | some a => .exc w xFetch (if kRegion e a = .reg then xsUnpopulated else xsRights) a
    | none => (kPopAll l e ecc 0 as w).bind fun w vs =>
      let w := w.kCore l e fun c => (rs.zip vs).foldl (fun c p => c.put p.1 p.2) c
      .ok (w.kPut l e 14 (sp + BitVec.ofNat 32 (4 * rs.length))) .next

/-! ### XCHG and CAS (R103) -/

/-- An atomic read and, where the value read calls for it, write: local or shared table SRAM alone. E8 to E11 aim at the shared table SRAM without the
right to it (R64): RIGHTS (DEDUCED, log 158). -/
def kAtomic (l : LaneId) (e : Eng) (ecc : Ecc) (x : Nat) (new : Word → Option Word) (w : World) : KRes Word :=
  let w := w.updLane l (sbDrain e)
  if x % 4 ≠ 0 then .exc w xAlign xsData x
  else
    let r := kRegion e x
    if r = .none ∧ tsBase ≤ x ∧ x < tsBase + 0x180000 then .exc w xFetch xsRights x
    else if r ≠ .own ∧ r ≠ .table then .exc w xFetch xsNotAtomic x
    else
      let L := w.lane l
      let refused := if r = .table ∧ (new (L.ts (x - tsBase))).isSome then L.tsRefuses x else none
      match refused with
      | some sub => .exc w xFetch sub x
      | none => (w.kMemWord l e (eccAt ecc 0) x).bind fun w old =>
        match new old with
        | none => .ok w old
        | some v => .ok (w.updLane l (if r = .own then ownPut e x v else tsStore x v)) old

/-- XCHG. -/
def kXchg (l : LaneId) (e : Eng) (rd rs : RegNo) (ecc : Ecc) (w : World) : KRes KNext :=
  let c := w.core l e
  (kAtomic l e ecc (c.getn rs) (fun _ => some (c.get rd)) w).bind fun w old => .ok (w.kPut l e rd old) .next

/-- CAS: Z tells whether it swapped. -/
def kCas (l : LaneId) (e : Eng) (rd rs rt : RegNo) (ecc : Ecc) (w : World) : KRes KNext :=
  let c := w.core l e
  (kAtomic l e ecc (c.getn rt) (fun old => if old = c.get rd then some (c.get rs) else none) w).bind fun w old =>
    .ok (w.kCore l e fun x => (x.put rd old).setFlag ksrZ (old == c.get rd)) .next

/-! ### COPY and FILL (R100, R101) -/

/-- What a load or a store of an aligned word meets of FETCH_ERROR: its sub-cause (R64, R66, R109). -/
def World.fetchBad (l : LaneId) (e : Eng) (store : Bool) (x : Nat) (w : World) : Option Nat :=
  match kRegion e x with
  | .own => none
  | .table => if store then (w.lane l).tsRefuses x else none
  | .reg => if (rowOf x).isNone then some xsUnpopulated else if store && decide (e.val = 11) && !ownKeep e x then some xsRights else none
  | .rom | .flash => if store then some xsRights else none
  | .none => some xsRights

/-- The first cause of Table 4.19 a word of COPY meets before it is read (R114): an address out of line, then one that is not allowed. -/
def World.copyBad (l : LaneId) (e : Eng) (d s : Nat) (w : World) : Option (Nat × Nat × Nat) :=
  if s % 4 ≠ 0 then some (xAlign, xsData, s)
  else if d % 4 ≠ 0 then some (xAlign, xsData, d)
  else match w.fetchBad l e false s with
    | some sub => some (xFetch, sub, s)
    | none => (w.fetchBad l e true d).map fun sub => (xFetch, sub, d)

/-- n words copied from s to d, the k-th and on; the three registers follow word by word. -/
def kCopyLoop (l : LaneId) (e : Eng) (rd rs rt : RegNo) (ecc : Ecc) : Nat → Nat → Word → Word → World → KRes Unit
  | 0, _, _, _, w => .ok w ()
  | n + 1, k, d, s, w =>
    match w.copyBad l e d.toNat s.toNat with
    | some (c, sub, x) => .exc w c sub x
    | none =>
      (w.kLoad l e (eccAt ecc k) s.toNat).bind fun w v =>
        (w.kStore l e d.toNat v).bind fun w _ =>
          kCopyLoop l e rd rs rt ecc n (k + 1) (d + 4) (s + 4)
            (w.kCore l e fun c => ((c.put rd (d + 4)).put rs (s + 4)).put rt (BitVec.ofNat 32 n))

/-- COPY. -/
def kCopy (l : LaneId) (e : Eng) (rd rs rt : RegNo) (ecc : Ecc) (w : World) : KRes KNext :=
  let c := w.core l e
  let n := c.getn rt
  if n = 0 then .ok w .next
  else if 65535 < n ∨ (c.getn rs < c.getn rd ∧ c.getn rd < c.getn rs + 4 * n) then .ok (w.kCore l e fun c => c.setFlag ksrV true) .next
  else (kCopyLoop l e rd rs rt ecc n 0 (c.get rd) (c.get rs) w).bind fun w _ => .ok (w.kCore l e fun c => c.setFlag ksrV false) .next

/-- n words of a value from d up; the address and the count follow word by word. -/
def kFillLoop (l : LaneId) (e : Eng) (rd rt : RegNo) (v : Word) : Nat → Word → World → KRes Unit
  | 0, _, w => .ok w ()
  | n + 1, d, w =>
    (w.kStore l e d.toNat v).bind fun w _ =>
      kFillLoop l e rd rt v n (d + 4) (w.kCore l e fun c => (c.put rd (d + 4)).put rt (BitVec.ofNat 32 n))

/-- FILL. -/
def kFill (l : LaneId) (e : Eng) (rd rs rt : RegNo) (w : World) : KRes KNext :=
  let c := w.core l e
  let n := c.getn rt
  if n = 0 then .ok w .next
  else if 65535 < n then .ok (w.kCore l e fun c => c.setFlag ksrV true) .next
  else (kFillLoop l e rd rt (c.get rs) n (c.get rd) w).bind fun w _ => .ok (w.kCore l e fun c => c.setFlag ksrV false) .next

/-! ### Tables (Table 4.16, R104) -/

/-- A table descriptor. -/
structure TableDesc where
  base : Nat
  count : Nat
  size : Nat
  keyoff : Nat
  mask : Word
  ok : Bool
deriving DecidableEq, Repr

/-- A descriptor from its words, and whether it keeps the limits of Table 4.16. -/
def tableDesc (w0 w1 w2 w3 : Word) : TableDesc :=
  let size := bits w1 15 0
  let keyoff := bits w2 31 16
  { base := w0.toNat, count := bits w1 31 16, size := size, keyoff := keyoff, mask := w3
    ok := decide (w0.toNat % 4 = 0) && decide (4 ≤ size) && decide (size ≤ 1024) && decide (size % 4 = 0) &&
      decide (keyoff % 4 = 0) && decide (keyoff < size) && decide (bits w2 15 0 = 0) }

/-- The descriptor at an address: the first four reads of a table instruction. -/
def World.kDesc (l : LaneId) (e : Eng) (ecc : Ecc) (p : Word) (w : World) : KRes TableDesc :=
  (w.kLoad l e (eccAt ecc 0) p.toNat).bind fun w w0 =>
    (w.kLoad l e (eccAt ecc 1) (p.toNat + 4)).bind fun w w1 =>
      (w.kLoad l e (eccAt ecc 2) (p.toNat + 8)).bind fun w w2 =>
        (w.kLoad l e (eccAt ecc 3) (p.toNat + 12)).bind fun w w3 => .ok w (tableDesc w0 w1 w2 w3)

/-- The result and the flags of a table instruction: rd, then Z, C and V. -/
def World.kTable (l : LaneId) (e : Eng) (rd : RegNo) (v : Word) (z cc bad : Bool) (w : World) : KRes KNext :=
  .ok (w.kCore l e fun c => (c.put rd v).flagsTable z cc bad) .next

/-- The address of a word `off` bytes into entry i, exact: it does not wrap (R95). -/
def TableDesc.at_ (d : TableDesc) (i off : Nat) : Nat := d.base + i * d.size + off

/-- The masked key of entry i. -/
def World.kKey (l : LaneId) (e : Eng) (ecc : Ecc) (k : Nat) (d : TableDesc) (i : Nat) (w : World) : KRes Word :=
  (w.kLoad l e (eccAt ecc k) (d.at_ i d.keyoff)).bind fun w v => .ok w (v &&& d.mask)

/-- The word of an entry's address; one that 32 bits do not hold is a value no rule states (log 158). -/
def tidxWord (a : Nat) : Word := if a < 2 ^ 32 then BitVec.ofNat 32 a else Config.tidxOver a

/-- TIDX: never wrapped at or beyond COUNT. -/
def kTidx (l : LaneId) (e : Eng) (rd rs rt : RegNo) (ecc : Ecc) (w : World) : KRes KNext :=
  let c := w.core l e
  (w.kDesc l e ecc (c.get rt)).bind fun w d =>
    if !d.ok then w.kTable l e rd 0 false true true
    else if d.count ≤ c.getn rs then w.kTable l e rd 0 false true false
    else w.kTable l e rd (tidxWord (d.at_ (c.getn rs) 0)) false false false

/-- A lower bound between lo and hi: the first entry not below the key, by a read and a comparison of entries; n probes at most. -/
def kBound (read : Nat → Nat → World → KRes Word) (below : Word → Bool) : Nat → Nat → Nat → Nat → World → KRes Nat
  | 0, _, lo, _, w => .ok w lo
  | n + 1, k, lo, hi, w =>
    if hi ≤ lo then .ok w lo
    else
      let mid := (lo + hi) / 2
      (read k mid w).bind fun w x => if below x then kBound read below n (k + 1) (mid + 1) hi w else kBound read below n (k + 1) lo mid w

/-- TSRCH: at most ceil(log2(COUNT + 1)) probes, 17 bounding them. With COUNT 0 it is the no-op of R100, or what the pseudocode of R104 does: the
manual says both, and which one is free (log 10). -/
def kTsrch (l : LaneId) (e : Eng) (rd rs rt : RegNo) (ecc : Ecc) (w : World) : KRes KNext :=
  let c := w.core l e
  (w.kDesc l e ecc (c.get rt)).bind fun w d =>
    if !d.ok then w.kTable l e rd (BitVec.ofNat 32 d.count) false true true
    else if d.count = 0 ∧ Config.tsrchNoop = true then .ok w .next
    else
      let key := c.get rs &&& d.mask
      (kBound (fun k i w => w.kKey l e ecc k d i) (fun x => decide (x < key)) 17 4 0 d.count w).bind fun w lo =>
        if d.count ≤ lo then w.kTable l e rd (BitVec.ofNat 32 lo) false true false
        else (w.kKey l e ecc 21 d lo).bind fun w x => w.kTable l e rd (BitVec.ofNat 32 lo) (x == key) false false

/-- Entries from i on, n of them, until one has the key; rd follows (R101). -/
def kScanLoop (l : LaneId) (e : Eng) (ecc : Ecc) (rd : RegNo) (d : TableDesc) (key : Word) : Nat → Nat → Nat → World → KRes Bool
  | 0, _, _, w => .ok w false
  | n + 1, k, i, w =>
    let w := w.kPut l e rd (BitVec.ofNat 32 i)
    (w.kKey l e ecc k d i).bind fun w x => if x = key then .ok w true else kScanLoop l e ecc rd d key n (k + 1) (i + 1) w

/-- TSCAN; a table of no entries makes it a no-op (R100). -/
def kTscan (l : LaneId) (e : Eng) (rd rs rt : RegNo) (ecc : Ecc) (w : World) : KRes KNext :=
  let c := w.core l e
  (w.kDesc l e ecc (c.get rt)).bind fun w d =>
    if !d.ok then w.kTable l e rd (BitVec.ofNat 32 d.count) false true true
    else if d.count = 0 then .ok w .next
    else (kScanLoop l e ecc rd d (c.get rs &&& d.mask) (d.count - c.getn rd) 4 (c.getn rd) w).bind fun w found =>
      if found then .ok (w.kCore l e fun c => c.flagsTable true false false) .next
      else w.kTable l e rd (BitVec.ofNat 32 d.count) false true false

/-- The interpolation of TINT between two breakpoints (R95, R97): the value, and whether it was clamped. -/
def tintAt (x x0 y0 x1 y1 : Int) : Int × Bool :=
  let y := rdiv (y0 * (x1 - x0) + (y1 - y0) * (x - x0)) (x1 - x0)
  (satS 32 y, satS 32 y != y)

/-- TINT: signed Q16.16 breakpoints of 8 bytes. Where rs is a breakpoint, that breakpoint ends the bracket: its y is returned with Z, and no pair is
judged (DESIGN CHOICE, log 144). -/
def kTint (l : LaneId) (e : Eng) (rd rs rt : RegNo) (ecc : Ecc) (w : World) : KRes KNext :=
  let c := w.core l e
  let key := c.get rs
  (w.kDesc l e ecc (c.get rt)).bind fun w d =>
    let word := fun (k i off : Nat) (w : World) => w.kLoad l e (eccAt ecc k) (d.base + 8 * i + off)
    if !d.ok then w.kTable l e rd 0 false true true
    else if d.count = 0 then w.kTable l e rd (Config.tintEmpty key) false true false
    else
      (kBound (fun k i w => word k i 0 w) (fun x => x.slt key) 17 4 0 d.count w).bind fun w i =>
        if d.count ≤ i then (word 21 (d.count - 1) 4 w).bind fun w y => w.kTable l e rd y false true false
        else (word 21 i 0 w).bind fun w x1 => (word 22 i 4 w).bind fun w y1 =>
          if x1 = key then w.kTable l e rd y1 true false false
          else if i = 0 then w.kTable l e rd y1 false true false
          else (word 23 (i - 1) 0 w).bind fun w x0 => (word 24 (i - 1) 4 w).bind fun w y0 =>
            if x1.toInt ≤ x0.toInt then w.kTable l e rd y0 false false true
            else
              let y := tintAt key.toInt x0.toInt y0.toInt x1.toInt y1.toInt
              (w.kCore l e fun c => c.stick ksrSat y.2).kTable l e rd (wOf y.1) false false y.2

/-- FENCE. -/
def kFence (l : LaneId) (e : Eng) (w : World) : KRes KNext := .ok (w.updLane l (sbDrain e)) .next

/-! ### Meanings -/

/-- LDW. -/
def execLdw (l : LaneId) (e : Eng) (rd : RegNo) (rs : RegNo) (imm : Imm17) (ecc : Ecc) (s : State) : Host.Outcome State Fault Refusal :=
  lift (World.kRun l e none (kLdw l e rd rs imm ecc)) s

/-- LDH. -/
def execLdh (l : LaneId) (e : Eng) (rd : RegNo) (rs : RegNo) (imm : Imm17) (ecc : Ecc) (s : State) : Host.Outcome State Fault Refusal :=
  lift (World.kRun l e none (kLdPart l e 2 true rd rs imm ecc)) s

/-- LDHU. -/
def execLdhu (l : LaneId) (e : Eng) (rd : RegNo) (rs : RegNo) (imm : Imm17) (ecc : Ecc) (s : State) : Host.Outcome State Fault Refusal :=
  lift (World.kRun l e none (kLdPart l e 2 false rd rs imm ecc)) s

/-- LDB. -/
def execLdb (l : LaneId) (e : Eng) (rd : RegNo) (rs : RegNo) (imm : Imm17) (ecc : Ecc) (s : State) : Host.Outcome State Fault Refusal :=
  lift (World.kRun l e none (kLdPart l e 1 true rd rs imm ecc)) s

/-- LDBU. -/
def execLdbu (l : LaneId) (e : Eng) (rd : RegNo) (rs : RegNo) (imm : Imm17) (ecc : Ecc) (s : State) : Host.Outcome State Fault Refusal :=
  lift (World.kRun l e none (kLdPart l e 1 false rd rs imm ecc)) s

/-- STW. -/
def execStw (l : LaneId) (e : Eng) (rd : RegNo) (rs : RegNo) (imm : Imm17) (s : State) : Host.Outcome State Fault Refusal :=
  lift (World.kRun l e none (kStw l e rd rs imm)) s

/-- STH. -/
def execSth (l : LaneId) (e : Eng) (rd : RegNo) (rs : RegNo) (imm : Imm17) (ecc : Ecc) (s : State) : Host.Outcome State Fault Refusal :=
  lift (World.kRun l e none (kStPart l e 2 rd rs imm ecc)) s

/-- STB. -/
def execStb (l : LaneId) (e : Eng) (rd : RegNo) (rs : RegNo) (imm : Imm17) (ecc : Ecc) (s : State) : Host.Outcome State Fault Refusal :=
  lift (World.kRun l e none (kStPart l e 1 rd rs imm ecc)) s

/-- PUSHM. -/
def execPushm (l : LaneId) (e : Eng) (mask : Imm16) (s : State) : Host.Outcome State Fault Refusal :=
  lift (World.kRun l e (kNeed (maskLegal mask)) (kPushm l e mask)) s

/-- POPM. -/
def execPopm (l : LaneId) (e : Eng) (mask : Imm16) (ecc : Ecc) (s : State) : Host.Outcome State Fault Refusal :=
  lift (World.kRun l e (kNeed (maskLegal mask)) (kPopm l e mask ecc)) s

/-- XCHG. -/
def execXchg (l : LaneId) (e : Eng) (rd : RegNo) (rs : RegNo) (ecc : Ecc) (s : State) : Host.Outcome State Fault Refusal :=
  lift (World.kRun l e none (kXchg l e rd rs ecc)) s

/-- CAS. -/
def execCas (l : LaneId) (e : Eng) (rd : RegNo) (rs : RegNo) (rt : RegNo) (ecc : Ecc) (s : State) : Host.Outcome State Fault Refusal :=
  lift (World.kRun l e none (kCas l e rd rs rt ecc)) s

/-- COPY. -/
def execCopy (l : LaneId) (e : Eng) (rd : RegNo) (rs : RegNo) (rt : RegNo) (ecc : Ecc) (s : State) : Host.Outcome State Fault Refusal :=
  lift (World.kRun l e none (kCopy l e rd rs rt ecc)) s

/-- FILL. -/
def execFill (l : LaneId) (e : Eng) (rd : RegNo) (rs : RegNo) (rt : RegNo) (s : State) : Host.Outcome State Fault Refusal :=
  lift (World.kRun l e none (kFill l e rd rs rt)) s

/-- TIDX. -/
def execTidx (l : LaneId) (e : Eng) (rd : RegNo) (rs : RegNo) (rt : RegNo) (ecc : Ecc) (s : State) : Host.Outcome State Fault Refusal :=
  lift (World.kRun l e none (kTidx l e rd rs rt ecc)) s

/-- TSRCH. -/
def execTsrch (l : LaneId) (e : Eng) (rd : RegNo) (rs : RegNo) (rt : RegNo) (ecc : Ecc) (s : State) : Host.Outcome State Fault Refusal :=
  lift (World.kRun l e none (kTsrch l e rd rs rt ecc)) s

/-- TSCAN. -/
def execTscan (l : LaneId) (e : Eng) (rd : RegNo) (rs : RegNo) (rt : RegNo) (ecc : Ecc) (s : State) : Host.Outcome State Fault Refusal :=
  lift (World.kRun l e none (kTscan l e rd rs rt ecc)) s

/-- TINT. -/
def execTint (l : LaneId) (e : Eng) (rd : RegNo) (rs : RegNo) (rt : RegNo) (ecc : Ecc) (s : State) : Host.Outcome State Fault Refusal :=
  lift (World.kRun l e none (kTint l e rd rs rt ecc)) s

/-- FENCE. -/
def execFence (l : LaneId) (e : Eng) (s : State) : Host.Outcome State Fault Refusal :=
  lift (World.kRun l e none (kFence l e)) s

end Sys2Proof.Machine
end

