-- ==== Sys2Proof/Machine/KreviaChan.lean ====
section
/-!
DEFINITION. Krevia's channel and register-block instructions (spec 04, Table 4.14; R105 to R112), the engine timer, a register write from any writer, and
the instruction a word stands for, as a debug step runs it (R483).
-/
namespace Sys2Proof.Machine

/-! ### Channels -/

/-- CHAN_S where a status calls for it (R106). -/
def World.kChanS (l : LaneId) (e : Eng) (st : Nat) (w : World) : World :=
  w.kCore l e fun c => c.stick ksrChan (st == stPeerReset || st == stAbortReset || st == stUnbound)

/-- The report that a wait was ended as UNBOUND is taken (R105). -/
def epCutMet (e : Eng) (ch : ChNo) (L : Lane) : Lane := L.updEng e fun g => { g with ep := g.ep.set ch { g.ep[ch] with cut := false } }

/-- The report of a peer's reset is taken: once per endpoint (R107). -/
def epReported (e : Eng) (ch : ChNo) (L : Lane) : Lane := L.updEng e fun g => { g with ep := g.ep.set ch { g.ep[ch] with peerReset := none } }

/-- A refused SEND or RECV (R106): the end of a wait as UNBOUND is met; an endpoint that is not bound the right way keeps the report of its peer's
reset; else the report is taken, and what a closed gate answers a send is counted (R27). -/
def epRefused (e : Eng) (ch : ChNo) (send : Bool) (L : Lane) : Lane :=
  if L.chCut e ch then epCutMet e ch L
  else if !L.chBound e ch || L.chRecv e ch == send then L
  else
    let gated := match L.chPeer e ch with
      | some (p, _) => send && L.peerGated e p
      | none => false
    (if L.eng[e].ep[ch].peerReset.isSome then epReported e ch L else L).ifDo gated fun L => L.inc F_SYS_DGCNT_ABORTS

/-- A word into the FIFO of the peer of an endpoint. -/
def epSend (e : Eng) (ch : ChNo) (v : Word) (L : Lane) : Lane :=
  match L.chPeer e ch with
  | some (p, q) => L.updEng p fun g => { g with ep := g.ep.set q { g.ep[q] with fifo := g.ep[q].fifo ++ [v] } }
  | none => L

/-- The oldest word of an endpoint. -/
def Lane.epHead (L : Lane) (e : Eng) (ch : ChNo) : Word := L.eng[e].ep[ch].fifo.headD 0

/-- The oldest word of an endpoint taken. -/
def epTake (e : Eng) (ch : ChNo) (L : Lane) : Lane := L.updEng e fun g => { g with ep := g.ep.set ch g.ep[ch].take }

/-- SEND. -/
def kSend (l : LaneId) (e : Eng) (ch : ChNo) (wd : RegNo) (w : World) : KRes KNext :=
  let w := w.updLane l (sbDrain e)
  match (w.lane l).sendFinds e ch with
  | .done => .ok (w.updLane l (epSend e ch ((w.core l e).get wd))) .next
  | .status st => .exc (w.updLane l (epRefused e ch true)) xChan (chanSub st) ch.val
  | .wait => .ok (w.kUpd l e fun g => { g with wait := some (.send ch) }) .stay

/-- RECV. -/
def kRecv (l : LaneId) (e : Eng) (wd : RegNo) (ch : ChNo) (w : World) : KRes KNext :=
  let w := w.updLane l (sbDrain e)
  match (w.lane l).recvFinds e ch with
  | .done => .ok ((w.updLane l (epTake e ch)).kPut l e wd ((w.lane l).epHead e ch)) .next
  | .status st => .exc (w.updLane l (epRefused e ch false)) xChan (chanSub st) ch.val
  | .wait => .ok (w.kUpd l e fun g => { g with wait := some (.recv ch) }) .stay

/-- SENDNB: its status into wd; a full peer answers QFULL. -/
def kSendnb (l : LaneId) (e : Eng) (wd ws : RegNo) (ch : ChNo) (w : World) : KRes KNext :=
  let w := w.updLane l (sbDrain e)
  let fin := fun (w : World) (st : Nat) => .ok ((w.kPut l e wd (BitVec.ofNat 32 st)).kChanS l e st) .next
  match (w.lane l).sendFinds e ch with
  | .done => fin (w.updLane l (epSend e ch ((w.core l e).get ws))) stOk
  | .status st => fin (w.updLane l (epRefused e ch true)) st
  | .wait => fin w stQfull

/-- RECVNB: Z where nothing was taken, V on a peer reset or an unbound endpoint. -/
def kRecvnb (l : LaneId) (e : Eng) (wd : RegNo) (ch : ChNo) (w : World) : KRes KNext :=
  let w := w.updLane l (sbDrain e)
  let flags := fun (z v : Bool) (w : World) => w.kCore l e fun c => (c.setFlag ksrZ z).setFlag ksrV v
  match (w.lane l).recvFinds e ch with
  | .done => .ok (flags false false ((w.updLane l (epTake e ch)).kPut l e wd ((w.lane l).epHead e ch))) .next
  | .status st => .ok ((flags true true (w.updLane l (epRefused e ch false))).kChanS l e st) .next
  | .wait => .ok (flags true false w) .next

/-- CHSEL. V and CHAN_S tell that the endpoint found has a peer's reset to report and no word before it (Table 4.15). -/
def kChsel (l : LaneId) (e : Eng) (rd rs rt : RegNo) (w : World) : KRes KNext :=
  let w := w.updLane l (sbDrain e)
  let c := w.core l e
  let L := w.lane l
  let flags := fun (z v : Bool) (w : World) => w.kCore l e fun c => (c.setFlag ksrZ z).setFlag ksrV v
  if c.get rs = 0 ∧ c.get rt = 0 then .ok (flags true false w) .next
  else match L.chSelect e (c.get rs) (c.get rt) with
    | some ch =>
      let w := if L.chCut e ch then w.updLane l (epCutMet e ch) else w
      .ok ((flags false (L.chReport e ch).isSome (w.kPut l e rd (BitVec.ofNat 32 ch.val))).kChanS l e ((L.chReport e ch).getD stOk)) .next
    | none => .ok (w.kUpd l e fun g => { g with wait := some (.sel (c.get rs) (c.get rt)) }) .stay

/-- What CHSTAT returns. -/
def Lane.chStat (L : Lane) (e : Eng) (ch : ChNo) : Word :=
  let n := if L.chRecv e ch then L.eng[e].ep[ch].fifo.length else L.peerRoom e ch
  let b := fun (x : Bool) (k : Nat) => if x then 2 ^ k else 0
  BitVec.ofNat 32 (n % 8 + b (L.peerInReset e ch) 8 + b (L.chBound e ch) 9 + b (L.chEn e ch) 16)

/-- CHSTAT. -/
def kChstat (l : LaneId) (e : Eng) (wd : RegNo) (ch : ChNo) (w : World) : KRes KNext :=
  let w := w.updLane l (sbDrain e)
  .ok (w.kPut l e wd ((w.lane l).chStat e ch)) .next

/-! ### Register blocks -/

/-- C where a status is not OK. -/
def World.kStatusC (l : LaneId) (e : Eng) (st : Nat) (w : World) : World := w.kCore l e fun c => c.setFlag ksrC (st != stOk)

/-- RGLD. -/
def kRgld (l : LaneId) (e : Eng) (rd rt : RegNo) (w : World) : KRes KNext :=
  (w.kRegGet l e .clean ((w.core l e).getn rt)).bind fun w r =>
    .ok (((w.kPut l e rd (if r.2 = stOk then r.1 else 0)).kStatusC l e r.2).kChanS l e r.2) .next

/-- RGST. -/
def kRgst (l : LaneId) (e : Eng) (rd rs rt : RegNo) (w : World) : KRes KNext :=
  (w.kRegPut l e ((w.core l e).getn rt) ((w.core l e).get rs)).bind fun w st =>
    .ok (((w.kPut l e rd (BitVec.ofNat 32 st)).kStatusC l e st).kChanS l e st) .next

/-- The status a write to a register would receive on gate, role and holder grounds, for a change of every writable field (R112). -/
def World.kRegWould (l : LaneId) (e : Eng) (a : Nat) (w : World) : Nat :=
  let L := w.lane l
  match L.regGate (some e) a with
  | some (st, _) => st
  | none =>
    if (a = A_SYS_ENGCTL ∨ isChcfg a) ∧ e.val ≠ 0 then stRoleDenied
    else if (fieldsOf a).any fun f => f.acc != .ro && !L.fieldRight (.eng e) a f then stRoleDenied
    else if (a = A_FIO_KEEPALIVE ∨ holderOnly a) ∧ !L.holder then stNotHolder
    else stOk

/-- RGCHK. -/
def kRgchk (l : LaneId) (e : Eng) (rd rt : RegNo) (w : World) : KRes KNext :=
  let a := (w.core l e).getn rt
  if a % 4 ≠ 0 then .exc w xAlign xsData a
  else if kRegion e a ≠ .reg then .exc w xFetch xsRights a
  else if (rowOf a).isNone then .exc w xFetch xsUnpopulated a
  else if e.val = 11 ∧ !ownKeep e a then .exc w xFetch xsRights a
  else
    let w := w.updLane l (sbDrain e)
    let st := w.kRegWould l e a
    .ok ((w.kPut l e rd (BitVec.ofNat 32 st)).kStatusC l e st) .next

/-! ### The engine timer and the register write of any writer -/

/-- A tick of the engine timer at its crossing (R49, R50, R105): sent, or held with those that wait there while a toggle is in flight. -/
def kTimerTick (e : Eng) (L : Lane) : Lane :=
  let n := timerXing e
  if L.eng[e].ktper = 0 then L
  else
    let held := L.xOpen n.val && (!L.xing[n].busy || decide (L.xing[n].acc < 15))
    ({ L with tick := if held then L.tick.set e (L.tick[e] + 1) else L.tick }).crossEvent n 0

/-! ### The instruction of a word -/

/-- What an instruction does at its engine beside the checks of the fetch stage. -/
def kBody (l : LaneId) (e : Eng) (i : Instr) (w : World) : KRes KNext :=
  match loopCore i with
  | some f => kAlu l e f w
  | none => match i with
    | .crc _ _ rd rs => kAlu l e (kCrc rd rs) w
    | .div _ _ rd rs rt => kAlu l e (kDiv rd rs rt) w
    | .rem _ _ rd rs rt => kAlu l e (kRem rd rs rt) w
    | .addm _ _ rd rs rt => kAlu l e (kAddm rd rs rt) w
    | .subm _ _ rd rs rt => kAlu l e (kSubm rd rs rt) w
    | .addmi _ _ rd rs i => kAlu l e (kAddmi rd rs i) w
    | .mulm _ _ rd rs rt => kAlu l e (kMulm rd rs rt) w
    | .stepm _ _ rd rs rt => kAlu l e (kStepm rd rs rt) w
    | .ldah _ _ ad rs => kAlu l e (kLdah ad rs) w
    | .rdah _ _ rd ad => kAlu l e (kRdah rd ad) w
    | .mfk _ _ r k => kMfk l e r k w
    | .mtk _ _ k r => kMtk l e k r w
    | .b _ _ o => kFar l e o false w
    | .bl _ _ o => kFar l e o true w
    | .br _ _ rs => kJump l e rs false w
    | .blr _ _ rs => kJump l e rs true w
    | .loop _ _ ws o => kLoop l e ws o w
    | .eret _ _ => kEret l e w
    | .ldw _ _ rd rs i ecc => kLdw l e rd rs i ecc w
    | .ldh _ _ rd rs i ecc => kLdPart l e 2 true rd rs i ecc w
    | .ldhu _ _ rd rs i ecc => kLdPart l e 2 false rd rs i ecc w
    | .ldb _ _ rd rs i ecc => kLdPart l e 1 true rd rs i ecc w
    | .ldbu _ _ rd rs i ecc => kLdPart l e 1 false rd rs i ecc w
    | .stw _ _ rd rs i => kStw l e rd rs i w
    | .sth _ _ rd rs i ecc => kStPart l e 2 rd rs i ecc w
    | .stb _ _ rd rs i ecc => kStPart l e 1 rd rs i ecc w
    | .pushm _ _ m => kPushm l e m w
    | .popm _ _ m ecc => kPopm l e m ecc w
    | .xchg _ _ rd rs ecc => kXchg l e rd rs ecc w
    | .cas _ _ rd rs rt ecc => kCas l e rd rs rt ecc w
    | .copy _ _ rd rs rt ecc => kCopy l e rd rs rt ecc w
    | .fill _ _ rd rs rt => kFill l e rd rs rt w
    | .tidx _ _ rd rs rt ecc => kTidx l e rd rs rt ecc w
    | .tsrch _ _ rd rs rt ecc => kTsrch l e rd rs rt ecc w
    | .tscan _ _ rd rs rt ecc => kTscan l e rd rs rt ecc w
    | .tint _ _ rd rs rt ecc => kTint l e rd rs rt ecc w
    | .fence _ _ => kFence l e w
    | .send _ _ ch wd => kSend l e ch wd w
    | .recv _ _ wd ch => kRecv l e wd ch w
    | .sendnb _ _ wd ws ch => kSendnb l e wd ws ch w
    | .recvnb _ _ wd ch => kRecvnb l e wd ch w
    | .chsel _ _ rd rs rt => kChsel l e rd rs rt w
    | .chstat _ _ wd ch => kChstat l e wd ch w
    | .rgld _ _ rd rt => kRgld l e rd rt w
    | .rgst _ _ rd rs rt => kRgst l e rd rs rt w
    | .rgchk _ _ rd rt => kRgchk l e rd rt w
    | i => match loopBranch (w.core l e) i with
      | some (taken, o) => .ok w (if taken then .goto (w.pc l e + wOf (4 * o)) else .next)
      | none => .ok w .next

/-- The word an engine fetches at its pc. -/
def World.kFetch (l : LaneId) (e : Eng) (w : World) : Word :=
  let a := (w.pc l e).toNat - (w.pc l e).toNat % 4
  if a < 0x20000 then BitVec.ofNat 32 (leNat ((List.range 4).map fun i => Config.bootRom (a + i)))
  else readWord (w.lane l).eng[e].ram (a - engBase e)

/-- One instruction from memory: the word at the pc, decoded (R94). -/
def World.kStep (l : LaneId) (e : Eng) (w : World) : World :=
  match kDecode l e ⟨0, .clean⟩ (w.kFetch l e) with
  | .badOpcode => w.kExec l e (some 1) (fun w => .ok w .next)
  | .badBits => w.kExec l e (some xsBits) (fun w => .ok w .next)
  | .ok i => w.kExec l e (if operandsLegal i then none else if (match i with | .sext .. => true | _ => false) then some xsBits else some xsOperand) (kBody l e i)

/-! ### Meanings -/

/-- ENGINE_TIMER_TICK (R105). -/
def execEngineTimerTick (l : LaneId) (e : Eng) (s : State) : Host.Outcome State Fault Refusal := lift (onBlock l (.eng e) (kTimerTick e)) s

/-- CHCFG_WRITE (R63, R105). -/
def execChcfgWrite (l : LaneId) (e : Eng) (n : FgEng) (ch : ChNo) (v : Word) (s : State) : Host.Outcome State Fault Refusal :=
  lift (fun w => w.regCmd l (.eng e) (A_SYS_CHCFG n.val ch.val) v) s

/-- REGISTER_WRITE (R110); an address that names no register takes none (R109). -/
def execRegisterWrite (l : LaneId) (wr : Writer) (addr : Nat) (v : Word) (s : State) : Host.Outcome State Fault Refusal :=
  lift (fun w => if (rowOf addr).isNone ∨ addr % 4 ≠ 0 then w else w.regCmd l wr addr v) s

/-- SEND. -/
def execSend (l : LaneId) (e : Eng) (ch : ChNo) (wd : RegNo) (s : State) : Host.Outcome State Fault Refusal :=
  lift (World.kRun l e none (kSend l e ch wd)) s

/-- RECV. -/
def execRecv (l : LaneId) (e : Eng) (wd : RegNo) (ch : ChNo) (s : State) : Host.Outcome State Fault Refusal :=
  lift (World.kRun l e none (kRecv l e wd ch)) s

/-- SENDNB. -/
def execSendnb (l : LaneId) (e : Eng) (wd : RegNo) (ws : RegNo) (ch : ChNo) (s : State) : Host.Outcome State Fault Refusal :=
  lift (World.kRun l e none (kSendnb l e wd ws ch)) s

/-- RECVNB. -/
def execRecvnb (l : LaneId) (e : Eng) (wd : RegNo) (ch : ChNo) (s : State) : Host.Outcome State Fault Refusal :=
  lift (World.kRun l e none (kRecvnb l e wd ch)) s

/-- CHSEL. -/
def execChsel (l : LaneId) (e : Eng) (rd : RegNo) (rs : RegNo) (rt : RegNo) (s : State) : Host.Outcome State Fault Refusal :=
  lift (World.kRun l e none (kChsel l e rd rs rt)) s

/-- CHSTAT. -/
def execChstat (l : LaneId) (e : Eng) (wd : RegNo) (ch : ChNo) (s : State) : Host.Outcome State Fault Refusal :=
  lift (World.kRun l e none (kChstat l e wd ch)) s

/-- RGLD. -/
def execRgld (l : LaneId) (e : Eng) (rd : RegNo) (rt : RegNo) (s : State) : Host.Outcome State Fault Refusal :=
  lift (World.kRun l e none (kRgld l e rd rt)) s

/-- RGST. -/
def execRgst (l : LaneId) (e : Eng) (rd : RegNo) (rs : RegNo) (rt : RegNo) (s : State) : Host.Outcome State Fault Refusal :=
  lift (World.kRun l e none (kRgst l e rd rs rt)) s

/-- RGCHK. -/
def execRgchk (l : LaneId) (e : Eng) (rd : RegNo) (rt : RegNo) (s : State) : Host.Outcome State Fault Refusal :=
  lift (World.kRun l e none (kRgchk l e rd rt)) s

end Sys2Proof.Machine
end

