-- ==== Sys2Proof/Machine/Lnk.lean ====
section
/-!
DEFINITION. The lane link (spec 13): heartbeats and F, sealed epochs, the bulk, the Hoop's transitions, the health faults, and the update of the lane
without the Hoop.
-/
namespace Sys2Proof.Machine

/-! ### The link -/

/-- Both spines run, and the gates between them are open. Heartbeats bypass the gates (R34). -/
def World.linkOpen (l : LaneId) (w : World) : Bool :=
  (w.lane l).spine && (w.lane l.other).spine && (w.lane l).gateState 5 == gOpen && (w.lane l.other).gateState 5 == gOpen

/-- A lane can receive a heartbeat: it is out of reset, and the other spine runs. -/
def World.linkHb (l : LaneId) (w : World) : Bool :=
  (decide ((w.lane l).phase = .run) || decide ((w.lane l).phase = .waitPll)) && (w.lane l.other).spine

/-- A cold grant's conditions have ended: the train stops (R387). -/
def World.coldEnd (l : LaneId) (w : World) : World :=
  if (w.lane l).lnk.coldTrain && !w.coldOk l then w.updLane l fun L => lnkShow (L.updLnk fun k => { k with coldTrain := false }) else w

/-! ### Heartbeats (R374, R377, R378, R400) -/

/-- A heartbeat is sent. -/
def hbSend (hoop : Nat) (L : Lane) : Lane :=
  if L.lnk.fWait then L
  else L.updLnk fun k =>
    let n := (k.hbSeq + 1) % 2 ^ 16
    { k with hbSeq := n, hbOut := some ⟨n, L.fclk, healthWord L, L.f F_LNK_EPOCH_SEQ, hoop⟩ }

/-- F taken from a heartbeat, or compared with it and realigned by the lane without the Hoop. -/
def hbClock (m : Heartbeat) (half : Nat) (L : Lane) : Lane :=
  let t := m.fclk + half
  if L.lnk.fWait then { L with fclk := t, lnk := { L.lnk with fWait := false, skew := 0 } }
  else
    let d : Int := (t : Int) - L.fclk
    let n := if 1 < absI d then L.lnk.skew + 1 else 0
    if 3 ≤ n ∧ ¬ L.holder ∧ m.health.getLsbD 25 then
      lnkInvalid { L.s F_LNK_STAT_FSKEW_S 1 with fclk := t, lnk := { L.lnk with skew := 0, fskew := true } }
    else L.updLnk fun k => { k with skew := min 3 n }

/-- The holder's marks of what an acknowledged epoch carried are cleared (R391). -/
def hbAck (applied : Nat) (L : Lane) : Lane :=
  if !L.holder then L
  else
    let L := L.updLnk fun k => { k with acked := applied }
    match L.lnk.carried.find? fun c => c.1 == applied with
    | none => L
    | some (_, n) => L.updLnk fun k => { k with
        dirty := k.dirty.filter fun d => decide (n < d.2), regDirty := k.regDirty.filter fun d => decide (n < d.2.1)
        carried := k.carried.filter fun c => decide (n < c.2) }

/-- A bulk begins (R396); what is marked stays due until it is acknowledged (R391, log 165). -/
def bulkStart (L : Lane) : Lane :=
  L.updLnk fun k => { k with bulkActive := true, bulkPos := 0, bulkLen := 0, bulkCrc := 0xFFFFFFFF }

/-- The holder serves a lane that has entered SYNC (R396). -/
def hbBulk (was : Nat) (L : Lane) : Lane :=
  if !L.holder then L
  else if L.pstate ≠ lsSync then L.updLnk fun k => { k with bulkActive := false }
  else if was ≠ lsSync ∨ ¬ L.lnk.bulkActive then bulkStart L
  else L

/-- The end of SUSPECT: the self-test has passed, and heartbeats have come for 10 ms. -/
def suspectEnd (now : Nat) (L : Lane) : Lane :=
  let long : Bool := match L.lnk.hbSince with
    | some t => decide (t + 10000 ≤ now)
    | none => false
  if L.lst = lsSuspect ∧ L.lnk.testOk ∧ long then lnkTo lsSync L else L

/-- A heartbeat arrives. -/
def hbTake (now : Nat) (m : Heartbeat) (half : Nat) (L : Lane) : Lane :=
  let L := hbClock m half L
  let old := rget L.regs A_LNK_PHEALTH
  let was := L.pstate
  let L := L.updLnk fun k => { k with
    hbSeen := some m.seq, hbAt := some now, heldAt := if m.health.getLsbD 25 then some now else k.heldAt,
    hbLost := false, hbSince := if k.hbLost then some now else k.hbSince }
  let L := { L with regs := rput L.regs A_LNK_PHEALTH m.health }
  let L := L.s F_LNK_STAT_PSTATE (bits m.health 31 28)
  let L := L.eventIf (bits old 31 17 != bits m.health 31 17) peerLnk (evBit 19)
  lnkShow (suspectEnd now (lnkJoin (hbBulk was (hbAck m.applied L))))

/-- HB_SEND (R374). -/
def execHbSend (l : LaneId) (s : State) : Host.Outcome State Fault Refusal :=
  lift (fun w => onSpine l (hbSend w.fd.hoop) w) s

/-- HB (R377, R378). -/
def execHb (l : LaneId) (half : Nat) (s : State) : Host.Outcome State Fault Refusal :=
  lift (fun w =>
    if !w.linkHb l then w
    else World.takeOut l Lnk.hbOut (fun k => { k with hbOut := none })
      (fun m w => (w.updLane l (hbTake w.time m half)).coldEnd l) w) s

/-- The updating lane abandons the update (R406): the boot record unchanged, ERR, SYNC, and a lane-logic restart, which R24 counts as fault-caused since it
is not requested through SYS_RSTREQ (DEDUCED, log 139). -/
def World.updFailed (l : LaneId) (w : World) : World :=
  if (w.lane l).lst ≠ lsUpdate then w
  else
    let w := w.updLane l fun L =>
      let L := (L.s F_LNK_UPDSTAT_ERR 1).s F_LNK_UPDSTAT_STATE 0
      lnkTo lsSync ((L.updLnk fun k => { k with updAckOut := none, updFails := 0 }).event peerLnk (evBit 21))
    w.restartFault l

/-- Three periods without a new heartbeat (R400). -/
def hbLoss (otherHolds : Bool) (L : Lane) : Lane :=
  if L.lnk.hbLost then L
  else
    let L := (L.updLnk fun k => { k with hbLost := true, hbSince := none }).inc F_LNK_CNT_HBMISS
    let L := ({ L with regs := rput L.regs A_LNK_PHEALTH 0 }.s F_LNK_STAT_PSTATE 15).event peerLnk (evBit 19)
    if L.lst = lsStandby ∧ otherHolds then lnkTo lsSuspect (L.s F_LNK_STAT_HBLOSS_S 1)
    else lnkShow (L.stick L.holder F_LNK_STAT_HBLOSS_S)

/-- HEARTBEAT_LOSS (R400, R406). -/
def execHeartbeatLoss (l : LaneId) (s : State) : Host.Outcome State Fault Refusal :=
  lift (fun w => (onSpine l (hbLoss (w.fd.heldBy l.other)) w).updFailed l) s

/-- F_START_TIMEOUT (R377): Lane B starts F at 0. -/
def execFStartTimeout (l : LaneId) (s : State) : Host.Outcome State Fault Refusal :=
  lift (onSpine l fun L =>
    if l = .b ∧ L.lnk.fWait then { L with fclk := 0, lnk := { L.lnk with fWait := false } } else L) s

/-- DRV_PERIOD (R200, R380, R382). -/
def execDrvPeriod (l : LaneId) (wire : OptInt) (s : State) : Host.Outcome State Fault Refusal :=
  lift (onBlock l .drv fun L =>
    let L := drvPeriod wire L
    if L.lnk.tqcmp then lnkInvalid L else L) s

/-! ### Sealed epochs (R391 to R395) -/

/-- The offset of an epoch's half of the staging area (Table 3.4). -/
def stageOff (seq : Nat) : Nat := 0x80000 + seq % 2 * 0x8000

/-- The value of a register record: its replicated fields, SEBW fields left out (R391). -/
def replWord (L : Lane) (a : Nat) : Word := rget L.regs a &&& replMask a

/-- An epoch's header, snapshot and records (Table 13.4). -/
def epochBytes (seq : Nat) (regs lines : List Nat) (L : Lane) : Bytes :=
  leBytes 4 seq ++ leBytes 4 L.lnk.acked ++ leBytes 4 L.fclk ++ leBytes 6 L.gtime ++ leBytes 2 regs.length ++
  wordBytes (rget L.regs A_LNK_REPLID) ++ leBytes 2 lines.length ++ List.replicate 6 0 ++ (snapshot L).flatMap wordBytes ++
  (regs.flatMap fun a => leBytes 4 a ++ wordBytes (replWord L a)) ++ (lines.flatMap fun a => leBytes 4 a ++ L.line a)

/-- The holder's seal edge (R391, R394). -/
def sealHolder (L : Lane) : Lane :=
  let seq := (L.f F_LNK_EPOCH_SEQ + 1) % 2 ^ 32
  let n := L.lnk.seals + 1
  let lines := L.lnk.dirty.map fun d => 64 * d.1
  let regs := L.lnk.regDirty.map fun d => d.1
  let L := (L.s F_LNK_EPOCH_SEQ seq).updLnk fun k => { k with seals := n, epLen := 0, epPos := 0, sealOut := none }
  if 447 < lines.length ∨ 256 < regs.length then L.s F_LNK_STAT_EPOVF_S 1
  else
    let b := epochBytes seq regs lines L
    { L.tsPut (stageOff seq) b with
      lnk := { L.lnk with
        epLen := b.length, sealOut := some (seq, crc32 b), epRoles := L.lnk.regDirty.map (fun d => d.2.2)
        carried := (L.lnk.carried ++ [(seq, n)]).drop (L.lnk.carried.length - 15) } }

/-- SEAL_EDGE (R391, R392, R394). -/
def execSealEdge (l : LaneId) (s : State) : Host.Outcome State Fault Refusal :=
  lift (fun w =>
    let L := w.lane l
    if !L.spine || L.lnk.fWait then w
    else if !L.holder then w.updLane l fun L => L.updLnk fun k => { k with ownSnap := snapshot L }
    else
      let ovf := decide (447 < L.lnk.dirty.length) || decide (256 < L.lnk.regDirty.length)
      let w := w.updLane l (fun L => lnkShow (sealHolder L))
      if ovf && w.linkOpen l then w.updLane l.other lnkInvalid else w) s

/-- EPDATA (R375): the next segment of the epoch, at most 256 bytes. -/
def World.epData (l : LaneId) (lost : Bool) (w : World) : World :=
  let S := w.lane l.other
  match S.lnk.sealOut with
  | none => w
  | some (seq, _) =>
    if S.lnk.epLen ≤ S.lnk.epPos ∨ S.lnk.ahead 4 then w
    else
      let pos := S.lnk.epPos
      let n := min 256 (S.lnk.epLen - pos)
      let b := readBytes 0 S.tsram (stageOff seq + pos) n
      let w := w.updLane l.other fun L => L.updLnk fun k => { k with epPos := pos + n }
      w.updLane l fun L =>
        if L.holder then L
        else if lost then L.updLnk fun k => { k with rxLen := pos + n, rxOk := false }
        else { L.tsPut (stageOff seq + pos) b with
          lnk := { L.lnk with rxLen := pos + n, rxOk := (L.lnk.rxOk || decide (pos = 0)) && (decide (pos = 0) || decide (L.lnk.rxLen = pos)) } }

/-- EPDATA (R375). -/
def execEpdata (l : LaneId) (s : State) : Host.Outcome State Fault Refusal :=
  lift (fun w => if w.linkOpen l then w.epData l false else w) s

/-- A register record applied, or refused (R395; counted where a gate or a block in retention refuses it, R28, R35): its replicated fields as a write
of the original role, entered in the change log with SRC 8, from an epoch even where it changes nothing (log 78). -/
def World.recApply (l : LaneId) (a : Nat) (v : Word) (role : Nat) (bulk : Bool) (w : World) : World × Bool :=
  let L := w.lane l
  let m := replMask a
  let old := rget L.regs a
  let x := (L.rwWord a &&& ~~~ m) ||| (v &&& m)
  if L.gateState (regGateNo a) ≠ gOpen ∨ (L.dozing ∧ regRetained a) then (w.updLane l fun L => L.inc F_SYS_DGCNT_ABORTS, false)
  else if bulk ∧ (changed a old x).isEmpty then (w, true)
  else if !L.clRoom then (w, false)
  else if (changed a old x).isEmpty then (w.clPut l role 8 ckWrite a old old false false, true)
  else if (w.regDo l .dbg a x false w).2 ≠ stOk then (w, false)
  else ((((w.clPut l role 8 ckWrite a old (loggedNew a old x) false false).regDo l .dbg a x false w).1).updLane l (replRole a role), true)

/-- A line applied: its bytes, and what a write into a landing table buffer means (R167). -/
def lineApply (a : Nat) (b : Bytes) (L : Lane) : Lane :=
  let L := L.putLine a b
  if 0x30021000 ≤ a ∧ a < 0x30023000 then ltTouched false L
  else if 0x30023000 ≤ a ∧ a < 0x30025000 then ltTouched true L
  else L

/-- The register records due: those refused before and not sent anew, then those of the epoch; each with its role. The refused ones remain, each with the
time of its first refusal. -/
def World.recsApply (l : LaneId) (recs : List (Nat × Word × Nat)) (w : World) : World :=
  let old := (w.lane l).lnk.refused
  let kept := old.filter fun r => !recs.any fun x => x.1 == r.1
  let since := fun a => match old.find? fun r => r.1 == a with
    | some r => r.2.2.2
    | none => w.time
  let all := kept ++ recs.map fun r => (r.1, r.2.1, r.2.2, since r.1)
  let r := all.foldl (fun (p : World × List (Nat × Word × Nat × Nat)) x =>
    let q := p.1.recApply l x.1 x.2.1 x.2.2.1 false
    (q.1, if q.2 then p.2 else p.2 ++ [x])) (w, [])
  let late := r.2.any fun x => decide (x.2.2.2 + 100000 ≤ w.time)
  r.1.updLane l fun L =>
    let L := L.updLnk fun k => { k with refused := r.2 }
    if late then lnkInvalid ((L.s F_LNK_STAT_DIVERGE_S 1).updLnk fun k => { k with diverge := true }) else L

/-- The snapshot of an applied epoch beside the lane's own (R392): at DIVERGE, LNK_SNAPDIFF names the item that differed three times. -/
def snapApply (snap : List Word) (L : Lane) : Lane :=
  let ds := if L.lnk.ownSnap.isEmpty then [] else snapDiff L.lnk.ownSnap snap
  let runs := (List.range 64).map fun k => if ds.contains k then listGet 0 L.lnk.diffs k + 1 else 0
  let L := snapNote ds (L.updLnk fun k => { k with lastSnap := snap, diffs := runs })
  match (List.range 64).find? fun k => decide (3 ≤ listGet 0 runs k) with
  | some item => lnkInvalid (((L.s F_LNK_SNAPDIFF_ITEM item).s F_LNK_STAT_DIVERGE_S 1).updLnk fun k => { k with diverge := true })
  | none => L

/-- An epoch is discarded (R393, R394). -/
def epDiscard (replMis : Bool) (L : Lane) : Lane :=
  let L := ((L.inc F_LNK_CNT_EPDISC).s F_LNK_STAT_EPDISC_S 1).stick replMis F_LNK_STAT_REPLMIS_S
  let n := L.lnk.epBad + 1
  let L := L.updLnk fun k => { k with epBad := min 8 n }
  if 8 ≤ n then lnkInvalid L else L

/-- The words of a snapshot. -/
def wordsOf (b : Bytes) (n : Nat) : List Word := (List.range n).map fun k => BitVec.ofNat 32 (leNat ((b.drop (4 * k)).take 4))

/-- An epoch that passed its checks is applied (R393 to R396). -/
def World.epApply (l : LaneId) (seq : Nat) (b : Bytes) (roles : List Nat) (w : World) : World :=
  let nreg := leNat ((b.drop 18).take 2)
  let nline := leNat ((b.drop 24).take 2)
  let sync := (w.lane l).lst == lsSync
  let regs := (List.range nreg).map fun k =>
    let r := (b.drop (288 + 8 * k)).take 8
    (leNat (r.take 4), BitVec.ofNat 32 (leNat (r.drop 4)), listGet 0 roles k)
  let w := w.recsApply l regs
  w.updLane l fun L =>
    let L := (List.range nline).foldl (fun L k =>
      let r := (b.drop (288 + 8 * nreg + 68 * k)).take 68
      let a := leNat (r.take 4)
      if sync && !L.lnk.bulkGot.any (fun g => g.1 == a) then L else lineApply a (r.drop 4) L) L
    let snap := wordsOf ((b.drop 32).take 256) 64
    let same := (snapDiff L.lnk.ownSnap snap).isEmpty
    let L := (L.s F_LNK_EPOCH_SEQ seq).updLnk fun k => { k with epBad := 0 }
    let L := (snapApply snap L).event peerLnk (evBit 18)
    let done : Bool := match L.lnk.bulkDone with
      | some k => decide ((seq + 2 ^ 32 - k) % 2 ^ 32 < 2 ^ 31) && seq != k
      | none => false
    if L.lst = lsSync ∧ done ∧ same ∧ ¬ L.lnk.ownSnap.isEmpty then lnkTo lsStandby L else lnkShow L

/-- The seal arrives (R393). -/
def World.sealTake (l : LaneId) (seq : Nat) (crc : Word) (roles : List Nat) (w : World) : World :=
  let L := w.lane l
  if L.holder ∨ (L.lst ≠ lsSync ∧ L.lst ≠ lsStandby) then w
  else
    let b := readBytes 0 L.tsram (stageOff seq) L.lnk.rxLen
    let base := leNat ((b.drop 4).take 4)
    let replid := BitVec.ofNat 32 (leNat ((b.drop 20).take 4))
    let whole := L.lnk.rxOk && leNat (b.take 4) == seq && crc32 b == crc
    let mis := replid != rget L.regs A_LNK_REPLID
    let newer := decide (0 < (base + 2 ^ 32 - L.f F_LNK_EPOCH_SEQ) % 2 ^ 32) && decide ((base + 2 ^ 32 - L.f F_LNK_EPOCH_SEQ) % 2 ^ 32 < 2 ^ 31)
    if whole && !mis && !newer then w.epApply l seq b roles else w.updLane l (epDiscard (whole && mis))

/-- SEAL (R393): after the last segment of its epoch. -/
def execSeal (l : LaneId) (s : State) : Host.Outcome State Fault Refusal :=
  lift (fun w =>
    let S := w.lane l.other
    if !w.linkOpen l then w
    else match S.lnk.sealOut with
      | none => w
      | some (seq, crc) =>
        if S.lnk.epPos < S.lnk.epLen ∨ S.lnk.ahead 3 then w
        else
          (w.updLane l.other fun L => L.updLnk fun k => { k with sealOut := none, epLen := 0, epPos := 0 }).sealTake l seq crc S.lnk.epRoles) s

/-- EPOCH_MISSING (R394): none applied for 10 ms, or eight discarded in a row. -/
def execEpochMissing (l : LaneId) (s : State) : Host.Outcome State Fault Refusal := lift (onSpine l lnkInvalid) s

/-! ### Bulk resynchronisation (R396, R397) -/

/-- The registers whose records are replicated, as rows of the map. -/
def replRows : List RegRow :=
  ([0x40030000, 0x40040000, 0x40050000, 0x40060000, 0x40070000, 0x40080000, 0x40090000, 0x40110000].flatMap blockRows).filter fun r =>
    replBlock r.addr && r.fields.any fun f => f.acc == .rwl || f.acc == .mkr

/-- The k-th of these registers. -/
def replReg : List RegRow → Nat → Option Nat
  | [], _ => none
  | r :: rs, k => if k < r.n * r.m then some (r.addr + k % r.n * r.s + k / r.n * r.t) else replReg rs (k - r.n * r.m)

/-- How many lines a bulk carries. -/
def bulkLines (L : Lane) : Nat := (replRegions L).foldl (fun n r => n + r.2 / 64) 0

/-- The role of the last write of a register the bulk carries (R395). -/
def bulkRole (k : Nat) (L : Lane) : Nat := match replReg replRows (k - bulkLines L) with
  | some a => sget 0 L.lnk.regRole a
  | none => 0

/-- An item of the bulk: its address, its bytes, and whether it is a line; none past the last. -/
def bulkItem (k : Nat) (L : Lane) : Option (Nat × Bytes × Bool) :=
  match replLine (replRegions L) k with
  | some a => some (a, L.line a, true)
  | none => match replReg replRows (k - bulkLines L) with
    | some a => some (a, wordBytes (replWord L a), false)
    | none => none

/-- A bulk item arrives; the first of a bulk begins a new reception, whose end is not yet checked (DEDUCED, log 165). -/
def World.bulkTake (l : LaneId) (first : Bool) (a : Nat) (b : Bytes) (line : Bool) (role : Nat) (w : World) : World :=
  if (w.lane l).lst ≠ lsSync then w
  else
    let w := if first then w.updLane l fun L => L.updLnk fun k => { k with
      bulkRxLen := 0, bulkRxCrc := 0xFFFFFFFF, bulkGot := [], bulkDone := none } else w
    let w := w.updLane l fun L => L.updLnk fun k => { k with
      bulkRxLen := k.bulkRxLen + 4 + b.length, bulkRxCrc := crc32Cont k.bulkRxCrc (leBytes 4 a ++ b) }
    if line then w.updLane l fun L => (lineApply a b L).updLnk fun k => { k with bulkGot := sput false k.bulkGot a true }
    else
      let v := BitVec.ofNat 32 (leNat b)
      let r := w.recApply l a v role true
      if r.2 then r.1
      else r.1.updLane l fun L => L.updLnk fun k => { k with refused := (k.refused.filter fun x => x.1 != a) ++ [(a, v, role, w.time)] }

/-- The next item of the bulk is sent (R396). -/
def World.bulkStep (l : LaneId) (lost : Bool) (w : World) : World :=
  let S := w.lane l.other
  if !S.lnk.bulkActive ∨ S.lnk.ahead 6 then w
  else match bulkItem S.lnk.bulkPos S with
    | none => w
    | some (a, b, line) =>
      let w := w.updLane l.other fun L => L.updLnk fun k => { k with
        bulkPos := k.bulkPos + 1, bulkLen := k.bulkLen + 4 + b.length, bulkCrc := crc32Cont k.bulkCrc (leBytes 4 a ++ b) }
      if lost then w else w.bulkTake l (decide (S.lnk.bulkPos = 0)) a b line (bulkRole S.lnk.bulkPos S)

/-- BULK (R396). -/
def execBulk (l : LaneId) (s : State) : Host.Outcome State Fault Refusal :=
  lift (fun w => if w.linkOpen l then w.bulkStep l false else w) s

/-- The bulk fails its check (R397): it restarts, or at the third time in a row the lane fails. -/
def World.bulkFail (l : LaneId) (w : World) : World :=
  let w := w.updLane l.other bulkStart
  let n := (w.lane l).lnk.bulkFails + 1
  let w := w.updLane l fun L => (L.s F_LNK_STAT_BULKFAIL_S 1).updLnk fun k => { k with
    bulkRxLen := 0, bulkRxCrc := 0xFFFFFFFF, bulkGot := [], bulkDone := none, bulkFails := if 3 ≤ n then 0 else n }
  if 3 ≤ n then w.laneFail l else w

/-- The end of the bulk: its length and CRC-32; the selected landing table buffer is then validated (R175). -/
def World.bulkEnd (l : LaneId) (lost : Bool) (w : World) : World :=
  let S := w.lane l.other
  if !S.lnk.bulkActive ∨ (bulkItem S.lnk.bulkPos S).isSome ∨ S.lnk.bulkLen = 0 ∨ S.lnk.ahead 6 then w
  else
    let w := w.updLane l.other fun L => L.updLnk fun k => { k with bulkLen := 0 }
    let L := w.lane l
    if L.lst ≠ lsSync then w
    else if lost ∨ L.lnk.bulkRxLen ≠ S.lnk.bulkLen ∨ L.lnk.bulkRxCrc ≠ S.lnk.bulkCrc then w.bulkFail l
    else w.updLane l fun L =>
      bobSelfCheck (L.updLnk fun k => { k with bulkDone := some (S.f F_LNK_EPOCH_SEQ), bulkFails := 0 })

/-- BULKEND (R396, R397). -/
def execBulkend (l : LaneId) (s : State) : Host.Outcome State Fault Refusal :=
  lift (fun w => if w.linkOpen l then w.bulkEnd l false else w) s

/-! ### The Hoop (R386 to R390) -/

/-- HOOP_GRANT (R386, R399). -/
def execHoopGrant (l : LaneId) (s : State) : Host.Outcome State Fault Refusal := lift (World.hoopGrant l) s

/-- The Hoop ceases to be held: the resets that waited for it begin (R390). -/
def World.hoopGone (w : World) : World := (w.hoopLost.runDue .a).runDue .b

/-- HOOP_RELEASE (R386): the train of the lane that holds it has been absent for 20 µs. -/
def execHoopRelease (s : State) : Host.Outcome State Fault Refusal :=
  lift (fun w =>
    let gone := fun l => w.fd.heldBy l && !(w.lane l).lnk.train
    if gone .a || gone .b then (w.hoopTo hoopFree).hoopGone else w) s

/-- HOOP_FAULT (R389). -/
def execHoopFault (s : State) : Host.Outcome State Fault Refusal :=
  lift (fun w =>
    if w.sup.off then w
    else ((((w.hoopTo 3).fioForce fcHoop).hoopGone).rstBit .a rbHoopFault).rstBit .b rbHoopFault) s

/-- HOOP_FAULT_CLEAR (R389). -/
def execHoopFaultClear (s : State) : Host.Outcome State Fault Refusal :=
  lift (fun w => if w.fd.hoop = 3 then w.hoopTo hoopFree else w) s

/-- COLD_TRAIN_START (R387). -/
def execColdTrainStart (l : LaneId) (s : State) : Host.Outcome State Fault Refusal :=
  lift (fun w => if w.coldOk l then onSpine l (fun L => lnkShow (L.updLnk fun k => { k with coldTrain := true })) w else w) s

/-- KEEPALIVE_TIMEOUT (R390). -/
def execKeepaliveTimeout (l : LaneId) (s : State) : Host.Outcome State Fault Refusal :=
  lift (fun w =>
    if (w.lane l).spine ∧ (w.lane l).lst = lsActive then (w.updLane l (lnkRelease rcKeepalive)).restartFault l else w) s

/-! ### Self-test -/

/-- SUSPECT_SELFTEST_COMPLETE (R384). -/
def execSuspectSelftestComplete (l : LaneId) (ok : Bool) (s : State) : Host.Outcome State Fault Refusal :=
  lift (fun w =>
    if !(w.lane l).spine ∨ (w.lane l).lst ≠ lsSuspect then w
    else if ok then w.updLane l fun L => suspectEnd w.time (L.updLnk fun k => { k with testOk := true })
    else w.laneFail l) s

/-- FW_STALE (R381). -/
def execFwStale (l : LaneId) (s : State) : Host.Outcome State Fault Refusal :=
  lift (onSpine l fun L => lnkShow (L.updLnk fun k => { k with fwstale := true })) s

/-! ### CTRL messages -/

/-- A CTRL message reaches a lane, in the order sent. -/
def World.ctrlTake (l : LaneId) (m : CtrlMsg) (f : World → World) (w : World) : World :=
  if !w.linkOpen l ∨ (w.lane l.other).lnk.ctrlOut.head? ≠ some m ∨ (w.lane l.other).lnk.ahead 2 then w
  else f (w.updLane l.other fun L => L.updLnk fun k => { k with ctrlOut := k.ctrlOut.drop 1 })

/-- CTRL_RESTART (R385). -/
def execCtrlRestart (l : LaneId) (s : State) : Host.Outcome State Fault Refusal :=
  lift (World.ctrlTake l .restart fun w => if (w.lane l).lst = lsHalted then w.laneReset l rbPeerrst else w) s

/-- CTRL_SWITCH (R402). -/
def execCtrlSwitch (l : LaneId) (s : State) : Host.Outcome State Fault Refusal :=
  lift (World.ctrlTake l .switch fun w => w.updLane l fun L => L.updLnk fun k => { k with switchIn := true }) s

/-- CTRL_DEBUG_ON (R483): DBGON, with FWSTALE held at 1. -/
def execCtrlDebugOn (l : LaneId) (s : State) : Host.Outcome State Fault Refusal :=
  lift (World.ctrlTake l .debugOn fun w => w.updLane l fun L =>
    if L.holder then L else lnkShow ((L.s F_SYS_DBGCTL_DBGON 1).updLnk fun k => { k with fwstale := true })) s

/-- CTRL_DEBUG_OFF (R484). -/
def execCtrlDebugOff (l : LaneId) (s : State) : Host.Outcome State Fault Refusal :=
  lift (World.ctrlTake l .debugOff fun w => w.updLane l dbgClose) s

/-! ### The update of the lane without the Hoop (Table 13.7) -/

/-- The slot an update programs: the one the lane is not running from. -/
def Lane.updSlotNo (L : Lane) : Nat := 1 - L.f F_LNK_UPDSTAT_SLOT

/-- UPDATE is entered: the quarter gates close with cause UPDATE, the engines are held, the slot is erased. -/
def updEnter (L : Lane) : Lane :=
  if L.lst ≠ lsStandby then L
  else
    let L := [0, 1, 2, 3].foldl (fun (L : Lane) g => L.setGate g gClosed gcUpdate) L
    let L := L.flashErase (slotOff L.updSlotNo) 0x300000
    let L := (L.s F_LNK_UPDSTAT_STATE 2).s F_LNK_UPDSTAT_BLOCKS 0
    lnkTo lsUpdate ((L.updLnk fun k => { k with updFails := 0, updAckOut := none, updRx := [], updRxOk := true }).event peerLnk (evBit 21))

/-- CTRL_UPDATE_START (R405). -/
def execCtrlUpdateStart (l : LaneId) (s : State) : Host.Outcome State Fault Refusal :=
  lift (World.ctrlTake l .updateStart fun w => w.updLane l updEnter) s

/-- CTRL_UPDATE_ABORT (R406). -/
def execCtrlUpdateAbort (l : LaneId) (s : State) : Host.Outcome State Fault Refusal :=
  lift (World.ctrlTake l .updateAbort fun w => w.updFailed l) s

/-- CTRL_UPDATE_COMMIT (R405): the header is checked, the boot record written, and the lane reset into the new image. -/
def execCtrlUpdateCommit (l : LaneId) (s : State) : Host.Outcome State Fault Refusal :=
  lift (World.ctrlTake l .updateCommit fun w =>
    let L := w.lane l
    if L.lst ≠ lsUpdate then w
    else if !slotOk L.updSlotNo L then w.updFailed l
    else (w.updLane l fun L => bootWrite L.updSlotNo L).laneResetIn l false) s

/-- A block arrives (R405): programmed, read back, checked by its CRC-32, acknowledged; at the third failure of a block the update ends, its UPDACK
still on its way. A block that does not read back holds what the manual does not say. -/
def World.updBlock (l : LaneId) (off : Nat) (data : Bytes) (crc : Word) (good : Bool) (w : World) : World :=
  let L := w.lane l
  if L.lst ≠ lsUpdate then w
  else
    let ok := good && crc32 data == crc && decide (off + data.length ≤ 0x300000)
    let b := if good then data else (List.range data.length).map fun k => Config.flashOver w.freeCtr k
    let w := { w with freeCtr := w.freeCtr + 1 }
    let fails := if ok then 0 else L.lnk.updFails + 1
    let w := w.updLane l fun L =>
      let L := if off + data.length ≤ 0x300000 then L.flashPut (slotOff L.updSlotNo + off) b else L
      let L := if ok then L.s F_LNK_UPDSTAT_BLOCKS (min 1023 (L.f F_LNK_UPDSTAT_BLOCKS + 1)) else L
      (L.updLnk fun k => { k with updAckOut := some (off, ok), updFails := fails }).event peerLnk (evBit 21)
    if 3 ≤ fails then (w.updFailed l).updLane l fun L => L.updLnk fun k => { k with updAckOut := some (off, ok) } else w

/-- UPD (R375, R405): the next segment of the block, at most 256 bytes; the receiver puts the block together, and discards it where a segment was lost. -/
def World.updStep (l : LaneId) (lost good : Bool) (w : World) : World :=
  let S := (w.lane l.other).lnk
  match S.updOut with
  | none => w
  | some (off, data, crc) =>
    if S.ahead 7 then w
    else
      let seg := (data.drop S.updPos).take 256
      let last := decide (data.length ≤ S.updPos + 256)
      let R := (w.lane l).lnk
      let got := if S.updPos = 0 then seg else R.updRx ++ seg
      let ok := !lost && (decide (S.updPos = 0) || (R.updRxOk && decide (R.updRx.length = S.updPos)))
      let w := w.updLane l.other fun L => L.updLnk fun k => if last then { k with updOut := none, updPos := 0 } else { k with updPos := k.updPos + 256 }
      let w := w.updLane l fun L => L.updLnk fun k => if last then { k with updRx := [], updRxOk := true } else { k with updRx := got, updRxOk := ok }
      if last ∧ ok then w.updBlock l off got crc good else w

/-- UPD (R405). -/
def execUpd (l : LaneId) (good : Bool) (s : State) : Host.Outcome State Fault Refusal :=
  lift (fun w => if w.linkOpen l then w.updStep l false good else w) s

/-! ### Damaged messages (R376) -/

/-- The message on its way to a lane is lost; of a segmented one, its present segment. -/
def World.linkLose (l : LaneId) (m : LinkMsg) (w : World) : World :=
  let S := w.lane l.other
  let drop := fun f => w.updLane l.other fun L => L.updLnk f
  match m with
  | .hb => drop fun k => { k with hbOut := none }
  | .ssi => drop fun k => { k with ssiOut := none }
  | .acc => drop fun k => { k with accOut := none }
  | .partner => drop fun k => { k with partnerOut := none }
  | .sebreq => drop fun k => { k with sebreqOut := none }
  | .epdata => w.epData l true
  | .seal =>
    if S.lnk.sealOut.isNone ∨ S.lnk.epPos < S.lnk.epLen ∨ S.lnk.ahead 3 then w
    else
      let w := drop fun k => { k with sealOut := none, epLen := 0, epPos := 0 }
      let st := (w.lane l).lst
      if st = lsSync ∨ st = lsStandby then w.updLane l (epDiscard false) else w
  | .bulk => w.bulkStep l true
  | .bulkend => w.bulkEnd l true
  | .upd => w.updStep l true true
  | .updack => if S.lnk.ahead 5 then w else drop fun k => { k with updAckOut := none }
  | .ctrl => if S.lnk.ahead 2 then w else drop fun k => { k with ctrlOut := k.ctrlOut.drop 1 }

/-- LANE_MESSAGE_CRC_ERROR (R376). -/
def execLaneMessageCrcError (l : LaneId) (m : LinkMsg) (s : State) : Host.Outcome State Fault Refusal :=
  lift (fun w =>
    if (w.lane l).spine && (w.lane l.other).spine then (w.linkLose l m).updLane l fun L => L.inc F_LNK_CNT_CRC else w) s

end Sys2Proof.Machine
end

