-- ==== Sys2Proof/Machine/LnkRegs.lean ====
section
/-!
DEFINITION. Register commands: the commands of LNK (spec 13). Each is the write its row names, with every check and effect
of a register write (R110).
-/
namespace Sys2Proof.Machine

/-- READY (R387). -/
def execReady (l : LaneId) (wr : Writer) (s : State) : Host.Outcome State Fault Refusal :=
  lift (fun w => w.regCmd l wr A_LNK_CTRL 1#32) s

/-- LNK_RELEASE (R390). -/
def execLnkRelease (l : LaneId) (wr : Writer) (s : State) : Host.Outcome State Fault Refusal :=
  lift (fun w => w.regCmd l wr A_LNK_CTRL 2#32) s

/-- SELFTEST (R384). -/
def execSelftest (l : LaneId) (wr : Writer) (s : State) : Host.Outcome State Fault Refusal :=
  lift (fun w => w.regCmd l wr A_LNK_CTRL 3#32) s

/-- RESTART_PEER (R385). -/
def execRestartPeer (l : LaneId) (wr : Writer) (s : State) : Host.Outcome State Fault Refusal :=
  lift (fun w => w.regCmd l wr A_LNK_CTRL 4#32) s

/-- FWTEST_WRITE (R381). -/
def execFwtestWrite (l : LaneId) (wr : Writer) (ok : Bool) (fail : Bool) (s : State) : Host.Outcome State Fault Refusal :=
  lift (fun w => w.regCmd l wr A_LNK_FWTEST (BitVec.ofNat 32 (fail.toNat * 2 + ok.toNat))) s

/-- LNK_SWITCH (R402). -/
def execLnkSwitch (l : LaneId) (wr : Writer) (s : State) : Host.Outcome State Fault Refusal :=
  lift (fun w => w.regCmd l wr A_LNK_SWITCH 1#32) s

/-- UPDATE_START (R405). -/
def execUpdateStart (l : LaneId) (wr : Writer) (s : State) : Host.Outcome State Fault Refusal :=
  lift (fun w => w.regCmd l wr A_LNK_UPD 1#32) s

/-- UPDATE_COMMIT (R405). -/
def execUpdateCommit (l : LaneId) (wr : Writer) (s : State) : Host.Outcome State Fault Refusal :=
  lift (fun w => w.regCmd l wr A_LNK_UPD 2#32) s

/-- UPDATE_ABORT (R406). -/
def execUpdateAbort (l : LaneId) (wr : Writer) (s : State) : Host.Outcome State Fault Refusal :=
  lift (fun w => w.regCmd l wr A_LNK_UPD 3#32) s

end Sys2Proof.Machine
end

