-- ==== Sys2Proof/Machine/PicRegs.lean ====
section
/-!
DEFINITION. Register commands: the commands of PIC (spec 15). Each is the write its row names, with every check and effect
of a register write (R110).
-/
namespace Sys2Proof.Machine

/-- PIC_TXPUSH (R442). -/
def execPicTxpush (l : LaneId) (wr : Writer) (s : State) : Host.Outcome State Fault Refusal :=
  lift (fun w => w.regCmd l wr A_PIC_TXPUSH 1#32) s

/-- PIC_RXPOP (R437). -/
def execPicRxpop (l : LaneId) (wr : Writer) (s : State) : Host.Outcome State Fault Refusal :=
  lift (fun w => w.regCmd l wr A_PIC_RXPOP 1#32) s

/-- LEAVE (R452). -/
def execLeave (l : LaneId) (wr : Writer) (s : State) : Host.Outcome State Fault Refusal :=
  lift (fun w => w.regCmd l wr A_PIC_CTRL (setBits ((w.lane l).rwWord A_PIC_CTRL) 3 0 1)) s

end Sys2Proof.Machine
end

