-- ==== Sys2Proof/Machine/PrkRegs.lean ====
section
/-!
DEFINITION. Register commands: the commands of PRK (spec 10). Each is the write its row names, with every check and effect
of a register write (R110).
-/
namespace Sys2Proof.Machine

/-- STOP_LIST_PUBLISH (R262). -/
def execStopListPublish (l : LaneId) (wr : Writer) (n : Byte) (s : State) : Host.Outcome State Fault Refusal :=
  lift (fun w => w.regCmd l wr A_PRK_SLPUB (BitVec.ofNat 32 n.toNat)) s

/-- SUBMISSION_PUSH (R267). -/
def execSubmissionPush (l : LaneId) (wr : Writer) (s : State) : Host.Outcome State Fault Refusal :=
  lift (fun w => w.regCmd l wr A_PRK_SUBPUSH 1#32) s

/-- ANSPOP (R281). -/
def execAnspop (l : LaneId) (wr : Writer) (s : State) : Host.Outcome State Fault Refusal :=
  lift (fun w => w.regCmd l wr A_PRK_ANSPOP 1#32) s

/-- PRK_MODE_WRITE (R286). -/
def execPrkModeWrite (l : LaneId) (wr : Writer) (v : Word) (s : State) : Host.Outcome State Fault Refusal :=
  lift (fun w => w.regCmd l wr A_PRK_MODE v) s

end Sys2Proof.Machine
end

