-- ==== Sys2Proof/Machine/PwrRegs.lean ====
section
/-!
DEFINITION. Register commands: the commands of PWR (spec 17). Each is the write its row names, with every check and effect
of a register write (R110).
-/
namespace Sys2Proof.Machine

/-- DOZE (R491). -/
def execDoze (l : LaneId) (wr : Writer) (s : State) : Host.Outcome State Fault Refusal :=
  lift (fun w => w.regCmd l wr A_PWR_CTRL 1#32) s

/-- HUSH (R493). -/
def execHush (l : LaneId) (wr : Writer) (s : State) : Host.Outcome State Fault Refusal :=
  lift (fun w => w.regCmd l wr A_PWR_CTRL 2#32) s

/-- PWR_RUN (R491). -/
def execPwrRun (l : LaneId) (wr : Writer) (s : State) : Host.Outcome State Fault Refusal :=
  lift (fun w => w.regCmd l wr A_PWR_CTRL 3#32) s

/-- PWR_WAKESTAT_WRITE (R494). -/
def execPwrWakestatWrite (l : LaneId) (wr : Writer) (v : Word) (s : State) : Host.Outcome State Fault Refusal :=
  lift (fun w => w.regCmd l wr A_PWR_WAKESTAT v) s

end Sys2Proof.Machine
end

