-- ==== Sys2Proof/Machine/SebRegs.lean ====
section
/-!
DEFINITION. Register commands: the commands of SEB (spec 11). Each is the write its row names, with every check and effect
of a register write (R110).
-/
namespace Sys2Proof.Machine

/-- SEB_REQ_WRITE (R327). -/
def execSebReqWrite (l : LaneId) (wr : Writer) (v : Word) (s : State) : Host.Outcome State Fault Refusal :=
  lift (fun w => w.regCmd l wr A_SEB_REQ v) s

/-- SEB_OPEN (R339). -/
def execSebOpen (l : LaneId) (wr : Writer) (s : State) : Host.Outcome State Fault Refusal :=
  lift (fun w => w.regCmd l wr A_SEB_CMD 1#32) s

/-- SEB_COMMIT (R341). -/
def execSebCommit (l : LaneId) (wr : Writer) (s : State) : Host.Outcome State Fault Refusal :=
  lift (fun w => w.regCmd l wr A_SEB_CMD 2#32) s

/-- SEB_ABORT (R340). -/
def execSebAbort (l : LaneId) (wr : Writer) (s : State) : Host.Outcome State Fault Refusal :=
  lift (fun w => w.regCmd l wr A_SEB_CMD 3#32) s

/-- SEB_RESET (R336). -/
def execSebReset (l : LaneId) (wr : Writer) (s : State) : Host.Outcome State Fault Refusal :=
  lift (fun w => w.regCmd l wr A_SEB_CMD 4#32) s

end Sys2Proof.Machine
end

