-- ==== Sys2Proof/Machine/SelRegs.lean ====
section
/-!
DEFINITION. Register commands: the commands of SEL (spec 08). Each is the write its row names, with every check and effect
of a register write (R110).
-/
namespace Sys2Proof.Machine

/-- SEL_CLAIM (R217). -/
def execSelClaim (l : LaneId) (wr : Writer) (tgt : Word) (s : State) : Host.Outcome State Fault Refusal :=
  lift (fun w => w.regCmd l wr A_SEL_CLAIM tgt) s

end Sys2Proof.Machine
end

