-- ==== Sys2Proof/Machine/Service.lean ====
section
/-!
DEFINITION. The service protocol as the reference firmware answers it (spec 16, R454, R469 to R475, Tables 16.3, 16.4), the image operations (R404, R474), and the
debug port (R483).
-/
namespace Sys2Proof.Machine

/-! ### Requests -/

/-- What the firmware takes as part of a request (R470): on USB a packet; on CAN a segment in an FD frame of 64 bytes with BRS, on base identifier 0x6A0 + group
position. -/
def svcTaken (L : Lane) (n : SessNo) : SvcUnit → Option Bytes
  | .usb p => if n = 0 then some p else none
  | .can fr => if n = 1 ∧ !fr.ide ∧ fr.fdf ∧ fr.brs ∧ fr.id.toNat = 0x6A0 + L.pos.val ∧ fr.data.length = 64 then some fr.data else none

/-- The frame in the packets or segments of a request, and whether they came in order; none where USB brought no whole one. The zeros that fill up a last
segment are cut by LEN. Of segments out of order only that of index 0 can be read: it holds the TAG (R471). -/
def svcUnframe (n : SessNo) (units : List Bytes) : Option (Bytes × Bool) :=
  if n = 0 then
    match (units.flatten.dropWhile (· != 0x7E#8)).dropWhile (· == 0x7E#8) with
    | [] => none
    | r =>
      let f := r.takeWhile (· != 0x7E#8)
      if f.length = r.length then none else some (usbUnstuff f, true)
  else if units.isEmpty then none
  else
    let f := units.flatMap fun u => (u.drop 1).take 63
    let order := units.zipIdx.all fun (u, k) =>
      leNat (u.take 1) == k % 128 + if k + 1 = units.length then 128 else 0
    if order then some (f.take (14 + leNat ((f.drop 8).take 2)), true)
    else some ((((units.find? fun u => leNat (u.take 1) % 128 == 0).getD []).drop 1).take 63, false)

/-- The role of a session: what it has been granted. -/
def Lane.svcRole (L : Lane) (n : SessNo) : Nat := if L.sst n = ssGranted then L.f (F_SYS_SESSSTAT_ROLE n.val) else 0

/-- The firmware of the holder can serve: session 0 while the USB device is attached (R476), session 1 on CAN, which the loader does not serve (R404). -/
def Lane.svcUp (L : Lane) (n : SessNo) : Bool :=
  L.spine && L.holder && L.engLive (L.svcEng n) && (if n = 0 then L.b F_USB_STAT_ATTACHED else !L.b F_LNK_UPDSTAT_LOADER)

/-- The LANE field names the other lane (R473). -/
def wrongLane (l : LaneId) (f : LaneField) : Bool :=
  match f, l with
  | .a, .b | .b, .a => true
  | _, _ => false

/-- The operations the loader serves (R404). -/
def loaderOp (op : Nat) : Bool := [0x01, 0x02, 0x03, 0x04, 0x05, 0x30, 0x31, 0x32, 0x33, 0x40, 0x41, 0x50].contains op

/-- What an operation comes to: a response at once, or later. -/
inductive SvcRes where
  | now (w : World) (st flags : Nat) (payload : Bytes)
  | later (w : World)

/-- A request (R472, R473): answered for the wrong lane, a second request, an operation the loader lacks and a role too low, in this order; else carried
out. -/
def World.svcRun (l : LaneId) (n : SessNo) (tag : Tag) (field : LaneField) (op least : Nat) (body : Eng → World → SvcRes) (w : World) : World :=
  let L := w.lane l
  let ans := fun (st : Nat) => w.updLane l (svcAnswer n tag.toNat op st 0 [])
  if !L.svcUp n then w
  else if wrongLane l field then ans svWrongLane
  else if L.svc[n].busy.isSome then ans sysSessBusy
  else if L.b F_LNK_UPDSTAT_LOADER && !loaderOp op then ans svBadOp
  else if L.svcRole n < least then ans stRoleDenied
  else match body (L.svcEng n) (w.updLane l (sbDrain (L.svcEng n))) with
    | .now w st flags p => w.updLane l (svcAnswer n tag.toNat op st flags p)
    | .later w => w.updLane l fun L => L.updSvc n fun s => { s with busy := some (tag.toNat, op) }

/-- A register write by the serving engine, its KLAST written. -/
def World.svcWrite (l : LaneId) (e : Eng) (a : Nat) (v : Word) (w : World) : World × Nat :=
  let r := w.regWrite l (.eng e) a v false
  (r.1.kUpd l e fun g => { g with klast := r.2 }, r.2)

/-- Words written to a run of registers, as far as they are accepted. -/
def World.svcFill (l : LaneId) (e : Eng) : Nat → List Word → World → World × Nat
  | _, [], w => (w, stOk)
  | a, v :: r, w =>
    let x := w.svcWrite l e a v
    if x.2 = stOk then World.svcFill l e (a + 4) r x.1 else x

/-- The words of a byte string. -/
def bytesWords (n : Nat) (b : Bytes) : List Word := (List.range n).map fun k => BitVec.ofNat 32 (leNat ((b.drop (4 * k)).take 4))

/-- An answer without payload. -/
def svcDone (r : World × Nat) : SvcRes := .now r.1 r.2 0 []

/-! ### Frames (R471, R472) -/

/-- An OP of Table 16.4. -/
def knownOp (op : Nat) : Bool :=
  [0x01, 0x02, 0x03, 0x04, 0x05, 0x10, 0x11, 0x12, 0x13, 0x14, 0x15, 0x20, 0x21, 0x30, 0x31, 0x32, 0x33, 0x40, 0x41, 0x50].contains op

/-- A request's frame as it arrives: kept to 4,174 bytes; bad, it is answered where its TAG can be read. -/
def svcFrame (n : SessNo) (frame : Bytes) (order : Bool) (L : Lane) : Lane :=
  let f := frame.take 4174
  let long := decide (4174 < frame.length)
  let body := f.take (f.length - 4)
  let good := order && !long && decide (14 ≤ f.length) && leNat (f.take 1) == 1 && crc32 body == BitVec.ofNat 32 (leNat (f.drop (f.length - 4)))
  let op := leNat ((f.drop 1).take 1)
  let tag := leNat ((f.drop 2).take 2)
  if good then (if knownOp op then L else svcAnswer n tag op svBadOp 0 [] L)
  else if 4 ≤ f.length then svcAnswer n tag op svBadFrame (if long then fgTrunc else 0) [] L
  else L.updSvc n fun s => { s with discarded := s.discarded + 1 }

/-- The packets or segments of a request, taken from its port. -/
def svcReceive (n : SessNo) (units : List SvcUnit) (L : Lane) : Lane :=
  if !L.svcUp n then L
  else match svcUnframe n (units.filterMap (svcTaken L n)) with
    | some (frame, order) => svcFrame n frame order L
    | none => L

/-- The firmware hands what is left of its responses to their port (R470): packets to the USB queue as far as it has room, on CAN a segment to a free
transmit object of the port it serves; what a port no longer served was to carry is dropped (log 155). -/
def svcPump (n : SessNo) (L : Lane) : Lane :=
  match L.svc[n].out with
  | [] => L
  | u :: r =>
    if !L.svcUp n then L.updSvc n fun s => { s with out := [] }
    else if n = 0 then
      let room := 4 - L.usb.tx.length
      if room = 0 then L
      else (usbShow (L.updUsb fun x => { x with tx := x.tx ++ (u :: r).take room })).updSvc n fun s => { s with out := (u :: r).drop room }
    else
      let p := Config.svcPort
      let h0 := BitVec.ofNat 32 (0x6C0 + L.pos.val + 3 * 2 ^ 30)
      let m := (L.cn p).mode
      if !L.up (.can p) || !L.b (F_CAN_CTRL_FDEN p) || L.inTelBand p h0 || m == canModeOff || m == canModeListen || m == canModeAuto then L
      else match ((L.cn p).inState coFree).filter fun k => k.val < 28 with
        | [] => L
        | k :: _ => (canFill p k h0 15#32 u L).updSvc n fun s => { s with out := r }

/-! ### Sessions -/

/-- HELLO: UID, group position, LNK_STAT, VERSION, protocol version. -/
def svcHello (l : LaneId) (w : World) : SvcRes :=
  let L := w.lane l
  .now w stOk 0 (uidBytes ++ leBytes 1 L.pos.val ++ wordBytes (rget L.regs A_LNK_STAT) ++ leBytes 4 (L.flashWord (L.slotBase + 0xC)) ++ leBytes 1 1)

/-- CHAL: C and the salt. -/
def svcChal (l : LaneId) (n : SessNo) (role : Role) (e : Eng) (w : World) : SvcRes :=
  let r := w.svcWrite l e (A_SYS_SESSCTL n.val) (BitVec.ofNat 32 (0x10000000 + role.num * 0x1000000))
  .now r.1 r.2 0 (if r.2 = stOk then regBytes (r.1.lane l) (A_SYS_CHAL n.val 0) 12 else [])

/-- LOGIN: the response goes to the window, cut to its 64 bytes with TRUNC (R7); the granted role comes back. -/
def svcLogin (l : LaneId) (n : SessNo) (resp : Bytes) (e : Eng) (w : World) : SvcRes :=
  let fg := if 64 < resp.length then fgTrunc else 0
  let r := w.svcFill l e (A_SYS_RESP n.val 0) (bytesWords 16 resp)
  if r.2 ≠ stOk then .now r.1 r.2 fg []
  else
    let r := r.1.svcWrite l e (A_SYS_SESSCTL n.val) 0x20000000#32
    .now r.1 r.2 fg (if r.2 = stOk then leBytes 1 ((r.1.lane l).svcRole n) else [])

/-- KEEP: the remaining idle time. -/
def svcKeep (l : LaneId) (n : SessNo) (e : Eng) (w : World) : SvcRes :=
  let r := w.svcWrite l e (A_SYS_SESSCTL n.val) 0x40000000#32
  .now r.1 r.2 0 (if r.2 = stOk then leBytes 2 ((r.1.lane l).idleRem w.time n) else [])

/-- SETCRED (R459): the credential to SYS_CREDDATA, then the command. -/
def svcSetcred (l : LaneId) (n : SessNo) (role : Role) (data : Bytes) (e : Eng) (w : World) : SvcRes :=
  let L := w.lane l
  let first := L.noMkrKey && role == .mkr && n == 0
  if L.svcRole n < 3 ∧ ¬ first then svcDone (w, stRoleDenied)
  else if data.length ≠ (if role = .mkr then 64 else 48) then svcDone (w, stBadValue)
  else
    let ws := bytesWords 16 data
    let r := w.svcFill l e (A_SYS_CREDDATA 0 0) (ws.take 8)
    let r := if r.2 = stOk then r.1.svcFill l e (A_SYS_CREDDATA 1 0) (ws.drop 8) else r
    if r.2 ≠ stOk then svcDone r else svcDone (r.1.svcWrite l e A_SYS_CREDCTL (BitVec.ofNat 32 (0x10000000 + role.num * 0x1000000)))

/-! ### Registers and tables -/

/-- RDREG: value and status of each word. -/
def svcRdreg (l : LaneId) (e : Eng) : Nat → Nat → World → World × Bytes
  | 0, _, w => (w, [])
  | n + 1, a, w =>
    let r := if (rowOf a).isNone ∨ a % 4 ≠ 0 then (w, 0#32, stBadValue) else w.regRead l (some e) a
    let x := svcRdreg l e n (a + 4) (r.1.kUpd l e fun g => { g with klast := r.2.2 })
    (x.1, wordBytes r.2.1 ++ leBytes 1 r.2.2 ++ x.2)

/-- A table's offset in the table SRAM, the bytes of an entry and its entries (Table 3.4). -/
def svcTable (table : Nat) (buf : Bool) : Option (Nat × Nat × Nat) :=
  let b := fun (x size : Nat) => x + (if buf then size else 0)
  match table with
  | 0 => some (0, 32, 4096)
  | 1 => some (0x20000, 32, 128)
  | 2 => some (b 0x21000 0x2000, 16, 512)
  | 3 => some (b 0x25000 0x1000, 8, 512)
  | 4 => some (b 0x27000 0x2000, 4, 2048)
  | 5 => some (0x30000, 16, 2048)
  | 6 => some (0x40000, 4, 65536)
  | _ => none

/-- RDTAB: at most 4,096 bytes; a count beyond the table is cut to it with TRUNC (R7), and 0 asks for nothing (R6). -/
def svcRdtab (l : LaneId) (table : Nat) (buf : Bool) (first count : Nat) (w : World) : SvcRes :=
  match svcTable table buf with
  | none => svcDone (w, stBadValue)
  | some (off, size, n) =>
    if n ≤ first then svcDone (w, stBadValue)
    else if count = 0 then svcDone (w, stNoop)
    else
      let want := min count (n - first)
      let k := min want (4096 / size)
      .now w stOk ((if n - first < count then fgTrunc else 0) + if k < want then fgMore else 0) (readBytes 0 (w.lane l).tsram (off + first * size) (k * size))

/-- A buffer that its select bit names, of any entry written (R472), or that its block still uses (R66, R67; DEDUCED, log 106). -/
def Lane.svcSelected (L : Lane) (table : Nat) (buf : Bool) (first k : Nat) : Bool :=
  (match svcTable table buf with
  | some (off, size, _) => (List.range (k * size / 4)).any fun j => L.tsLive (off + first * size + 4 * j)
  | none => false) ||
  match table with
  | 2 => L.b F_BOB_LTCTL_LTSEL == buf
  | 3 => L.b F_TAT_CTRL_GSEL == buf
  | 4 => (decide (first < 1024) && L.b (F_DOR_CTRL_FSEL 0) == buf) || (decide (1024 < first + k) && L.b (F_DOR_CTRL_FSEL 1) == buf)
  | _ => false

/-- Words stored to the table SRAM by the serving engine; those a block keeps to itself are left out. -/
def svcStore : Nat → List Word → Lane → Lane
  | _, [], L => L
  | a, v :: r, L => svcStore (a + 4) r (if (L.tsRefuses a).isNone then tsStore a v L else L)

/-- The ports of directory entries: each rebuilds its index. -/
def svcRebuild (l : LaneId) (e : Eng) (ports : List Nat) (w : World) : World :=
  ports.foldl (fun w p =>
    let v := setBits ((w.lane l).rwWord (A_CAN_DIRCTL p)) 3 0 1
    (w.svcWrite l e (A_CAN_DIRCTL p) v).1) w

/-- WRTAB: not into a table that is RO, nor into a selected buffer; a directory entry is invalid while it is rewritten, and its port then rebuilds
(spec 14). -/
def svcWrtab (l : LaneId) (table : Nat) (buf : Bool) (first : Nat) (data : Bytes) (e : Eng) (w : World) : SvcRes :=
  let L := w.lane l
  match svcTable table buf with
  | none => svcDone (w, stBadValue)
  | some (off, size, n) =>
    let k := data.length / size
    if table = 0 ∨ table = 1 ∨ 6 ≤ table ∨ data.length % size ≠ 0 ∨ n < first + k then svcDone (w, stBadValue)
    else if L.svcSelected table buf first k then svcDone (w, svTableLive)
    else
      let a := tsBase + off + first * size
      let ws := bytesWords (data.length / 4) data
      if table ≠ 5 then svcDone (w.updLane l (svcStore a ws), stOk)
      else
        let w := w.updLane l fun L => (List.range k).foldl (fun L i =>
          let x := a + 16 * i
          let L := tsStore x (putBit (L.ts (x - tsBase)) 30 false) L
          tsStore x (listGet 0 ws (4 * i)) (svcStore (x + 4) ((ws.drop (4 * i + 1)).take 3) L)) L
        let ports := ((List.range k).map fun i => bits (listGet 0 ws (4 * i + 1)) 5 4).eraseDups
        svcDone (svcRebuild l e ports w, stOk)

/-! ### Operators, restart -/

/-- The number of an operator's command. -/
def opCmdNum : OpCmd → Nat
  | .lockout => 0
  | .unlock => 1
  | .park => 2
  | .unpark => 3
  | .indepOn => 4
  | .indepOff => 5
  | .faultAck => 6

/-- One bit of a register written by the serving engine. -/
def World.svcBit (l : LaneId) (e : Eng) (a k : Nat) (b : Bool) (w : World) : World × Nat := w.svcWrite l e a (setBits ((w.lane l).rwWord a) k k b.toNat)

/-- The car in or out of service for hall calls (INSERV of Table 10.2), published with the stop list as it stands (R262). -/
def World.svcInserv (l : LaneId) (e : Eng) (b : Bool) (w : World) : World × Nat :=
  let r := w.svcBit l e (A_PRK_CVIEW 0) 18 b
  if r.2 ≠ stOk then r else r.1.svcWrite l e A_PRK_SLPUB (BitVec.ofNat 32 (bits (listGet 0 (w.lane l).prk.pub 3) 31 24))

/-- CLRFLT to each door that is in FAULT (R242). -/
def World.svcClrFlt (l : LaneId) (e : Eng) (w : World) : World × Nat :=
  (List.finRange 2).foldl (fun r d =>
    if r.2 = stOk ∧ (r.1.lane l).f (F_DOR_STAT_STATE d.val) = dsFault then r.1.svcWrite l e (A_DOR_CMD d.val) 0x80000000#32 else r) (w, stOk)

/-- What the reference firmware does for an operator (R454, log 107): a floor lockout is a bit of PRK's landing RAM; parking is SEL_CTRL.PARK;
independent service takes the car out of service for hall calls; a fault of a door is acknowledged by its CLRFLT. -/
def World.opAct (l : LaneId) (cmd : OpCmd) (landing : Landing) (e : Eng) (w : World) : World × Nat :=
  match cmd with
  | .lockout => w.svcBit l e (A_PRK_LANDX landing.val) 0 true
  | .unlock => w.svcBit l e (A_PRK_LANDX landing.val) 0 false
  | .park => w.svcBit l e A_SEL_CTRL 0 true
  | .unpark => w.svcBit l e A_SEL_CTRL 0 false
  | .indepOn => w.svcInserv l e false
  | .indepOff => w.svcInserv l e true
  | .faultAck => w.svcClrFlt l e

/-- The staged event-log entry of an operator's action: word 2 names the command, the role and the landing (DESIGN CHOICE, log 107). -/
def opEntry (cmd : OpCmd) (role : Nat) (landing : Landing) : Vector Word 8 :=
  Vector.ofFn fun k : Fin 8 =>
    if k.val = 2 then BitVec.ofNat 32 (opCmdNum cmd + 2 ^ 8 * role + 2 ^ 16 * landing.val) else Config.opLog (opCmdNum cmd) role landing.val k.val

/-- OPCMD (R454): every action is recorded in the event log, so none is performed while that takes no entry: QFULL (R87, R9). -/
def svcOpcmd (l : LaneId) (n : SessNo) (cmd : OpCmd) (landing : Landing) (e : Eng) (w : World) : SvcRes :=
  if (w.lane l).evFull then svcDone (w, stQfull)
  else
    let r := w.opAct l cmd landing e
    if r.2 ≠ stOk then svcDone r
    else svcDone (r.1.updLane l fun L => (evPush e 1#32 (L.updEng e fun g => { g with qdata := opEntry cmd ((w.lane l).svcRole n) landing })).1, stOk)

/-! ### Logs -/

/-- A ring of entries of 32 bytes in the log bank: its first logical sector, its sectors, the entries ever written, and the oldest one kept. -/
def Lane.logRing (L : Lane) (log : Nat) : Nat × Nat × Nat × Nat :=
  let (sec, n, total) := match log with
    | 0 => (18, 96, L.wer.evN)
    | 1 => (4, 12, L.wer.genN)
    | _ => (0, 4, L.wer.safN)
  (sec, n, total, ((total - 1) / 128 + 1 - n) * 128)

/-- RDLOG (R475): from the first entry at or above the SEQ asked for; a count of 0 asks for nothing (R6), one above 128 is refused with BAD_VALUE (DESIGN
CHOICE, log 176). -/
def svcRdlog (l : LaneId) (log seq count : Nat) (w : World) : SvcRes :=
  if 2 < log ∨ 128 < count then svcDone (w, stBadValue)
  else if count = 0 then svcDone (w, stNoop)
  else
    let L := w.lane l
    let (sec, n, total, lo) := L.logRing log
    let at_ := fun k => L.bankGet sec n 32 k
    let all := (List.range' lo (total - lo)).map at_
    let rest := all.dropWhile fun b => decide (leNat (b.take 4) < seq)
    let gap := decide (0 < lo) && (match all.head? with
      | some b => decide (seq < leNat (b.take 4))
      | none => false)
    .now w stOk ((if count < rest.length then fgMore else 0) + (if gap then fgGap else 0)) (rest.take count).flatten

/-- ARCHIVE (R469): only with the newest link, and not while a safety configuration session is open; one at a time (DESIGN CHOICE, log 157). -/
def svcArchive (l : LaneId) (link : Bytes) (e : Eng) (w : World) : SvcRes :=
  let L := w.lane l
  if L.wer.safLink ≠ some link then svcDone (w, stBadValue)
  else if L.f F_SEB_SESS_STATE ≠ 0 then svcDone (w, sebSessDenied)
  else if L.log.archiving then svcDone (w, sysSessBusy)
  else .later (w.updLane l fun L => { L with log := { L.log with archiving := true, archSrc := e.val } })

/-- The SEQ of a queued entry of the change log, where it belongs to the safety region. -/
def Lane.clSafeSeq (L : Lane) (k : Nat) : Option Nat :=
  if (L.clHeadWord k).getLsbD 18 then some (readWord L.tsram (0x2C800 + 64 * ((L.log.clHead + k) % 32))).toNat else none

/-- The SEQ of the anchor of an archive: it continues those archived (R469), so it is that of the first safety-region entry still queued, each of which then
takes the next (DESIGN CHOICE, log 178); else the supervisor's. -/
def Lane.anchorSeq (L : Lane) (next : Nat) : Nat := ((List.range L.log.clN).findSome? L.clSafeSeq).getD next

/-- The queued safety-region entries take the next SEQ each. -/
def clShift (L : Lane) : Lane :=
  (List.range L.log.clN).foldl (fun L k => match L.clSafeSeq k with
    | some q => L.tsPut (0x2C800 + 64 * ((L.log.clHead + k) % 32)) (leBytes 4 ((q + 1) % 2 ^ 32))
    | none => L) L

/-- E10 ends an archive: the four sectors begin anew, and the anchor continues SEQ and the chain; the ARCHIVE is answered where its session still waits for
it. -/
def World.archiveEnd (l : LaneId) (w : World) : World :=
  let L := w.lane l
  if !L.log.archiving then w
  else
    let i := laneIx l
    let seq := w.sup.seqSaf[i]
    let e := (clWords (L.anchorSeq seq) L.gtime 3 true l L.log.archSrc ckArchive 0 0 (BitVec.ofNat 32 L.wer.safN)).flatMap wordBytes
    let w := { w with sup := { w.sup with seqSaf := w.sup.seqSaf.set i ((seq + 1) % 2 ^ 32) } }
    w.updLane l fun L =>
      let L := (List.range 4).foldl (fun L sec => werFresh sec L) L
      let L := clWrite l true e ((clShift L).updWer fun r => { r with safN := 0 })
      let L := { L with log := { L.log with archiving := false } }
      match L.svcBusyOp 0x21 with
      | some n => svcEnd n stOk (L.bankGet 0 4 32 0) L
      | none => L

/-! ### Images (R404, R474) -/

/-- An image on its way. -/
def Lane.updImg (L : Lane) (f : Img → Img) : Lane := { L with img := f L.img }

/-- IMGBEGIN: UPDATE_START; in the loader the lane's own slot 0 is erased. A length of 0 begins nothing (R6), and one beyond the slot's 3 MiB is cut to
it with TRUNC (R7). -/
def svcImgbegin (l : LaneId) (len : Nat) (e : Eng) (w : World) : SvcRes :=
  let start := fun L : Lane => L.updImg fun _ => { active := true, len := min len 0x300000 }
  let fg := if 0x300000 < len then fgTrunc else 0
  if len = 0 then svcDone (w, stNoop)
  else if (w.lane l).b F_LNK_UPDSTAT_LOADER then .now (w.updLane l fun L => start (L.flashErase 0 0x300000)) stOk fg []
  else
    let r := w.svcWrite l e A_LNK_UPD 1#32
    if r.2 = stOk then .now (r.1.updLane l start) stOk fg [] else svcDone r

/-- IMGBLOCK: its offset and length judged, a block of more than 4,096 bytes refused with BAD_VALUE (DESIGN CHOICE, log 176), then sent to the other
lane, one block at a time (DESIGN CHOICE, log 157); the loader programs it itself. -/
def svcImgblock (l : LaneId) (off : Nat) (data : Bytes) (crc : Word) (w : World) : SvcRes :=
  let L := w.lane l
  if !L.img.active ∨ off % 4096 ≠ 0 ∨ L.img.len ≤ off ∨ 4096 < data.length then svcDone (w, stBadValue)
  else if data = [] ∨ L.img.acked.contains off then svcDone (w, stNoop)
  else if L.img.sent.isSome then svcDone (w, sysSessBusy)
  else if L.b F_LNK_UPDSTAT_LOADER then
    if crc32 data ≠ crc ∨ 0x300000 < off + data.length then svcDone (w, nvmVerify)
    else svcDone (w.updLane l fun L => (L.updImg fun i => { i with acked := off :: i.acked }).flashPut off data, stOk)
  else .later (w.updLane l fun L => (L.updImg fun i => { i with sent := some off, sentAt := w.time }).updLnk fun k => { k with updOut := some (off, data, crc), updPos := 0 })

/-- Every block up to the announced length has been acknowledged. -/
def Img.whole (i : Img) : Bool := i.active && (List.range ((i.len + 4095) / 4096)).all fun k => i.acked.contains (4096 * k)

/-- IMGCOMMIT: LNK_UPDSTAT comes back; the loader writes the boot record, and a Lane reset follows. -/
def svcImgcommit (l : LaneId) (e : Eng) (w : World) : SvcRes :=
  let L := w.lane l
  if !L.img.whole then svcDone (w, stBadValue)
  else if L.b F_LNK_UPDSTAT_LOADER then svcDone ((w.updLane l (bootWrite 0)).laneResetIn l false, stOk)
  else
    let r := w.svcWrite l e A_LNK_UPD 2#32
    let w := if r.2 = stOk then r.1.updLane l fun L => L.updImg fun _ => {} else r.1
    .now w r.2 0 (wordBytes (rget (w.lane l).regs A_LNK_UPDSTAT))

/-- IMGABORT. -/
def svcImgabort (l : LaneId) (e : Eng) (w : World) : SvcRes :=
  if (w.lane l).b F_LNK_UPDSTAT_LOADER then svcDone (w.updLane l fun L => L.updImg fun _ => {}, if (w.lane l).img.active then stOk else stNoop)
  else
    let r := w.svcWrite l e A_LNK_UPD 3#32
    svcDone (r.1.updLane l fun L => if r.2 = stOk then L.updImg fun _ => {} else L, r.2)

/-- UPDACK at the holder (R474): the block's IMGBLOCK is answered; a block that failed its check may be sent again. -/
def svcUpdack (m : Nat × Bool) (L : Lane) : Lane :=
  if L.img.sent ≠ some m.1 then L
  else
    let L := L.updImg fun i => { i with sent := none, acked := if m.2 then m.1 :: i.acked else i.acked }
    imgAnswer (if m.2 then stOk else nvmVerify) L

/-- A block whose UPDACK has not come in 100 ms, its UPD or UPDACK lost on the link or its receiver gone (R376): the firmware answers its IMGBLOCK as
one whose check failed, and it may be sent again (R472; DESIGN CHOICE, log 157). -/
def imgLate (now : Nat) (L : Lane) : Lane :=
  if L.img.sent.isSome ∧ L.img.sentAt + 100000 ≤ now then imgAnswer nvmVerify (L.updImg fun i => { i with sent := none }) else L

/-- The acknowledgement crosses the lane link, gate G5 open. -/
def World.updackTake (l : LaneId) (w : World) : World :=
  let o := w.lane l.other
  if (w.lane l).gateState 5 ≠ gOpen ∨ !(w.lane l).spine ∨ !o.spine ∨ o.lnk.ahead 5 then w
  else match o.lnk.updAckOut with
    | none => w
    | some m => (w.updLane l.other fun L => L.updLnk fun k => { k with updAckOut := none }).updLane l (svcUpdack m)

/-! ### Attestation (R480, R481) -/

/-- The nonce to MEA, and SIGN. -/
def svcSign (l : LaneId) (nonce : Bytes) (e : Eng) (w : World) : World × Nat :=
  let r := w.svcFill l e (A_MEA_NONCE 0) (bytesWords 8 nonce)
  if r.2 ≠ stOk then r else r.1.svcWrite l e A_MEA_CTRL (BitVec.ofNat 32 (0x10000000 + nonce.length * 256))

/-- ATTEST: answered when the report is signed; while MEA forms another it waits. -/
def svcAttest (l : LaneId) (n : SessNo) (nonce : Bytes) (e : Eng) (w : World) : SvcRes :=
  if nonce.length < 8 ∨ 32 < nonce.length then svcDone (w, stBadValue)
  else if (w.lane l).b F_MEA_STAT_BUSY then .later (w.updLane l fun L => L.updSvc n fun s => { s with nonce := some nonce })
  else
    let r := svcSign l nonce e w
    if r.2 = stOk then .later r.1 else svcDone r

/-- The ATTEST whose report this is gets it; one that waits is begun. -/
def World.attestEnd (l : LaneId) (w : World) : World :=
  let mine := (List.finRange 2).find? fun n => ((w.lane l).svc[n].busy.map (·.2)) == some 0x40 && (w.lane l).svc[n].nonce.isNone
  let w := match mine with
    | some n => w.updLane l fun L => svcEnd n stOk (regBytes L (A_MEA_REPORT 0) 96) L
    | none => w
  match (List.finRange 2).find? fun n => (w.lane l).svc[n].nonce.isSome with
  | some n =>
    let nonce := (w.lane l).svc[n].nonce.getD []
    let w := w.updLane l fun L => L.updSvc n fun s => { s with nonce := none }
    let r := svcSign l nonce ((w.lane l).svcEng n) w
    if r.2 = stOk then r.1 else r.1.updLane l (svcEnd n r.2 [])
  | none => w

/-- The report is signed (R480). -/
def World.signEnd (l : LaneId) (w : World) : World :=
  if !(w.lane l).up .mea ∨ (w.lane l).mea.forming.isNone then w
  else World.attestEnd l { w.updLane l (meaSigned l w.freeCtr) with freeCtr := w.freeCtr + 1 }

/-- CERT. -/
def svcCert (l : LaneId) (w : World) : SvcRes :=
  .now w stOk 0 (((List.range 256).flatMap fun k => wordBytes (Config.cert l.num k)).take (Config.certLen l.num))

/-! ### The debug port (R483) -/

/-- A debug operation: while DBGON is 1. -/
def onDebug (l : LaneId) (f : World → World) (w : World) : World :=
  if (w.lane l).spine && (w.lane l).b F_SYS_DBGCTL_DBGON then f w else w

/-- The response on the debug port. -/
def dbgAnswer (op st : Nat) (payload : Bytes) (L : Lane) : Lane := { L with dbgp := { L.dbgp with op := op, status := st, payload := payload } }

/-- HALT and RUN of an engine. -/
def dbgHalt (op : Nat) (e : Eng) (on : Bool) (L : Lane) : Lane := dbgAnswer op stOk [] (L.updEng e fun g => { g with halted := on })

/-- STEP: one instruction of an engine that is halted. -/
def World.dbgStep (l : LaneId) (e : Eng) (w : World) : World :=
  let g := (w.lane l).eng[e]
  if !g.halted then w.updLane l (dbgAnswer 0x61 stNoop [])
  else
    let w := if (w.lane l).up (.eng e) ∧ g.phase = .running ∧ (w.lane l).waitOver e then w.kStep l e else w
    w.updLane l (dbgAnswer 0x61 stOk [])

/-- A word of memory as the debug port reads it. -/
def World.dbgRead (l : LaneId) (a : Nat) (w : World) : World × Word × Nat :=
  let L := w.lane l
  if a % 4 ≠ 0 ∨ L.ue.contains a then (w, 0, stBadValue)
  else if (rowOf a).isSome then w.regRead l none a
  else if a < 0x20000 then (w, BitVec.ofNat 32 (leNat ((List.range 4).map fun i => Config.bootRom (a + i))), stOk)
  else if 0x08000000 ≤ a ∧ a < 0x08800000 then (w, BitVec.ofNat 32 (L.flashWord (a - 0x08000000)), stOk)
  else if 0x20000000 ≤ a ∧ a < 0x20180000 then
    let e := engOfAddr a
    if a < engBase e + engSize e then (w, readWord L.eng[e].ram (a - engBase e), stOk) else (w, 0, stBadValue)
  else if tsBase ≤ a ∧ a < tsBase + 0x180000 then (w, L.ts (a - tsBase), stOk)
  else (w, 0, stBadValue)

/-- A word written through the debug port, with KROLE MKR and SRC 15. -/
def World.dbgWrite (l : LaneId) (a : Nat) (v : Word) (w : World) : World × Nat :=
  let L := w.lane l
  if a % 4 ≠ 0 then (w, stBadValue)
  else if (rowOf a).isSome then w.regWrite l .dbg a v false
  else if 0x20000000 ≤ a ∧ a < 0x20180000 then
    let e := engOfAddr a
    if a < engBase e + engSize e then (w.updLane l (ownPut e a v), stOk) else (w, stBadValue)
  else if tsBase ≤ a ∧ a < tsBase + 0x180000 then
    if (L.tsRefuses a).isSome then (w, stBadValue) else (w.updLane l (tsStore a v), stOk)
  else (w, stBadValue)

/-! ### Meanings -/

/-- SERVICE_FRAME (R470 to R472). -/
def execServiceFrame (l : LaneId) (n : SessNo) (units : List SvcUnit) (s : State) : Host.Outcome State Fault Refusal :=
  lift (fun w => w.updLane l (svcReceive n units)) s

/-- HELLO (R472). -/
def execHello (l : LaneId) (n : SessNo) (tag : Tag) (field : LaneField) (s : State) : Host.Outcome State Fault Refusal :=
  lift (World.svcRun l n tag field 0x01 0 fun _ w => svcHello l w) s

/-- SERVICE_CHAL (R456). -/
def execServiceChal (l : LaneId) (n : SessNo) (tag : Tag) (field : LaneField) (role : Role) (s : State) : Host.Outcome State Fault Refusal :=
  lift (World.svcRun l n tag field 0x02 0 (svcChal l n role)) s

/-- SERVICE_LOGIN (R457). -/
def execServiceLogin (l : LaneId) (n : SessNo) (tag : Tag) (field : LaneField) (_role : Role) (resp : Bytes) (s : State) : Host.Outcome State Fault Refusal :=
  lift (World.svcRun l n tag field 0x03 0 (svcLogin l n resp)) s

/-- SERVICE_LOGOUT (R460). -/
def execServiceLogout (l : LaneId) (n : SessNo) (tag : Tag) (field : LaneField) (s : State) : Host.Outcome State Fault Refusal :=
  lift (World.svcRun l n tag field 0x04 0 fun e w => svcDone (w.svcWrite l e (A_SYS_SESSCTL n.val) 0x30000000#32)) s

/-- SERVICE_KEEP (R460). -/
def execServiceKeep (l : LaneId) (n : SessNo) (tag : Tag) (field : LaneField) (s : State) : Host.Outcome State Fault Refusal :=
  lift (World.svcRun l n tag field 0x05 1 (svcKeep l n)) s

/-- RDREG (R472): a count of 0 asks for nothing (R6), one above 64 is refused with BAD_VALUE (DESIGN CHOICE, log 176). -/
def execRdreg (l : LaneId) (n : SessNo) (tag : Tag) (field : LaneField) (addr : Nat) (count : Nat) (s : State) : Host.Outcome State Fault Refusal :=
  lift (World.svcRun l n tag field 0x10 1 fun e w =>
    if 64 < count then svcDone (w, stBadValue) else if count = 0 then svcDone (w, stNoop) else .now (svcRdreg l e count addr w).1 stOk 0 (svcRdreg l e count addr w).2) s

/-- WRREG (R110). -/
def execWrreg (l : LaneId) (n : SessNo) (tag : Tag) (field : LaneField) (addr : Nat) (v : Word) (s : State) : Host.Outcome State Fault Refusal :=
  lift (World.svcRun l n tag field 0x11 2 fun e w =>
    if (rowOf addr).isNone ∨ addr % 4 ≠ 0 then svcDone (w, stBadValue)
    else
      let r := w.svcWrite l e addr v
      .now r.1 r.2 0 (leBytes 1 r.2)) s

/-- RDTAB (R472). -/
def execRdtab (l : LaneId) (n : SessNo) (tag : Tag) (field : LaneField) (table : Nat) (buf : Bool) (first : Nat) (count : Nat) (s : State) :
    Host.Outcome State Fault Refusal :=
  lift (World.svcRun l n tag field 0x12 1 fun _ w => svcRdtab l table buf first count w) s

/-- WRTAB (R472). -/
def execWrtab (l : LaneId) (n : SessNo) (tag : Tag) (field : LaneField) (table : Nat) (buf : Bool) (first : Nat) (data : Bytes) (s : State) :
    Host.Outcome State Fault Refusal :=
  lift (World.svcRun l n tag field 0x13 2 (svcWrtab l table buf first data)) s

/-- OPCMD (R454). -/
def execOpcmd (l : LaneId) (n : SessNo) (tag : Tag) (field : LaneField) (cmd : OpCmd) (landing : Landing) (s : State) : Host.Outcome State Fault Refusal :=
  lift (World.svcRun l n tag field 0x14 1 (svcOpcmd l n cmd landing)) s

/-- SERVICE_RESTART (R385). -/
def execServiceRestart (l : LaneId) (n : SessNo) (tag : Tag) (field : LaneField) (s : State) : Host.Outcome State Fault Refusal :=
  lift (World.svcRun l n tag field 0x15 2 fun e w => svcDone (w.svcWrite l e A_LNK_CTRL 4#32)) s

/-- RDLOG (R475). -/
def execRdlog (l : LaneId) (n : SessNo) (tag : Tag) (field : LaneField) (log : Nat) (seq : Nat) (count : Nat) (s : State) : Host.Outcome State Fault Refusal :=
  lift (World.svcRun l n tag field 0x20 1 fun _ w => svcRdlog l log seq count w) s

/-- ARCHIVE (R469). -/
def execArchive (l : LaneId) (n : SessNo) (tag : Tag) (field : LaneField) (link : Bytes) (s : State) : Host.Outcome State Fault Refusal :=
  lift (World.svcRun l n tag field 0x21 3 (svcArchive l link)) s

/-- IMGBEGIN (R474). -/
def execImgbegin (l : LaneId) (n : SessNo) (tag : Tag) (field : LaneField) (len : Nat) (s : State) : Host.Outcome State Fault Refusal :=
  lift (World.svcRun l n tag field 0x30 3 (svcImgbegin l len)) s

/-- IMGBLOCK (R474). -/
def execImgblock (l : LaneId) (n : SessNo) (tag : Tag) (field : LaneField) (off : Nat) (data : Bytes) (crc : Word) (s : State) :
    Host.Outcome State Fault Refusal :=
  lift (World.svcRun l n tag field 0x31 3 fun _ w => svcImgblock l off data crc w) s

/-- IMGCOMMIT (R474). -/
def execImgcommit (l : LaneId) (n : SessNo) (tag : Tag) (field : LaneField) (s : State) : Host.Outcome State Fault Refusal :=
  lift (World.svcRun l n tag field 0x32 3 (svcImgcommit l)) s

/-- IMGABORT (R406). -/
def execImgabort (l : LaneId) (n : SessNo) (tag : Tag) (field : LaneField) (s : State) : Host.Outcome State Fault Refusal :=
  lift (World.svcRun l n tag field 0x33 3 (svcImgabort l)) s

/-- ATTEST (R480). -/
def execAttest (l : LaneId) (n : SessNo) (tag : Tag) (field : LaneField) (nonce : Bytes) (s : State) : Host.Outcome State Fault Refusal :=
  lift (World.svcRun l n tag field 0x40 0 (svcAttest l n nonce)) s

/-- CERT (R481). -/
def execCert (l : LaneId) (n : SessNo) (tag : Tag) (field : LaneField) (s : State) : Host.Outcome State Fault Refusal :=
  lift (World.svcRun l n tag field 0x41 0 fun _ w => svcCert l w) s

/-- SERVICE_SETCRED (R459). -/
def execServiceSetcred (l : LaneId) (n : SessNo) (tag : Tag) (field : LaneField) (role : Role) (data : Bytes) (s : State) : Host.Outcome State Fault Refusal :=
  lift (World.svcRun l n tag field 0x50 0 (svcSetcred l n role data)) s

/-- ARCHIVE_COMPLETE (R469). -/
def execArchiveComplete (l : LaneId) (s : State) : Host.Outcome State Fault Refusal := lift (onBg l 10 (World.archiveEnd l)) s

/-- UPDACK (R474). -/
def execUpdack (l : LaneId) (s : State) : Host.Outcome State Fault Refusal := lift (World.updackTake l) s

/-- SIGN_COMPLETE (R480). -/
def execSignComplete (l : LaneId) (s : State) : Host.Outcome State Fault Refusal := lift (World.signEnd l) s

/-- DEBUG_HALT (R483). -/
def execDebugHalt (l : LaneId) (e : Eng) (s : State) : Host.Outcome State Fault Refusal :=
  lift (onDebug l fun w => w.updLane l (dbgHalt 0x60 e true)) s

/-- DEBUG_STEP (R483). -/
def execDebugStep (l : LaneId) (e : Eng) (s : State) : Host.Outcome State Fault Refusal := lift (onDebug l (World.dbgStep l e)) s

/-- DEBUG_RUN (R483). -/
def execDebugRun (l : LaneId) (e : Eng) (s : State) : Host.Outcome State Fault Refusal :=
  lift (onDebug l fun w => w.updLane l (dbgHalt 0x62 e false)) s

/-- RDMEM (R483). -/
def execRdmem (l : LaneId) (addr : Nat) (s : State) : Host.Outcome State Fault Refusal :=
  lift (onDebug l fun w =>
    let r := w.dbgRead l addr
    r.1.updLane l (dbgAnswer 0x63 r.2.2 (wordBytes r.2.1))) s

/-- WRMEM (R483). -/
def execWrmem (l : LaneId) (addr : Nat) (v : Word) (s : State) : Host.Outcome State Fault Refusal :=
  lift (onDebug l fun w =>
    let r := w.dbgWrite l addr v
    r.1.updLane l (dbgAnswer 0x64 r.2 [])) s

end Sys2Proof.Machine
end

