-- ==== Sys2Proof/Machine/SpgRegs.lean ====
section
/-!
DEFINITION. Register commands: the commands of SPG and DRV (spec 07). Each is the write its row names, with every check and effect
of a register write (R110).
-/
namespace Sys2Proof.Machine

/-- SPG_PUSH (R177). -/
def execSpgPush (l : LaneId) (wr : Writer) (last : Bool) (s : State) : Host.Outcome State Fault Refusal :=
  lift (fun w => w.regCmd l wr A_SPG_PUSHC (BitVec.ofNat 32 last.toNat)) s

/-- START (R197). -/
def execStart (l : LaneId) (wr : Writer) (src : Bool) (s : State) : Host.Outcome State Fault Refusal :=
  lift (fun w => w.regCmd l wr A_SPG_CMD (BitVec.ofNat 32 (0x10000000 + src.toNat * 4))) s

/-- RELEVEL (R197). -/
def execRelevel (l : LaneId) (wr : Writer) (s : State) : Host.Outcome State Fault Refusal :=
  lift (fun w => w.regCmd l wr A_SPG_CMD 0x20000000#32) s

/-- PROFILE (R188). -/
def execProfile (l : LaneId) (wr : Writer) (s : State) : Host.Outcome State Fault Refusal :=
  lift (fun w => w.regCmd l wr A_SPG_CMD 0x30000000#32) s

/-- STREAM (R185). -/
def execStream (l : LaneId) (wr : Writer) (s : State) : Host.Outcome State Fault Refusal :=
  lift (fun w => w.regCmd l wr A_SPG_CMD 0x40000000#32) s

/-- SPG_HALT (R188). -/
def execSpgHalt (l : LaneId) (wr : Writer) (s : State) : Host.Outcome State Fault Refusal :=
  lift (fun w => w.regCmd l wr A_SPG_CMD 0x50000000#32) s

/-- MODE (R194). -/
def execMode (l : LaneId) (wr : Writer) (newmode : Slot) (keep : Bool) (s : State) : Host.Outcome State Fault Refusal :=
  lift (fun w => w.regCmd l wr A_SPG_CMD (BitVec.ofNat 32 (0x60000000 + newmode.val * 16 + keep.toNat * 8))) s

/-- DRV_EN_WRITE (R532). -/
def execDrvEnWrite (l : LaneId) (wr : Writer) (en : Bool) (s : State) : Host.Outcome State Fault Refusal :=
  lift (fun w => w.regCmd l wr A_DRV_CTRL (setBits ((w.lane l).rwWord A_DRV_CTRL) 31 31 en.toNat)) s

end Sys2Proof.Machine
end

