-- ==== Sys2Proof/Machine/SysRegs.lean ====
section
/-!
DEFINITION. Register commands: the reset and engine commands of SYS (spec 02, 03). Each is the write its row names, with every check and effect
of a register write (R110).
-/
namespace Sys2Proof.Machine

/-- REQUEST_QUARTER_RESET (R24). -/
def execRequestQuarterReset (l : LaneId) (wr : Writer) (q : Quarter) (s : State) : Host.Outcome State Fault Refusal :=
  lift (fun w => w.regCmd l wr A_SYS_RSTREQ (BitVec.ofNat 32 (0x5A000000 + q.num + 1))) s

/-- REQUEST_LOGIC_RESTART (R24). -/
def execRequestLogicRestart (l : LaneId) (wr : Writer) (s : State) : Host.Outcome State Fault Refusal :=
  lift (fun w => w.regCmd l wr A_SYS_RSTREQ 0x5A000005#32) s

/-- ENGINE_START (R60). -/
def execEngineStart (l : LaneId) (wr : Writer) (e : FgEng) (s : State) : Host.Outcome State Fault Refusal :=
  lift (fun w => w.regCmd l wr A_SYS_ENGCTL (setBits (setBits ((w.lane l).rwWord A_SYS_ENGCTL) 31 24 0xA5) e.val e.val 1)) s

/-- ENGINE_STOP (R63). -/
def execEngineStop (l : LaneId) (wr : Writer) (e : FgEng) (s : State) : Host.Outcome State Fault Refusal :=
  lift (fun w => w.regCmd l wr A_SYS_ENGCTL (setBits (setBits ((w.lane l).rwWord A_SYS_ENGCTL) 31 24 0xA5) e.val e.val 0)) s

end Sys2Proof.Machine
end

