-- ==== Sys2Proof/Machine/TatRegs.lean ====
section
/-!
DEFINITION. Register commands: the commands of TAT and TRC (spec 05). Each is the write its row names, with every check and effect
of a register write (R110).
-/
namespace Sys2Proof.Machine

/-- BQ_COMMIT (R126). -/
def execBqCommit (l : LaneId) (wr : Writer) (cmt : Byte) (clr : Byte) (s : State) : Host.Outcome State Fault Refusal :=
  lift (fun w => w.regCmd l wr A_TAT_BQCOMMIT (BitVec.ofNat 32 (clr.toNat * 256 + cmt.toNat))) s

/-- BANK_WRITE (R130). -/
def execBankWrite (l : LaneId) (wr : Writer) (n : Slot) (word : BankWord) (v : Word) (s : State) : Host.Outcome State Fault Refusal :=
  lift (fun w => w.regCmd l wr (A_TAT_BANK n.val word.val) v) s

/-- CHECK (R131). -/
def execCheck (l : LaneId) (wr : Writer) (n : Slot) (bank : Bool) (len : LoopLen) (s : State) : Host.Outcome State Fault Refusal :=
  lift (fun w => w.regCmd l wr (A_TAT_SLOTCTL n.val) (BitVec.ofNat 32 (len.val * 0x10000 + bank.toNat * 16 + 1))) s

/-- RESUME (R139). -/
def execResume (l : LaneId) (wr : Writer) (n : Slot) (s : State) : Host.Outcome State Fault Refusal :=
  lift (fun w => w.regCmd l wr (A_TAT_SLOTCTL n.val) 2#32) s

/-- FORCE_GUARD (R137). -/
def execForceGuard (l : LaneId) (wr : Writer) (n : Slot) (s : State) : Host.Outcome State Fault Refusal :=
  lift (fun w => w.regCmd l wr (A_TAT_SLOTCTL n.val) 3#32) s

/-- SLOTCFG_WRITE (R132). -/
def execSlotcfgWrite (l : LaneId) (wr : Writer) (n : Slot) (v : Word) (s : State) : Host.Outcome State Fault Refusal :=
  lift (fun w => w.regCmd l wr (A_TAT_SLOTCFG n.val) v) s

/-- OUTDST_WRITE (R133). -/
def execOutdstWrite (l : LaneId) (wr : Writer) (n : Slot) (v : Word) (s : State) : Host.Outcome State Fault Refusal :=
  lift (fun w => w.regCmd l wr (A_TAT_OUTDST n.val) v) s

/-- SLOTPH_WRITE (R134). -/
def execSlotphWrite (l : LaneId) (wr : Writer) (n : Slot) (v : Word) (s : State) : Host.Outcome State Fault Refusal :=
  lift (fun w => w.regCmd l wr (A_TAT_SLOTPH n.val) v) s

/-- DATA_RAM_WRITE (R135). -/
def execDataRamWrite (l : LaneId) (wr : Writer) (n : Slot) (word : Byte) (v : Word) (s : State) : Host.Outcome State Fault Refusal :=
  lift (fun w => w.regCmd l wr (A_TAT_DATA n.val word.toNat) v) s

/-- TRC_ARM (R142). -/
def execTrcArm (l : LaneId) (wr : Writer) (div : TrcDiv) (clk : Slot) (len : TrcLen) (s : State) : Host.Outcome State Fault Refusal :=
  lift (fun w => w.regCmd l wr A_TRC_CTRL (BitVec.ofNat 32 (0x10000000 + div.val * 0x10000 + clk.val * 0x2000 + len.val))) s

/-- TRC_STOP (R143). -/
def execTrcStop (l : LaneId) (wr : Writer) (s : State) : Host.Outcome State Fault Refusal :=
  lift (fun w => w.regCmd l wr A_TRC_CTRL (setBits ((w.lane l).rwWord A_TRC_CTRL) 31 28 2)) s

/-- TRC_FORCE (R143). -/
def execTrcForce (l : LaneId) (wr : Writer) (s : State) : Host.Outcome State Fault Refusal :=
  lift (fun w => w.regCmd l wr A_TRC_CTRL (setBits ((w.lane l).rwWord A_TRC_CTRL) 31 28 3)) s

end Sys2Proof.Machine
end

