-- ==== Sys2Proof/Machine/Dispatch.lean ====
section
/-!
DEFINITION. One arm per command: a direct call of its meaning, or a rejection by name.
-/
namespace Sys2Proof.Machine

def exec (i : Instr) (s : State) : Host.Outcome State Fault Refusal :=
  match i with
  | .powerOnReset pos => Sys2Proof.Machine.execPowerOnReset pos s
  | .powerOff => Sys2Proof.Machine.execPowerOff s
  | .powerLossWarning => Sys2Proof.Machine.execPowerLossWarning s
  | .brownOut => Sys2Proof.Machine.execBrownOut s
  | .brownOutRecovery => Sys2Proof.Machine.execBrownOutRecovery s
  | .xresLow => Sys2Proof.Machine.execXresLow s
  | .xresRelease => Sys2Proof.Machine.execXresRelease s
  | .resetHold => Sys2Proof.Machine.execResetHold s
  | .holdEnd => Sys2Proof.Machine.execHoldEnd s
  | .carrierReset cause => Sys2Proof.Machine.execCarrierReset cause s
  | .laneReset l cause => Sys2Proof.Machine.execLaneReset l cause s
  | .laneResetEnd l => Sys2Proof.Machine.execLaneResetEnd l s
  | .pllLock l => Sys2Proof.Machine.execPllLock l s
  | .pllLoss l => Sys2Proof.Machine.execPllLoss l s
  | .sebSelftest l ok => Sys2Proof.Machine.execSebSelftest l ok s
  | .blockReset l b => Sys2Proof.Machine.execBlockReset l b s
  | .blockHandshakeTimeout l b => Sys2Proof.Machine.execBlockHandshakeTimeout l b s
  | .ringStall l q => Sys2Proof.Machine.execRingStall l q s
  | .quarterReset l q => Sys2Proof.Machine.execQuarterReset l q s
  | .laneLogicRestart l => Sys2Proof.Machine.execLaneLogicRestart l s
  | .requestQuarterReset l wr q => Sys2Proof.Machine.execRequestQuarterReset l wr q s
  | .requestLogicRestart l wr => Sys2Proof.Machine.execRequestLogicRestart l wr s
  | .gateReopen l g => Sys2Proof.Machine.execGateReopen l g s
  | .crossingReady l n core => Sys2Proof.Machine.execCrossingReady l n core s
  | .staleReply l => Sys2Proof.Machine.execStaleReply l s
  | .switchDriveLost k => Sys2Proof.Machine.execSwitchDriveLost k s
  | .avsIteration l ctrl group port keep spine => Sys2Proof.Machine.execAvsIteration l ctrl group port keep spine s
  | .coreSupplyFault l => Sys2Proof.Machine.execCoreSupplyFault l s
  | .pCrossingEvent l n code => Sys2Proof.Machine.execPCrossingEvent l n code s
  | .toggleReturn l n => Sys2Proof.Machine.execToggleReturn l n s
  | .engineStart l wr e => Sys2Proof.Machine.execEngineStart l wr e s
  | .engineStop l wr e => Sys2Proof.Machine.execEngineStop l wr e s
  | .reloadEntry l e => Sys2Proof.Machine.execReloadEntry l e s
  | .e0WarmEntry l => Sys2Proof.Machine.execE0WarmEntry l s
  | .bgEngineStart l k => Sys2Proof.Machine.execBgEngineStart l k s
  | .bootRomStart l => Sys2Proof.Machine.execBootRomStart l s
  | .scrubRewrite l newer => Sys2Proof.Machine.execScrubRewrite l newer s
  | .scrubSweepLate l => Sys2Proof.Machine.execScrubSweepLate l s
  | .flashRefresh l off => Sys2Proof.Machine.execFlashRefresh l off s
  | .calUpdate l item gain ofs arefOk cycle => Sys2Proof.Machine.execCalUpdate l item gain ofs arefOk cycle s
  | .wearCommit l => Sys2Proof.Machine.execWearCommit l s
  | .logPush l wr => Sys2Proof.Machine.execLogPush l wr s
  | .changeLogCommit l => Sys2Proof.Machine.execChangeLogCommit l s
  | .telemetrySample l => Sys2Proof.Machine.execTelemetrySample l s
  | .snoopRefresh l => Sys2Proof.Machine.execSnoopRefresh l s
  | .add l e rd rs rt => Sys2Proof.Machine.execAdd l e rd rs rt s
  | .sub l e rd rs rt => Sys2Proof.Machine.execSub l e rd rs rt s
  | .addu l e rd rs rt => Sys2Proof.Machine.execAddu l e rd rs rt s
  | .subu l e rd rs rt => Sys2Proof.Machine.execSubu l e rd rs rt s
  | .neg l e rd rs => Sys2Proof.Machine.execNeg l e rd rs s
  | .abs l e rd rs => Sys2Proof.Machine.execAbs l e rd rs s
  | .mul l e rd rs rt => Sys2Proof.Machine.execMul l e rd rs rt s
  | .mulh l e rd rs rt => Sys2Proof.Machine.execMulh l e rd rs rt s
  | .div l e rd rs rt => Sys2Proof.Machine.execDiv l e rd rs rt s
  | .rem l e rd rs rt => Sys2Proof.Machine.execRem l e rd rs rt s
  | .min l e rd rs rt => Sys2Proof.Machine.execMin l e rd rs rt s
  | .max l e rd rs rt => Sys2Proof.Machine.execMax l e rd rs rt s
  | .clamp l e rd rs rt => Sys2Proof.Machine.execClamp l e rd rs rt s
  | .addi l e rd rs imm => Sys2Proof.Machine.execAddi l e rd rs imm s
  | .muli l e rd rs imm => Sys2Proof.Machine.execMuli l e rd rs imm s
  | .cmp l e rs rt => Sys2Proof.Machine.execCmp l e rs rt s
  | .cmpi l e rs imm => Sys2Proof.Machine.execCmpi l e rs imm s
  | .addm l e rd rs rt => Sys2Proof.Machine.execAddm l e rd rs rt s
  | .subm l e rd rs rt => Sys2Proof.Machine.execSubm l e rd rs rt s
  | .addmi l e rd rs imm => Sys2Proof.Machine.execAddmi l e rd rs imm s
  | .mulm l e rd rs rt => Sys2Proof.Machine.execMulm l e rd rs rt s
  | .stepm l e rd rs rt => Sys2Proof.Machine.execStepm l e rd rs rt s
  | .and l e rd rs rt => Sys2Proof.Machine.execAnd l e rd rs rt s
  | .or l e rd rs rt => Sys2Proof.Machine.execOr l e rd rs rt s
  | .xor l e rd rs rt => Sys2Proof.Machine.execXor l e rd rs rt s
  | .andi l e rd rs imm => Sys2Proof.Machine.execAndi l e rd rs imm s
  | .ori l e rd rs imm => Sys2Proof.Machine.execOri l e rd rs imm s
  | .xori l e rd rs imm => Sys2Proof.Machine.execXori l e rd rs imm s
  | .shl l e rd rs n => Sys2Proof.Machine.execShl l e rd rs n s
  | .shr l e rd rs n => Sys2Proof.Machine.execShr l e rd rs n s
  | .sra l e rd rs n => Sys2Proof.Machine.execSra l e rd rs n s
  | .shls l e rd rs n => Sys2Proof.Machine.execShls l e rd rs n s
  | .ror l e rd rs n => Sys2Proof.Machine.execRor l e rd rs n s
  | .clz l e rd rs => Sys2Proof.Machine.execClz l e rd rs s
  | .popc l e rd rs => Sys2Proof.Machine.execPopc l e rd rs s
  | .bfx l e rd rs pos len => Sys2Proof.Machine.execBfx l e rd rs pos len s
  | .bfi l e rd rs pos len => Sys2Proof.Machine.execBfi l e rd rs pos len s
  | .sext l e rd rs b => Sys2Proof.Machine.execSext l e rd rs b s
  | .crc l e rd rs => Sys2Proof.Machine.execCrc l e rd rs s
  | .mov l e rd rs => Sys2Proof.Machine.execMov l e rd rs s
  | .movi l e rd imm => Sys2Proof.Machine.execMovi l e rd imm s
  | .movhi l e rd imm => Sys2Proof.Machine.execMovhi l e rd imm s
  | .sel l e rd rs rt cond => Sys2Proof.Machine.execSel l e rd rs rt cond s
  | .mfk l e w k => Sys2Proof.Machine.execMfk l e w k s
  | .mtk l e k w => Sys2Proof.Machine.execMtk l e k w s
  | .ldw l e rd rs imm ecc => Sys2Proof.Machine.execLdw l e rd rs imm ecc s
  | .ldh l e rd rs imm ecc => Sys2Proof.Machine.execLdh l e rd rs imm ecc s
  | .ldhu l e rd rs imm ecc => Sys2Proof.Machine.execLdhu l e rd rs imm ecc s
  | .ldb l e rd rs imm ecc => Sys2Proof.Machine.execLdb l e rd rs imm ecc s
  | .ldbu l e rd rs imm ecc => Sys2Proof.Machine.execLdbu l e rd rs imm ecc s
  | .stw l e rd rs imm => Sys2Proof.Machine.execStw l e rd rs imm s
  | .sth l e rd rs imm ecc => Sys2Proof.Machine.execSth l e rd rs imm ecc s
  | .stb l e rd rs imm ecc => Sys2Proof.Machine.execStb l e rd rs imm ecc s
  | .pushm l e mask => Sys2Proof.Machine.execPushm l e mask s
  | .popm l e mask ecc => Sys2Proof.Machine.execPopm l e mask ecc s
  | .xchg l e rd rs ecc => Sys2Proof.Machine.execXchg l e rd rs ecc s
  | .cas l e rd rs rt ecc => Sys2Proof.Machine.execCas l e rd rs rt ecc s
  | .copy l e rd rs rt ecc => Sys2Proof.Machine.execCopy l e rd rs rt ecc s
  | .fill l e rd rs rt => Sys2Proof.Machine.execFill l e rd rs rt s
  | .tidx l e rd rs rt ecc => Sys2Proof.Machine.execTidx l e rd rs rt ecc s
  | .tsrch l e rd rs rt ecc => Sys2Proof.Machine.execTsrch l e rd rs rt ecc s
  | .tscan l e rd rs rt ecc => Sys2Proof.Machine.execTscan l e rd rs rt ecc s
  | .tint l e rd rs rt ecc => Sys2Proof.Machine.execTint l e rd rs rt ecc s
  | .mac l e ad rs rt sh => Sys2Proof.Machine.execMac l e ad rs rt sh s
  | .msu l e ad rs rt sh => Sys2Proof.Machine.execMsu l e ad rs rt sh s
  | .mula l e ad rs rt sh => Sys2Proof.Machine.execMula l e ad rs rt sh s
  | .lda l e ad rs sh raw => Sys2Proof.Machine.execLda l e ad rs sh raw s
  | .ldah l e ad rs => Sys2Proof.Machine.execLdah l e ad rs s
  | .rda l e rd ad sh raw => Sys2Proof.Machine.execRda l e rd ad sh raw s
  | .rdah l e rd ad => Sys2Proof.Machine.execRdah l e rd ad s
  | .adda l e ad ae => Sys2Proof.Machine.execAdda l e ad ae s
  | .shra l e ad sh => Sys2Proof.Machine.execShra l e ad sh s
  | .clra l e ad => Sys2Proof.Machine.execClra l e ad s
  | .b l e off => Sys2Proof.Machine.execB l e off s
  | .bl l e off => Sys2Proof.Machine.execBl l e off s
  | .br l e rs => Sys2Proof.Machine.execBr l e rs s
  | .blr l e rs => Sys2Proof.Machine.execBlr l e rs s
  | .beq l e rs rt off => Sys2Proof.Machine.execBeq l e rs rt off s
  | .bne l e rs rt off => Sys2Proof.Machine.execBne l e rs rt off s
  | .blt l e rs rt off => Sys2Proof.Machine.execBlt l e rs rt off s
  | .bge l e rs rt off => Sys2Proof.Machine.execBge l e rs rt off s
  | .bltu l e rs rt off => Sys2Proof.Machine.execBltu l e rs rt off s
  | .bgeu l e rs rt off => Sys2Proof.Machine.execBgeu l e rs rt off s
  | .bcc l e cond off => Sys2Proof.Machine.execBcc l e cond off s
  | .loop l e ws off => Sys2Proof.Machine.execLoop l e ws off s
  | .eret l e => Sys2Proof.Machine.execEret l e s
  | .fence l e => Sys2Proof.Machine.execFence l e s
  | .send l e ch wd => Sys2Proof.Machine.execSend l e ch wd s
  | .recv l e wd ch => Sys2Proof.Machine.execRecv l e wd ch s
  | .sendnb l e wd ws ch => Sys2Proof.Machine.execSendnb l e wd ws ch s
  | .recvnb l e wd ch => Sys2Proof.Machine.execRecvnb l e wd ch s
  | .chsel l e rd rs rt => Sys2Proof.Machine.execChsel l e rd rs rt s
  | .chstat l e wd ch => Sys2Proof.Machine.execChstat l e wd ch s
  | .rgld l e rd rt => Sys2Proof.Machine.execRgld l e rd rt s
  | .rgst l e rd rs rt => Sys2Proof.Machine.execRgst l e rd rs rt s
  | .rgchk l e rd rt => Sys2Proof.Machine.execRgchk l e rd rt s
  | .engineTimerTick l e => Sys2Proof.Machine.execEngineTimerTick l e s
  | .chcfgWrite l e n ch v => Sys2Proof.Machine.execChcfgWrite l e n ch v s
  | .registerWrite l wr addr v => Sys2Proof.Machine.execRegisterWrite l wr addr v s
  | .lgain l n rd rs => Sys2Proof.Machine.execLgain l n rd rs s
  | .bqd l n rd rs sec => Sys2Proof.Machine.execBqd l n rd rs sec s
  | .lclmp l n rd rs pair => Sys2Proof.Machine.execLclmp l n rd rs pair s
  | .out l n rs port last => Sys2Proof.Machine.execOut l n rs port last s
  | .slotSampleInstant l n => Sys2Proof.Machine.execSlotSampleInstant l n s
  | .slotRun l ecc => Sys2Proof.Machine.execSlotRun l ecc s
  | .slotResult l n left => Sys2Proof.Machine.execSlotResult l n left s
  | .slotDeadline l n => Sys2Proof.Machine.execSlotDeadline l n s
  | .bqCommit l wr cmt clr => Sys2Proof.Machine.execBqCommit l wr cmt clr s
  | .bankWrite l wr n word v => Sys2Proof.Machine.execBankWrite l wr n word v s
  | .check l wr n bank len => Sys2Proof.Machine.execCheck l wr n bank len s
  | .resume l wr n => Sys2Proof.Machine.execResume l wr n s
  | .forceGuard l wr n => Sys2Proof.Machine.execForceGuard l wr n s
  | .slotcfgWrite l wr n v => Sys2Proof.Machine.execSlotcfgWrite l wr n v s
  | .outdstWrite l wr n v => Sys2Proof.Machine.execOutdstWrite l wr n v s
  | .slotphWrite l wr n v => Sys2Proof.Machine.execSlotphWrite l wr n v s
  | .dataRamWrite l wr n word v => Sys2Proof.Machine.execDataRamWrite l wr n word v s
  | .trcArm l wr div clk len => Sys2Proof.Machine.execTrcArm l wr div clk len s
  | .trcStop l wr => Sys2Proof.Machine.execTrcStop l wr s
  | .trcForce l wr => Sys2Proof.Machine.execTrcForce l wr s
  | .traceSample l => Sys2Proof.Machine.execTraceSample l s
  | .bobSampleInstant l => Sys2Proof.Machine.execBobSampleInstant l s
  | .ssiFrame l frame ready returned edge => Sys2Proof.Machine.execSsiFrame l frame ready returned edge s
  | .accTransfer l data done => Sys2Proof.Machine.execAccTransfer l data done s
  | .gatherWindowClose l => Sys2Proof.Machine.execGatherWindowClose l s
  | .bobPublish l => Sys2Proof.Machine.execBobPublish l s
  | .bobRestart l wr => Sys2Proof.Machine.execBobRestart l wr s
  | .bobEnable l wr en => Sys2Proof.Machine.execBobEnable l wr en s
  | .bobResetEnd l => Sys2Proof.Machine.execBobResetEnd l s
  | .bobPosRead l wr => Sys2Proof.Machine.execBobPosRead l wr s
  | .validate l wr => Sys2Proof.Machine.execValidate l wr s
  | .validateComplete l => Sys2Proof.Machine.execValidateComplete l s
  | .ltselWrite l wr sel => Sys2Proof.Machine.execLtselWrite l wr sel s
  | .relevelRequest l => Sys2Proof.Machine.execRelevelRequest l s
  | .captureEdge l fi rising stamp => Sys2Proof.Machine.execCaptureEdge l fi rising stamp s
  | .capturePop l wr => Sys2Proof.Machine.execCapturePop l wr s
  | .spgPublish l lw => Sys2Proof.Machine.execSpgPublish l lw s
  | .spgPush l wr last => Sys2Proof.Machine.execSpgPush l wr last s
  | .start l wr src => Sys2Proof.Machine.execStart l wr src s
  | .relevel l wr => Sys2Proof.Machine.execRelevel l wr s
  | .profile l wr => Sys2Proof.Machine.execProfile l wr s
  | .stream l wr => Sys2Proof.Machine.execStream l wr s
  | .spgHalt l wr => Sys2Proof.Machine.execSpgHalt l wr s
  | .mode l wr newmode keep => Sys2Proof.Machine.execMode l wr newmode keep s
  | .hpgStep l => Sys2Proof.Machine.execHpgStep l s
  | .startSeqAdvance l => Sys2Proof.Machine.execStartSeqAdvance l s
  | .stopSeqAdvance l => Sys2Proof.Machine.execStopSeqAdvance l s
  | .brakeFbTimeout l => Sys2Proof.Machine.execBrakeFbTimeout l s
  | .tqonTimeout l => Sys2Proof.Machine.execTqonTimeout l s
  | .stopmaxTimeout l => Sys2Proof.Machine.execStopmaxTimeout l s
  | .notchUpdate l => Sys2Proof.Machine.execNotchUpdate l s
  | .notchTracker l => Sys2Proof.Machine.execNotchTracker l s
  | .drvPeriod l wire => Sys2Proof.Machine.execDrvPeriod l wire s
  | .drvRxFrame data inTime => Sys2Proof.Machine.execDrvRxFrame data inTime s
  | .rxWindowClose l => Sys2Proof.Machine.execRxWindowClose l s
  | .drvEnWrite l wr en => Sys2Proof.Machine.execDrvEnWrite l wr en s
  | .selCycle l => Sys2Proof.Machine.execSelCycle l s
  | .selClaim l wr tgt => Sys2Proof.Machine.execSelClaim l wr tgt s
  | .currentSample l d iu iv => Sys2Proof.Machine.execCurrentSample l d iu iv s
  | .compareLoad l d => Sys2Proof.Machine.execCompareLoad l d s
  | .hallEdge d code => Sys2Proof.Machine.execHallEdge d code s
  | .hallTimeout l d => Sys2Proof.Machine.execHallTimeout l d s
  | .dorSampleInstant l d => Sys2Proof.Machine.execDorSampleInstant l d s
  | .dorPublish l d => Sys2Proof.Machine.execDorPublish l d s
  | .doorOpen l wr d => Sys2Proof.Machine.execDoorOpen l wr d s
  | .doorClose l wr d => Sys2Proof.Machine.execDoorClose l wr d s
  | .nudge l wr d => Sys2Proof.Machine.execNudge l wr d s
  | .preopen l wr d => Sys2Proof.Machine.execPreopen l wr d s
  | .doorStop l wr d => Sys2Proof.Machine.execDoorStop l wr d s
  | .reference l wr d => Sys2Proof.Machine.execReference l wr d s
  | .learn l wr d => Sys2Proof.Machine.execLearn l wr d s
  | .doorClrflt l wr d => Sys2Proof.Machine.execDoorClrflt l wr d s
  | .refTimeout l d => Sys2Proof.Machine.execRefTimeout l d s
  | .lockTimeout l d => Sys2Proof.Machine.execLockTimeout l d s
  | .fselWrite l wr d en fsel => Sys2Proof.Machine.execFselWrite l wr d en fsel s
  | .deadtWrite l wr d v => Sys2Proof.Machine.execDeadtWrite l wr d v s
  | .capsWrite l wr d reg v => Sys2Proof.Machine.execCapsWrite l wr d reg v s
  | .stopListPublish l wr n => Sys2Proof.Machine.execStopListPublish l wr n s
  | .submissionPush l wr => Sys2Proof.Machine.execSubmissionPush l wr s
  | .prkEvaluation l => Sys2Proof.Machine.execPrkEvaluation l s
  | .anspop l wr => Sys2Proof.Machine.execAnspop l wr s
  | .carViewStale l g => Sys2Proof.Machine.execCarViewStale l g s
  | .forcedReallocation l g => Sys2Proof.Machine.execForcedReallocation l g s
  | .sweepStart l => Sys2Proof.Machine.execSweepStart l s
  | .prkModeWrite l wr v => Sys2Proof.Machine.execPrkModeWrite l wr v s
  | .mirrorSend l => Sys2Proof.Machine.execMirrorSend l s
  | .mirrorApply l set => Sys2Proof.Machine.execMirrorApply l set s
  | .assignmentReceived l call place => Sys2Proof.Machine.execAssignmentReceived l call place s
  | .unconfirmedPickupExpiry l stops => Sys2Proof.Machine.execUnconfirmedPickupExpiry l stops s
  | .sebCycle l mismatch => Sys2Proof.Machine.execSebCycle l mismatch s
  | .inputFilterExpiry l k => Sys2Proof.Machine.execInputFilterExpiry l k s
  | .discrepancyTimeout l g => Sys2Proof.Machine.execDiscrepancyTimeout l g s
  | .twoHandTimeout l => Sys2Proof.Machine.execTwoHandTimeout l s
  | .enclost l => Sys2Proof.Machine.execEnclost l s
  | .bobReportMissing l => Sys2Proof.Machine.execBobReportMissing l s
  | .selReportTimeout l => Sys2Proof.Machine.execSelReportTimeout l s
  | .demandMismatch l => Sys2Proof.Machine.execDemandMismatch l s
  | .partnerLost l => Sys2Proof.Machine.execPartnerLost l s
  | .partnerRestored l => Sys2Proof.Machine.execPartnerRestored l s
  | .partner l => Sys2Proof.Machine.execPartner l s
  | .sebreq l => Sys2Proof.Machine.execSebreq l s
  | .sebReqWrite l wr v => Sys2Proof.Machine.execSebReqWrite l wr v s
  | .requestTimeout l => Sys2Proof.Machine.execRequestTimeout l s
  | .feedbackTimeout l p => Sys2Proof.Machine.execFeedbackTimeout l p s
  | .stoMismatch l => Sys2Proof.Machine.execStoMismatch l s
  | .latchRecordWrite l => Sys2Proof.Machine.execLatchRecordWrite l s
  | .resetButton l ms => Sys2Proof.Machine.execResetButton l ms s
  | .sebOpen l wr => Sys2Proof.Machine.execSebOpen l wr s
  | .sebCommit l wr => Sys2Proof.Machine.execSebCommit l wr s
  | .sebAbort l wr => Sys2Proof.Machine.execSebAbort l wr s
  | .sebReset l wr => Sys2Proof.Machine.execSebReset l wr s
  | .configStoreComplete l ok => Sys2Proof.Machine.execConfigStoreComplete l ok s
  | .revertComplete l => Sys2Proof.Machine.execRevertComplete l s
  | .sessionIdleTimeout l => Sys2Proof.Machine.execSessionIdleTimeout l s
  | .pwLockExpiry l => Sys2Proof.Machine.execPwLockExpiry l s
  | .stateFrame l pads hot => Sys2Proof.Machine.execStateFrame l pads hot s
  | .supervisedMeasure k => Sys2Proof.Machine.execSupervisedMeasure k s
  | .inputEdge n mv => Sys2Proof.Machine.execInputEdge n mv s
  | .edgePop l wr => Sys2Proof.Machine.execEdgePop l wr s
  | .thresholdUpdate v => Sys2Proof.Machine.execThresholdUpdate v s
  | .testSlot obs => Sys2Proof.Machine.execTestSlot obs s
  | .outputFault src what => Sys2Proof.Machine.execOutputFault src what s
  | .vfldFall mv => Sys2Proof.Machine.execVfldFall mv s
  | .vfldRise mv => Sys2Proof.Machine.execVfldRise mv s
  | .lowTimeout => Sys2Proof.Machine.execLowTimeout s
  | .outputsCutDelay => Sys2Proof.Machine.execOutputsCutDelay s
  | .keepalive l wr key => Sys2Proof.Machine.execKeepalive l wr key s
  | .watchdogExpiry => Sys2Proof.Machine.execWatchdogExpiry s
  | .fioRelease l wr => Sys2Proof.Machine.execFioRelease l wr s
  | .fioClrflt l wr mask => Sys2Proof.Machine.execFioClrflt l wr mask s
  | .ackcut l wr => Sys2Proof.Machine.execAckcut l wr s
  | .fioOutWrite l wr v => Sys2Proof.Machine.execFioOutWrite l wr v s
  | .fioConfigLoad l => Sys2Proof.Machine.execFioConfigLoad l s
  | .hbSend l => Sys2Proof.Machine.execHbSend l s
  | .hb l half => Sys2Proof.Machine.execHb l half s
  | .heartbeatLoss l => Sys2Proof.Machine.execHeartbeatLoss l s
  | .ssi l => Sys2Proof.Machine.execSsi l s
  | .acc l => Sys2Proof.Machine.execAcc l s
  | .sealEdge l => Sys2Proof.Machine.execSealEdge l s
  | .epdata l => Sys2Proof.Machine.execEpdata l s
  | .seal l => Sys2Proof.Machine.execSeal l s
  | .epochMissing l => Sys2Proof.Machine.execEpochMissing l s
  | .bulk l => Sys2Proof.Machine.execBulk l s
  | .bulkend l => Sys2Proof.Machine.execBulkend l s
  | .hoopGrant l => Sys2Proof.Machine.execHoopGrant l s
  | .hoopRelease => Sys2Proof.Machine.execHoopRelease s
  | .hoopFault => Sys2Proof.Machine.execHoopFault s
  | .hoopFaultClear => Sys2Proof.Machine.execHoopFaultClear s
  | .coldTrainStart l => Sys2Proof.Machine.execColdTrainStart l s
  | .keepaliveTimeout l => Sys2Proof.Machine.execKeepaliveTimeout l s
  | .ready l wr => Sys2Proof.Machine.execReady l wr s
  | .lnkRelease l wr => Sys2Proof.Machine.execLnkRelease l wr s
  | .selftest l wr => Sys2Proof.Machine.execSelftest l wr s
  | .suspectSelftestComplete l ok => Sys2Proof.Machine.execSuspectSelftestComplete l ok s
  | .restartPeer l wr => Sys2Proof.Machine.execRestartPeer l wr s
  | .ctrlRestart l => Sys2Proof.Machine.execCtrlRestart l s
  | .fwtestWrite l wr ok fail => Sys2Proof.Machine.execFwtestWrite l wr ok fail s
  | .fwStale l => Sys2Proof.Machine.execFwStale l s
  | .lnkSwitch l wr => Sys2Proof.Machine.execLnkSwitch l wr s
  | .ctrlSwitch l => Sys2Proof.Machine.execCtrlSwitch l s
  | .updateStart l wr => Sys2Proof.Machine.execUpdateStart l wr s
  | .updateCommit l wr => Sys2Proof.Machine.execUpdateCommit l wr s
  | .updateAbort l wr => Sys2Proof.Machine.execUpdateAbort l wr s
  | .ctrlUpdateStart l => Sys2Proof.Machine.execCtrlUpdateStart l s
  | .ctrlUpdateCommit l => Sys2Proof.Machine.execCtrlUpdateCommit l s
  | .ctrlUpdateAbort l => Sys2Proof.Machine.execCtrlUpdateAbort l s
  | .upd l good => Sys2Proof.Machine.execUpd l good s
  | .updack l => Sys2Proof.Machine.execUpdack l s
  | .ctrlDebugOn l => Sys2Proof.Machine.execCtrlDebugOn l s
  | .ctrlDebugOff l => Sys2Proof.Machine.execCtrlDebugOff l s
  | .laneMessageCrcError l m => Sys2Proof.Machine.execLaneMessageCrcError l m s
  | .canTxpush l n wr => Sys2Proof.Machine.execCanTxpush l n wr s
  | .canTxEnd l n e => Sys2Proof.Machine.execCanTxEnd l n e s
  | .probeTimer l n => Sys2Proof.Machine.execProbeTimer l n s
  | .canRxFrame n fr e => Sys2Proof.Machine.execCanRxFrame n fr e s
  | .cancel l n k won wr => Sys2Proof.Machine.execCancel l n k won wr s
  | .canObjRelease l n k wr => Sys2Proof.Machine.execCanObjRelease l n k wr s
  | .canRxpop l n f wr => Sys2Proof.Machine.execCanRxpop l n f wr s
  | .rebuild l n wr => Sys2Proof.Machine.execRebuild l n wr s
  | .rebuildComplete l n => Sys2Proof.Machine.execRebuildComplete l n s
  | .silenceScan l n => Sys2Proof.Machine.execSilenceScan l n s
  | .canModeWrite l n mode wr => Sys2Proof.Machine.execCanModeWrite l n mode wr s
  | .busoffRecovery l n => Sys2Proof.Machine.execBusoffRecovery l n s
  | .canRestart l n wr => Sys2Proof.Machine.execCanRestart l n wr s
  | .autobaudDwell l n => Sys2Proof.Machine.execAutobaudDwell l n s
  | .autobaudTimeout l n => Sys2Proof.Machine.execAutobaudTimeout l n s
  | .shadowUnmatched l n k => Sys2Proof.Machine.execShadowUnmatched l n k s
  | .canTakeoverResume l n => Sys2Proof.Machine.execCanTakeoverResume l n s
  | .sleep l n wr => Sys2Proof.Machine.execSleep l n wr s
  | .wake l n wr => Sys2Proof.Machine.execWake l n wr s
  | .canWake n by_ => Sys2Proof.Machine.execCanWake n by_ s
  | .picFrameRx ringB fr bad => Sys2Proof.Machine.execPicFrameRx ringB fr bad s
  | .time ringB own gt corr loop arrA arrB => Sys2Proof.Machine.execTime ringB own gt corr loop arrA arrB s
  | .timeSend l => Sys2Proof.Machine.execTimeSend l s
  | .ltest up rxok leave src => Sys2Proof.Machine.execLtest up rxok leave src s
  | .ltestSend l => Sys2Proof.Machine.execLtestSend l s
  | .portBroken l up => Sys2Proof.Machine.execPortBroken l up s
  | .unwrap up t ack => Sys2Proof.Machine.execUnwrap up t ack s
  | .unwrapAtT l up => Sys2Proof.Machine.execUnwrapAtT l up s
  | .unwrapRetry l up => Sys2Proof.Machine.execUnwrapRetry l up s
  | .notice kind src master => Sys2Proof.Machine.execNotice kind src master s
  | .partUnseen l g => Sys2Proof.Machine.execPartUnseen l g s
  | .handover l => Sys2Proof.Machine.execHandover l s
  | .pubSend l => Sys2Proof.Machine.execPubSend l s
  | .fwFrameSend l => Sys2Proof.Machine.execFwFrameSend l s
  | .picTxpush l wr => Sys2Proof.Machine.execPicTxpush l wr s
  | .picRxpop l wr => Sys2Proof.Machine.execPicRxpop l wr s
  | .leave l wr => Sys2Proof.Machine.execLeave l wr s
  | .leaveComplete l => Sys2Proof.Machine.execLeaveComplete l s
  | .eqAdapt l up more shut => Sys2Proof.Machine.execEqAdapt l up more shut s
  | .chal l wr n role => Sys2Proof.Machine.execChal l wr n role s
  | .login l wr n => Sys2Proof.Machine.execLogin l wr n s
  | .logout l wr n => Sys2Proof.Machine.execLogout l wr n s
  | .keep l wr n => Sys2Proof.Machine.execKeep l wr n s
  | .setcred l wr role => Sys2Proof.Machine.execSetcred l wr role s
  | .sessionIdleEnd l n => Sys2Proof.Machine.execSessionIdleEnd l n s
  | .challengeExpiry l n => Sys2Proof.Machine.execChallengeExpiry l n s
  | .authLockoutExpiry l role => Sys2Proof.Machine.execAuthLockoutExpiry l role s
  | .vbusFall => Sys2Proof.Machine.execVbusFall s
  | .vbusRise => Sys2Proof.Machine.execVbusRise s
  | .usbConnectAfterGrant l => Sys2Proof.Machine.execUsbConnectAfterGrant l s
  | .serviceFrame l n units => Sys2Proof.Machine.execServiceFrame l n units s
  | .hello l n tag field => Sys2Proof.Machine.execHello l n tag field s
  | .serviceChal l n tag field role => Sys2Proof.Machine.execServiceChal l n tag field role s
  | .serviceLogin l n tag field role resp => Sys2Proof.Machine.execServiceLogin l n tag field role resp s
  | .serviceLogout l n tag field => Sys2Proof.Machine.execServiceLogout l n tag field s
  | .serviceKeep l n tag field => Sys2Proof.Machine.execServiceKeep l n tag field s
  | .rdreg l n tag field addr count => Sys2Proof.Machine.execRdreg l n tag field addr count s
  | .wrreg l n tag field addr v => Sys2Proof.Machine.execWrreg l n tag field addr v s
  | .rdtab l n tag field table buf first count => Sys2Proof.Machine.execRdtab l n tag field table buf first count s
  | .wrtab l n tag field table buf first data => Sys2Proof.Machine.execWrtab l n tag field table buf first data s
  | .opcmd l n tag field cmd landing => Sys2Proof.Machine.execOpcmd l n tag field cmd landing s
  | .serviceRestart l n tag field => Sys2Proof.Machine.execServiceRestart l n tag field s
  | .rdlog l n tag field log seq count => Sys2Proof.Machine.execRdlog l n tag field log seq count s
  | .archive l n tag field link => Sys2Proof.Machine.execArchive l n tag field link s
  | .imgbegin l n tag field len => Sys2Proof.Machine.execImgbegin l n tag field len s
  | .imgblock l n tag field off data crc => Sys2Proof.Machine.execImgblock l n tag field off data crc s
  | .imgcommit l n tag field => Sys2Proof.Machine.execImgcommit l n tag field s
  | .imgabort l n tag field => Sys2Proof.Machine.execImgabort l n tag field s
  | .attest l n tag field nonce => Sys2Proof.Machine.execAttest l n tag field nonce s
  | .cert l n tag field => Sys2Proof.Machine.execCert l n tag field s
  | .serviceSetcred l n tag field role data => Sys2Proof.Machine.execServiceSetcred l n tag field role data s
  | .debugHalt l e => Sys2Proof.Machine.execDebugHalt l e s
  | .debugStep l e => Sys2Proof.Machine.execDebugStep l e s
  | .debugRun l e => Sys2Proof.Machine.execDebugRun l e s
  | .rdmem l addr => Sys2Proof.Machine.execRdmem l addr s
  | .wrmem l addr v => Sys2Proof.Machine.execWrmem l addr v s
  | .dbgctlWrite l wr en => Sys2Proof.Machine.execDbgctlWrite l wr en s
  | .sign l wr nlen => Sys2Proof.Machine.execSign l wr nlen s
  | .signComplete l => Sys2Proof.Machine.execSignComplete l s
  | .extend l wr pcr => Sys2Proof.Machine.execExtend l wr pcr s
  | .doze l wr => Sys2Proof.Machine.execDoze l wr s
  | .hush l wr => Sys2Proof.Machine.execHush l wr s
  | .pwrRun l wr => Sys2Proof.Machine.execPwrRun l wr s
  | .wakeSource src => Sys2Proof.Machine.execWakeSource src s
  | .pwrWakestatWrite l wr v => Sys2Proof.Machine.execPwrWakestatWrite l wr v s
  | .nvmProgram l wr r => Sys2Proof.Machine.execNvmProgram l wr r s
  | .nvmErase l wr r => Sys2Proof.Machine.execNvmErase l wr r s
  | .nvmDone l r good => Sys2Proof.Machine.execNvmDone l r good s
  | .nvmAddrWrite l wr r reg v => Sys2Proof.Machine.execNvmAddrWrite l wr r reg v s
  | .usbPacketRx data => Sys2Proof.Machine.execUsbPacketRx data s
  | .usbTxpush l wr => Sys2Proof.Machine.execUsbTxpush l wr s
  | .usbRxpop l wr => Sys2Proof.Machine.execUsbRxpop l wr s
  | .spiStart l wr len => Sys2Proof.Machine.execSpiStart l wr len s
  | .spiDone l rx0 rx1 => Sys2Proof.Machine.execSpiDone l rx0 rx1 s
  | .powerLossWarningEnd => Sys2Proof.Machine.execPowerLossWarningEnd s
  | .latchRecordEraseDone l => Sys2Proof.Machine.execLatchRecordEraseDone l s
  | .eventLogCommit l => Sys2Proof.Machine.execEventLogCommit l s
  | .scrubSweep l addr found done => Sys2Proof.Machine.execScrubSweep l addr found done s
  | .archiveComplete l => Sys2Proof.Machine.execArchiveComplete l s
  | .canIntegrationComplete l n => Sys2Proof.Machine.execCanIntegrationComplete l n s
  | .usbPacketSent l => Sys2Proof.Machine.execUsbPacketSent l s
  | .hushEntered => Sys2Proof.Machine.execHushEntered s
  | .fStartTimeout l => Sys2Proof.Machine.execFStartTimeout l s
  | .candidateMasterTimeout l => Sys2Proof.Machine.execCandidateMasterTimeout l s
  | .usbVlogLow => Sys2Proof.Machine.execUsbVlogLow s
  | .usbVlogOk => Sys2Proof.Machine.execUsbVlogOk s

end Sys2Proof.Machine
end

