-- ==== Sys2Proof/Machine/Tick.lean ====
section
/-!
DEFINITION. The passing of time while no command waits (DESIGN CHOICE): a microsecond, in which the clocks of the running lanes advance and an engine's
buffered store reaches its macro (R99, R117); a frame that waits at a ring's transmitter leaves at its boundary (R439); the firmware hands responses on to their ports (R470) and gives up an image block (R472).
-/
namespace Sys2Proof.Machine

/-- A microsecond of a lane: the ring's transmitters, group time at its trimmed rate (R446), the frame counter F at 80 MHz, and the store buffers. F
taken from a heartbeat runs on with the sender's while the PLL has not yet locked (R377). -/
def laneTick (now : Nat) (L : Lane) : Lane :=
  if L.phase = .run then
    let L := if L.up .pic then picTick L else L
    let L := { gtTick L with
      fclk := if L.lnk.fWait then L.fclk else L.fclk + 80 }
    svcPump 1 (svcPump 0 (imgLate now ((List.finRange 12).foldl (fun L e => sbStep e L) L)))
  else if L.phase = .waitPll ∧ !L.lnk.fWait then { L with fclk := L.fclk + 80 }
  else L

/-- A microsecond of the part. -/
def World.tick (w : World) : World := { (w.updLane .a (laneTick w.time)).updLane .b (laneTick w.time) with time := w.time + 1 }

end Sys2Proof.Machine
end

