-- ==== Sys2Proof/WellFormed.lean ====
section
/-!
DEFINITION. The commands the hardware can carry: the sizes of frames that arrive (spec 14, 15, 18), and the operand values an instruction's encoding allows (spec
04, R93, R94, R102).
-/
namespace Sys2Proof

/-- The operands of a command are such as the manual's formats hold. -/
def Instr.wf : Instr → Bool
  | .canRxFrame _ fr _ => decide (fr.data.length ≤ 64) && (fr.ide || decide (fr.id.toNat < 2 ^ 11))
  | .picFrameRx _ fr _ => decide (fr.payload.length ≤ 256)
  | .usbPacketRx d => decide (d.length ≤ 64)
  | .bfx _ _ _ _ p n => decide (p < 32) && decide (p + n ≤ 32)
  | .bfi _ _ _ _ p n => decide (p < 32) && decide (p + n ≤ 32)
  | .sext _ _ _ _ pos => decide (pos < 32)
  | .sel _ _ _ _ _ cond => decide (cond ≤ 12)
  | .bcc _ _ cond _ => decide (cond ≤ 12)
  | .mfk _ _ _ k => decide (k ≤ 11)
  | .mtk _ _ k _ => k == 0 || k == 1 || k == 2 || k == 5 || k == 7 || k == 9
  | .lda _ _ _ _ sh raw => !raw || sh.val == 0
  | .rda _ _ _ _ sh raw => !raw || sh.val == 0
  | .pushm _ _ m => !m.getLsbD 14
  | .popm _ _ m _ => !m.getLsbD 14
  | _ => true

end Sys2Proof
end

