-- ==== Sys2Proof/Safety.lean ====
section
/-!
DEFINITION. The terms in which claims about the part are made: what a command does, which bytes the memories hold and when their lists are in
canonical form, when an engine can run its next instruction, and when a register write is admitted.
-/
namespace Sys2Proof.Machine

/-- The command answers a next state that satisfies `Q`, with the queue as it was. -/
def Does (c : Instr) (s : State) (Q : State → Prop) : Prop :=
  ∃ t : State, exec c s = .next t ∧ t.pending = s.pending ∧ Q t

/-- The command does not stop the part. -/
def Safe (c : Instr) (s : State) : Prop := ∃ t : State, exec c s = .next t

/-! ### Memory -/

/-- The memories of a lane: the local SRAM of an engine, the shared table SRAM, the flash; a byte is named by its offset. -/
inductive Space where
  | ram (e : Eng)
  | table
  | flash
deriving DecidableEq, Repr

/-- A byte of a memory of a lane. -/
def Lane.byte (L : Lane) (m : Space) (a : Nat) : Byte :=
  match m with
  | .ram e => sget 0 L.eng[e].ram a
  | .table => sget 0 L.tsram a
  | .flash => sget 0xFF L.flash a

/-- Every byte of a lane's memories is unchanged. -/
def Lane.SameMem (L L' : Lane) : Prop := ∀ m a, L'.byte m a = L.byte m a

/-- Every byte of the part's memories is unchanged. -/
def World.SameMem (w w' : World) : Prop := ∀ l, (w.lane l).SameMem (w'.lane l)

/-- The lists that hold a lane's memories are in their one canonical form. -/
def Lane.memWf (L : Lane) : Bool :=
  swf 0 0 L.tsram && swf 0xFF 0 L.flash && (List.finRange 12).all fun e => swf 0 0 L.eng[e].ram

/-- The lists that hold the part's memories are in their one canonical form. -/
def World.memWf (w : World) : Bool := w.laneA.memWf && w.laneB.memWf

/-! ### Engines -/

/-- The engine issues its next instruction, and the fetch meets no exception (R114). -/
abbrev World.Ready (w : World) (l : LaneId) (e : Eng) : Prop :=
  (w.lane l).engLive e = true ∧ kFetchOk e (w.pc l e).toNat = true ∧
  (w.lane l).ue.contains ((w.pc l e).toNat - (w.pc l e).toNat % 4) = false

/-- The part with one engine of one lane changed, and nothing else. -/
def State.engThen (s : State) (l : LaneId) (e : Eng) (f : Engine → Engine) : State :=
  { s with toWorld := s.toWorld.updLane l fun L => L.updEng e f }

/-- An engine goes on behind the instruction with these registers. -/
def Engine.go (g : Engine) (c : KCore) : Engine := { g with wait := none, core := c, pc := g.pc + 4 }

/-- An engine goes on at an address with these registers. -/
def Engine.goto (g : Engine) (c : KCore) (pc : Word) : Engine := { g with wait := none, core := c, pc := pc }

/-! ### Results of instructions (R95) -/

/-- The nearest number from `lo` to `hi`. -/
def nearest (lo hi x : Int) : Int := max lo (min hi x)

/-- Every general register but one is as before. -/
def KeepsW (c c' : KCore) (rd : RegNo) : Prop := ∀ r : RegNo, r ≠ rd → c'.w[r] = c.w[r]

/-- Every accumulator but one is as before. -/
def KeepsA (c c' : KCore) (ad : AccNo) : Prop := ∀ a : AccNo, a ≠ ad → c'.a[a] = c.a[a]

/-- Every bit of KSR outside a list is as before. -/
def KeepsKsr (c c' : KCore) (but : List Nat) : Prop := ∀ k, k ∉ but → c'.ksr.getLsbD k = c.ksr.getLsbD k

/-- Z and N tell of a result. -/
def ZnOf (c' : KCore) (r : Int) : Prop := c'.flag 0 = decide (r = 0) ∧ c'.flag 1 = decide (r < 0)

/-- The flags of a saturating instruction: Z and N of the result, V whether it was clamped, SAT_S also sticking at 1; no other bit of KSR. -/
def SatFlags (c c' : KCore) (r : Int) (clamped : Bool) : Prop :=
  ZnOf c' r ∧ c'.flag 3 = clamped ∧ c'.flag 8 = (c.flag 8 || clamped) ∧ KeepsKsr c c' [0, 1, 3, 8]

/-- The exact number x in register rd, clamped to the signed 32-bit range, with its flags; nothing else. -/
def SatResult (c c' : KCore) (rd : RegNo) (x : Int) : Prop :=
  let r := nearest (-(2 ^ 31)) (2 ^ 31 - 1) x
  c'.geti rd = r ∧ SatFlags c c' r (decide (r ≠ x)) ∧ KeepsW c c' rd ∧ c'.a = c.a

/-- The exact number x in register rd, clamped to 0 to 2³² − 1, with its flags; nothing else. -/
def SatUResult (c c' : KCore) (rd : RegNo) (x : Int) : Prop :=
  let r := nearest 0 (2 ^ 32 - 1) x
  (c'.getn rd : Int) = r ∧ SatFlags c c' r (decide (r ≠ x)) ∧ KeepsW c c' rd ∧ c'.a = c.a

/-- The exact number x in accumulator ad, clamped to the signed 48-bit range, with its flags; nothing else. -/
def SatAResult (c c' : KCore) (ad : AccNo) (x : Int) : Prop :=
  let r := nearest (-(2 ^ 47)) (2 ^ 47 - 1) x
  c'.acci ad = r ∧ SatFlags c c' r (decide (r ≠ x)) ∧ KeepsA c c' ad ∧ c'.w = c.w

/-- A word in register rd; no flag and nothing else. -/
def PlainResult (c c' : KCore) (rd : RegNo) (v : Word) : Prop :=
  c'.get rd = v ∧ c'.ksr = c.ksr ∧ KeepsW c c' rd ∧ c'.a = c.a

/-- The engine runs the instruction and goes on behind it, and its registers come to satisfy `R`; nothing else of the part changes. -/
def State.Runs (s : State) (l : LaneId) (e : Eng) (i : Instr) (R : KCore → KCore → Prop) : Prop :=
  ∃ c', exec i s = .next (s.engThen l e fun g => g.go c') ∧ R (s.core l e) c'

/-- The engine runs the instruction and goes on at an address, and its registers come to satisfy `R`; nothing else of the part changes. -/
def State.Jumps (s : State) (l : LaneId) (e : Eng) (i : Instr) (pc : Word) (R : KCore → KCore → Prop) : Prop :=
  ∃ c', exec i s = .next (s.engThen l e fun g => g.goto c' pc) ∧ R (s.core l e) c'

/-- The registers of an engine are as before. -/
def SameCore (c c' : KCore) : Prop := c' = c

/-- The word of memory at an aligned address as engine e reads it: boot ROM, flash, its own SRAM, or the table SRAM behind its store buffer. -/
def World.dataWord (w : World) (l : LaneId) (e : Eng) (a : Nat) : Word :=
  let L := w.lane l
  match kRegion e a with
  | .rom => BitVec.ofNat 32 (leNat ((List.range 4).map fun i => Config.bootRom (a + i)))
  | .flash => BitVec.ofNat 32 (L.flashWord (a - 0x08000000))
  | .own => readWord L.eng[e].ram (a - engBase e)
  | .table => match L.sbGet e a with
    | some v => v
    | none => L.ts (a - tsBase)
  | _ => 0

/-- An engine reads the word around an address without an exception: in memory it reaches, and no word or line known to be uncorrectable. -/
abbrev World.Readable (w : World) (l : LaneId) (e : Eng) (a : Nat) : Prop :=
  (kRegion e a = .rom ∨ kRegion e a = .flash ∨ kRegion e a = .own ∨ kRegion e a = .table) ∧
  (w.lane l).ue.contains (a - a % 4) = false ∧ (w.lane l).ue.contains (a - a % 16) = false

/-- An address and n words from it lie in the engine's own SRAM, aligned. -/
abbrev OwnWords (e : Eng) (a n : Nat) : Prop := a % 4 = 0 ∧ engBase e ≤ a ∧ a + 4 * n ≤ engBase e + engSize e

/-- The word at an address of the engine's own SRAM. -/
def World.ownWord (w : World) (l : LaneId) (e : Eng) (a : Nat) : Word := readWord (w.lane l).eng[e].ram (a - engBase e)

/-- The bytes of the part's memories are unchanged, but n bytes from an address of one engine's own SRAM. -/
def SameMemBut (s t : State) (l : LaneId) (e : Eng) (a n : Nat) : Prop :=
  ∀ k m o, ¬ (k = l ∧ m = Space.ram e ∧ a - engBase e ≤ o ∧ o < a - engBase e + n) → (t.lane k).byte m o = (s.lane k).byte m o

/-- The bytes of the part's memories are unchanged, but n bytes from an address of one lane's table SRAM. -/
def SameTableBut (s t : State) (l : LaneId) (a n : Nat) : Prop :=
  ∀ k m o, ¬ (k = l ∧ m = Space.table ∧ a - tsBase ≤ o ∧ o < a - tsBase + n) → (t.lane k).byte m o = (s.lane k).byte m o

/-- A lane performs its engines' stores of n words from an address of their local SRAM: those in a replicated region as the holder alone (R395). -/
abbrev World.Puts (w : World) (l : LaneId) (a n : Nat) : Prop := (w.lane l).holder = true ∨ ∀ k, k < n → replRegion (w.lane l) (a + 4 * k) = false

/-- An engine after an instruction that went on behind it, with these registers; it waits no longer. -/
def State.WentOn (s t : State) (l : LaneId) (e : Eng) (R : KCore → KCore → Prop) : Prop :=
  t.pc l e = s.pc l e + 4 ∧ (t.lane l).eng[e].wait = none ∧ R (s.core l e) (t.core l e)

/-- The four words of a table descriptor lie at an aligned address the engine reads (Table 4.16). -/
abbrev World.DescAt (w : World) (l : LaneId) (e : Eng) (p : Nat) : Prop := p % 4 = 0 ∧ p + 16 ≤ 2 ^ 32 ∧ ∀ k, k < 4 → w.Readable l e (p + 4 * k)

/-- The k-th word of a table descriptor. -/
def World.descWord (w : World) (l : LaneId) (e : Eng) (p k : Nat) : Nat := (w.dataWord l e (p + 4 * k)).toNat

/-- The descriptor keeps the limits of Table 4.16. -/
abbrev World.DescOk (w : World) (l : LaneId) (e : Eng) (p : Nat) : Prop :=
  let d := w.descWord l e p
  let size := d 1 % 2 ^ 16
  let keyoff := d 2 / 2 ^ 16
  d 0 % 4 = 0 ∧ 4 ≤ size ∧ size ≤ 1024 ∧ size % 4 = 0 ∧ keyoff % 4 = 0 ∧ keyoff < size ∧ d 2 % 2 ^ 16 = 0

/-- The address of entry i of a table, or of a word in it. -/
def World.entryAt (w : World) (l : LaneId) (e : Eng) (p i off : Nat) : Nat :=
  w.descWord l e p 0 + i * (w.descWord l e p 1 % 2 ^ 16) + off

/-- The address of the key word of entry i. -/
def World.keyAt (w : World) (l : LaneId) (e : Eng) (p i : Nat) : Nat := w.entryAt l e p i (w.descWord l e p 2 / 2 ^ 16)

/-- The masked key of entry i. -/
def World.keyOf (w : World) (l : LaneId) (e : Eng) (p i : Nat) : Word := w.dataWord l e (w.keyAt l e p i) &&& w.dataWord l e (p + 12)

/-- The result of a table instruction in rd with Z, C and V; nothing else. -/
def TableResult (c c' : KCore) (rd : RegNo) (v : Word) (z cc bad : Bool) : Prop :=
  c'.get rd = v ∧ c'.flag 0 = z ∧ c'.flag 2 = cc ∧ c'.flag 3 = bad ∧ KeepsKsr c c' [0, 2, 3] ∧ KeepsW c c' rd ∧ c'.a = c.a

/-- A send endpoint can send: bound to endpoint q of engine p, no peer's reset to report, no gate between, and the peer not in reset. -/
abbrev Lane.CanSend (L : Lane) (e : Eng) (ch : ChNo) (p : Eng) (q : ChNo) : Prop :=
  L.chBound e ch = true ∧ L.chRecv e ch = false ∧ L.chCut e ch = false ∧ L.eng[e].ep[ch].peerReset = none ∧
  L.chPeer e ch = some (p, q) ∧ L.peerGated e p = false ∧ L.engInReset p = false

/-- A receive endpoint is bound, and no wait that was ended there is still to be met. -/
abbrev Lane.Receives (L : Lane) (e : Eng) (ch : ChNo) : Prop := L.chBound e ch = true ∧ L.chRecv e ch = true ∧ L.chCut e ch = false

/-- A register the engine reaches: aligned, populated, in its region, its gate and crossing open. -/
abbrev World.Reaches (w : World) (l : LaneId) (e : Eng) (a : Nat) : Prop :=
  a % 4 = 0 ∧ (rowOf a).isSome = true ∧ kRegion e a = .reg ∧ (e.val ≠ 11 ∨ ownKeep e a = true) ∧ (w.lane l).regGate (some e) a = none ∧
  (w.lane l).eng[e].sbuf = []

/-! ### One lane alone -/

/-- Only one lane changes: not the other lane, the field die, the supervisor or the time. -/
def OnlyLane (l : LaneId) (s t : State) : Prop :=
  t.lane l.other = s.lane l.other ∧ t.fd = s.fd ∧ t.sup = s.sup ∧ t.time = s.time ∧ t.freeCtr = s.freeCtr

/-- A command of one lane alone: it completes, and the lane comes to satisfy `P`. -/
def State.Acts (s : State) (l : LaneId) (c : Instr) (P : Lane → Prop) : Prop := Does c s fun t => OnlyLane l s t ∧ P (t.lane l)

/-- An input of a pad that both lanes share (R22): the command completes, the field die, the supervisor and the time stay, and a lane comes to satisfy `P`,
whatever it is to the other one. -/
def State.Feeds (s : State) (l : LaneId) (c : Instr) (P : Lane → Prop) : Prop :=
  Does c s fun t => t.fd = s.fd ∧ t.sup = s.sup ∧ t.time = s.time ∧ P (t.lane l)

/-! ### Register writes -/

/-- A register command's write passes every check ahead of its block: its writer acts and has no store waiting in its buffer, the gate and the crossing
are open, the writer has the rights, the value is legal, the lane holds the Hoop where the register asks for it, and the change log has room where the
write is recorded. -/
abbrev World.Permits (w : World) (l : LaneId) (wr : Writer) (a : Nat) (v : Word) : Prop :=
  let L := w.lane l
  let chg := w.regChanged l wr a v
  L.writerLive wr = true ∧ (∀ e, L.writerEng wr = some e → L.eng[e].sbuf = []) ∧
  L.regGate (L.writerEng wr) a = none ∧ w.regRights l wr a v = none ∧ legalWord a v = true ∧
  (holderOnly a = true ∨ a = A_FIO_KEEPALIVE → L.holder = true) ∧
  (chg.any (fieldLogged a) = true → L.clRoom = true) ∧
  (chg.any (fun f => f.acc == .sebw) = true → 1 < L.safeLeft ∧ L.log.archiving = false)

/-- The status a register command leaves in KLAST of its writer's engine, where it has one. -/
def World.KlastIs (w : World) (l : LaneId) (wr : Writer) (st : Nat) : Prop :=
  ∀ e, (w.lane l).writerEng wr = some e → (w.lane l).eng[e].klast = st

/-- A register command is performed: it completes with status OK, and the lane comes to satisfy `P`. -/
def State.Writes (s : State) (l : LaneId) (wr : Writer) (c : Instr) (P : Lane → Prop) : Prop :=
  Does c s fun t => t.KlastIs l wr stOk ∧ P (t.lane l)

/-- A lane's SEB acts: the command completes, the other lane is as before, the supervisor's copy of the lane's latches is brought up to date (R333), and the
lane comes to satisfy `P`. -/
def State.SebDoes (s : State) (l : LaneId) (c : Instr) (P : Lane → Prop) : Prop :=
  Does c s fun t => t.lane l.other = s.lane l.other ∧ t.sup.latch[laneIx l] = some ((t.lane l).latches, rget (t.lane l).regs A_SEB_OUTSTAT) ∧ P (t.lane l)

/-! ### Requests on the service interface (R472, R473) -/

/-- The holder's firmware can carry out a request: it serves the session, the request is not for the other lane, none is in progress, the loader (where it runs)
knows the operation, the session's role is high enough, and the serving engine has no store waiting. -/
abbrev World.Serves (w : World) (l : LaneId) (n : SessNo) (field : LaneField) (op least : Nat) : Prop :=
  let L := w.lane l
  L.svcUp n = true ∧ wrongLane l field = false ∧ L.svc[n].busy = none ∧ (L.b F_LNK_UPDSTAT_LOADER = true → loaderOp op = true) ∧
  least ≤ L.svcRole n ∧ L.eng[L.svcEng n].sbuf = []

/-- A request completes with a response that carries its tag, its operation and a status, and the part comes to satisfy `P`. -/
def State.Answers (s : State) (l : LaneId) (n : SessNo) (c : Instr) (tag : Tag) (op st : Nat) (P : State → Prop) : Prop :=
  Does c s fun t => (t.lane l).svc[n].tag = tag.toNat ∧ (t.lane l).svc[n].op = op ∧ (t.lane l).svc[n].status = st ∧ P t

/-- A request is accepted and goes on: its response comes later. -/
def State.Starts (s : State) (l : LaneId) (n : SessNo) (c : Instr) (tag : Tag) (op : Nat) (P : Lane → Prop) : Prop :=
  Does c s fun t => (t.lane l).svc[n].busy = some (tag.toNat, op) ∧ P (t.lane l)

/-! ### What a command may change -/

/-- The kinds of state beside the registers: the components of both lanes (the engines' endpoints apart from the rest of them), the field die, the
supervisor. -/
inductive Part where
  | regs | phase | ends | engs | tsram | flash | ue | post | gtime | fclk | tags | xing | tick | blkHist | qHist | lastRestart | coreLow | dlMargin | tat | trc
  | bob | spg | drv | sel | door | prk | can | seb | pic | lnk | due | log | wer | sess | auth | svc | dbgp | img | mea | usb | bg | fd | sup | freeCtr
deriving DecidableEq, Repr

/-- A lane's part is the same. -/
def Lane.SamePart (L M : Lane) : Part → Prop
  | .regs => M.regs = L.regs
  | .phase => M.phase = L.phase
  | .ends => ∀ e : Eng, M.eng[e].ep = L.eng[e].ep
  | .engs => ∀ e : Eng, { M.eng[e] with ep := L.eng[e].ep } = L.eng[e]
  | .tsram => M.tsram = L.tsram
  | .flash => M.flash = L.flash
  | .ue => M.ue = L.ue
  | .post => M.post = L.post
  | .gtime => M.gtime = L.gtime
  | .fclk => M.fclk = L.fclk
  | .tags => M.tags = L.tags
  | .xing => M.xing = L.xing
  | .tick => M.tick = L.tick
  | .blkHist => M.blkHist = L.blkHist
  | .qHist => M.qHist = L.qHist
  | .lastRestart => M.lastRestart = L.lastRestart
  | .coreLow => M.coreLow = L.coreLow
  | .dlMargin => M.dlMargin = L.dlMargin
  | .tat => M.tat = L.tat
  | .trc => M.trc = L.trc
  | .bob => M.bob = L.bob
  | .spg => M.spg = L.spg
  | .drv => M.drv = L.drv
  | .sel => M.sel = L.sel
  | .door => M.door = L.door
  | .prk => M.prk = L.prk
  | .can => M.can = L.can
  | .seb => M.seb = L.seb
  | .pic => M.pic = L.pic
  | .lnk => M.lnk = L.lnk
  | .due => M.due = L.due
  | .log => M.log = L.log
  | .wer => M.wer = L.wer
  | .sess => M.sess = L.sess
  | .auth => M.auth = L.auth
  | .svc => M.svc = L.svc
  | .dbgp => M.dbgp = L.dbgp
  | .img => M.img = L.img
  | .mea => M.mea = L.mea
  | .usb => M.usb = L.usb
  | .bg => M.bg = L.bg
  | .fd | .sup | .freeCtr => True

/-- A part of the state is the same. -/
def State.SamePart (s t : State) : Part → Prop
  | .fd => t.fd = s.fd
  | .sup => t.sup = s.sup
  | .freeCtr => t.freeCtr = s.freeCtr
  | p => ∀ l, (s.lane l).SamePart (t.lane l) p

/-- Every part. -/
def everyPart : List Part :=
  [.regs, .phase, .ends, .engs, .tsram, .flash, .ue, .post, .gtime, .fclk, .tags, .xing, .tick, .blkHist, .qHist, .lastRestart, .coreLow, .dlMargin,
    .tat, .trc, .bob, .spg, .drv, .sel, .door, .prk, .can, .seb, .pic, .lnk, .due, .log, .wer, .sess, .auth, .svc, .dbgp, .img, .mea, .usb, .bg,
    .fd, .sup, .freeCtr]

/-- Every part but some. -/
def allBut (ps : List Part) : List Part := everyPart.filter fun p => !ps.contains p

/-- What a command may change: parts, and, of the lanes' registers, blocks (numbered by their place in the region: block b has the addresses from
0x40000000 + 0x10000 b). -/
def frameOf : Instr → List Part × List Nat
  | .powerOnReset .. | .powerOff .. =>
    (allBut [.freeCtr], List.range 21)
  | .powerLossWarning .. =>
    ([.regs, .ends, .xing, .wer, .sup], [1, 20])
  | .brownOut .. | .laneReset .. | .pllLoss .. | .sebSelftest .. | .coreSupplyFault .. | .ctrlRestart .. | .wakeSource .. | .hushEntered .. =>
    (allBut [.flash, .wer, .fd, .freeCtr], List.range 21)
  | .brownOutRecovery .. | .xresRelease .. =>
    ([.sup], [])
  | .xresLow .. | .holdEnd .. | .carrierReset .. | .sebCycle .. =>
    (allBut [.flash, .wer, .freeCtr], List.range 21)
  | .resetHold .. =>
    ([.regs, .ends, .xing, .sup], [1, 20])
  | .laneResetEnd .. =>
    ([.regs, .phase, .flash, .ue, .seb, .lnk], [5, 8, 10, 11, 12])
  | .pllLock .. =>
    ([.regs, .phase, .fclk, .lnk, .sup], [0])
  | .blockReset .. | .blockHandshakeTimeout .. | .add .. | .sub .. | .addu .. | .subu .. | .neg .. | .abs .. | .mul .. | .mulh .. | .div ..
  | .rem .. | .min .. | .max .. | .clamp .. | .addi .. | .muli .. | .cmp .. | .cmpi .. | .addm .. | .subm .. | .addmi .. | .mulm .. | .stepm ..
  | .and .. | .or .. | .xor .. | .andi .. | .ori .. | .xori .. | .shl .. | .shr .. | .sra .. | .shls .. | .ror .. | .clz .. | .popc .. | .bfx ..
  | .bfi .. | .sext .. | .crc .. | .mov .. | .movi .. | .movhi .. | .sel .. | .mfk .. | .mtk .. | .ldw .. | .ldh .. | .ldhu .. | .ldb ..
  | .ldbu .. | .sth .. | .stb .. | .popm .. | .xchg .. | .cas .. | .tidx .. | .tsrch .. | .tscan .. | .tint .. | .mac .. | .msu .. | .mula ..
  | .lda .. | .ldah .. | .rda .. | .rdah .. | .adda .. | .shra .. | .clra .. | .b .. | .bl .. | .br .. | .blr .. | .beq .. | .bne .. | .blt ..
  | .bge .. | .bltu .. | .bgeu .. | .bcc .. | .loop .. | .eret .. | .fence .. | .send .. | .recv .. | .sendnb .. | .recvnb .. | .chsel ..
  | .chstat .. | .rgld .. | .rgchk .. =>
    (allBut [.phase, .flash, .gtime, .fclk, .coreLow, .dlMargin, .wer, .dbgp, .fd, .freeCtr], List.range 21)
  | .ringStall .. | .quarterReset .. =>
    (allBut [.phase, .flash, .gtime, .fclk, .blkHist, .coreLow, .dlMargin, .wer, .dbgp, .fd, .freeCtr], List.range 21)
  | .laneLogicRestart .. =>
    (allBut [.phase, .flash, .gtime, .fclk, .blkHist, .qHist, .lastRestart, .coreLow, .dlMargin, .wer, .dbgp, .fd, .freeCtr], List.range 21)
  | .requestQuarterReset .. | .requestLogicRestart .. | .engineStart .. | .engineStop .. | .chcfgWrite .. | .chal .. | .login .. | .logout ..
  | .keep .. | .setcred .. | .serviceLogout .. | .dbgctlWrite .. =>
    (allBut [.phase, .gtime, .fclk, .coreLow, .dlMargin, .wer, .dbgp, .fd], List.range 21)
  | .gateReopen .. | .ctrlDebugOn .. =>
    ([.regs, .ends, .xing, .lnk], [0, 1, 12])
  | .crossingReady .. =>
    ([.regs, .xing], [1])
  | .staleReply .. =>
    ([.regs], [0])
  | .switchDriveLost .. | .thresholdUpdate .. =>
    ([.regs, .fd], [11])
  | .avsIteration .. =>
    ([.regs, .coreLow, .dlMargin, .bg], [2])
  | .pCrossingEvent .. | .toggleReturn .. =>
    ([.regs, .ends, .xing, .tick, .tat, .bob, .spg], [1])
  | .reloadEntry .. | .e0WarmEntry .. =>
    ([.regs, .ends, .engs, .ue, .lnk], [0])
  | .bgEngineStart .. =>
    ([.regs, .ends, .engs, .tsram, .ue, .wer, .bg], [0, 17])
  | .bootRomStart .. =>
    ([.regs, .ends, .engs, .ue, .xing, .lnk], [0, 1, 12, 19, 20])
  | .scrubRewrite .. =>
    ([.regs, .post, .wer, .bg], [17])
  | .scrubSweepLate .. =>
    ([.regs], [17])
  | .flashRefresh .. =>
    ([.regs, .flash, .wer, .bg], [17])
  | .calUpdate .. =>
    ([.regs, .bg], [7, 17])
  | .wearCommit .. =>
    ([.regs, .flash, .ue, .wer], [17])
  | .logPush .. =>
    ([.regs, .ends, .engs, .tsram, .ue, .bob, .prk, .seb, .lnk, .log, .wer, .sup], [0, 1, 5, 12, 17])
  | .changeLogCommit .. =>
    ([.regs, .flash, .ue, .log, .wer], [17])
  | .telemetrySample .. =>
    ([.regs, .ue, .can, .pic], [0, 12, 13, 14, 17, 20])
  | .snoopRefresh .. =>
    ([.bg], [])
  | .stw .. | .pushm .. | .copy .. | .fill .. | .rgst .. | .registerWrite .. | .seal .. | .bulk .. | .laneMessageCrcError .. | .serviceChal ..
  | .serviceLogin .. | .serviceKeep .. | .wrreg .. | .wrtab .. | .opcmd .. | .imgbegin .. | .imgabort .. | .attest .. | .serviceSetcred ..
  | .signComplete .. =>
    (allBut [.phase, .gtime, .fclk, .coreLow, .dlMargin, .dbgp], List.range 21)
  | .engineTimerTick .. =>
    ([.regs, .ends, .xing, .tick], [1])
  | .lgain .. | .lclmp .. =>
    ([.tat], [])
  | .bqd .. =>
    ([.tat, .spg], [])
  | .out .. =>
    ([.regs, .tat], [3])
  | .slotSampleInstant .. =>
    ([.regs, .ends, .tsram, .ue, .xing, .tick, .tat, .trc, .spg, .door, .lnk], [0, 1, 3, 4, 7, 8])
  | .slotRun .. =>
    ([.regs, .ends, .ue, .post, .xing, .tat, .spg], [0, 1, 3, 12, 17, 20])
  | .slotResult .. =>
    ([.regs, .ends, .tsram, .ue, .xing, .dlMargin, .tat, .trc, .spg, .door, .lnk], [0, 1, 3, 4, 7, 8])
  | .slotDeadline .. =>
    ([.regs, .ends, .tsram, .ue, .xing, .tat, .trc, .spg, .door, .lnk], [1, 3, 4, 7, 8])
  | .bqCommit .. | .bankWrite .. | .check .. | .resume .. | .forceGuard .. | .slotcfgWrite .. | .outdstWrite .. | .slotphWrite ..
  | .dataRamWrite .. =>
    ([.regs, .ends, .engs, .tsram, .ue, .xing, .tat, .bob, .door, .prk, .seb, .lnk, .log, .sup], [0, 1, 3, 5, 7, 12])
  | .trcArm .. | .trcStop .. | .trcForce .. =>
    ([.regs, .ends, .engs, .tsram, .ue, .trc, .bob, .prk, .seb, .lnk, .log, .sup], [0, 1, 5, 12, 18])
  | .traceSample .. =>
    ([.regs, .ends, .tsram, .ue, .xing, .trc], [1, 18])
  | .bobSampleInstant .. =>
    ([.regs, .ends, .xing, .tick, .bob, .spg, .seb, .usb], [1, 5])
  | .ssiFrame .. =>
    ([.regs, .bob, .seb, .lnk], [5])
  | .accTransfer .. =>
    ([.bob, .lnk, .usb], [])
  | .gatherWindowClose .. | .bobResetEnd .. | .relevelRequest .. =>
    ([.regs, .bob], [5])
  | .bobPublish .. =>
    ([.regs, .ends, .ue, .xing, .bob, .seb], [0, 1, 5])
  | .bobRestart .. | .bobEnable .. | .validate .. | .ltselWrite .. | .capturePop .. =>
    ([.regs, .ends, .engs, .tsram, .ue, .bob, .prk, .seb, .lnk, .log, .sup], [0, 1, 5, 10, 12])
  | .bobPosRead .. =>
    ([.regs, .ends, .engs], [0, 1, 5, 11, 12, 14, 17, 19, 20])
  | .validateComplete .. =>
    ([.regs, .bob, .seb], [5])
  | .captureEdge .. =>
    ([.bob], [])
  | .spgPublish .. =>
    ([.regs, .ends, .tsram, .ue, .xing, .spg, .lnk, .bg], [1, 4, 8])
  | .spgPush .. | .start .. | .relevel .. | .profile .. | .stream .. | .spgHalt .. | .mode .. =>
    ([.regs, .ends, .engs, .tsram, .ue, .xing, .bob, .spg, .drv, .prk, .seb, .lnk, .log, .sup], [0, 1, 3, 4, 5, 8, 12])
  | .hpgStep .. | .brakeFbTimeout .. =>
    ([.regs, .ends, .tsram, .ue, .xing, .spg, .lnk], [1, 4, 8])
  | .startSeqAdvance .. | .stopSeqAdvance .. =>
    ([.regs, .ends, .tsram, .ue, .xing, .spg, .drv, .lnk], [0, 1, 3, 4, 8])
  | .tqonTimeout .. =>
    ([.regs, .ends, .tsram, .ue, .xing, .spg, .lnk], [1, 4, 6, 8])
  | .stopmaxTimeout .. =>
    ([.regs, .ends, .xing, .spg], [0, 1, 3, 4])
  | .notchUpdate .. =>
    ([.regs, .spg], [0, 3, 4])
  | .notchTracker .. =>
    ([.regs, .spg], [4])
  | .drvPeriod .. =>
    ([.regs, .ends, .xing, .drv, .lnk], [1, 6, 12])
  | .drvRxFrame .. =>
    ([.regs, .ends, .tsram, .ue, .xing, .bob, .spg, .drv, .lnk], [1, 4, 5, 6, 8])
  | .rxWindowClose .. =>
    ([.regs, .ends, .tsram, .ue, .xing, .spg, .drv, .lnk], [1, 4, 6, 8])
  | .drvEnWrite .. =>
    ([.regs, .ends, .engs, .tsram, .ue, .xing, .bob, .spg, .drv, .prk, .seb, .lnk, .log, .sup], [0, 1, 4, 5, 6, 8, 12])
  | .selCycle .. =>
    ([.regs, .ends, .tsram, .ue, .xing, .spg, .sel, .seb, .pic, .lnk], [0, 1, 4, 8, 14])
  | .selClaim .. =>
    ([.regs, .ends, .engs, .tsram, .ue, .xing, .bob, .sel, .prk, .seb, .lnk, .log, .sup], [0, 1, 5, 8, 10, 12])
  | .currentSample .. =>
    ([.regs, .ends, .tsram, .ue, .xing, .door, .bg], [1, 7])
  | .compareLoad .. | .hallEdge .. | .refTimeout .. =>
    ([.regs, .ends, .tsram, .ue, .xing, .door], [1, 7])
  | .hallTimeout .. =>
    ([.regs, .door], [7])
  | .dorSampleInstant .. =>
    ([.regs, .ends, .tsram, .ue, .xing, .door, .lnk], [1, 3, 7, 12])
  | .dorPublish .. =>
    ([.regs, .door], [3, 7])
  | .doorOpen .. | .doorClose .. | .nudge .. | .preopen .. | .doorStop .. | .reference .. | .learn .. | .doorClrflt .. | .fselWrite ..
  | .deadtWrite .. | .capsWrite .. =>
    ([.regs, .ends, .engs, .tsram, .ue, .xing, .bob, .door, .prk, .seb, .lnk, .log, .sup], [0, 1, 5, 7, 12])
  | .lockTimeout .. =>
    ([.regs, .ends, .xing, .door], [1, 7])
  | .stopListPublish .. | .submissionPush .. | .anspop .. | .prkModeWrite .. =>
    ([.regs, .ends, .engs, .tsram, .ue, .xing, .bob, .prk, .seb, .lnk, .log, .sup], [0, 1, 5, 9, 12])
  | .prkEvaluation .. | .forcedReallocation .. =>
    ([.regs, .ends, .tsram, .ue, .xing, .prk, .lnk], [1, 9, 12])
  | .carViewStale .. =>
    ([.regs, .ends, .xing], [1, 9])
  | .sweepStart .. =>
    ([.regs, .prk], [9])
  | .mirrorSend .. =>
    ([.regs, .prk, .pic], [9, 14])
  | .mirrorApply .. | .assignmentReceived .. | .unconfirmedPickupExpiry .. =>
    ([.regs, .tsram, .ue, .prk, .lnk], [9, 12])
  | .inputFilterExpiry .. | .twoHandTimeout .. | .requestTimeout .. =>
    ([.regs, .seb, .fd, .sup], [11])
  | .discrepancyTimeout .. =>
    ([.regs, .ends, .xing, .seb, .fd, .sup], [1, 10, 11])
  | .enclost .. | .selReportTimeout .. | .demandMismatch .. | .partnerLost .. | .feedbackTimeout .. | .stoMismatch .. =>
    ([.regs, .ends, .xing, .seb, .fd, .sup], [0, 1, 10, 11])
  | .bobReportMissing .. | .partnerRestored .. =>
    ([.regs, .seb, .fd, .sup], [10, 11])
  | .partner .. | .sebreq .. =>
    ([.regs, .seb, .lnk, .fd, .sup], [11])
  | .sebReqWrite .. | .sebOpen .. | .sebCommit .. | .sebAbort .. | .sebReset .. =>
    ([.regs, .ends, .engs, .tsram, .ue, .xing, .bob, .prk, .seb, .lnk, .log, .fd, .sup], [0, 1, 5, 6, 10, 11, 12])
  | .latchRecordWrite .. | .latchRecordEraseDone .. =>
    ([.regs, .flash, .ue, .seb, .fd, .sup], [10, 11])
  | .resetButton .. =>
    ([.regs, .ends, .tsram, .ue, .xing, .seb, .log, .wer, .fd, .sup], [0, 1, 6, 10, 11])
  | .configStoreComplete .. =>
    ([.regs, .ends, .tsram, .flash, .ue, .xing, .seb, .log, .sup], [1, 10])
  | .revertComplete .. =>
    ([.regs, .ends, .xing, .seb, .fd], [0, 1, 5, 8, 10, 11])
  | .sessionIdleTimeout .. =>
    ([.regs, .ends, .tsram, .ue, .xing, .log, .sup], [1, 10])
  | .pwLockExpiry .. =>
    ([.seb], [])
  | .stateFrame .. =>
    ([.regs, .tsram, .ue, .seb, .bg, .fd], [11])
  | .supervisedMeasure .. | .inputEdge .. | .outputFault .. | .vfldFall .. | .vfldRise .. | .lowTimeout .. | .outputsCutDelay ..
  | .watchdogExpiry .. =>
    ([.regs, .ends, .xing, .fd], [1, 11])
  | .edgePop .. | .keepalive .. | .fioRelease .. | .fioClrflt .. | .ackcut .. | .fioOutWrite .. =>
    ([.regs, .ends, .engs, .tsram, .ue, .xing, .bob, .prk, .seb, .lnk, .log, .fd, .sup], [0, 1, 5, 10, 11, 12])
  | .testSlot .. =>
    ([.regs, .ends, .xing, .fd], [0, 1, 10, 11])
  | .fioConfigLoad .. =>
    ([.regs, .ends, .xing, .fd], [0, 1, 11])
  | .hbSend .. | .ctrlSwitch .. =>
    ([.lnk], [])
  | .hb .. =>
    ([.regs, .ends, .fclk, .xing, .lnk], [1, 12])
  | .heartbeatLoss .. | .bulkend .. | .keepaliveTimeout .. | .ready .. | .lnkRelease .. | .selftest .. | .suspectSelftestComplete ..
  | .restartPeer .. | .fwtestWrite .. | .lnkSwitch .. | .updateStart .. | .updateCommit .. | .updateAbort .. | .ctrlUpdateAbort ..
  | .serviceRestart .. | .scrubSweep .. =>
    (allBut [.phase, .flash, .gtime, .fclk, .blkHist, .qHist, .coreLow, .dlMargin, .wer, .dbgp, .fd, .freeCtr], List.range 21)
  | .ssi .. | .acc .. =>
    ([.bob, .lnk], [])
  | .sealEdge .. =>
    ([.regs, .ends, .tsram, .ue, .xing, .lnk], [1, 12])
  | .epdata .. =>
    ([.tsram, .ue, .lnk], [])
  | .epochMissing .. | .coldTrainStart .. | .fwStale .. =>
    ([.regs, .ends, .xing, .lnk], [1, 12])
  | .hoopGrant .. =>
    ([.regs, .ends, .engs, .tsram, .ue, .xing, .spg, .door, .can, .seb, .lnk, .log, .sess, .auth, .svc, .img, .usb, .fd, .sup], [0, 1, 4, 8, 10, 12, 15])
  | .hoopRelease .. | .hoopFault .. =>
    (allBut [.phase, .flash, .gtime, .fclk, .blkHist, .qHist, .lastRestart, .coreLow, .dlMargin, .wer, .dbgp, .freeCtr], List.range 21)
  | .hoopFaultClear .. =>
    ([.regs, .fd], [12])
  | .ctrlUpdateStart .. =>
    ([.regs, .ends, .flash, .ue, .xing, .lnk], [0, 1, 12])
  | .ctrlUpdateCommit .. =>
    (allBut [.wer, .fd, .freeCtr], List.range 21)
  | .upd .. =>
    (allBut [.phase, .gtime, .fclk, .blkHist, .qHist, .coreLow, .dlMargin, .wer, .dbgp, .fd], List.range 21)
  | .updack .. =>
    ([.lnk, .svc, .img], [])
  | .ctrlDebugOff .. =>
    ([.regs, .ends, .engs, .lnk], [0])
  | .canTxpush .. | .cancel .. | .canObjRelease .. | .canRxpop .. | .rebuild .. | .canModeWrite .. | .canRestart .. | .sleep .. | .wake .. =>
    ([.regs, .ends, .engs, .tsram, .ue, .xing, .bob, .prk, .can, .seb, .lnk, .log, .sup], [0, 1, 5, 12, 13])
  | .canTxEnd .. | .canWake .. =>
    ([.regs, .ends, .xing, .can], [0, 1, 13])
  | .probeTimer .. | .autobaudDwell .. =>
    ([.can], [])
  | .canRxFrame .. =>
    ([.regs, .ends, .tsram, .ue, .xing, .can, .lnk, .freeCtr], [0, 1, 12, 13, 20])
  | .rebuildComplete .. | .canTakeoverResume .. | .canIntegrationComplete .. =>
    ([.regs, .can], [13])
  | .silenceScan .. =>
    ([.regs, .ends, .tsram, .ue, .xing, .lnk], [1, 12, 13])
  | .busoffRecovery .. | .shadowUnmatched .. =>
    ([.regs, .ends, .xing, .can], [1, 13])
  | .autobaudTimeout .. =>
    ([.regs, .ends, .xing], [1, 13])
  | .picFrameRx .. | .notice .. | .partUnseen .. | .handover .. | .leaveComplete .. | .candidateMasterTimeout .. =>
    ([.regs, .ends, .tsram, .ue, .xing, .prk, .pic, .lnk], [1, 9, 12, 14])
  | .time .. =>
    ([.regs, .ends, .gtime, .xing, .pic], [1, 14])
  | .timeSend .. | .ltestSend .. | .unwrap .. | .unwrapRetry .. | .fwFrameSend .. | .eqAdapt .. =>
    ([.regs, .pic], [14])
  | .ltest .. | .portBroken .. | .unwrapAtT .. =>
    ([.regs, .ends, .xing, .pic], [1, 14])
  | .pubSend .. =>
    ([.regs, .tsram, .ue, .pic, .lnk], [12, 14])
  | .picTxpush .. | .picRxpop .. | .leave .. =>
    ([.regs, .ends, .engs, .tsram, .ue, .xing, .bob, .prk, .seb, .pic, .lnk, .log, .sup], [0, 1, 5, 9, 12, 14])
  | .sessionIdleEnd .. =>
    ([.regs, .ends, .engs, .tsram, .ue, .xing, .lnk, .log, .sess, .auth, .svc, .img, .sup], [0, 1, 10])
  | .challengeExpiry .. =>
    ([.regs, .sess], [0])
  | .authLockoutExpiry .. =>
    ([.auth], [])
  | .vbusFall .. | .usbVlogLow .. =>
    ([.regs, .ends, .engs, .tsram, .ue, .xing, .lnk, .log, .sess, .auth, .svc, .img, .usb, .sup], [0, 1, 10, 15])
  | .vbusRise .. | .usbConnectAfterGrant .. | .usbPacketRx .. | .usbPacketSent .. | .usbVlogOk .. =>
    ([.regs, .ends, .xing, .usb], [1, 15])
  | .serviceFrame .. =>
    ([.svc], [])
  | .hello .. | .rdtab .. | .rdlog .. | .cert .. =>
    ([.regs, .ends, .engs, .tsram, .ue, .bob, .prk, .seb, .lnk, .svc], [0, 5, 12])
  | .rdreg .. =>
    ([.regs, .ends, .engs, .tsram, .ue, .bob, .prk, .seb, .lnk, .svc], [0, 1, 5, 11, 12, 14, 15, 17, 19, 20])
  | .archive .. =>
    ([.regs, .ends, .engs, .tsram, .ue, .bob, .prk, .seb, .lnk, .log, .svc], [0, 5, 12])
  | .imgblock .. =>
    ([.regs, .ends, .engs, .tsram, .flash, .ue, .bob, .prk, .seb, .lnk, .svc, .img], [0, 5, 12])
  | .imgcommit .. =>
    (allBut [], List.range 21)
  | .debugHalt .. | .debugRun .. =>
    ([.ends, .engs, .dbgp], [])
  | .debugStep .. | .wrmem .. =>
    (allBut [.phase, .gtime, .fclk, .coreLow, .dlMargin], List.range 21)
  | .rdmem .. =>
    ([.regs, .dbgp], [0, 1, 5, 11, 12, 14, 17, 19, 20])
  | .sign .. | .extend .. =>
    ([.regs, .ends, .engs, .tsram, .ue, .bob, .prk, .seb, .lnk, .log, .mea, .sup], [0, 1, 5, 12, 14, 19])
  | .doze .. | .hush .. | .pwrRun .. | .pwrWakestatWrite .. =>
    ([.regs, .ends, .engs, .tsram, .flash, .ue, .xing, .bob, .prk, .seb, .lnk, .log, .wer, .usb, .fd, .sup], [0, 1, 5, 11, 12, 13, 15, 17, 20])
  | .nvmProgram .. | .nvmErase .. | .nvmAddrWrite .. =>
    ([.regs, .ends, .engs, .tsram, .ue, .bob, .prk, .seb, .lnk, .log, .bg, .sup], [0, 1, 5, 12, 16])
  | .nvmDone .. =>
    ([.regs, .ends, .flash, .ue, .xing, .bg, .freeCtr], [1, 16])
  | .usbTxpush .. | .usbRxpop .. | .spiStart .. =>
    ([.regs, .ends, .engs, .tsram, .ue, .xing, .bob, .prk, .seb, .lnk, .log, .usb, .sup], [0, 1, 5, 12, 15])
  | .spiDone .. =>
    ([.regs], [15])
  | .powerLossWarningEnd .. =>
    ([.regs, .sup], [20])
  | .eventLogCommit .. =>
    ([.regs, .tsram, .flash, .ue, .seb, .log, .wer], [17])
  | .archiveComplete .. =>
    ([.regs, .tsram, .flash, .ue, .log, .wer, .svc, .sup], [17])
  | .fStartTimeout .. =>
    ([.fclk, .lnk], [])

/-! ### Where in memory a command may write -/

/-- An area of the memories: bytes of the table SRAM, or of the flash, by offset; the engines' local SRAM; the words that wait in the store buffers; n
bytes from an address of one lane, in its engines' local SRAM or its table SRAM. -/
inductive Area where
  | table (lo hi : Nat)
  | tableFrom (lo : Nat)
  | flash (lo hi : Nat)
  | flashFrom (lo : Nat)
  | rams
  | buffered
  | at (l : LaneId) (a n : Nat)
deriving DecidableEq, Repr

/-- Does an area hold a byte of a lane's memory? The store buffers are those of a state. -/
def Area.Holds (s : State) (l : LaneId) (m : Space) (o : Nat) : Area → Prop
  | .table lo hi => m = .table ∧ lo ≤ o ∧ o < hi
  | .tableFrom lo => m = .table ∧ lo ≤ o
  | .flash lo hi => m = .flash ∧ lo ≤ o ∧ o < hi
  | .flashFrom lo => m = .flash ∧ lo ≤ o
  | .rams => ∃ e, m = .ram e
  | .buffered => m = .table ∧ ∃ e : Eng, ∃ x v, (x, v) ∈ (s.lane l).eng[e].sbuf ∧ x - tsBase ≤ o ∧ o < x - tsBase + 4
  | .at k a n => l = k ∧ match m with
    | .ram e => a ≤ engBase e + o ∧ engBase e + o < a + n
    | .table => a ≤ tsBase + o ∧ tsBase + o < a + n
    | .flash => False

/-- The flash that the command of a region under way reaches: 16 bytes to be programmed, a sector to be erased (R505). -/
def State.nvmAreas (s : State) (r : Region) : List Area :=
  [LaneId.a, .b].flatMap fun l => match (s.lane l).bg.nvm[r] with
    | some c => [.flash (c % 2 ^ 32 - 0x08000000) (c % 2 ^ 32 - 0x08000000 + if c / 2 ^ 32 = 2 then 4096 else 16)]
    | none => []

/-- The areas that more than one family of commands may change: the wear counters, the queues of the change log and of the event log, the call table,
the stop list, the log bank, the credentials, the latch record. -/
def wearCounters : Area := .table wearOff (wearOff + 0x30)
def changeQueue : Area := .table 0x2C800 0x2D000
def eventQueue : Area := .table 0x2C000 0x2C800
def callTable : Area := .table 0 0x20000
def stopList : Area := .table 0x20000 0x21000
def logBank : Area := .flashFrom 0x780000
def credentials : Area := .flash 0x77A000 0x77B000
def latchRecord : Area := .flash 0x77E000 0x780000

/-- What a write to a register, whichever it is, may change: one to SYS_RSTREQ or SYS_ENGCTL resets engines, whose local SRAM is then cleared (Table 1.5). -/
def anyRegister : List Area := [.rams, wearCounters, changeQueue, eventQueue, callTable, .buffered, logBank, credentials]

/-- The areas of memory in which a command may change a byte: the engines' local SRAM where it can reset an engine (Table 1.5), the wear counters, the
queues of the change log and of the event log, the call table, the stop list, the door profiles, the node directory, the other parts' states and car
views, the trace buffer, the staged epochs, the records in flash, and what it stores itself. -/
def mayWrite (c : Instr) (s : State) : List Area :=
  match c with
  | .powerOnReset .. | .powerOff .. | .brownOut .. | .xresLow .. | .holdEnd .. | .carrierReset .. | .laneReset .. | .pllLoss .. | .sebSelftest ..
  | .coreSupplyFault .. | .sebCycle .. | .ctrlRestart .. | .wakeSource .. | .hushEntered .. =>
    [.rams, .tableFrom 0]
  | .powerLossWarning .. | .brownOutRecovery .. | .xresRelease .. | .resetHold .. | .pllLock .. | .gateReopen .. | .crossingReady ..
  | .staleReply .. | .switchDriveLost .. | .avsIteration .. | .pCrossingEvent .. | .toggleReturn .. | .scrubRewrite .. | .scrubSweepLate ..
  | .flashRefresh .. | .calUpdate .. | .telemetrySample .. | .snoopRefresh .. | .engineTimerTick .. | .lgain .. | .bqd .. | .lclmp .. | .out ..
  | .slotRun .. | .bobSampleInstant .. | .ssiFrame .. | .accTransfer .. | .gatherWindowClose .. | .bobPublish .. | .bobResetEnd .. | .bobPosRead ..
  | .validateComplete .. | .relevelRequest .. | .captureEdge .. | .stopmaxTimeout .. | .notchUpdate .. | .notchTracker .. | .drvPeriod ..
  | .hallTimeout .. | .dorPublish .. | .lockTimeout .. | .carViewStale .. | .sweepStart .. | .mirrorSend .. | .inputFilterExpiry ..
  | .discrepancyTimeout .. | .twoHandTimeout .. | .enclost .. | .bobReportMissing .. | .selReportTimeout .. | .demandMismatch .. | .partnerLost ..
  | .partnerRestored .. | .partner .. | .sebreq .. | .requestTimeout .. | .feedbackTimeout .. | .stoMismatch .. | .revertComplete ..
  | .pwLockExpiry .. | .supervisedMeasure .. | .inputEdge .. | .thresholdUpdate .. | .testSlot .. | .outputFault .. | .vfldFall .. | .vfldRise ..
  | .lowTimeout .. | .outputsCutDelay .. | .watchdogExpiry .. | .fioConfigLoad .. | .hbSend .. | .hb .. | .ssi .. | .acc .. | .epochMissing ..
  | .hoopFaultClear .. | .coldTrainStart .. | .fwStale .. | .ctrlSwitch .. | .updack .. | .ctrlDebugOn .. | .ctrlDebugOff .. | .canTxEnd ..
  | .probeTimer .. | .rebuildComplete .. | .busoffRecovery .. | .autobaudDwell .. | .autobaudTimeout .. | .shadowUnmatched ..
  | .canTakeoverResume .. | .canWake .. | .time .. | .timeSend .. | .ltest .. | .ltestSend .. | .portBroken .. | .unwrap .. | .unwrapAtT ..
  | .unwrapRetry .. | .fwFrameSend .. | .eqAdapt .. | .challengeExpiry .. | .authLockoutExpiry .. | .vbusRise .. | .usbConnectAfterGrant ..
  | .serviceFrame .. | .debugHalt .. | .debugRun .. | .rdmem .. | .usbPacketRx .. | .spiDone .. | .powerLossWarningEnd ..
  | .canIntegrationComplete .. | .usbPacketSent .. | .fStartTimeout .. | .usbVlogOk .. =>
    []
  | .laneResetEnd .. | .latchRecordWrite .. | .latchRecordEraseDone .. =>
    [latchRecord]
  | .blockReset .. | .blockHandshakeTimeout .. | .add .. | .sub .. | .addu .. | .subu .. | .neg .. | .abs .. | .mul .. | .mulh .. | .div ..
  | .rem .. | .min .. | .max .. | .clamp .. | .addi .. | .muli .. | .cmp .. | .cmpi .. | .addm .. | .subm .. | .addmi .. | .mulm .. | .stepm ..
  | .and .. | .or .. | .xor .. | .andi .. | .ori .. | .xori .. | .shl .. | .shr .. | .sra .. | .shls .. | .ror .. | .clz .. | .popc .. | .bfx ..
  | .bfi .. | .sext .. | .crc .. | .mov .. | .movi .. | .movhi .. | .sel .. | .mfk .. | .mtk .. | .ldh .. | .ldhu .. | .ldb .. | .ldbu .. | .mac ..
  | .msu .. | .mula .. | .lda .. | .ldah .. | .rda .. | .rdah .. | .adda .. | .shra .. | .clra .. | .b .. | .bl .. | .br .. | .blr .. | .beq ..
  | .bne .. | .blt .. | .bge .. | .bltu .. | .bgeu .. | .bcc .. | .loop .. | .eret .. =>
    [.rams, wearCounters, changeQueue]
  | .ringStall .. | .quarterReset .. | .laneLogicRestart .. | .heartbeatLoss .. | .bulkend .. | .hoopRelease .. | .hoopFault ..
  | .keepaliveTimeout .. | .suspectSelftestComplete .. | .ctrlUpdateAbort .. | .scrubSweep .. =>
    [.rams, changeQueue]
  | .sessionIdleTimeout .. | .hoopGrant .. | .sessionIdleEnd .. | .vbusFall .. | .usbVlogLow .. =>
    [changeQueue]
  | .requestQuarterReset .. | .requestLogicRestart .. | .engineStart .. | .engineStop .. =>
    [.rams, wearCounters, changeQueue, .buffered, credentials]
  | .chcfgWrite .. | .chal .. | .login .. | .logout ..
  | .keep .. | .setcred .. | .serviceLogout .. | .dbgctlWrite .. =>
    [wearCounters, changeQueue, .buffered, credentials]
  | .reloadEntry .. | .e0WarmEntry .. | .bootRomStart .. =>
    [.rams]
  | .bgEngineStart .. | .slotSampleInstant .. | .slotResult .. | .slotDeadline .. | .spgPublish .. | .hpgStep .. | .startSeqAdvance ..
  | .stopSeqAdvance .. | .brakeFbTimeout .. | .tqonTimeout .. | .drvRxFrame .. | .rxWindowClose .. | .selCycle .. | .currentSample ..
  | .compareLoad .. | .hallEdge .. | .refTimeout .. | .stateFrame .. =>
    [wearCounters]
  | .wearCommit .. | .changeLogCommit .. =>
    [logBank]
  | .archiveComplete .. =>
    [changeQueue, logBank]
  | .logPush .. =>
    [changeQueue, eventQueue, .buffered]
  | .ldw .. | .popm .. | .tidx .. | .tsrch .. | .tscan .. | .tint .. | .fence .. | .send .. | .recv .. | .sendnb .. | .recvnb .. | .chsel ..
  | .chstat .. | .rgld .. | .rgchk .. =>
    [.rams, wearCounters, changeQueue, .buffered]
  | .drvEnWrite .. | .doorOpen .. | .doorClose .. | .nudge .. | .preopen .. | .doorStop .. | .reference ..
  | .learn .. | .doorClrflt .. | .fselWrite .. | .deadtWrite .. | .capsWrite .. =>
    [wearCounters, changeQueue, .buffered]
  | .rgst .. | .registerWrite .. | .serviceChal .. | .serviceLogin .. | .serviceKeep .. | .wrreg .. | .opcmd .. | .imgabort .. | .attest ..
  | .serviceSetcred .. =>
    anyRegister
  | .fwtestWrite .. =>
    [.rams, changeQueue, .buffered]
  | .bqCommit .. | .bankWrite .. | .check .. | .resume .. | .forceGuard .. | .slotcfgWrite .. | .outdstWrite .. | .slotphWrite ..
  | .dataRamWrite .. | .trcArm .. | .trcStop .. | .trcForce .. | .bobRestart .. | .bobEnable .. | .validate .. | .ltselWrite .. | .capturePop ..
  | .spgPush .. | .start .. | .relevel .. | .profile .. | .stream .. | .spgHalt .. | .mode .. | .selClaim .. | .stopListPublish ..
  | .submissionPush .. | .anspop .. | .prkModeWrite .. | .sebReqWrite .. | .sebOpen .. | .sebCommit .. | .sebAbort .. | .sebReset .. | .edgePop ..
  | .keepalive .. | .fioRelease .. | .fioClrflt .. | .ackcut .. | .fioOutWrite .. | .ready .. | .lnkRelease .. | .selftest .. | .restartPeer ..
  | .lnkSwitch .. | .updateStart .. | .updateCommit .. | .updateAbort .. | .canTxpush .. | .cancel .. | .canObjRelease ..
  | .canRxpop .. | .rebuild .. | .canModeWrite .. | .canRestart .. | .sleep .. | .wake .. | .serviceRestart .. | .sign .. | .extend ..
  | .nvmProgram .. | .nvmErase .. | .nvmAddrWrite .. | .usbTxpush .. | .usbRxpop .. | .spiStart .. =>
    [changeQueue, .buffered]
  | .traceSample .. =>
    [.tableFrom 0x40000]
  | .dorSampleInstant .. =>
    [wearCounters, .table 0x27000 0x2B000]
  | .prkEvaluation .. =>
    [callTable, stopList]
  | .forcedReallocation .. | .mirrorApply .. | .notice .. | .partUnseen .. | .handover .. | .leaveComplete .. | .candidateMasterTimeout .. =>
    [callTable]
  | .assignmentReceived .. | .unconfirmedPickupExpiry .. =>
    [stopList]
  | .resetButton .. =>
    [eventQueue]
  | .configStoreComplete .. =>
    [changeQueue, .flash 0x77C000 0x77E000]
  | .sealEdge .. | .epdata .. =>
    [.tableFrom (stageOff 0)]
  | .seal .. | .bulk .. =>
    [.rams, .tableFrom 0, logBank, credentials]
  | .ctrlUpdateStart .. =>
    [.flash 0 0x600000]
  | .ctrlUpdateCommit .. =>
    [.rams, .tableFrom 0, .flash (bootCopyOff 0) (bootCopyOff 2)]
  | .upd .. =>
    [.rams, changeQueue, .flash 0 0x600000]
  | .laneMessageCrcError .. =>
    [.rams, .tableFrom 0, logBank, credentials, .flash 0 0x600000]
  | .canRxFrame .. | .silenceScan .. =>
    [.tableFrom (dirOff 0)]
  | .picFrameRx .. =>
    [callTable, .table 0x38000 0x3A000, .table 0x3C000 0x40000]
  | .pubSend .. =>
    [.table 0x3C000 0x40000]
  | .picTxpush .. | .picRxpop .. | .leave .. =>
    [changeQueue, callTable, .buffered]
  | .hello .. | .rdreg .. | .rdtab .. | .rdlog .. | .archive .. | .cert .. =>
    [.buffered]
  | .imgcommit .. =>
    [.rams, .tableFrom 0, .buffered, logBank, .flash (bootCopyOff 0) (bootCopyOff 2), credentials]
  | .signComplete .. =>
    [wearCounters, changeQueue, eventQueue, callTable, logBank, credentials]
  | .doze .. | .hush .. | .pwrRun .. | .pwrWakestatWrite .. =>
    [changeQueue, .buffered, logBank]
  | .eventLogCommit .. =>
    [eventQueue, logBank]
  | .stw l e _ rs imm =>
    anyRegister ++ [.at l ((s.core l e).addrOf rs imm) 4]
  | .sth l e _ rs imm _ =>
    [.rams, wearCounters, changeQueue, .buffered, .at l ((s.core l e).addrOf rs imm) 2]
  | .stb l e _ rs imm _ =>
    [.rams, wearCounters, changeQueue, .buffered, .at l ((s.core l e).addrOf rs imm) 1]
  | .pushm l e m =>
    anyRegister ++ [.at l ((s.core l e).getn 14 - 4 * (maskRegs m).length) (4 * (maskRegs m).length)]
  | .copy l e rd _ rt _ =>
    anyRegister ++ [.at l ((s.core l e).getn rd) (4 * (s.core l e).getn rt)]
  | .fill l e rd _ rt =>
    anyRegister ++ [.at l ((s.core l e).getn rd) (4 * (s.core l e).getn rt)]
  | .xchg l e _ rs _ =>
    [.rams, wearCounters, changeQueue, .buffered, .at l ((s.core l e).getn rs) 4]
  | .cas l e _ _ rt _ =>
    [.rams, wearCounters, changeQueue, .buffered, .at l ((s.core l e).getn rt) 4]
  | .wrmem l a _ =>
    [.rams, wearCounters, changeQueue, eventQueue, callTable, logBank, credentials, .at l a 4]
  | .imgblock _ _ _ _ off data _ =>
    [.buffered, .flash off (off + data.length)]
  | .debugStep .. =>
    [.buffered, logBank, credentials, .rams, .tableFrom 0]
  | .imgbegin .. =>
    anyRegister ++ [.flash 0 0x300000]
  | .wrtab _ _ _ _ table buf _ _ =>
    (match svcTable table buf with
    | some (off, size, n) => [.table off (off + n * size)]
    | none => []) ++ anyRegister
  | .nvmDone _ r _ => s.nvmAreas r

/-- A lane that believes it holds the Hoop is the one the field die knows as its holder (R386). -/
def World.OneHolder (w : World) : Prop := (w.laneA.holder = true → w.fd.hoop = 1) ∧ (w.laneB.holder = true → w.fd.hoop = 2)

end Sys2Proof.Machine
end

