-- ==== Sys2Proof/Certificates/Slice0/Obligations.lean ====
section
/-!
DEFINITION. The statements about the part that the provers are asked for.
-/
open Sys2Proof Sys2Proof.Machine

/-- Table 4.6 and R95: an instruction computes exactly, then clamps to the signed, or for ADDU and SUBU the unsigned, 32-bit range, with Z, N and V of
the result and SAT_S sticking; the engine goes on behind it and nothing else changes. That CLAMP clears V and that ADDU and SUBU clear N are the
model's reading (assumption log 7, 8). -/
def Obligations.ArithmeticSaturates : Prop :=
  ∀ (s : State) (l : LaneId) (e : Eng), s.Ready l e → ∀ (rd rs rt : RegNo) (imm : Imm17) (n : ShiftBy) (ad : AccNo) (sh : ShAmt),
    s.Runs l e (.add l e rd rs rt) (fun c c' => SatResult c c' rd (c.geti rs + c.geti rt)) ∧
    s.Runs l e (.addu l e rd rs rt) (fun c c' => SatUResult c c' rd ((c.getn rs : Int) + c.getn rt)) ∧
    s.Runs l e (.subu l e rd rs rt) (fun c c' => SatUResult c c' rd ((c.getn rs : Int) - c.getn rt)) ∧
    s.Runs l e (.sub l e rd rs rt) (fun c c' => SatResult c c' rd (c.geti rs - c.geti rt)) ∧
    s.Runs l e (.neg l e rd rs) (fun c c' => SatResult c c' rd (-c.geti rs)) ∧
    s.Runs l e (.abs l e rd rs) (fun c c' => SatResult c c' rd (max (c.geti rs) (-c.geti rs))) ∧
    s.Runs l e (.mul l e rd rs rt) (fun c c' => SatResult c c' rd (c.geti rs * c.geti rt)) ∧
    s.Runs l e (.mulh l e rd rs rt) (fun c c' => SatResult c c' rd (c.geti rs * c.geti rt / 2 ^ 32)) ∧
    s.Runs l e (.min l e rd rs rt) (fun c c' => SatResult c c' rd (min (c.geti rs) (c.geti rt))) ∧
    s.Runs l e (.max l e rd rs rt) (fun c c' => SatResult c c' rd (max (c.geti rs) (c.geti rt))) ∧
    s.Runs l e (.clamp l e rd rs rt) (fun c c' => SatResult c c' rd
      (if c.geti rs ≤ c.geti rt then max (c.geti rs) (min (c.geti rt) (c.geti rd)) else c.geti rs)) ∧
    s.Runs l e (.addi l e rd rs imm) (fun c c' => SatResult c c' rd (c.geti rs + imm.toInt)) ∧
    s.Runs l e (.muli l e rd rs imm) (fun c c' => SatResult c c' rd (c.geti rs * imm.toInt)) ∧
    s.Runs l e (.shls l e rd rs n) (fun c c' => SatResult c c' rd (c.geti rs * 2 ^ (c.shift n))) ∧
    s.Runs l e (.rda l e rd ad sh false) (fun c c' => SatResult c c' rd (if sh = 0 then c.acci ad else (c.acci ad + 2 ^ (sh.val - 1)) / 2 ^ sh.val))

/-- Table 4.6 and R96: a division truncates toward 0 and its remainder has the dividend's sign; by 0, DIV gives the largest number of the dividend's
sign, or 0, REM the dividend, with V and DIVZ_S 1; the smallest number by −1 saturates; and the engine goes on. -/
def Obligations.DivisionAndRemainder : Prop :=
  ∀ (s : State) (l : LaneId) (e : Eng), s.Ready l e → ∀ (rd rs rt : RegNo),
    s.Runs l e (.div l e rd rs rt) (fun c c' =>
      if c.geti rt = 0 then
        c'.geti rd = (if 0 < c.geti rs then 2 ^ 31 - 1 else if c.geti rs < 0 then -(2 ^ 31) else 0) ∧
        ZnOf c' (c'.geti rd) ∧ c'.flag 3 = true ∧ c'.flag 9 = true ∧ KeepsKsr c c' [0, 1, 3, 9] ∧ KeepsW c c' rd ∧ c'.a = c.a
      else SatResult c c' rd ((c.geti rs).tdiv (c.geti rt))) ∧
    s.Runs l e (.rem l e rd rs rt) (fun c c' =>
      if c.geti rt = 0 then
        c'.get rd = c.get rs ∧
        ZnOf c' (c.geti rs) ∧ c'.flag 3 = true ∧ c'.flag 9 = true ∧ KeepsKsr c c' [0, 1, 3, 9] ∧ KeepsW c c' rd ∧ c'.a = c.a
      else SatResult c c' rd ((c.geti rs).tmod (c.geti rt)))

/-- Tables 4.7 to 4.9 and 4.12: instructions that write one register and no flag. A shift by 32 or more gives 0, an arithmetic one to the right the
sign. Tables 4.6 and 4.7: CMP and CMPI write no register but Z, N (less, signed), C (less, unsigned) and V 0; ADDM and SUBM wrap, with C the carry or
borrow and V 0. -/
def Obligations.RegisterResultsAndCompares : Prop :=
  ∀ (s : State) (l : LaneId) (e : Eng), s.Ready l e → ∀ (rd rs rt : RegNo) (imm : Imm17) (hi : Imm16) (n : ShiftBy) (ad : AccNo) (p len b cond : Nat),
    s.Runs l e (.addmi l e rd rs imm) (fun c c' => PlainResult c c' rd (c.get rs + imm.signExtend 32)) ∧
    s.Runs l e (.mulm l e rd rs rt) (fun c c' => PlainResult c c' rd (c.get rs * c.get rt)) ∧
    s.Runs l e (.stepm l e rd rs rt) (fun c c' => PlainResult c c' rd
      (if c.getn rt = 0 then c.get rs else BitVec.ofNat 32 ((c.getn rs + 1) % c.getn rt))) ∧
    s.Runs l e (.and l e rd rs rt) (fun c c' => PlainResult c c' rd (c.get rs &&& c.get rt)) ∧
    s.Runs l e (.or l e rd rs rt) (fun c c' => PlainResult c c' rd (c.get rs ||| c.get rt)) ∧
    s.Runs l e (.xor l e rd rs rt) (fun c c' => PlainResult c c' rd (c.get rs ^^^ c.get rt)) ∧
    s.Runs l e (.andi l e rd rs imm) (fun c c' => PlainResult c c' rd (c.get rs &&& imm.zeroExtend 32)) ∧
    s.Runs l e (.ori l e rd rs imm) (fun c c' => PlainResult c c' rd (c.get rs ||| imm.zeroExtend 32)) ∧
    s.Runs l e (.xori l e rd rs imm) (fun c c' => PlainResult c c' rd (c.get rs ^^^ imm.zeroExtend 32)) ∧
    s.Runs l e (.shl l e rd rs n) (fun c c' => PlainResult c c' rd (BitVec.ofNat 32 (c.getn rs * 2 ^ (c.shift n)))) ∧
    s.Runs l e (.shr l e rd rs n) (fun c c' => PlainResult c c' rd (BitVec.ofNat 32 (c.getn rs / 2 ^ (c.shift n)))) ∧
    s.Runs l e (.sra l e rd rs n) (fun c c' => PlainResult c c' rd (BitVec.ofInt 32 (c.geti rs / 2 ^ (c.shift n)))) ∧
    s.Runs l e (.ror l e rd rs n) (fun c c' => PlainResult c c' rd ((c.get rs).rotateRight (c.shift n))) ∧
    s.Runs l e (.clz l e rd rs) (fun c c' => KeepsW c c' rd ∧ c'.ksr = c.ksr ∧ c'.a = c.a ∧
      c'.getn rd ≤ 32 ∧ (∀ k, 32 - c'.getn rd ≤ k → (c.get rs).getLsbD k = false) ∧ (c'.getn rd < 32 → (c.get rs).getLsbD (31 - c'.getn rd) = true)) ∧
    s.Runs l e (.popc l e rd rs) (fun c c' => PlainResult c c' rd
      (BitVec.ofNat 32 ((List.range 32).countP fun k => (c.get rs).getLsbD k))) ∧
    (p < 32 → p + len ≤ 32 → s.Runs l e (.bfx l e rd rs p len) (fun c c' => PlainResult c c' rd (BitVec.ofNat 32 (c.getn rs / 2 ^ p % 2 ^ len)))) ∧
    (p < 32 → p + len ≤ 32 → s.Runs l e (.bfi l e rd rs p len) (fun c c' => KeepsW c c' rd ∧ c'.ksr = c.ksr ∧ c'.a = c.a ∧
      ∀ k, (c'.get rd).getLsbD k = if p ≤ k ∧ k < p + len then (c.get rs).getLsbD (k - p) else (c.get rd).getLsbD k)) ∧
    (b < 32 → s.Runs l e (.sext l e rd rs b) (fun c c' => PlainResult c c' rd (((c.get rs).truncate (b + 1)).signExtend 32))) ∧
    s.Runs l e (.crc l e rd rs) (fun c c' => PlainResult c c' rd (crc32Cont (c.get rd) (wordBytes (c.get rs)))) ∧
    s.Runs l e (.mov l e rd rs) (fun c c' => PlainResult c c' rd (c.get rs)) ∧
    s.Runs l e (.movi l e rd imm) (fun c c' => PlainResult c c' rd (imm.signExtend 32)) ∧
    s.Runs l e (.movhi l e rd hi) (fun c c' => PlainResult c c' rd (hi ++ (c.get rd).truncate 16)) ∧
    (cond ≤ 12 → s.Runs l e (.sel l e rd rs rt cond) (fun c c' => PlainResult c c' rd (if c.cond cond then c.get rs else c.get rt))) ∧
    s.Runs l e (.rdah l e rd ad) (fun c c' => PlainResult c c' rd (BitVec.ofInt 32 (c.acci ad / 2 ^ 32))) ∧
    s.Runs l e (.cmp l e rs rt) (fun c c' => c'.w = c.w ∧ c'.a = c.a ∧ KeepsKsr c c' [0, 1, 2, 3] ∧ c'.flag 3 = false ∧
      c'.flag 0 = decide (c.get rs = c.get rt) ∧ c'.flag 1 = decide (c.geti rs < c.geti rt) ∧ c'.flag 2 = decide (c.getn rs < c.getn rt)) ∧
    s.Runs l e (.cmpi l e rs imm) (fun c c' => c'.w = c.w ∧ c'.a = c.a ∧ KeepsKsr c c' [0, 1, 2, 3] ∧ c'.flag 3 = false ∧
      c'.flag 0 = decide (c.geti rs = imm.toInt) ∧ c'.flag 1 = decide (c.geti rs < imm.toInt) ∧
      c'.flag 2 = decide (c.getn rs < (imm.signExtend 32).toNat)) ∧
    s.Runs l e (.addm l e rd rs rt) (fun c c' => c'.get rd = c.get rs + c.get rt ∧ KeepsW c c' rd ∧ c'.a = c.a ∧ KeepsKsr c c' [0, 1, 2, 3] ∧
      ZnOf c' (c'.geti rd) ∧ c'.flag 3 = false ∧ c'.flag 2 = decide (2 ^ 32 ≤ c.getn rs + c.getn rt)) ∧
    s.Runs l e (.subm l e rd rs rt) (fun c c' => c'.get rd = c.get rs - c.get rt ∧ KeepsW c c' rd ∧ c'.a = c.a ∧ KeepsKsr c c' [0, 1, 2, 3] ∧
      ZnOf c' (c'.geti rd) ∧ c'.flag 3 = false ∧ c'.flag 2 = decide (c.getn rs < c.getn rt))

/-- Table 4.12 and R97: accumulators of 48 bits that saturate; a shift to the right rounds to the nearest, halves upward; RAW and the high halves move bits. -/
def Obligations.Accumulators : Prop :=
  ∀ (s : State) (l : LaneId) (e : Eng), s.Ready l e → ∀ (ad ae : AccNo) (rd rs rt : RegNo) (sh : ShAmt),
    let shifted : Int → Int := fun x => if sh = 0 then x else (x + 2 ^ (sh.val - 1)) / 2 ^ sh.val
    s.Runs l e (.mac l e ad rs rt sh) (fun c c' => SatAResult c c' ad (c.acci ad + shifted (c.geti rs * c.geti rt))) ∧
    s.Runs l e (.msu l e ad rs rt sh) (fun c c' => SatAResult c c' ad (c.acci ad - shifted (c.geti rs * c.geti rt))) ∧
    s.Runs l e (.mula l e ad rs rt sh) (fun c c' => SatAResult c c' ad (shifted (c.geti rs * c.geti rt))) ∧
    s.Runs l e (.lda l e ad rs sh false) (fun c c' => SatAResult c c' ad (c.geti rs * 2 ^ sh.val)) ∧
    s.Runs l e (.lda l e ad rs 0 true) (fun c c' => c'.a[ad].extractLsb' 0 32 = c.get rs ∧ c'.a[ad].extractLsb' 32 16 = c.a[ad].extractLsb' 32 16 ∧
      ZnOf c' (c'.acci ad) ∧ c'.flag 3 = false ∧ KeepsKsr c c' [0, 1, 3] ∧ KeepsA c c' ad ∧ c'.w = c.w) ∧
    s.Runs l e (.ldah l e ad rs) (fun c c' => c'.a[ad].extractLsb' 0 32 = c.a[ad].extractLsb' 0 32 ∧ c'.a[ad].extractLsb' 32 16 = (c.get rs).extractLsb' 0 16 ∧
      c'.ksr = c.ksr ∧ KeepsA c c' ad ∧ c'.w = c.w) ∧
    s.Runs l e (.rda l e rd ad 0 true) (fun c c' => c'.get rd = c.a[ad].extractLsb' 0 32 ∧
      ZnOf c' (c'.geti rd) ∧ c'.flag 3 = false ∧ KeepsKsr c c' [0, 1, 3] ∧ KeepsW c c' rd ∧ c'.a = c.a) ∧
    s.Runs l e (.adda l e ad ae) (fun c c' => SatAResult c c' ad (c.acci ad + c.acci ae)) ∧
    s.Runs l e (.shra l e ad sh) (fun c c' => SatAResult c c' ad (shifted (c.acci ad))) ∧
    s.Runs l e (.clra l e ad) (fun c c' => c'.a[ad] = 0 ∧ c'.flag 0 = true ∧ c'.flag 1 = false ∧ c'.flag 3 = false ∧ KeepsKsr c c' [0, 1, 3] ∧
      KeepsA c c' ad ∧ c'.w = c.w)

/-- Table 4.13 and R98: a branch goes to its target, counted in words from the branch itself, where its condition holds (Table 4.5 for BCC), and behind itself
where not; links go to w15; LOOP counts its register down; ERET, in an exception, restores pc and the low flags of KSR. -/
def Obligations.BranchesAndReturns : Prop :=
  ∀ (s : State) (l : LaneId) (e : Eng), s.Ready l e → ∀ (rs rt : RegNo) (o : Off17) (far : Off25) (cond : Nat),
    let c := s.core l e
    let near : Word := s.pc l e + BitVec.ofInt 32 (4 * o.toInt)
    let away : Word := s.pc l e + BitVec.ofInt 32 (4 * far.toInt)
    let holds : Nat → Bool := fun k => match k with
      | 0 => c.flag 0
      | 1 => !c.flag 0
      | 2 => c.flag 1
      | 3 => !c.flag 1
      | 4 => c.flag 2
      | 5 => !c.flag 2
      | 6 => !(c.flag 1 || c.flag 0)
      | 7 => c.flag 1 || c.flag 0
      | 8 => c.flag 3
      | 9 => !c.flag 3
      | 10 => c.flag 2
      | 11 => !c.flag 2
      | _ => true
    let branch : Instr → Bool → Prop := fun i taken => if taken then s.Jumps l e i near SameCore else s.Runs l e i SameCore
    branch (.beq l e rs rt o) (decide (c.get rs = c.get rt)) ∧
    branch (.bne l e rs rt o) (decide (c.get rs ≠ c.get rt)) ∧
    branch (.blt l e rs rt o) (decide (c.geti rs < c.geti rt)) ∧
    branch (.bge l e rs rt o) (decide (c.geti rt ≤ c.geti rs)) ∧
    branch (.bltu l e rs rt o) (decide (c.getn rs < c.getn rt)) ∧
    branch (.bgeu l e rs rt o) (decide (c.getn rt ≤ c.getn rs)) ∧
    (cond ≤ 12 → branch (.bcc l e cond o) (holds cond)) ∧
    s.Jumps l e (.b l e far) away SameCore ∧
    s.Jumps l e (.bl l e far) away (fun c c' => PlainResult c c' 15 (s.pc l e + 4)) ∧
    (c.getn rs % 4 = 0 → s.Jumps l e (.br l e rs) (c.get rs) SameCore) ∧
    (c.getn rs % 4 = 0 → s.Jumps l e (.blr l e rs) (c.get rs) (fun c c' => PlainResult c c' 15 (s.pc l e + 4))) ∧
    (c.get rs = 0 → s.Runs l e (.loop l e rs o) SameCore) ∧
    (c.get rs = 1 → s.Runs l e (.loop l e rs o) (fun c c' => PlainResult c c' rs 0)) ∧
    (1 < c.getn rs → s.Jumps l e (.loop l e rs o) near (fun c c' => PlainResult c c' rs (c.get rs - 1))) ∧
    (c.flag 16 = true → s.Jumps l e (.eret l e) (s.lane l).eng[e].kepc (fun c c' => c'.w = c.w ∧ c'.a = c.a ∧
      c'.ksr = (s.lane l).eng[e].kesr &&& 0x70F#32))

/-- Table 4.2, R91 and R93: what MFK reads of each control register, a read of KTIME latching KTIMEH, and what MTK leaves in each it may write: flags
as written, sticky bits cleared by 1, EXC kept; KVBR's low byte 0; KROLE only lowered; KTPER at most 1000000, with SAT_S. That KTPER := 0 also clears
what has come to ch63 and the engine's ticks that wait at their crossing is the model's choice (assumption log 23, DEDUCED). -/
def Obligations.ControlRegisters : Prop :=
  ∀ (s : State) (l : LaneId) (e : Eng), s.Ready l e → ∀ (r : RegNo) (k : Nat),
    let g := (s.lane l).eng[e]
    let v := (s.core l e).get r
    let reads : Nat → Option Word := fun k => match k with
      | 0 => some g.core.ksr
      | 1 => some g.kepc
      | 2 => some g.kesr
      | 3 => some g.kcause
      | 4 => some g.keaddr
      | 5 => some g.kvbr
      | 6 => some (BitVec.ofNat 32 (e.val + 256 * (if l = .a then 0 else 1)))
      | 7 => some (BitVec.ofNat 32 g.krole.num)
      | 8 => some (BitVec.ofNat 32 g.klast)
      | 9 => some (BitVec.ofNat 32 g.ktper)
      | 11 => some (BitVec.ofNat 32 g.ktimeh)
      | _ => none
    (∀ x, reads k = some x → s.Runs l e (.mfk l e r k) (fun c c' => PlainResult c c' r x)) ∧
    (∃ c', exec (.mfk l e r 10) s = .next (s.engThen l e fun g => { g.go c' with ktimeh := (s.lane l).gtime / 2 ^ 32 % 2 ^ 16 }) ∧
      PlainResult (s.core l e) c' r (BitVec.ofNat 32 (s.lane l).gtime)) ∧
    s.Runs l e (.mtk l e 0 r) (fun c c' => c'.w = c.w ∧ c'.a = c.a ∧ ∀ b, c'.ksr.getLsbD b =
      (if b < 4 then v.getLsbD b else if 8 ≤ b ∧ b ≤ 10 then c.ksr.getLsbD b && !v.getLsbD b else if b = 16 then c.ksr.getLsbD 16 else false)) ∧
    exec (.mtk l e 1 r) s = .next (s.engThen l e fun g => { g.go g.core with kepc := v }) ∧
    exec (.mtk l e 2 r) s = .next (s.engThen l e fun g => { g.go g.core with kesr := v }) ∧
    exec (.mtk l e 5 r) s = .next (s.engThen l e fun g => { g.go g.core with kvbr := v &&& 0xFFFFFF00#32 }) ∧
    (g.krole.num ≤ v.toNat % 4 → s.Runs l e (.mtk l e 7 r) SameCore) ∧
    (0 < v.toNat % 4 → v.toNat % 4 < g.krole.num →
      exec (.mtk l e 7 r) s = .next (s.engThen l e fun g => { g.go g.core with krole := Role.ofNum (v.toNat % 4) })) ∧
    (v.toNat % 4 = 0 → 0 < g.krole.num → (s.lane l).sessOf e = none →
      exec (.mtk l e 7 r) s = .next (s.engThen l e fun g => { g.go g.core with krole := .none })) ∧
    (v.toNat = 0 → exec (.mtk l e 9 r) s = .next { s with toWorld := s.updLane l fun L =>
      { L.updEng e fun g => { g.go g.core with ktper := 0, ep := g.ep.set 63 {} } with tick := L.tick.set e 0 } }) ∧
    (0 < v.toNat → v.toNat ≤ 1000000 → exec (.mtk l e 9 r) s = .next (s.engThen l e fun g => { g.go g.core with ktper := v.toNat })) ∧
    (1000000 < v.toNat → ∃ c', exec (.mtk l e 9 r) s = .next (s.engThen l e fun g => { g.go c' with ktper := 1000000 }) ∧
      c'.flag 8 = true ∧ c'.w = g.core.w ∧ c'.a = g.core.a ∧ KeepsKsr g.core c' [8])

/-- Tables 4.19 and 4.20, R113 and R114: an illegal encoding, or a jump to a misaligned target, takes its exception: KESR and KEPC saved, the cause
and its address recorded, EXC 1, and the pc at 16 bytes a code from KVBR; no other register of the part changes. That LDA and RDA with RAW and a shift
are such an encoding is the model's reading (assumption log 9). -/
def Obligations.ExceptionEntry : Prop :=
  ∀ (s : State) (l : LaneId) (e : Eng), s.Ready l e → (s.core l e).flag 16 = false →
    let taken : Instr → Nat → Nat → Nat → Prop := fun i code sub addr =>
      ∃ c', exec i s = .next (s.engThen l e fun g => { g with
        wait := none, core := c', kesr := g.core.ksr, kepc := g.pc, kcause := BitVec.ofNat 32 (code + 256 * sub)
        keaddr := BitVec.ofNat 32 addr, pc := g.kvbr + BitVec.ofNat 32 (16 * code) }) ∧
      c'.w = (s.core l e).w ∧ c'.a = (s.core l e).a ∧ c'.flag 16 = true ∧ KeepsKsr (s.core l e) c' [16]
    ∀ (rd rs rt : RegNo) (ad : AccNo) (sh : ShAmt) (o : Off17) (m : Imm16) (ecc : Ecc) (k : Nat),
      (12 < k → taken (.bcc l e k o) 6 3 0) ∧
      (12 < k → taken (.sel l e rd rs rt k) 6 3 0) ∧
      (11 < k → taken (.mfk l e rd k) 6 3 0) ∧
      (k ∉ [0, 1, 2, 5, 7, 9] → taken (.mtk l e k rs) 6 3 0) ∧
      (∀ p, 32 < p + k → taken (.bfx l e rd rs p k) 6 3 0) ∧
      (∀ p, 32 < p + k → taken (.bfi l e rd rs p k) 6 3 0) ∧
      (sh ≠ 0 → taken (.lda l e ad rs sh true) 6 3 0) ∧
      (sh ≠ 0 → taken (.rda l e rd ad sh true) 6 3 0) ∧
      (m.getLsbD 14 = true → taken (.pushm l e m) 6 3 0) ∧
      (m.getLsbD 14 = true → taken (.popm l e m ecc) 6 3 0) ∧
      taken (.eret l e) 6 4 0 ∧
      ((s.core l e).getn rs % 4 ≠ 0 → taken (.br l e rs) 2 3 ((s.core l e).getn rs)) ∧
      ((s.core l e).getn rs % 4 ≠ 0 → taken (.blr l e rs) 2 3 ((s.core l e).getn rs))

/-- Table 4.10, R64, R98, R111: a load at rs + imm, which must not leave the 32-bit range, gives the word, or the byte or halfword, sign-extended or
not, of memory without an error, or LDW the word of a register, with status OK; nothing but the register, the pc and KLAST changes. R64, R71, R72,
R99: a store puts the word, halfword or byte of rd there and leaves every other byte of the part's memories: in the engine's own SRAM at once, a
halfword or byte of the table SRAM at once, a word of it by way of the store buffer, which FENCE empties; STW writes a register (here a firmware input
word of TAT). R395: in a replicated region only the holder's stores are performed. Table 4.10, R100, R102: PUSHM puts the registers of its mask below
w14, the highest uppermost, and POPM takes them back, the lowest first, here in the engine's own SRAM; w14 follows; no register for mask 0. -/
def Obligations.MemoryAccess : Prop :=
  ((∀ (s : State) (l : LaneId) (e : Eng), s.Ready l e → ∀ (rd rs : RegNo) (imm : Imm17) (ecc : Ecc), ecc.kind = .clean →
      ∀ a : Nat, (a : Int) = (s.core l e).getn rs + imm.toInt →
        let w := s.dataWord l e (a - a % 4)
        (s.Readable l e a →
          (a % 4 = 0 → s.Runs l e (.ldw l e rd rs imm ecc) (fun c c' => PlainResult c c' rd w)) ∧
          (a % 2 = 0 → s.Runs l e (.ldh l e rd rs imm ecc) (fun c c' => PlainResult c c' rd ((w.extractLsb' (8 * (a % 4)) 16).signExtend 32))) ∧
          (a % 2 = 0 → s.Runs l e (.ldhu l e rd rs imm ecc) (fun c c' => PlainResult c c' rd ((w.extractLsb' (8 * (a % 4)) 16).zeroExtend 32))) ∧
          s.Runs l e (.ldb l e rd rs imm ecc) (fun c c' => PlainResult c c' rd ((w.extractLsb' (8 * (a % 4)) 8).signExtend 32)) ∧
          s.Runs l e (.ldbu l e rd rs imm ecc) (fun c c' => PlainResult c c' rd ((w.extractLsb' (8 * (a % 4)) 8).zeroExtend 32))) ∧
        (s.Reaches l e a → a ≠ A_BOB_POS → (regMacro a = true → (s.lane l).ue.contains a = false) → Does (.ldw l e rd rs imm ecc) s fun t =>
          s.WentOn t l e (fun c c' => PlainResult c c' rd (s.regWord l (some e) a)) ∧ OnlyLane l s t ∧ World.SameMem s.toWorld t.toWorld ∧
          (t.lane l).eng[e].klast = stOk ∧ (t.lane l).regs = (s.lane l).regs)) ∧
    (∀ (s : State) (l : LaneId) (e : Eng), s.Ready l e → ∀ (rd rs : RegNo) (imm : Imm17) (ecc : Ecc) (i : Fin 9), ecc.kind = .clean →
      ∀ a : Nat, (a : Int) = (s.core l e).getn rs + imm.toInt →
        let v := (s.core l e).get rd
        let L := s.lane l
        let own : Nat → Instr → Prop := fun n i => Does i s fun t =>
          s.WentOn t l e SameCore ∧ OnlyLane l s t ∧ (t.lane l).regs = (s.lane l).regs ∧ SameMemBut s t l e a n ∧
          ∀ k, k < n → (t.lane l).byte (.ram e) (a - engBase e + k) = v.extractLsb' (8 * k) 8
        let shared : Nat → Instr → Prop := fun n i => Does i s fun t =>
          s.WentOn t l e SameCore ∧ OnlyLane l s t ∧ SameTableBut s t l a n ∧
          ∀ k, k < n → (t.lane l).byte .table (a - tsBase + k) = v.extractLsb' (8 * k) 8
        let word := a - a % 4
        (OwnWords e a 1 → s.Puts l a 1 → own 4 (.stw l e rd rs imm)) ∧
        (a % 2 = 0 → s.Readable l e a → OwnWords e word 1 → s.Puts l word 1 → own 2 (.sth l e rd rs imm ecc)) ∧
        (s.Readable l e a → OwnWords e word 1 → s.Puts l word 1 → own 1 (.stb l e rd rs imm ecc)) ∧
        (OwnWords e a 1 → ¬ s.Puts l a 1 → L.f F_LNK_CNT_SUPPRESS < 255 → Does (.stw l e rd rs imm) s fun t => s.WentOn t l e SameCore ∧ OnlyLane l s t ∧
          World.SameMem s.toWorld t.toWorld ∧ (t.lane l).f F_LNK_CNT_SUPPRESS = L.f F_LNK_CNT_SUPPRESS + 1) ∧
        (kRegion e a = .table → L.tsRefuses a = none → L.ue.contains word = false → L.eng[e].sbuf = [] → L.gateState 4 = gOpen →
          (L.replicated word = false ∨ L.holder = true) →
          (a % 2 = 0 → shared 2 (.sth l e rd rs imm ecc)) ∧ shared 1 (.stb l e rd rs imm ecc)) ∧
        (s.Reaches l e a → a = A_TAT_FWIN i.val → Does (.stw l e rd rs imm) s fun t =>
          s.WentOn t l e SameCore ∧ OnlyLane l s t ∧ World.SameMem s.toWorld t.toWorld ∧ (t.lane l).eng[e].klast = stOk ∧
          ∀ b, rget (t.lane l).regs b = if b = a then v else rget L.regs b) ∧
        (a % 4 = 0 → kRegion e a = .table → (s.lane l).tsRefuses a = none → (s.lane l).eng[e].sbuf.length < 2 →
          exec (.stw l e rd rs imm) s = .next (s.engThen l e fun g => { g.go g.core with sbuf := g.sbuf ++ [(a, v)] })) ∧
        (∀ x w, (s.lane l).eng[e].sbuf = [(x, w)] → tsBase ≤ x → (s.lane l).gateState 4 = gOpen → ((s.lane l).replicated x = false ∨ (s.lane l).holder = true) →
          Does (.fence l e) s fun t => s.WentOn t l e SameCore ∧ OnlyLane l s t ∧ (t.lane l).eng[e].sbuf = [] ∧ (t.lane l).ts (x - tsBase) = w ∧
            SameTableBut s t l x 4) ∧
        (∀ x w, (s.lane l).eng[e].sbuf = [(x, w)] → (s.lane l).gateState 4 ≠ gOpen → (s.lane l).f F_SYS_DGCNT_ABORTS < 65535 →
          Does (.fence l e) s fun t => s.WentOn t l e SameCore ∧ OnlyLane l s t ∧ (t.lane l).eng[e].sbuf = [] ∧ (s.lane l).SameMem (t.lane l) ∧
            (t.lane l).f F_SYS_DGCNT_ABORTS = (s.lane l).f F_SYS_DGCNT_ABORTS + 1) ∧
        ((s.lane l).eng[e].sbuf = [] → s.Runs l e (.fence l e) SameCore))) ∧
  (∀ (s : State) (l : LaneId) (e : Eng), s.Ready l e → ∀ (m : Imm16) (ecc : Ecc), ecc.kind = .clean → m.getLsbD 14 = false →
      let c := s.core l e
      let sp := c.getn 14
      let up : List RegNo := (List.finRange 16).filter fun r => m.getLsbD r.val
      let n := up.length
      (m = 0 → s.Runs l e (.pushm l e m) SameCore ∧ s.Runs l e (.popm l e m ecc) SameCore) ∧
      (m ≠ 0 → sp % 4 = 0 → engBase e + 4 * n ≤ sp → sp ≤ engBase e + engSize e → s.Puts l (sp - 4 * n) n →
        Does (.pushm l e m) s fun t => OnlyLane l s t ∧ (t.lane l).regs = (s.lane l).regs ∧ SameMemBut s t l e (sp - 4 * n) (4 * n) ∧
          s.WentOn t l e (fun c c' => PlainResult c c' 14 (c.get 14 - BitVec.ofNat 32 (4 * n))) ∧
          ∀ k (h : k < n), t.ownWord l e (sp - 4 * n + 4 * k) = c.get up[k]) ∧
      (m ≠ 0 → OwnWords e sp n → (∀ k, k < n → s.Readable l e (sp + 4 * k)) →
        s.Runs l e (.popm l e m ecc) fun c c' => c'.ksr = c.ksr ∧ c'.a = c.a ∧ c'.get 14 = c.get 14 + BitVec.ofNat 32 (4 * n) ∧
          (∀ r : RegNo, r ∉ up → r ≠ 14 → c'.get r = c.get r) ∧ ∀ k (h : k < n), c'.get up[k] = s.ownWord l e (sp + 4 * k)))

/-- Tables 4.10 and 4.11, R100, R101, R103: XCHG and CAS on the engine's own SRAM, CAS setting Z where it swaps; COPY and FILL of the engine's own
SRAM, their registers counted through; a count over 65535, or a copy upward into its own source, does nothing but set V. -/
def Obligations.AtomicsAndBlocks : Prop :=
  ∀ (s : State) (l : LaneId) (e : Eng), s.Ready l e → (s.lane l).eng[e].sbuf = [] →
    ∀ (rd rs rt : RegNo) (ecc : Ecc), ecc.kind = .clean →
    let c := s.core l e
    let frame : State → Nat → Nat → Prop := fun t a n => OnlyLane l s t ∧ (t.lane l).regs = (s.lane l).regs ∧ SameMemBut s t l e a n
    (let a := c.getn rs
     OwnWords e a 1 → s.Puts l a 1 → s.Readable l e a → Does (.xchg l e rd rs ecc) s fun t => frame t a 4 ∧
       t.ownWord l e a = c.get rd ∧ s.WentOn t l e (fun c c' => PlainResult c c' rd (s.ownWord l e a))) ∧
    (let a := c.getn rt
     let old := s.ownWord l e a
     OwnWords e a 1 → s.Puts l a 1 → s.Readable l e a → Does (.cas l e rd rs rt ecc) s fun t => frame t a 4 ∧
       t.ownWord l e a = (if old = c.get rd then c.get rs else old) ∧
       s.WentOn t l e (fun c c' => c'.get rd = old ∧ KeepsW c c' rd ∧ c'.a = c.a ∧ KeepsKsr c c' [0] ∧ c'.flag 0 = decide (old = c.get rd))) ∧
    (let n := c.getn rt
     rd ≠ rs ∧ rd ≠ rt ∧ rs ≠ rt →
     (n = 0 → s.Runs l e (.copy l e rd rs rt ecc) SameCore) ∧
     (0 < n → (65535 < n ∨ (c.getn rs < c.getn rd ∧ c.getn rd < c.getn rs + 4 * n)) →
       s.Runs l e (.copy l e rd rs rt ecc) (fun c c' => c'.w = c.w ∧ c'.a = c.a ∧ KeepsKsr c c' [3] ∧ c'.flag 3 = true)) ∧
     (0 < n → n ≤ 65535 → OwnWords e (c.getn rd) n → s.Puts l (c.getn rd) n → OwnWords e (c.getn rs) n → (∀ k, k < n → s.Readable l e (c.getn rs + 4 * k)) →
       (c.getn rd ≤ c.getn rs ∨ c.getn rs + 4 * n ≤ c.getn rd) →
       Does (.copy l e rd rs rt ecc) s fun t => frame t (c.getn rd) (4 * n) ∧
         (∀ k, k < n → t.ownWord l e (c.getn rd + 4 * k) = s.ownWord l e (c.getn rs + 4 * k)) ∧
         s.WentOn t l e (fun c c' => c'.a = c.a ∧ KeepsKsr c c' [3] ∧ c'.flag 3 = false ∧ c'.get rd = c.get rd + BitVec.ofNat 32 (4 * n) ∧
           c'.get rs = c.get rs + BitVec.ofNat 32 (4 * n) ∧ c'.get rt = 0 ∧ ∀ r : RegNo, r ∉ [rd, rs, rt] → c'.get r = c.get r))) ∧
    (let n := c.getn rt
     rd ≠ rs ∧ rd ≠ rt ∧ rs ≠ rt →
     (n = 0 → s.Runs l e (.fill l e rd rs rt) SameCore) ∧
     (65535 < n → s.Runs l e (.fill l e rd rs rt) (fun c c' => c'.w = c.w ∧ c'.a = c.a ∧ KeepsKsr c c' [3] ∧ c'.flag 3 = true)) ∧
     (0 < n → n ≤ 65535 → OwnWords e (c.getn rd) n → s.Puts l (c.getn rd) n →
       Does (.fill l e rd rs rt) s fun t => frame t (c.getn rd) (4 * n) ∧
         (∀ k, k < n → t.ownWord l e (c.getn rd + 4 * k) = c.get rs) ∧
         s.WentOn t l e (fun c c' => c'.a = c.a ∧ KeepsKsr c c' [3] ∧ c'.flag 3 = false ∧ c'.get rd = c.get rd + BitVec.ofNat 32 (4 * n) ∧
           c'.get rt = 0 ∧ ∀ r : RegNo, r ∉ [rd, rt] → c'.get r = c.get r)))

/-- Table 4.16 and R104: TIDX gives an entry's address, never beyond COUNT; TSRCH the lower bound of a key in an ascending table, with Z where it is
there and C where there is no entry at or above, an empty table giving COUNT or nothing at all, for the manual says both (assumption log 10); TSCAN
the first entry from rd with the key; a descriptor beyond its limits gives 0 or COUNT with V and C. The address TIDX gives beyond 32 bits is open
(assumption log 158). R104 and the text on TINT: it interpolates between the two breakpoints around rs, rounding to the nearest, halves upward; at a
breakpoint it gives its value with Z; below the first and above the last it gives the outermost value with C; a descriptor beyond its limits gives 0
with V and C. -/
def Obligations.TableInstructions : Prop :=
  (∀ (s : State) (l : LaneId) (e : Eng), s.Ready l e → ∀ (rd rs rt : RegNo) (ecc : Ecc), ecc.kind = .clean →
      let c := s.core l e
      let p := c.getn rt
      let count := s.descWord l e p 1 / 2 ^ 16
      let key := c.get rs &&& s.dataWord l e (p + 12)
      let keys := s.keyOf l e p
      s.DescAt l e p →
      (¬ s.DescOk l e p →
        s.Runs l e (.tidx l e rd rs rt ecc) (fun c c' => TableResult c c' rd 0 false true true) ∧
        s.Runs l e (.tsrch l e rd rs rt ecc) (fun c c' => TableResult c c' rd (BitVec.ofNat 32 count) false true true) ∧
        s.Runs l e (.tscan l e rd rs rt ecc) (fun c c' => TableResult c c' rd (BitVec.ofNat 32 count) false true true)) ∧
      (s.DescOk l e p →
        (c.getn rs < count → s.entryAt l e p (c.getn rs) 0 < 2 ^ 32 →
          s.Runs l e (.tidx l e rd rs rt ecc) (fun c c' => TableResult c c' rd (BitVec.ofNat 32 (s.entryAt l e p (c.getn rs) 0)) false false false)) ∧
        (c.getn rs < count → 2 ^ 32 ≤ s.entryAt l e p (c.getn rs) 0 →
          s.Runs l e (.tidx l e rd rs rt ecc) (fun c c' => TableResult c c' rd (c'.get rd) false false false)) ∧
        (count = 0 → s.Runs l e (.tsrch l e rd rs rt ecc) (fun c c' => SameCore c c' ∨ TableResult c c' rd 0 false true false)) ∧
        (count ≤ c.getn rs → s.Runs l e (.tidx l e rd rs rt ecc) (fun c c' => TableResult c c' rd 0 false true false)) ∧
        ((∀ i, i < count → s.Readable l e (s.keyAt l e p i)) →
          (0 < count → (∀ j, j < count → ∀ i, i < j → keys i ≤ keys j) →
            ∃ lo, lo ≤ count ∧ (∀ i, i < lo → keys i < key) ∧ (lo < count → ¬ keys lo < key) ∧
              s.Runs l e (.tsrch l e rd rs rt ecc)
                (fun c c' => TableResult c c' rd (BitVec.ofNat 32 lo) (decide (lo < count ∧ keys lo = key)) (decide (lo = count)) false)) ∧
          (count = 0 → s.Runs l e (.tscan l e rd rs rt ecc) SameCore) ∧
          (∀ i, c.getn rd ≤ i → i < count → keys i = key → (∀ j, j < i → c.getn rd ≤ j → keys j ≠ key) →
            s.Runs l e (.tscan l e rd rs rt ecc) (fun c c' => TableResult c c' rd (BitVec.ofNat 32 i) true false false)) ∧
          (0 < count → (∀ j, j < count → c.getn rd ≤ j → keys j ≠ key) →
            s.Runs l e (.tscan l e rd rs rt ecc) (fun c c' => TableResult c c' rd (BitVec.ofNat 32 count) false true false))))) ∧
  (∀ (s : State) (l : LaneId) (e : Eng), s.Ready l e → ∀ (rd rs rt : RegNo) (ecc : Ecc), ecc.kind = .clean →
      let c := s.core l e
      let p := c.getn rt
      let count := s.descWord l e p 1 / 2 ^ 16
      let xAt : Nat → Nat := fun i => s.descWord l e p 0 + 8 * i
      let yAt : Nat → Nat := fun i => s.descWord l e p 0 + 8 * i + 4
      let x : Nat → Int := fun i => (s.dataWord l e (xAt i)).toInt
      let y : Nat → Int := fun i => (s.dataWord l e (yAt i)).toInt
      let key := c.geti rs
      let gives : Int → Bool → Bool → Prop := fun v z cc =>
        s.Runs l e (.tint l e rd rs rt ecc) (fun c c' => TableResult c c' rd (BitVec.ofInt 32 v) z cc false)
      s.DescAt l e p →
      (¬ s.DescOk l e p → s.Runs l e (.tint l e rd rs rt ecc) (fun c c' => TableResult c c' rd 0 false true true)) ∧
      (s.DescOk l e p → 0 < count → (∀ i, i < count → s.Readable l e (xAt i) ∧ s.Readable l e (yAt i)) →
        (∀ j, j < count → ∀ i, i < j → x i < x j) →
        (∀ i, i < count → x i = key → gives (y i) true false) ∧
        (key < x 0 → gives (y 0) false true) ∧
        (x (count - 1) < key → gives (y (count - 1)) false true) ∧
        (∀ i, i + 1 < count → x i < key → key < x (i + 1) →
          let d := x (i + 1) - x i
          gives ((2 * (y i * d + (y (i + 1) - y i) * (key - x i)) + d) / (2 * d)) false false)))


/-- Table 4.14, R105 to R108: a word sent into a bound peer with room, by SEND or SENDNB, and one taken by RECV or RECVNB; a full peer answers SENDNB
QFULL, an empty FIFO RECVNB Z; CHSEL finds the lowest channel that is ready, with V and CHAN_S where it is a peer's reset that is to be reported, and
a wait that was ended as UNBOUND before it; CHSTAT tells of an endpoint. Nothing of it touches memory. The word that a full FIFO's merged events leave
behind a word taken, and the order in which an ended wait is met, are the model's choice (assumption log 23, DEDUCED). -/
def Obligations.Channels : Prop :=
  ∀ (s : State) (l : LaneId) (e : Eng), s.Ready l e → (s.lane l).eng[e].sbuf = [] → ∀ (r wd rs rt : RegNo) (ch : ChNo),
    let L := s.lane l
    let c := s.core l e
    let frame : State → Prop := fun t => OnlyLane l s t ∧ (t.lane l).regs = L.regs ∧ World.SameMem s.toWorld t.toWorld
    (∀ p q, L.CanSend e ch p q → L.eng[p].ep[q].fifo.length < 4 →
      (Does (.send l e ch r) s fun t => frame t ∧ s.WentOn t l e SameCore ∧ (t.lane l).eng[p].ep[q].fifo = L.eng[p].ep[q].fifo ++ [c.get r]) ∧
      (Does (.sendnb l e wd r ch) s fun t => frame t ∧ s.WentOn t l e (fun c c' => PlainResult c c' wd 0) ∧
        (t.lane l).eng[p].ep[q].fifo = L.eng[p].ep[q].fifo ++ [c.get r])) ∧
    (∀ p q, L.CanSend e ch p q → 4 ≤ L.eng[p].ep[q].fifo.length → s.Runs l e (.sendnb l e wd r ch) (fun c c' => PlainResult c c' wd 1)) ∧
    (∀ x rest, L.Receives e ch → L.eng[e].ep[ch].fifo = x :: rest →
      let left := if L.eng[e].ep[ch].evCount = 0 then rest else rest ++ [evWord L.eng[e].ep[ch].evCode L.eng[e].ep[ch].evCount]
      (Does (.recv l e wd ch) s fun t => frame t ∧ s.WentOn t l e (fun c c' => PlainResult c c' wd x) ∧ (t.lane l).eng[e].ep[ch].fifo = left) ∧
      (Does (.recvnb l e wd ch) s fun t => frame t ∧ (t.lane l).eng[e].ep[ch].fifo = left ∧
        s.WentOn t l e (fun c c' => c'.get wd = x ∧ KeepsW c c' wd ∧ c'.a = c.a ∧ KeepsKsr c c' [0, 3] ∧ c'.flag 0 = false ∧ c'.flag 3 = false))) ∧
    (L.Receives e ch → L.eng[e].ep[ch].fifo = [] → L.eng[e].ep[ch].peerReset = none →
      s.Runs l e (.recvnb l e wd ch) (fun c c' => c'.w = c.w ∧ c'.a = c.a ∧ KeepsKsr c c' [0, 3] ∧ c'.flag 0 = true ∧ c'.flag 3 = false)) ∧
    (c.get rs = 0 → c.get rt = 0 →
      s.Runs l e (.chsel l e wd rs rt) (fun c c' => c'.w = c.w ∧ c'.a = c.a ∧ KeepsKsr c c' [0, 3] ∧ c'.flag 0 = true)) ∧
    (let masked : ChNo → Bool := fun k => (c.get rt ++ c.get rs).getLsbD k.val
     (masked ch = true → L.chCut e ch = true → (∀ k : ChNo, k < ch → masked k = true → L.chCut e k = false) →
       Does (.chsel l e wd rs rt) s fun t => frame t ∧ s.WentOn t l e (fun c c' => c'.get wd = BitVec.ofNat 32 ch.val ∧ KeepsW c c' wd ∧ c'.a = c.a ∧
         c'.flag 0 = false ∧ c'.flag 3 = true)) ∧
     (masked ch = true → (∀ k : ChNo, masked k = true → L.chCut e k = false) → L.chReady e ch = true → (∀ k : ChNo, k < ch → masked k = true → L.chReady e k = false) →
      (L.chReport e ch = none → s.Runs l e (.chsel l e wd rs rt) (fun c c' => c'.get wd = BitVec.ofNat 32 ch.val ∧ KeepsW c c' wd ∧ c'.a = c.a ∧
        KeepsKsr c c' [0, 3] ∧ c'.flag 0 = false ∧ c'.flag 3 = false)) ∧
      (L.chReport e ch = some stPeerReset → s.Runs l e (.chsel l e wd rs rt) (fun c c' => c'.get wd = BitVec.ofNat 32 ch.val ∧ KeepsW c c' wd ∧ c'.a = c.a ∧
        KeepsKsr c c' [0, 3, 10] ∧ c'.flag 0 = false ∧ c'.flag 3 = true ∧ c'.flag 10 = true)))) ∧
    s.Runs l e (.chstat l e wd ch) (fun c c' => KeepsW c c' wd ∧ c'.a = c.a ∧ c'.ksr = c.ksr ∧
      c'.getn wd % 8 = (if L.chRecv e ch then L.eng[e].ep[ch].fifo.length else L.peerRoom e ch) % 8 ∧
      (c'.get wd).getLsbD 8 = L.peerInReset e ch ∧ (c'.get wd).getLsbD 9 = L.chBound e ch ∧ (c'.get wd).getLsbD 16 = L.chEn e ch)

/-- R109 to R112, R105: RGLD reads a register that the engine reaches, RGST and REGISTER_WRITE write one (here a firmware input word of TAT), each
with status OK in KLAST; RGCHK finds a write permitted and leaves KLAST; C 0; E0 binds an endpoint through SYS_CHCFG. R49, R50: a tick of the engine
timer finds its crossing idle and delivers a count of 1 to ch63, or waits at the crossing while a toggle is in flight, each engine with a count of its
own (the model's choice, assumption log 138). -/
def Obligations.RegisterInstructions : Prop :=
  ∀ (s : State) (l : LaneId) (e : Eng) (rd rs rt : RegNo) (i : Fin 9),
    let L := s.lane l
    let c := s.core l e
    let okWith : Instr → (KCore → KCore → Prop) → Prop := fun k R => Does k s fun t =>
      OnlyLane l s t ∧ World.SameMem s.toWorld t.toWorld ∧ (t.lane l).eng[e].klast = 0 ∧ s.WentOn t l e R
    let result : Word → KCore → KCore → Prop := fun v c c' =>
      c'.get rd = v ∧ KeepsW c c' rd ∧ c'.a = c.a ∧ KeepsKsr c c' [2] ∧ c'.flag 2 = false
    (s.Ready l e → s.Reaches l e (c.getn rt) → c.getn rt ≠ A_BOB_POS → (regMacro (c.getn rt) = true → L.ue.contains (c.getn rt) = false) →
      okWith (.rgld l e rd rt) (result (s.regWord l (some e) (c.getn rt)))) ∧
    (s.Ready l e → s.Reaches l e (c.getn rt) → c.getn rt = A_TAT_FWIN i.val →
      okWith (.rgst l e rd rs rt) (result 0) ∧
      Does (.rgst l e rd rs rt) s fun t => ∀ a, rget (t.lane l).regs a = if a = A_TAT_FWIN i.val then c.get rs else rget L.regs a) ∧
    (s.Ready l e → s.Reaches l e (c.getn rt) → (isChcfg (c.getn rt) = true ∨ c.getn rt = A_SYS_ENGCTL → e = 0) →
      (∀ f, f ∈ fieldsOf (c.getn rt) → f.acc ≠ .ro → L.fieldRight (.eng e) (c.getn rt) f = true) →
      (holderOnly (c.getn rt) = true ∨ c.getn rt = A_FIO_KEEPALIVE → L.holder = true) →
      s.Runs l e (.rgchk l e rd rt) (result 0)) ∧
    (∀ (wr : Writer) (v : Word), s.Permits l wr (A_TAT_FWIN i.val) v →
      Does (.registerWrite l wr (A_TAT_FWIN i.val) v) s fun t => OnlyLane l s t ∧ World.SameMem s.toWorld t.toWorld ∧ t.KlastIs l wr 0 ∧
        ∀ a, rget (t.lane l).regs a = if a = A_TAT_FWIN i.val then v else rget L.regs a) ∧
    (∀ (n : FgEng) (ch : ChNo) (v : Word), ch ≠ 63 → s.Permits l (.eng 0) (A_SYS_CHCFG n.val ch.val) v →
      (rget L.regs (A_SYS_CHCFG n.val ch.val)).getLsbD 31 = false → (v.getLsbD 30 = false → bits v 21 16 < 8) →
      Does (.chcfgWrite l 0 n ch v) s fun t => OnlyLane l s t ∧ World.SameMem s.toWorld t.toWorld ∧ (t.lane l).eng[0].klast = 0 ∧
        let x := rget (t.lane l).regs (A_SYS_CHCFG n.val ch.val)
        x.getLsbD 31 = v.getLsbD 31 ∧ x.getLsbD 30 = v.getLsbD 30 ∧ bits x 21 16 = bits v 21 16 ∧ bits x 13 8 = bits v 13 8) ∧
    (L.up (.eng e) = true → e.val < 8 → L.eng[e].ktper ≠ 0 → L.xOpen 46 = true →
      (L.xing[46].busy = false → L.tick[e] = 0 → L.eng[e].ep[63].fifo.length < 4 → L.eng[e].ep[63].evCount = 0 →
        Does (.engineTimerTick l e) s fun t => OnlyLane l s t ∧ World.SameMem s.toWorld t.toWorld ∧ (t.lane l).xing[46].busy = true ∧ (t.lane l).tick[e] = 0 ∧
          (t.lane l).eng[e].ep[63].fifo = L.eng[e].ep[63].fifo ++ [1#32] ∧ (t.lane l).eng[e].core = L.eng[e].core) ∧
      (L.xing[46].busy = true → L.xing[46].acc < 15 →
        Does (.engineTimerTick l e) s fun t => OnlyLane l s t ∧ (t.lane l).xing[46].acc = L.xing[46].acc + 1 ∧ (t.lane l).tick[e] = L.tick[e] + 1 ∧
          (t.lane l).eng = L.eng ∧ (t.lane l).regs = L.regs))

/-- R125 to R128, R238: LGAIN interpolates in the slot's gain table and holds the outermost values beyond it; BQD computes one biquad section; LCLMP
clamps to a limit pair and marks it, one that DOR writes as it was at the slot's sample instant; OUT gives a result word, the last one ending the run.
-/
def Obligations.LoopInstructions : Prop :=
  ∀ (s : State) (l : LaneId), (s.lane l).up .tat = true → ∀ (n : Slot) (rd rs : RegNo) (k : AccNo),
    let L := s.lane l
    let c := L.tat.core
    let x := c.geti rs
    let slot := L.tat.slots[n]
    (let X : Nat → Int := fun j => gainWord L slot.gsel n j 0
     let Y : Nat → Int := fun j => gainWord L slot.gsel n j 1
     let gives : Int → Bool → Bool → Prop := fun v z cc =>
       s.Acts l (.lgain l n rd rs) fun M => TableResult c M.tat.core rd (BitVec.ofInt 32 v) z cc false ∧ M.tat.slots = L.tat.slots ∧ M.regs = L.regs
     (∀ j, j < 63 → X j < X (j + 1)) →
     (x < X 0 → gives (Y 0) false true) ∧ (X 63 < x → gives (Y 63) false true) ∧ (∀ i, i < 64 → X i = x → gives (Y i) true false) ∧
     (∀ i, i < 63 → X i < x → x < X (i + 1) →
       gives (Y i + (2 * ((Y (i + 1) - Y i) * (x - X i)) + (X (i + 1) - X i)) / (2 * (X (i + 1) - X i))) false false)) ∧
    (let q := slot.bq[k]
     let y := nearest (-(2 ^ 31)) (2 ^ 31 - 1) ((q.b0 * x + q.s1 + 2 ^ 29) / 2 ^ 30)
     let s1 := q.b1 * x - q.a1 * y + q.s2
     let s2 := q.b2 * x - q.a2 * y
     let wide : Int → Int := nearest (-(2 ^ 63)) (2 ^ 63 - 1)
     let clamped : Bool := decide (y ≠ (q.b0 * x + q.s1 + 2 ^ 29) / 2 ^ 30 ∨ wide s1 ≠ s1 ∨ wide s2 ≠ s2)
     s.Acts l (.bqd l n rd rs k) fun M =>
       M.tat.core.geti rd = y ∧ KeepsW c M.tat.core rd ∧ M.tat.core.a = c.a ∧ M.tat.core.flag 3 = clamped ∧
       M.tat.core.flag 8 = (c.flag 8 || clamped) ∧ KeepsKsr c M.tat.core [3, 8] ∧
       M.tat.slots[n].bq[k] = { q with s1 := wide s1, s2 := wide s2 } ∧ M.regs = L.regs) ∧
    (let own := limOwned n.val k.val L
     let lo := if own then slot.lims[k].1 else L.i (F_TAT_LIMLO_LO n.val k.val)
     let hi := if own then slot.lims[k].2 else L.i (F_TAT_LIMHI_HI n.val k.val)
     let y := if hi < lo then lo else nearest lo hi x
     (-(2 ^ 31) ≤ lo ∧ lo < 2 ^ 31 ∧ -(2 ^ 31) ≤ hi ∧ hi < 2 ^ 31) → s.Acts l (.lclmp l n rd rs k) fun M =>
       M.tat.core.geti rd = y ∧ KeepsW c M.tat.core rd ∧ M.tat.core.a = c.a ∧ M.tat.core.flag 3 = (c.flag 3 || decide (y ≠ x)) ∧
       KeepsKsr c M.tat.core [3] ∧ (y ≠ x → M.tat.slots[n].clmpRun.testBit k.val = true) ∧ M.regs = L.regs) ∧
    (s.Acts l (.out l n rs k false) fun M => M.tat.outs = (k, c.get rs) :: L.tat.outs ∧ M.tat.core = c ∧ M.tat.slots = L.tat.slots ∧ M.regs = L.regs) ∧
    (s.Acts l (.out l n rs k true) fun M => M.tat.slots[n].sent = some ((k, c.get rs) :: L.tat.outs).reverse ∧ M.tat.outs = [] ∧ M.tat.cur = none ∧
       M.tat.slots[n].ticksLast = slot.ticksRun ∧ M.tat.slots[n].clmpRun = slot.clmpRun ∧
       (c.flag 8 = true → M.b (F_TAT_SLOTSTAT_SAT_S n.val) = true))

/-- R56, R117 to R129, R136: a sample instant of an enabled slot in RUN, where F has one, latches the ports and makes a run pending; a run goes to the
pending slot whose deadline comes first, and none starts past its deadline edge; a result accepted ahead of its deadline edge sets the ports of the
next instant, one on the edge or later does not; a deadline before the run began merges its tick and counts an overrun. -/
def Obligations.LoopSchedule : Prop :=
  ∀ (s : State) (l : LaneId), (s.lane l).up .tat = true → ∀ (n : Slot),
    let L := s.lane l
    let slot := L.tat.slots[n]
    let period := L.f (F_TAT_SLOTCFG_PERIOD n.val)
    (∀ off, L.b (F_TAT_SLOTCFG_EN n.val) = true → 0 < period → instantIn L.fclk period (L.f (F_TAT_SLOTPH_PHASE n.val)) = some off →
      L.f (F_TAT_SLOTSTAT_STATE n.val) = slRun → slot.guardReq = none → (L.fclk < slot.due ∨ (slot.pending = false ∧ slot.sent = none)) →
      L.spg.notchNew = Vector.replicate 4 false → L.xOpen n.val = true → L.xing[n.val].busy = false →
      s.Acts l (.slotSampleInstant l n) fun M => M.tat.slots[n].pending = true ∧ M.tat.slots[n].ticks = slot.ticks + 1 ∧
        M.tat.slots[n].ports = slot.nextPorts ∧ M.tat.slots[n].due = L.fclk + off + period - 160) ∧
    (0 < period → instantIn L.fclk period (L.f (F_TAT_SLOTPH_PHASE n.val)) = none → s.Acts l (.slotSampleInstant l n) fun M => M = L) ∧
    (∀ (ecc : Ecc) (r : RegNo) (p : AccNo), slot.pending = true → L.fclk < slot.due → ecc.kind = .clean →
      L.ue.contains (A_TAT_BANK n.val (if slot.bank then 512 else 0)) = false →
      (∀ m : Slot, L.tat.slots[m].pending = true → slot.due < L.tat.slots[m].due ∨ (slot.due = L.tat.slots[m].due ∧ n ≤ m)) →
      kDecodeLoop (rget L.regs (A_TAT_BANK n.val (if slot.bank then 512 else 0))) = some (.out r p true) →
      s.Acts l (.slotRun l ecc) fun M => M.tat.slots[n].pending = false ∧ M.tat.slots[n].sent = some [(p, 0)] ∧
        M.tat.slots[n].ticksLast = slot.ticks ∧ M.tat.slots[n].clmp = slot.clmpRun ∧ ∀ m : Slot, m ≠ n → M.tat.slots[m] = L.tat.slots[m]) ∧
    (∀ ecc : Ecc, (∀ m : Slot, L.tat.slots[m].pending = true → L.tat.slots[m].due ≤ L.fclk) → s.Acts l (.slotRun l ecc) fun M => M = L) ∧
    (∀ outs sub, slot.sent = some outs →
      let left : Int := (slot.due : Int) - L.fclk - (sub % 80 : Nat)
      (0 < left → L.f (F_TAT_SLOTSTAT_STATE n.val) = slRun → L.spg.ho.phase < 2 → 0 < period → L.xOpen (8 + n.val) = true →
        s.Acts l (.slotResult l n sub) fun M => M.tat.slots[n].sent = none ∧ M.tat.slots[n].nextPorts = applyOuts slot.nextPorts outs ∧
          M.f (F_TAT_SLOTSTAT_MARGIN n.val) = min 100 (left.toNat * 100 / period) ∧ M.f (F_TAT_SLOTSTAT_ORUN_CNT n.val) = 0) ∧
      (left ≤ 0 ∨ L.xOpen (8 + n.val) = false → s.Acts l (.slotResult l n sub) fun M => M = L)) ∧
    (slot.pending = true → L.f (F_TAT_SLOTSTAT_STATE n.val) = slRun → (slot.due : Int) - L.fclk < 80 →
      s.Acts l (.slotDeadline l n) fun M => M.tat.slots[n].pending = false ∧ M.tat.slots[n].ticks = slot.ticks ∧
        getBit M.regs F_TAT_OVR_OVR_S n.val = true ∧ M.f (F_TAT_SLOTSTAT_ORUN_CNT n.val) = min 8 (L.f (F_TAT_SLOTSTAT_ORUN_CNT n.val) + 1) ∧
        (min 8 (L.f (F_TAT_SLOTSTAT_ORUN_CNT n.val) + 1) = L.f (F_TAT_SLOTCFG_ORUN_M1 n.val) + 1 → M.tat.slots[n].guardReq = some gcOverrun))

/-- R126, R130 to R135, R137, R139: what each command of a slot's registers does where every check lets it: coefficients wait for their slot's
instant; a bank that is not live takes a word and loses its OK bit, which CHECK of a valid program sets; GUARD goes to BLEND; a running slot is asked
into GUARD; a slot starts in RUN; destinations, phase and data words are stored. -/
def Obligations.SlotCommands : Prop :=
  ∀ (s : State) (l : LaneId) (wr : Writer) (n : Slot) (v : Word),
    let L := s.lane l
    let en := L.b (F_TAT_SLOTCFG_EN n.val)
    (∀ cmt clr : Byte, s.Permits l wr A_TAT_BQCOMMIT (BitVec.ofNat 32 (clr.toNat * 256 + cmt.toNat)) →
      s.Writes l wr (.bqCommit l wr cmt clr) fun M => M.f F_TAT_BQCOMMIT_CMT = L.f F_TAT_BQCOMMIT_CMT ||| cmt.toNat) ∧
    (∀ word : BankWord, s.Permits l wr (A_TAT_BANK n.val word.val) v → (en = false ∨ L.b (F_TAT_SLOTCFG_BANK n.val) ≠ decide (512 ≤ word.val)) →
      s.Writes l wr (.bankWrite l wr n word v) fun M => rget M.regs (A_TAT_BANK n.val word.val) = v ∧
        M.b (if 512 ≤ word.val then F_TAT_PROG_OK1 n.val else F_TAT_PROG_OK0 n.val) = false) ∧
    (∀ (bank : Bool) (r : RegNo) (p : AccNo), s.Permits l wr (A_TAT_SLOTCTL n.val) (BitVec.ofNat 32 (0x10000 + bank.toNat * 16 + 1)) →
      kDecodeLoop (rget L.regs (A_TAT_BANK n.val (if bank then 512 else 0))) = some (.out r p true) →
      s.Writes l wr (.check l wr n bank 1) fun M => M.b (if bank then F_TAT_PROG_OK1 n.val else F_TAT_PROG_OK0 n.val) = true ∧
        M.f (F_TAT_PROG_CHKERR n.val) = 0) ∧
    (s.Permits l wr (A_TAT_SLOTCTL n.val) 2#32 → L.f (F_TAT_SLOTSTAT_STATE n.val) = slGuard →
      s.Writes l wr (.resume l wr n) fun M => M.f (F_TAT_SLOTSTAT_STATE n.val) = slBlend ∧ M.tat.slots[n].kb = 0 ∧ M.tat.slots[n].first = true) ∧
    (s.Permits l wr (A_TAT_SLOTCTL n.val) 3#32 → (L.f (F_TAT_SLOTSTAT_STATE n.val) = slRun ∨ L.f (F_TAT_SLOTSTAT_STATE n.val) = slBlend) →
      s.Writes l wr (.forceGuard l wr n) fun M => M.tat.slots[n].guardReq = some gcForced) ∧
    (s.Permits l wr (A_TAT_SLOTCFG n.val) v → en = false → v.getLsbD 31 = true →
      L.b (if v.getLsbD 30 then F_TAT_PROG_OK1 n.val else F_TAT_PROG_OK0 n.val) = true →
      s.Writes l wr (.slotcfgWrite l wr n v) fun M => M.f (F_TAT_SLOTSTAT_STATE n.val) = slRun ∧ M.b (F_TAT_SLOTCFG_EN n.val) = true ∧
        M.b (F_TAT_SLOTCFG_BANK n.val) = v.getLsbD 30 ∧ M.f (F_TAT_SLOTCFG_PERIOD n.val) = bits v 15 0 ∧ M.tat.slots[n].first = true) ∧
    (s.Permits l wr (A_TAT_OUTDST n.val) v → v.toNat < 16 → v.toNat ≤ 5 →
      (∀ m : Slot, m ≠ n → v.toNat ∉ outDsts (rget L.regs (A_TAT_OUTDST m.val))) →
      s.Writes l wr (.outdstWrite l wr n v) fun M => bits (rget M.regs (A_TAT_OUTDST n.val)) 3 0 = v.toNat) ∧
    (s.Permits l wr (A_TAT_SLOTPH n.val) v → en = false → bits v 15 0 < L.f (F_TAT_SLOTCFG_PERIOD n.val) →
      s.Writes l wr (.slotphWrite l wr n v) fun M => bits (rget M.regs (A_TAT_SLOTPH n.val)) 15 0 = bits v 15 0) ∧
    (∀ word : Byte, s.Permits l wr (A_TAT_DATA n.val word.toNat) v →
      s.Writes l wr (.dataRamWrite l wr n word v) fun M => rget M.regs (A_TAT_DATA n.val word.toNat) = v)

/-- R141 to R143: ARM, STOP and FORCE wait for the next trace sample; ARM then starts a trace, FILLING where samples are wanted ahead of the trigger;
a sample after the trigger records every enabled channel, as it was latched, in its ring; without a latched sample nothing is due. -/
def Obligations.TraceRecorder : Prop :=
  ∀ (s : State) (l : LaneId) (wr : Writer),
    let L := s.lane l
    (∀ (div : TrcDiv) (clk : Slot) (len : TrcLen),
      s.Permits l wr A_TRC_CTRL (BitVec.ofNat 32 (0x10000000 + div.val * 0x10000 + clk.val * 0x2000 + len.val)) → 0 < len.val → L.tracing = false →
      s.Writes l wr (.trcArm l wr div clk len) fun M =>
        M.trc.arm = true ∧ M.f F_TRC_STAT_STATE = L.f F_TRC_STAT_STATE ∧ M.f F_TRC_CTRL_DIV = div.val ∧ M.f F_TRC_CTRL_CLK = clk.val ∧ M.f F_TRC_CTRL_LEN = len.val) ∧
    (s.Permits l wr A_TRC_CTRL (setBits (L.rwWord A_TRC_CTRL) 31 28 2) → L.tracing = true →
      s.Writes l wr (.trcStop l wr) fun M => M.trc.stop = true ∧ M.f F_TRC_STAT_STATE = L.f F_TRC_STAT_STATE) ∧
    (s.Permits l wr A_TRC_CTRL (setBits (L.rwWord A_TRC_CTRL) 31 28 3) → L.tracing = true →
      s.Writes l wr (.trcForce l wr) fun M => M.trc.force = true ∧ M.f F_TRC_STAT_STATE = L.f F_TRC_STAT_STATE) ∧
    (L.up .trc = true → L.trc.latched = none → s.Acts l (.traceSample l) fun M => M = L) ∧
    (∀ v, L.up .trc = true → L.trc.latched = some v → L.trc.arm = true → L.trc.stop = false → L.trc.force = false →
      let len := min 4096 (L.f F_TRC_CTRL_LEN)
      let pre := min len (L.f F_TRC_PRE_PRE)
      1 < pre → s.Acts l (.traceSample l) fun M => M.f F_TRC_STAT_STATE = trcFilling ∧ M.trc.arm = false ∧ M.trc.len = len ∧ M.trc.pre = pre ∧
        M.trc.taken = 1 ∧ M.trc.wr = 1 ∧ M.trc.latched = none) ∧
    (∀ v, L.up .trc = true → L.trc.latched = some v → L.trc.arm = false → L.f F_TRC_STAT_STATE = trcTriggered → L.trc.stop = false → 1 < L.trc.after →
      L.trc.wr < 4096 → s.Acts l (.traceSample l) fun M => M.trc.after = L.trc.after - 1 ∧ M.trc.taken = L.trc.taken + 1 ∧ M.trc.wr = (L.trc.wr + 1) % 4096 ∧
        M.f F_TRC_STAT_STATE = trcTriggered ∧
        ∀ c : Fin 16, L.b (F_TRC_CHSEL_EN c.val) = true → M.ts (0x40000 + c.val * 0x4000 + L.trc.wr * 4) = v[c]) ∧
    (∀ v, L.up .trc = true → L.trc.latched = some v → L.trc.arm = false → L.tracing = true → L.trc.stop = true →
      s.Acts l (.traceSample l) fun M => M.f F_TRC_STAT_STATE = trcDone ∧ M.f F_TRC_STAT_STOPPED = 1)

/-- R145 to R152, R172: a sample instant opens the gather window, where F has one, and ticks SPG; a good frame of the lane's own encoder gives a
position, captured ENC_LAT before its first clock edge, and goes to the other lane, as the holder's accelerometer sample does; the other lane's
samples are used in the window of their own sample, and in no other; a capture edge waits for its publication. -/
def Obligations.EstimatorInputs : Prop :=
  ∀ (s : State) (l : LaneId),
    let L := s.lane l
    let own : Fin 2 := if l = .a then 0 else 1
    let far : Fin 2 := if l = .a then 1 else 0
    (∀ off, L.up .bob = true → instantIn L.fclk 20000 0 = some off → L.xOpen 17 = true → L.xing[17].busy = false → L.bob.rst = false →
      s.Acts l (.bobSampleInstant l) fun M => M.bob.window = true ∧ M.bob.updated = false ∧ M.bob.tk = L.fclk + off ∧
        M.bob.acc = none ∧ (∀ i : Fin 2, M.bob.ch[i].cur = none) ∧ M.bob.ltAct = L.b F_BOB_LTCTL_LTSEL ∧
        (L.xOpen 16 = true → L.xing[16].busy = false → M.spg.ticks = L.spg.ticks + 1) ∧ ∀ a, a / 0x10000 ≠ 0x4001 → rget M.regs a = rget L.regs a) ∧
    (L.up .bob = true → instantIn L.fclk 20000 0 = none → s.Acts l (.bobSampleInstant l) fun M => M = L) ∧
    (∀ (bits : Bits) (edge : Nat), L.spine = true → L.f F_BOB_SSICFG_FRAMELEN ≠ 0 → L.xOpen 18 = true → L.bob.window = true → L.bob.tk / 20000 = edge / 20000 →
      let frame := (bits ++ List.replicate (L.f F_BOB_SSICFG_FRAMELEN) false).take (L.f F_BOB_SSICFG_FRAMELEN)
      true ∈ frame → false ∈ frame → L.f F_BOB_SSICFG_PAR = 0 → L.b F_BOB_SSICFG_ERREN = false → L.b F_BOB_SSICFG_GRAY = false → L.b F_BOB_SSICFG_DIR = false →
      let count : Int := bitsNat ((frame.drop (L.f F_BOB_SSICFG_POSSTART)).take (L.f F_BOB_SSICFG_POSLEN))
      let z := nearest (-(2 ^ 31)) (2 ^ 31 - 1) ((count * L.f F_BOB_ENCSCALE_SCALE + 2 ^ 15) / 2 ^ 16 + L.i F_BOB_ENCOFS_OFS)
      let tc : Int := (edge : Int) - 80 * L.f F_BOB_ENCLAT_LAT
      s.Acts l (.ssiFrame l bits true true edge) fun M => M.bob.ch[own].cur = some (z, tc, false) ∧ M.lnk.ssiOut = some (z, tc, edge / 20000, false) ∧
        M.seb.enc = some (z, false) ∧ M.regs = L.regs) ∧
    (∀ (data : Bytes), L.up .bob = true → L.holder = true → L.bob.window = true → L.b F_BOB_CTRL_ACCEN = true → L.f F_BOB_ACCCFG_NBYTES ≠ 0 → L.xOpen 25 = true →
      let x := accSample L.regs (data.take (L.f F_BOB_ACCCFG_NBYTES))
      s.Acts l (.accTransfer l data true) fun M => M.bob.acc = some x ∧ M.lnk.accOut = some (L.bob.tk / 20000, some x) ∧ M.regs = L.regs) ∧
    (∀ z tc k faulty, (s.lane l.other).lnk.ssiOut = some (z, tc, k, faulty) → L.up .bob = true →
      Does (.ssi l) s fun t => (t.lane l.other).lnk.ssiOut = none ∧
        (L.bob.window = true → L.bob.tk / 20000 = k → (t.lane l).bob.ch[far].cur = some (z, tc, faulty)) ∧
        (L.bob.window = false ∨ L.bob.tk / 20000 ≠ k → (t.lane l).bob = L.bob)) ∧
    (∀ k x, (s.lane l.other).lnk.accOut = some (k, some x) → L.up .bob = true →
      Does (.acc l) s fun t => (t.lane l.other).lnk.accOut = none ∧
        (L.bob.window = true → L.bob.tk / 20000 = k → (t.lane l).bob.acc = some x) ∧
        (L.bob.window = false ∨ L.bob.tk / 20000 ≠ k → (t.lane l).bob = L.bob)) ∧
    (∀ (c : Nat) (fi : FieldInput) (rising : Bool) (stamp : Nat), c < 4 → L.up .bob = true → L.b (F_BOB_CAPCFG_EN c) = true →
      L.f (F_BOB_CAPCFG_FI c) = fi.val → L.f (F_BOB_CAPCFG_EDGE c) = 3 →
      let ts : Bool := s.fd.inp[fi].mode == 2
      s.Acts l (.captureEdge l fi rising stamp) fun M => M.regs = L.regs ∧
        ∃ x, x ∈ M.bob.capWait ∧ x.ch = c ∧ x.rising = rising ∧ x.ts = ts ∧ x.fi = fi.val ∧
          x.te = (if ts then (L.fclk : Int) - 80 * ((L.gtime : Int) - stamp) else L.bob.tk) ∧ (ts = true → x.gte = stamp))

/-- R152 to R164, R534: the gather window's close ends the sample, once, and in INIT one usable channel, valid by now, seeds the position; a
publication counts up, shows the position in BOB_POS and reports to the SEB, in OFF with the last values; a read of BOB_POS brings the rest of its
publication; a Block reset's end leaves INIT, with no capture. -/
def Obligations.EstimatorOutputs : Prop :=
  ∀ (s : State) (l : LaneId) (wr : Writer),
    let L := s.lane l
    let b := L.bob
    (L.up .bob = true → b.window = true → b.st = bobOff →
      s.Acts l (.gatherWindowClose l) fun M => M.bob.window = false ∧ M.bob.updated = true ∧ M.bob.st = bobOff) ∧
    (L.up .bob = true → b.window = false → s.Acts l (.gatherWindowClose l) fun M => M = L) ∧
    (∀ z : Int, L.up .bob = true → b.window = true → b.st = bobInit → -(2 ^ 31) ≤ z → z < 2 ^ 31 →
      b.ch[0].cur = some (z, (b.tk : Int), false) → b.ch[0].zref = some z → 7 ≤ b.ch[0].good → b.ch[0].voted = false →
      b.ch[1].cur = none → b.ch[1].valid = false →
      s.Acts l (.gatherWindowClose l) fun M => M.bob.window = false ∧ M.bob.updated = true ∧ M.bob.p = z * 65536 ∧ M.b F_BOB_STAT_CH0V = true ∧
        M.b F_BOB_STAT_CH1V = false) ∧
    (L.up .bob = true → b.rst = false → b.st = bobOff → s.Acts l (.bobPublish l) fun M => M.bob.pub.seq = (b.pub.seq + 1) % 2 ^ 32 ∧ M.bob.pub.state = bobOff ∧
      M.bob.pub.pos = b.pub.pos ∧ M.bob.pub.vel = b.pub.vel ∧ M.bob.pub.bound = b.pub.bound ∧ M.seb.bobNew = true) ∧
    (L.up .bob = true → b.rst = false → b.st ≠ bobOff → b.updated = true → b.v = 0 → b.am = 0 → -(2 ^ 47) ≤ b.p → b.p < 2 ^ 47 →
      s.Acts l (.bobPublish l) fun M => M.bob.pub.seq = (b.pub.seq + 1) % 2 ^ 32 ∧ M.bob.pub.state = b.st ∧ M.bob.pub.bound = b.bnd ∧
        M.bob.pub.pos = nearest (-(2 ^ 31)) (2 ^ 31 - 1) ((b.p + 2 ^ 15) / 2 ^ 16) ∧ M.i F_BOB_POS_POS = M.bob.pub.pos ∧ M.bob.pub.vel = 0 ∧
        M.seb.bobNew = true ∧ M.bob.capWait = []) ∧
    (L.writerLive wr = true → L.regGate (L.writerEng wr) A_BOB_POS = none → -(2 ^ 31) ≤ b.pub.vel → b.pub.vel < 2 ^ 31 → b.pub.bound < 2 ^ 32 →
      b.pub.seq < 2 ^ 32 → b.pub.state < 8 →
      s.Writes l wr (.bobPosRead l wr) fun M => M.i F_BOB_VEL_VEL = b.pub.vel ∧ M.f F_BOB_BOUND_B = b.pub.bound ∧ M.f F_BOB_SEQ_SEQ = b.pub.seq ∧
        M.f F_BOB_STAT_STATE = b.pub.state) ∧
    (L.up .bob = true → L.b F_BOB_CTRL_EN = true → s.Acts l (.bobResetEnd l) fun M => M.bob.st = bobInit ∧ M.bob.caps = [] ∧ M.bob.capWait = [] ∧
      M.bob.bnd = bobNoBound ∧ M.b F_BOB_LTCTL_BUSY = false ∧ M.bob.rst = false) ∧
    (s.Permits l wr A_BOB_CTRL (setBits (L.rwWord A_BOB_CTRL) 3 0 1) → L.b F_BOB_CTRL_EN = true →
      s.Writes l wr (.bobRestart l wr) fun M => M.bob.st = bobInit ∧ M.bob.bnd = bobNoBound ∧ M.b F_BOB_CTRL_EN = true) ∧
    (∀ en, s.Permits l wr A_BOB_CTRL (setBits (L.rwWord A_BOB_CTRL) 31 31 (Bool.toNat en)) → L.b F_BOB_CTRL_EN = !en →
      s.Writes l wr (.bobEnable l wr en) fun M => M.b F_BOB_CTRL_EN = en ∧ M.bob.st = (if en then bobInit else bobOff))

/-- R166 to R173: VALIDATE runs a check, whose end clears BUSY and tells whether the buffer is good (that a check of the part's own then follows where
one waits is the model's reading of R175, assumption log 171); LTSEL changes at rest to a good buffer; RELREQ is
raised beyond ON; a pop takes the oldest capture. -/
def Obligations.LandingTableAndCaptures : Prop :=
  ∀ (s : State) (l : LaneId) (wr : Writer),
    let L := s.lane l
    let again (M : Lane) : Prop := M.b F_BOB_LTCTL_BUSY = (L.bob.ltDue && !M.b (F_BUFOK (L.b F_BOB_LTCTL_LTSEL)))
    (s.Permits l wr A_BOB_LTCTL (setBits (L.rwWord A_BOB_LTCTL) 31 28 1) → L.b F_BOB_LTCTL_BUSY = false →
      s.Writes l wr (.validate l wr) fun M => M.b F_BOB_LTCTL_BUSY = true ∧ M.b F_BOB_LTCTL_LTSEL = L.b F_BOB_LTCTL_LTSEL ∧
        M.bob.ltChk = (if L.b (F_BUFOK (L.b F_BOB_LTCTL_LTSEL)) then !L.b F_BOB_LTCTL_LTSEL else L.b F_BOB_LTCTL_LTSEL)) ∧
    (L.up .bob = true → L.bob.rst = false → L.b F_BOB_LTCTL_BUSY = true → ltScan (L.s F_BOB_LTCTL_BUSY 0) L.bob.ltChk 512 0 none none false = .inr true →
      s.Acts l (.validateComplete l) fun M => again M ∧ M.b (F_BUFOK L.bob.ltChk) = true ∧ M.f F_BOB_LTCTL_LTERR = 0) ∧
    (∀ k e, L.up .bob = true → L.bob.rst = false → L.b F_BOB_LTCTL_BUSY = true → k < 512 → e < 8 →
      ltScan (L.s F_BOB_LTCTL_BUSY 0) L.bob.ltChk 512 0 none none false = .inl (k, e) →
      s.Acts l (.validateComplete l) fun M => again M ∧ M.b (F_BUFOK L.bob.ltChk) = false ∧ M.f F_BOB_LTCTL_LTERR = e ∧
        M.f F_BOB_LTCTL_ERRIDX = k) ∧
    (∀ sel, s.Permits l wr A_BOB_LTCTL (setBits (L.rwWord A_BOB_LTCTL) 24 24 (Bool.toNat sel)) → L.b F_BOB_LTCTL_LTSEL = !sel → L.b (F_BUFOK sel) = true →
      -1000 ≤ L.bob.pub.vel → L.bob.pub.vel ≤ 1000 → s.Writes l wr (.ltselWrite l wr sel) fun M => M.b F_BOB_LTCTL_LTSEL = sel) ∧
    (∀ e, L.up .bob = true → L.b F_BOB_RELEV0_ARM = true → ltLive L = true → ltEntry L L.bob.ltAct (L.f F_BOB_RELEV0_TGT) = some e →
      (L.f F_BOB_RELEV1_ON : Int) < max (L.bob.pub.pos - e.1) (e.1 - L.bob.pub.pos) →
      s.Acts l (.relevelRequest l) fun M => M.b F_BOB_DZ_RELREQ = true) ∧
    (∀ c rest, s.Permits l wr A_BOB_CAPPOP 1#32 → L.bob.caps = c :: rest →
      s.Writes l wr (.capturePop l wr) fun M => M.bob.caps = rest ∧ M.f F_BOB_CAPSTAT_COUNT = rest.length % 32)

/-- R176 to R191: what SPG publishes at the instant of a publication, and at no other, in IDLE, STARTING, STOPPING and on a good stream entry, which
leaves the stream; and the profile generator's step from rest, which moves it by the jerk that the limits allow toward the goal, or, at the goal,
arrives and leads to STOPPING at the goal. R197 to R199: each time-out and each advance of the start and stop sequences where what the step waits for
has come. -/
def Obligations.SetPointsAndSequences : Prop :=
  (∀ (s : State) (l : LaneId) (lw : Int),
      let L := s.lane l
      let g := L.spg
      let small : Int → Prop := fun x => -(2 ^ 31) ≤ x ∧ x < 2 ^ 31
      let pub : Lane → Int → Int → Int → Prop := fun M p v a => M.i F_SPG_PUBP_D = p ∧ M.i F_SPG_PUBV_D = v ∧ M.i F_SPG_PUBA_D = a
      let due : Prop := g.ticks ≠ 0 ∧ (instantIn L.fclk 20000 16800).isSome = true
      L.up .spg = true →
      (due → L.spgSt = spgIdle → small L.bob.pub.pos → small L.bob.pub.vel →
        s.Acts l (.spgPublish l lw) fun M => pub M L.bob.pub.pos L.bob.pub.vel 0 ∧ M.spg = { g with ticks := 0 }) ∧
      (due → L.spgSt = spgStarting → small g.hold → s.Acts l (.spgPublish l lw) fun M => pub M g.hold 0 0 ∧ M.spg = { g with ticks := 0 }) ∧
      (due → L.spgSt = spgStopping → small g.stopX → s.Acts l (.spgPublish l lw) fun M => pub M g.stopX 0 0 ∧ M.spg = { g with ticks := 0 }) ∧
      (¬ due → s.Acts l (.spgPublish l lw) fun M => M = L) ∧
      (∀ e rest, due → L.spgSt = spgStream → g.fifo = e :: rest → spgEntryOk L e = true → e.last = false → g.capReq = false → L.b F_SPG_STAT_CAPT = false →
        small e.p → small e.v → small e.a →
        s.Acts l (.spgPublish l lw) fun M => pub M e.p e.v e.a ∧ M.spg.fifo = rest ∧ M.spg.prev = (e.p, e.v, e.a) ∧ M.spgSt = spgStream) ∧
      (L.spgSt = spgProfile → g.hv = 0 → g.ha = 0 → g.hp = g.goalX * hpgP → g.passed = false →
        s.Acts l (.hpgStep l) fun M => M.spgSt = spgStopping ∧ M.spg.step = 2 ∧ M.spg.stopX = g.goalX ∧ M.i F_SPG_HPGRES_D = 0 ∧ M.spg.hp = g.hp) ∧
      (L.spgSt = spgProfile → g.hv = 0 → g.ha = 0 → g.hp ≠ g.goalX * hpgP → g.passed = false →
        let toward : Int := if g.goalX * hpgP < g.hp then -1 else 1
        let choice := hpgChoose L 0 0 (max (g.goalX * hpgP - g.hp) (g.hp - g.goalX * hpgP)) false
        let j := toward * choice.1
        s.Acts l (.hpgStep l) fun M => M.spgSt = spgProfile ∧ M.spg.hp = g.hp + j ∧ M.spg.hv = j ∧ M.spg.ha = j ∧ M.spg.passed = false ∧
          M.b F_SPG_STAT_MLIM = choice.2)) ∧
  (∀ (s : State) (l : LaneId),
      let L := s.lane l
      let g := L.spg
      L.up .spg = true →
      (L.spgSt = spgStarting → g.step = 2 → s.so0On = true →
        s.Acts l (.startSeqAdvance l) fun M => M.spg.step = 3 ∧ M.drv.tqReq = true ∧ M.spgSt = spgStarting) ∧
      (L.spgSt = spgStarting → g.step = 3 → L.b F_DRV_STAT_TQ_ON = true →
        s.Acts l (.startSeqAdvance l) fun M => M.spg.step = 4 ∧ M.spgSt = spgStarting ∧ M.f F_SPG_STAT_MODE = cmHold) ∧
      (L.spgSt = spgStarting → g.step = 4 → g.ho.phase = 0 → s.Acts l (.startSeqAdvance l) fun M => M.spg.step = 5 ∧ M.spg.so1 = true) ∧
      (L.spgSt = spgStopping → g.step = 4 → s.brakeDropped l = true → s.Acts l (.stopSeqAdvance l) fun M => M.spg.step = 5 ∧ M.spgSt = spgStopping) ∧
      (L.spgSt = spgStopping → g.step = 6 → g.ho.phase = 0 →
        s.Acts l (.stopSeqAdvance l) fun M => M.spgSt = spgIdle ∧ M.spg.so0 = false ∧ M.drv.tqReq = false ∧ M.spg.step = 0) ∧
      (L.spgSt = spgStarting → g.step = 5 →
        s.Acts l (.brakeFbTimeout l) fun M => M.spgSt = spgStopping ∧ M.spg.step = 4 ∧ M.spg.so1 = false ∧ M.f F_SPG_STAT_CAUSE = scBrkFb ∧
          M.b F_SPG_STAT_BRKFB_S = true) ∧
      (L.spgSt = spgStarting → g.step = 3 → L.b F_DRV_STAT_TQ_ON = false →
        s.Acts l (.tqonTimeout l) fun M => M.spgSt = spgStopping ∧ M.spg.step = 4 ∧ M.f F_SPG_STAT_CAUSE = scDrive ∧ M.b F_DRV_STAT_TQON_S = true) ∧
      (L.spgSt = spgStopping → g.step = 2 →
        s.Acts l (.stopmaxTimeout l) fun M => M.spgSt = spgStopping ∧ M.spg.step = 3 ∧ M.b F_SPG_STAT_SLOW_S = true ∧ M.f F_SPG_STAT_MODE = cmHold))


/-- R177, R185, R188, R194, R197: the commands of SPG where they are accepted. -/
def Obligations.SetPointCommands : Prop :=
  ∀ (s : State) (l : LaneId) (wr : Writer),
    let L := s.lane l
    let g := L.spg
    let target := L.i F_SPG_TGT_TGT
    let may : Word → Prop := fun v => s.Permits l wr A_SPG_CMD v
    let starts : Instr → Bool → Bool → Prop := fun c relevel src =>
      L.spgSt = spgIdle → L.f (F_TAT_SLOTSTAT_STATE 0) = slRun → L.b F_DRV_STAT_LINK = true → L.b F_DRV_STAT_READY = true → L.b F_DRV_STAT_FAULT = false →
      L.f F_SEL_STAT_STATE = 0 → (L.f F_SPG_STOP_STOPTOL : Int) < max (target - L.bob.pub.pos) (L.bob.pub.pos - target) →
      s.Writes l wr c fun M => M.spgSt = spgStarting ∧ M.spg.step = 2 ∧ M.spg.so0 = true ∧ M.spg.so1 = false ∧ M.spg.hold = L.bob.pub.pos ∧
        M.spg.relevel = relevel ∧ M.spg.src = src ∧
        M.spg.lims = (min (L.f F_SPG_ILIMV_V) (L.f F_SPG_MLIMV_V), min (L.f F_SPG_ILIMA_V) (L.f F_SPG_MLIMA_V), min (L.f F_SPG_ILIMJ_V) (L.f F_SPG_MLIMJ_V))
    (∀ src, may (BitVec.ofNat 32 (0x10000000 + Bool.toNat src * 4)) → starts (.start l wr src) false src) ∧
    (may 0x20000000#32 → starts (.relevel l wr) true false) ∧
    (may 0x30000000#32 → (L.spgSt = spgStream ∨ L.spgSt = spgProfile) → L.f F_SEL_STAT_STATE = 0 →
      s.Writes l wr (.profile l wr) fun M => M.spgSt = spgProfile ∧ M.f F_SPG_STAT_GOAL = goalTarget ∧ M.spg.goalX = target ∧
        M.spg.vset = min g.lims.1 (L.f F_SPG_VCAP_VCAP) ∧ M.spg.capReq = true ∧ M.spg.hp = L.i F_SPG_PUBP_D * hpgP) ∧
    (may 0x40000000#32 → L.spgSt = spgProfile → L.f (F_TAT_SLOTSTAT_STATE 0) = slRun →
      s.Writes l wr (.stream l wr) fun M => M.spgSt = spgStream ∧ M.spg.capReq = true ∧ M.f F_SPG_STAT_GOAL = 0) ∧
    (may 0x50000000#32 → (L.spgSt = spgStream ∨ L.spgSt = spgProfile) →
      s.Writes l wr (.spgHalt l wr) fun M => M.spgSt = spgProfile ∧ M.f F_SPG_STAT_GOAL = goalHalt ∧ M.f F_SPG_STAT_CAUSE = scCommand ∧
        M.spg.goalX = spgHaltPoint L ∧ M.i F_SPG_TGT_TGT = target) ∧
    (∀ (m : Slot) (keep : Bool), may (BitVec.ofNat 32 (0x60000000 + m.val * 16 + keep.toNat * 8)) → g.ho.phase = 0 →
      L.f (F_TAT_SLOTSTAT_STATE 0) = slRun → m.val ≠ L.f F_SPG_STAT_MODE → L.spgSt ≠ spgOff →
      s.Writes l wr (.mode l wr m keep) fun M => M.f F_SPG_STAT_MODE = m.val ∧ M.spg.ho.phase = 1 ∧ M.spg.ho.dst = m.val ∧ M.spg.ho.keep = keep ∧
        M.spg.ho.src = L.f F_SPG_STAT_MODE ∧ M.f F_SPG_HOSTAT_RESULT = hrBusy) ∧
    (∀ last, s.Permits l wr A_SPG_PUSHC (BitVec.ofNat 32 (Bool.toNat last)) → (L.spgSt = spgStarting ∨ L.spgSt = spgStream) → g.fifo.length < 64 →
      s.Writes l wr (.spgPush l wr last) fun M => M.spg.fifo = g.fifo ++ [⟨L.i F_SPG_PUSHP_D, L.i F_SPG_PUSHV_D, L.i F_SPG_PUSHA_D, last⟩] ∧
        M.f F_SPG_FIFOSTAT_LEVEL = g.fifo.length + 1)

/-- R35, R192, R200 to R206, R532: the notch's coefficients, which a TAT in retention does not take, and its tracker; a period of the drive link and
its frame, which the holder drives; a good frame published in each lane; a period without a frame counted; the link enabled and disabled. -/
def Obligations.NotchAndDriveLink : Prop :=
  ∀ (s : State) (l : LaneId) (wr : Writer),
    let L := s.lane l
    let d := L.drv
    (L.up .spg = true → L.b F_SPG_NCFG_EN = true → s.Acts l (.notchUpdate l) fun M =>
      let k := L.f F_SPG_NCFG_SEC
      (L.retains .tat = true → M.spg.notchNew = L.spg.notchNew ∧
        (L.f F_SYS_DGCNT_ABORTS < 65535 → M.f F_SYS_DGCNT_ABORTS = L.f F_SYS_DGCNT_ABORTS + 1)) ∧
      (L.retains .tat = false → M.spg.notchNew = L.spg.notchNew.set! k true ∧ M.i (F_TAT_BQB0_COEF 0 k) = M.i (F_TAT_BQB2_COEF 0 k) ∧ M.i (F_TAT_BQB1_COEF 0 k) = M.i (F_TAT_BQA1_COEF 0 k))) ∧
    (L.up .spg = true → L.b F_SPG_NCFG_EN = true → L.b F_SPG_NCFG_TREN = true → L.spg.pwLo * 11 < L.spg.pwHi * 10 →
      52429 ≤ L.spg.c + L.f F_SPG_NCFG_MU → L.spg.c + L.f F_SPG_NCFG_MU ≤ 78643 →
      s.Acts l (.notchTracker l) fun M => M.spg.c = L.spg.c + L.f F_SPG_NCFG_MU ∧ M.spg.pwHi = 0 ∧ M.spg.pwLo = 0) ∧
    (∀ off, L.up .drv = true → L.b F_DRV_CTRL_EN = true → instantIn L.fclk 10000 0 = some off → d.tqReq = false → L.lnk.tqcmp = false →
      s.Acts l (.drvPeriod l none) fun M => M.drv.seq = (L.fclk + off) / 10000 % 256 ∧ M.drv.tf = L.fclk + off ∧ M.drv.closed = false ∧ M.drv.gotGood = false ∧
        M.drv.tref = 0 ∧ M.b F_DRV_STAT_TQEN = false ∧ M.drv.tx.length = 12 ∧ M.drv.tx[0]? = some 0x7E#8 ∧ M.drv.txd = L.holder ∧ M.drv.sync = true ∧
        (d.sync = false → M.drv.good = 0 ∧ M.drv.missed = 0)) ∧
    (∀ data : Bytes, L.up .drv = true → L.b F_DRV_CTRL_EN = true → d.sync = true → L.xOpen 19 = true → data.length = 24 → data[0]? = some 0x7E#8 →
      beNat (data.drop 22) = (crc16 ((data.drop 1).take 21)).toNat → (listGet 0 data 1).toNat = d.seq →
      s.Feeds l (.drvRxFrame data true) fun M => M.f F_DRV_MPOS_D = leNat ((data.drop 4).take 4) ∧ M.f F_DRV_MVEL_D = leNat ((data.drop 8).take 4) ∧
        M.f F_DRV_MCUR_D = leNat ((data.drop 12).take 4) ∧ M.b F_DRV_STAT_READY = (listGet 0 data 2).getLsbD 0 ∧ M.drv.gotGood = true ∧ M.drv.missed = 0) ∧
    (L.up .drv = true → L.b F_DRV_CTRL_EN = true → d.closed = false → d.gotGood = false → d.gotAny = false → d.missed < 14 →
      s.Acts l (.rxWindowClose l) fun M => M.drv.missed = d.missed + 1 ∧ M.drv.good = 0 ∧ M.drv.closed = true ∧
        M.f F_DRV_CNT_MISS = min 255 (L.f F_DRV_CNT_MISS + 1) ∧ M.b F_DRV_STAT_MISS_S = true ∧
        (L.f F_DRV_CTRL_NLOST ≤ d.missed + 1 → M.b F_DRV_STAT_LINK = false)) ∧
    (∀ en, s.Permits l wr A_DRV_CTRL (setBits (L.rwWord A_DRV_CTRL) 31 31 (Bool.toNat en)) → L.b F_DRV_CTRL_EN = !en →
      s.Writes l wr (.drvEnWrite l wr en) fun M => M.b F_DRV_CTRL_EN = en ∧ M.drv.good = 0 ∧ M.drv.missed = 0 ∧
        (en = false → M.b F_DRV_STAT_LINK = false ∧ M.b F_DRV_STAT_TQEN = false ∧ M.b F_DRV_STAT_READY = false))

/-- R215 to R219: a cycle with EN 0 leads to OFF with no claim, no record and the full range; with EN 1 it leads from OFF to INIT and sends a record;
a position that is not valid leads from ACTIVE to BLIND with the clip limits at the position; a claim inside the free interval is taken, one outside
it, or in another state, refused. -/
def Obligations.SeparationGuard : Prop :=
  ∀ (s : State) (l : LaneId) (wr : Writer),
    let L := s.lane l
    let st := L.f F_SEL_STAT_STATE
    let due : Prop := (instantIn L.fclk 80000 0).isSome = true
    (L.up .sel = true → due → L.b F_SEL_CFG_EN = false → st ≠ selOff →
      s.Acts l (.selCycle l) fun M => M.f F_SEL_STAT_STATE = selOff ∧ M.sel.record = none ∧ M.sel.pending = none ∧ M.sel.granted = none ∧
        M.i F_SEL_CLIPLO_D = -(2 ^ 31) ∧ M.i F_SEL_CLIPHI_D = 2 ^ 31 - 1 ∧ M.i F_SEL_FREELO_D = -(2 ^ 31) ∧ M.i F_SEL_FREEHI_D = 2 ^ 31 - 1) ∧
    (L.up .sel = true → due → L.b F_SEL_CFG_EN = true → st = selOff →
      s.Acts l (.selCycle l) fun M => M.f F_SEL_STAT_STATE = selInit ∧ M.sel.record.isSome = true ∧ M.sel.repSeq = (L.sel.repSeq + 1) % 256) ∧
    (L.up .sel = true → due → L.b F_SEL_CFG_EN = true → st = selActive → L.b F_BOB_STAT_POSV = false → -(2 ^ 31) ≤ L.bob.pub.pos → L.bob.pub.pos < 2 ^ 31 →
      s.Acts l (.selCycle l) fun M => M.f F_SEL_STAT_STATE = selBlind ∧ M.i F_SEL_CLIPLO_D = L.bob.pub.pos ∧ M.i F_SEL_CLIPHI_D = L.bob.pub.pos) ∧
    (∀ tgt : Word, s.Permits l wr A_SEL_CLAIM tgt → st = selActive → L.i F_SEL_FREELO_D ≤ tgt.toInt → tgt.toInt ≤ L.i F_SEL_FREEHI_D →
      s.Writes l wr (.selClaim l wr tgt) fun M => M.sel.newClaim = some tgt.toInt ∧ M.i F_SEL_CLAIM_TGT = tgt.toInt) ∧
    (∀ tgt : Word, s.Permits l wr A_SEL_CLAIM tgt → st = selActive → tgt.toInt < L.i F_SEL_FREELO_D ∨ L.i F_SEL_FREEHI_D < tgt.toInt →
      Does (.selClaim l wr tgt) s fun t => t.KlastIs l wr selClaimConflict ∧ (t.lane l).b F_SEL_STAT_CONFLICT_S = true ∧
        (t.lane l).i F_SEL_CLAIM_TGT = L.i F_SEL_CLAIM_TGT) ∧
    (∀ tgt : Word, s.Permits l wr A_SEL_CLAIM tgt → st ≠ selActive →
      Does (.selClaim l wr tgt) s fun t => t.KlastIs l wr selNotReady ∧ (t.lane l).b F_SEL_STAT_CONFLICT_S = true ∧
        (t.lane l).i F_SEL_CLAIM_TGT = L.i F_SEL_CLAIM_TGT)

/-- R82, R229 to R247, each where F has its instant: the phase currents of a sample, with E9's calibration taken (the formula is the model's reading
of R82 and R229, assumption log 127), and the over-current fault; the compare values of no voltage, and a lost loop's fault; a forward Hall edge, one
that is no code, and 100 ms without an edge; a command taken at the sample instant; the references published; referencing that takes too long; locks
that do not close. -/
def Obligations.DoorSampling : Prop :=
  ∀ (s : State) (l : LaneId) (d : Door),
    let L := s.lane l
    let o := L.door[d]
    let st := L.dorSt d
    L.up .dor = true →
    (∀ iu iv : Int,
      let cal : Fin 5 := ⟨d.val, by omega⟩
      let (gain, ofs) := match L.bg.calNext[cal] with
        | some x => x
        | none => (L.bg.cal[cal], L.bg.calOfs[d])
      let current : Int → Int := fun x => satS 32 (rnd (rdiv ((x - ofs) * (1000000 + gain)) 1000000 * L.f (F_DOR_ISCALE_ISCALE d.val)) 16)
      let u := current iu
      let v := current iv
      (instantIn L.fclk 4000 (L.f (F_DOR_CFG_CPH d.val))).isSome = true →
      s.Acts l (.currentSample l d iu iv) fun M => M.door[d].iu = u ∧ M.door[d].iv = v ∧ M.door[d].iw = -(u + v) ∧ M.bg.calNext[cal] = none ∧
        (st ≠ dsOff → st ≠ dsFault → (L.f (F_DOR_ILIM_IOC d.val) : Int) < max u (-u) → M.dorSt d = dsFault ∧ M.f (F_DOR_STAT_FCAUSE d.val) = fcOver ∧
          M.b (F_DOR_STAT_GATES d.val) = false ∧ M.b (F_DOR_STAT_OC_S d.val) = true)) ∧
    ((instantIn L.fclk 2000 (L.f (F_DOR_CFG_CPH d.val) % 2000)).isSome = true → o.loopDue = true → st ≠ dsOff →
      s.Acts l (.compareLoad l d) fun M => M.dorSt d = dsFault ∧ M.f (F_DOR_STAT_FCAUSE d.val) = fcLoop ∧ M.b (F_DOR_STAT_LOOP_S d.val) = true ∧
        M.b (F_DOR_STAT_GATES d.val) = false ∧ M.door[d].loopDue = false) ∧
    ((instantIn L.fclk 2000 (L.f (F_DOR_CFG_CPH d.val) % 2000)).isSome = true → o.loopDue = false → L.xOpen (23 + d.val) = true →
      destValue (2 + 2 * d.val) L = 0 → destValue (3 + 2 * d.val) L = 0 →
      s.Acts l (.compareLoad l d) fun M => M.door[d].cmp = [1000, 1000, 1000] ∧ M.door[d].duty = (0, 0)) ∧
    (∀ (code : Slot) (s0 : Nat), 0 < code.val → code.val < 7 → o.sector = some s0 → L.b (F_DOR_CFG_DIR d.val) = false →
      let sect := bits (rget L.regs (A_DOR_HALLMAP d.val)) (3 * code.val + 2) (3 * code.val)
      (sect + 6 - s0) % 6 = 1 →
      s.Feeds l (.hallEdge d code) fun M => M.door[d].n = o.n + 1 ∧ M.door[d].fwd = true ∧ M.door[d].sector = some sect ∧ M.door[d].edgeAt = L.fclk) ∧
    (∀ code : Slot, code = 0 ∨ code = 7 → s.Feeds l (.hallEdge d code) fun M => M.door[d].n = o.n ∧ M.door[d].hallBad = true) ∧
    (s.Acts l (.hallTimeout l d) fun M => M.door = L.door ∧ (8000000 ≤ L.fclk - o.edgeAt → M.i (F_DOR_VEL_D d.val) = 0)) ∧
    ((instantIn L.fclk 40000 0).isSome = true → st = dsUnref → o.perm = true → L.f (F_DOR_SCALE_SCALE d.val) ≠ 0 → o.cmd = some dcReference →
      o.nCap < 3 →
      s.Acts l (.dorSampleInstant l d) fun M => M.dorSt d = dsReferencing ∧ M.f (F_DOR_STAT_MOVE d.val) = dmReference ∧ M.door[d].cmd = none ∧
        M.b (F_DOR_STAT_GATES d.val) = L.b (F_DOR_CTRL_EN d.val)) ∧
    (L.b (F_DOR_CTRL_EN d.val) = true → (instantIn L.fclk 40000 36000).isSome = true →
      s.Acts l (.dorPublish l d) fun M => M.door[d].newWord = false ∧
        M.f (F_TAT_FWIN_VALUE (11 + 3 * d.val)) = st + 16 * L.f (F_DOR_STAT_MOVE d.val) + 256 * Bool.toNat o.newWord ∧
        (∀ x : Int, -(2 ^ 31) ≤ x → x < 2 ^ 31 → o.xr = 8000 * x → M.i (F_TAT_FWIN_VALUE (9 + 3 * d.val)) = x)) ∧
    (st = dsReferencing → s.Acts l (.refTimeout l d) fun M => M.dorSt d = dsFault ∧ M.f (F_DOR_STAT_FCAUSE d.val) = fcRefTmo) ∧
    (st = dsClosed → o.lockWait = true → o.locks = false →
      s.Acts l (.lockTimeout l d) fun M => M.b (F_DOR_STAT_LOCK_S d.val) = true ∧ M.door[d].lockWait = false ∧ M.dorSt d = dsClosed)

/-- R242 to R250, R258, R260, R232: each door command in the states of Table 9.3 that accept it waits for the next sample instant; FSEL, DEADT and the
caps take a value where it is accepted. -/
def Obligations.DoorCommands : Prop :=
  ∀ (s : State) (l : LaneId) (wr : Writer) (d : Door),
    let L := s.lane l
    let st := L.dorSt d
    let perm := L.door[d].perm
    let taken : Instr → Nat → Prop := fun c n => s.Writes l wr c fun M => M.door[d].cmd = some n ∧ M.dorSt d = st
    let may : Word → Prop := fun v => s.Permits l wr (A_DOR_CMD d.val) v
    (may 0x10000000#32 → perm = true → (st = dsClosed ∨ st = dsClosing ∨ st = dsStopped) → taken (.doorOpen l wr d) dcOpen) ∧
    (may 0x20000000#32 → perm = true → L.door[d].lc = false → (st = dsOpened ∨ st = dsOpening ∨ st = dsStopped) → taken (.doorClose l wr d) dcClose) ∧
    (may 0x30000000#32 → perm = true → (st = dsOpened ∨ st = dsOpening ∨ st = dsStopped ∨ (st = dsClosing ∧ L.f (F_DOR_STAT_MOVE d.val) ≠ dmNudge)) →
      taken (.nudge l wr d) dcNudge) ∧
    (may 0x40000000#32 → st = dsClosed → preopenOk d L = true → taken (.preopen l wr d) dcPreopen) ∧
    (may 0x50000000#32 → (st = dsOpening ∨ st = dsClosing ∨ st = dsReversing ∨ st = dsReferencing ∨ st = dsLearning) → taken (.doorStop l wr d) dcStop) ∧
    (may 0x60000000#32 → perm = true → L.f (F_DOR_SCALE_SCALE d.val) ≠ 0 → (st = dsUnref ∨ st = dsStopped ∨ st = dsOpened ∨ st = dsClosed) →
      taken (.reference l wr d) dcReference) ∧
    (may 0x70000000#32 → perm = true → st = dsClosed → L.b (F_DOR_STAT_REFD d.val) = true → taken (.learn l wr d) dcLearn) ∧
    (may 0x80000000#32 → st = dsFault → (L.f (F_DOR_STAT_FCAUSE d.val) = fcCap ∨ L.f (F_DOR_STAT_FCAUSE d.val) = fcRefTmo) →
      taken (.doorClrflt l wr d) dcClrflt) ∧
    (∀ en fsel, s.Permits l wr (A_DOR_CTRL d.val) (setBits (setBits (L.rwWord (A_DOR_CTRL d.val)) 31 31 (Bool.toNat en)) 30 30 (Bool.toNat fsel)) →
      L.b (F_DOR_CTRL_EN d.val) = en → (st = dsOff ↔ en = false) → (st = dsOff ∨ st = dsUnref ∨ st = dsClosed) →
      s.Writes l wr (.fselWrite l wr d en fsel) fun M => M.b (F_DOR_CTRL_FSEL d.val) = fsel ∧ M.b (F_DOR_CTRL_EN d.val) = en ∧ M.dorSt d = st) ∧
    (∀ v, s.Permits l wr (A_DOR_CFG d.val) v → L.b (F_DOR_STAT_GATES d.val) = false →
      s.Writes l wr (.deadtWrite l wr d v) fun M => M.f (F_DOR_CFG_DEADT d.val) = bits v 7 0) ∧
    (∀ v, s.Permits l wr (A_DOR_NUDGE d.val) v → dorCapsOk d L = true →
      let e := bits v (F_DOR_NUDGE_KENUDGE d.val).hi (F_DOR_NUDGE_KENUDGE d.val).lo
      (e ≤ L.f (F_DOR_CAPS_KECAP d.val) → s.Writes l wr (.capsWrite l wr d .nudge v) fun M => M.f (F_DOR_NUDGE_KENUDGE d.val) = e ∧ dorCapsOk d M = true) ∧
      (L.f (F_DOR_CAPS_KECAP d.val) < e →
        Does (.capsWrite l wr d .nudge v) s fun t => t.KlastIs l wr stBadValue ∧
          (t.lane l).f (F_DOR_NUDGE_KENUDGE d.val) = L.f (F_DOR_NUDGE_KENUDGE d.val))) ∧
    (∀ v, s.Permits l wr (A_DOR_CAPS d.val) v →
      let force := bits v 31 16
      let energy := bits v 15 0
      let good : Prop := force ≤ L.f (F_DOR_MCAPS_FCAPM d.val) ∧ energy ≤ L.f (F_DOR_MCAPS_KECAPM d.val) ∧ L.f (F_DOR_NUDGE_KENUDGE d.val) ≤ energy ∧
        L.f (F_DOR_OBS_FOBS d.val) < force
      (good → s.Writes l wr (.capsWrite l wr d .caps v) fun M => M.f (F_DOR_CAPS_FCAP d.val) = force ∧ M.f (F_DOR_CAPS_KECAP d.val) = energy ∧
        dorCapsOk d M = true) ∧
      (¬ good → Does (.capsWrite l wr d .caps v) s fun t => t.KlastIs l wr stBadValue ∧ rget (t.lane l).regs (A_DOR_CAPS d.val) = rget L.regs (A_DOR_CAPS d.val))) ∧
    (∀ v, s.Permits l wr (A_DOR_MCAPS d.val) v →
      let force := bits v 31 16
      let energy := bits v 15 0
      let good : Prop := L.f (F_DOR_CAPS_FCAP d.val) ≤ force ∧ L.f (F_DOR_CAPS_KECAP d.val) ≤ energy
      (good → s.Writes l wr (.capsWrite l wr d .mcaps v) fun M => M.f (F_DOR_MCAPS_FCAPM d.val) = force ∧ M.f (F_DOR_MCAPS_KECAPM d.val) = energy) ∧
      (¬ good → Does (.capsWrite l wr d .mcaps v) s fun t => t.KlastIs l wr stBadValue ∧
        rget (t.lane l).regs (A_DOR_MCAPS d.val) = rget L.regs (A_DOR_MCAPS d.val)))

/-- R262, R264, R267, R281, R291: a stop list published; an assignment into an empty list; a pickup that expires; a submission queued; an answer removed. -/
def Obligations.StopListAndSubmissions : Prop :=
  ∀ (s : State) (l : LaneId) (wr : Writer),
    let L := s.lane l
    let p := L.prk
    let free : Nat → Prop := fun off => L.holder = true ∨ L.replicated (tsBase + off) = false
    (∀ n : Byte, s.Permits l wr A_PRK_SLPUB (BitVec.ofNat 32 n.toNat) → (∀ i, i < min 128 n.toNat → slOk (slWord L i 0) (slWord L i 1) = true) →
      s.Writes l wr (.stopListPublish l wr n) fun M => M.f F_PRK_SLPUB_COUNT = min 128 n.toNat ∧ M.prk.seq = (p.seq + 1) % 65536 ∧
        M.prk.pub.length = 16 + min 64 n.toNat ∧ (128 < n.toNat → M.b F_PRK_STAT_TRUNC_S = true) ∧ M.prk.pub[0]? = some (BitVec.ofNat 32 L.gtime) ∧
        ∀ i, i < min 64 n.toNat → M.prk.pub[16 + i]? = some (slRecord (slWord L i 0) (slWord L i 1))) ∧
    (∀ n : Byte, s.Permits l wr A_PRK_SLPUB (BitVec.ofNat 32 n.toNat) → (∃ i, i < min 128 n.toNat ∧ slOk (slWord L i 0) (slWord L i 1) = false) →
      Does (.stopListPublish l wr n) s fun t => t.KlastIs l wr stBadValue ∧ (t.lane l).prk = p) ∧
    (∀ (c : Pickup) (place : Byte), L.up .prk = true → free 0x20000 → p.waiting = [] → L.f F_PRK_SLPUB_COUNT = 0 →
      s.Acts l (.assignmentReceived l c place) fun M => M.f F_PRK_SLPUB_COUNT = 1 ∧ M.prk.seq = (p.seq + 1) % 65536 ∧
        let w := slWord M 0 0
        bits w 7 0 = c.landing.toNat ∧ w.getLsbD 8 = !c.deck ∧ w.getLsbD 9 = c.deck ∧ w.getLsbD 10 = c.up ∧ w.getLsbD 11 = !c.up ∧ w.getLsbD 12 = true ∧
        w.getLsbD 14 = c.emer ∧ w.getLsbD 15 = c.acc ∧ w.getLsbD 17 = false ∧ bits (slWord M 0 1) 6 0 = min 127 c.pax) ∧
    (L.up .prk = true → p.waiting = [] → L.f F_PRK_SLPUB_COUNT = 1 → (slWord L 0 0).getLsbD 16 = false → (slWord L 0 0).getLsbD 13 = false →
      s.Acts l (.unconfirmedPickupExpiry l [0#8]) fun M => M.f F_PRK_SLPUB_COUNT = 0 ∧ M.prk.seq = (p.seq + 1) % 65536 ∧ M.prk.pub.length = 16) ∧
    (s.Permits l wr A_PRK_SUBPUSH 1#32 →
      let sub := (List.range 4).map fun k => rget L.regs (A_PRK_SUB k)
      let c := subCall sub
      p.subs.length < 16 → (c.cls = 3 → p.hold.length < 16) → L.f F_PRK_STAT_ROLE = 2 → c.type ≠ 3 → (c.type = 2 → c.dest ≠ c.origin) → c.pax ≠ 0 →
      s.Writes l wr (.submissionPush l wr) fun M => M.prk.subs = p.subs ++ [sub] ∧ M.f F_PRK_STAT_QLEVEL = p.subs.length + 1) ∧
    (∀ a rest, s.Permits l wr A_PRK_ANSPOP 1#32 → p.answers = a :: rest → s.Writes l wr (.anspop l wr) fun M => M.prk.answers = rest)

/-- R266, R269, R272, R277, R278, R280 to R288: a submission of a class that the mode does not accept is refused; one that passes every check gets its
entry, and the car of the lowest cost among the valid candidates over the latched views, or, with none, is refused as FULL; a stale view takes a car
out of service; the calls of a car out of service are moved by force; a sweep starts, or is late; a new mode, which the next evaluation puts in force,
withdrawing a call it does not accept; a mirror set is sent and applied.
-/
def Obligations.DispatchWork : Prop :=
  ∀ (s : State) (l : LaneId) (wr : Writer),
    let L := s.lane l
    let p := L.prk
    let free : Nat → Prop := fun off => L.holder = true ∨ L.replicated (tsBase + off) = false
    let master := L.up .prk = true ∧ L.b F_PRK_CTRL_EN = true ∧ L.f F_PRK_STAT_ROLE = 2
    (∀ sub, master → ctLive L = [] → p.subs = [sub] → p.hold = [] → p.forced = [] → p.cache = [] → p.answers = [] →
      (subCall sub).cls < 3 → L.f F_PRK_MODE_MODE = 4 →
      s.Acts l (.prkEvaluation l) fun M => M.prk.subs = [] ∧ ∃ a, M.prk.answers = [a] ∧ a.length = 4 ∧ bits (listGet 0 a 0) 18 16 = anRefused ∧
        bits (listGet 0 a 0) 23 21 = reDenied ∧ bits (listGet 0 a 0) 31 24 = (subCall sub).tseq ∧ bits (listGet 0 a 0) 10 0 = (subCall sub).node) ∧
    (∀ sub, master → ctLive L = [] → p.subs = [sub] → p.hold = [] → p.forced = [] → p.cache = [] → p.answers = [] → (∀ o, o < 0x20000 → free o) →
      let c := subCall sub
      let K := prkLatch L
      let found := evaluate K (carsFor K c) c none
      let e := if c.cls = 0 then 0 else 3840
      c.cls < 3 → c.reann = false → modeTakes (L.f F_PRK_MODE_MODE) c.cls = true → L.f F_PRK_DISP_EMRSV ≤ 255 →
      (∀ x, x ∈ [c.origin, callDest c] → getBit L.regs (F_PRK_LANDX_CLASSOK x) c.cls = true ∧ L.b (F_PRK_LANDX_LOCKED x) = false) →
      carsFor K c ≠ 0 →
      (found ≠ [] → s.Acts l (.prkEvaluation l) fun M => M.prk.subs = [] ∧ ∃ k ∈ found, (∀ x ∈ found, k.cost ≤ x.cost) ∧
        ∃ a, M.prk.answers = [a] ∧ a.length = 4 ∧ bits (listGet 0 a 0) 10 0 = c.node ∧ bits (listGet 0 a 0) 31 24 = c.tseq ∧
          bits (listGet 0 a 0) 18 16 = (if (L.f F_PRK_DISP_DELAYT * 100 : Nat) < k.wait then anDelayed else anAssigned) ∧
          bits (listGet 0 a 1) 4 0 = k.g ∧ (listGet 0 a 1).getLsbD 5 = true ∧ bits (listGet 0 a 2) 27 16 = e ∧ (listGet 0 a 2).getLsbD 28 = true ∧
          ctState M e = (if (L.f F_PRK_DISP_DELAYT * 100 : Nat) < k.wait then csDelayed else csAssigned) ∧ ctCar M e = k.g ∧
          (ctCall M e).node = c.node ∧ (ctCall M e).origin = c.origin ∧ (ctCall M e).pax = c.pax ∧ (ctWord M e 4).toNat = k.cost) ∧
      (found = [] → s.Acts l (.prkEvaluation l) fun M => M.prk.subs = [] ∧ ctState M e = 0 ∧
        ∃ a, M.prk.answers = [a] ∧ bits (listGet 0 a 0) 18 16 = anRefused ∧ bits (listGet 0 a 0) 23 21 = reFull)) ∧
    (∀ g : GroupPos, L.up .prk = true → viewStale L (carView L g.val) = true →
      s.Acts l (.carViewStale l g) fun M => getBit M.regs F_PRK_INSERV_M g.val = false ∧ M.b F_PRK_STAT_STALE_S = true) ∧
    (∀ (g : GroupPos) (e : Nat), master → e ∈ ctLive L → (ctState L e = csAssigned ∨ ctState L e = csDelayed) → ctCar L e = g.val →
      (carView L g.val).inserv = false → p.sseq[g] = some (carView L g.val).sseq →
      committed L (ctCall L e) g.val (bits (ctWord L e 0) 13 13) = false →
      s.Acts l (.forcedReallocation l g) fun M => e ∈ M.prk.forced ∧ ∀ x, x ∈ p.forced → x ∈ M.prk.forced) ∧
    (master → L.b F_PRK_SWEEP_SWEN = true →
      s.Acts l (.sweepStart l) fun M => (p.sweep = none → M.prk.sweep = some 0) ∧
        (p.sweep.isSome = true → M.prk.sweep = p.sweep ∧ M.prk.sweepDue = true ∧ M.b F_PRK_STAT_SWLATE_S = true)) ∧
    (∀ v, s.Permits l wr A_PRK_MODE v → bits v 2 0 < 6 →
      s.Writes l wr (.prkModeWrite l wr v) fun M => M.f F_PRK_MODE_MODE = bits v 2 0 ∧ M.prk = p) ∧
    (∀ e, master → p.answers.length < 32 → (∀ o, o < 0x20000 → free o) → p.hold = [] → p.forced = [] → p.subs = [] → ctLive L = [e] →
      (ctState L e = csAssigned ∨ ctState L e = csDelayed) → 4 ≤ L.f F_PRK_MODE_MODE → L.f F_PRK_MODE_MODE ≠ p.mode →
      modeTakes (L.f F_PRK_MODE_MODE) (bits (ctWord L e 0) 4 3) = false →
      committed (prkLatch L) (ctCall L e) (ctCar L e) (bits (ctWord L e 0) 13 13) = false →
      s.Acts l (.prkEvaluation l) fun M => M.prk.mode = L.f F_PRK_MODE_MODE ∧ ctState M e = 0) ∧
    (L.up .prk = true → L.up .pic = true → L.b F_PIC_STAT_SV = false → s.Acts l (.mirrorSend l) fun M => M = L) ∧
    (L.up .prk = true → L.up .pic = true → L.f F_PRK_STAT_ROLE = 2 → L.b F_PIC_STAT_SV = true → L.pic.dup = false → p.fullAt = none →
      s.Acts l (.mirrorSend l) fun M => M.prk.changed = [] ∧ M.f F_PRK_MIRROR_MSEQ = (L.f F_PRK_MIRROR_MSEQ + 1) % 65536 ∧
        ∃ m, M.prk.sentSet = some m ∧ m.mseq = (L.f F_PRK_MIRROR_MSEQ + 1) % 65536 ∧ m.time = L.gtime ∧ m.hold = p.hold ∧ m.mode = L.f F_PRK_MODE_MODE ∧ m.full = false ∧
          m.entries.map Prod.fst = p.changed.map Prod.fst) ∧
    (∀ (m : MirrorSet) (e : Nat) (ws : List Word), L.up .prk = true → L.f F_PRK_STAT_ROLE = 1 → m.whole = true →
      (p.mirSync = true → m.mseq = (L.f F_PRK_MIRROR_MSEQ + 1) % 65536) → m.mseq < 65536 → m.mode < 8 → m.entries = [(e, ws)] → e < 4096 → ws.length = 8 →
      (L.holder = true ∨ L.replicated (tsBase + 32 * e) = false) →
      s.Acts l (.mirrorApply l m) fun M => M.f F_PRK_MIRROR_MSEQ = m.mseq ∧ M.prk.hold = m.hold ∧ M.f F_PRK_MODE_MODE = m.mode ∧
        rget M.regs A_PRK_BYPASS = m.bypass ∧ ∀ k, k < 8 → ctWord M e k = listGet 0 ws k)

/-- R322 to R331, R333: after a cycle of a lane's SEB the demand of a pair asks for its own permit, the partner's and the request; under STOP no
switch of the lane is driven; the partner word carries number, demand, permits and latches. R296, R298, R302, R316, R320, R321, R324, R325, R328,
R330, R331: the times that run out in a lane's SEB. A latched cause of STOP drops both pairs at once. -/
def Obligations.SebCyclesAndTimeouts : Prop :=
  (∀ (s : State) (l : LaneId), (s.lane l).sebUp = true → (instantIn (s.lane l).fclk 20000 18000).isSome = true →
      Does (.sebCycle l false) s fun t =>
        let M := t.lane l
        M.seb.pwSeq = ((s.lane l).seb.pwSeq + 1) % 65536 ∧ M.seb.bobNew = false ∧ M.seb.selNew = false ∧
        (∃ w : PartnerWord, M.lnk.partnerOut = some w ∧ w.seq = M.seb.pwSeq ∧ w.dem = M.seb.dem ∧ w.latch = M.latches ∧
          ∀ p : Pair, M.seb.dem[p] = true → w.permit[p] = true ∧ M.seb.req[p] = true ∧ ∃ q, (s.lane l).seb.pw = some q ∧ q.permit[p] = true) ∧
        (M.b F_SEB_STAT_STOP = true → ∀ p : Pair, M.seb.dem[p] = false ∧ M.seb.drive[p] = false ∧ M.pairOn p = false) ∧
        t.sup.latch[laneIx l] = some (M.latches, rget M.regs A_SEB_OUTSTAT)) ∧
  (∀ (s : State) (l : LaneId),
      let L := s.lane l
      let b := L.seb
      let act : Lane → Nat → Bool := fun M k => getBit M.regs F_SEB_ACT_ACT k
      let dropped : Lane → Prop := fun M => M.b F_SEB_STAT_STOP = true ∧ ∀ p : Pair, M.seb.dem[p] = false ∧ M.seb.drive[p] = false ∧ M.pairOn p = false
      L.sebUp = true →
      (∀ k : SafetySignal, s.SebDoes l (.inputFilterExpiry l k) fun M => M.seb.filt[k] = L.sebRaw k) ∧
      (∀ g : SafetyGroup, L.groupMapped g = true → b.disc[g] = false → b.filt[groupA g] ≠ b.filt[groupB g] →
        s.SebDoes l (.discrepancyTimeout l g) fun M => M.seb.disc[g] = true ∧ M.latched (discBit g) = true) ∧
      (∀ k : Fin 3, L.thTimed k = true → (∀ j : Fin 3, L.thTimed j = true → b.thAge[j] ≤ b.thAge[k]) →
        s.SebDoes l (.twoHandTimeout l) fun M => M.seb.thOver[k] = true) ∧
      (s.SebDoes l (.enclost l) fun M => M.latched lbEnclost = true ∧ M.seb.encBad = 4 ∧ dropped M) ∧
      (s.SebDoes l (.bobReportMissing l) fun M => M.seb.bobMiss = 4 ∧ act M 4 = true ∧ M.b F_SEB_STAT_BLOCK = true) ∧
      (L.b F_SEL_CFG_EN = true → s.SebDoes l (.selReportTimeout l) fun M => M.seb.selMiss = 12 ∧ act M 5 = true ∧ M.b F_SEB_STAT_BLOCK = true ∧
        (b.pwLost = true → dropped M)) ∧
      (s.SebDoes l (.demandMismatch l) fun M => M.latched lbXcmp = true ∧ dropped M) ∧
      (s.SebDoes l (.partnerLost l) fun M => M.seb.pwLost = true ∧ act M 6 = true ∧ dropped M) ∧
      (b.pwMiss = 0 → s.SebDoes l (.partnerRestored l) fun M => M.seb.pwLost = false ∧ act M 6 = false) ∧
      (b.reqWait = true → s.SebDoes l (.requestTimeout l) fun M => M.seb.req = #v[false, false] ∧ M.seb.reqWait = false) ∧
      (∀ p : Pair, L.ps p = psPullin → L.feedback p = some true →
        s.SebDoes l (.feedbackTimeout l p) fun M => M.ps p = psFault ∧ M.f (causeF p) = 1 ∧ M.latched (lbOutflt0 + p.val) = true ∧ dropped M) ∧
      (L.b F_SEB_OUTCFG_STO0 = true → L.b F_DRV_STAT_STO_A ≠ L.b F_DRV_STAT_STO_B →
        s.SebDoes l (.stoMismatch l) fun M => M.latched lbSto = true ∧ dropped M))


/-- R322, R327, R333 to R337, R346, R353, R520, Table 12.8: the partner's word and the holder's requests arrive; a request is written; a state frame,
whose readbacks tell of a source whether its pad conducts, by its voltage and VFLD; an entry of the latch record is written (the order of its words is
the model's choice, assumption log 60) and its sector erased; the reset button and the service reset clear the causes no longer present, each its own;
a press also acknowledges a cut. -/
def Obligations.SebInputsAndResets : Prop :=
  ∀ (s : State) (l : LaneId) (wr : Writer),
    let L := s.lane l
    let b := L.seb
    let O := s.lane l.other
    (∀ m, L.sebUp = true → O.lnk.partnerOut = some m →
      Does (.partner l) s fun t => (t.lane l).seb.pw = some m ∧ (t.lane l.other).lnk.partnerOut = none ∧ (b.pw = none → (t.lane l).seb.pwFresh = true)) ∧
    (∀ r, L.sebUp = true → O.lnk.sebreqOut = some r → L.holder = false →
      Does (.sebreq l) s fun t => (t.lane l).seb.req = #v[r.1, r.2] ∧ (t.lane l).seb.reqWait = false ∧ (t.lane l.other).lnk.sebreqOut = none) ∧
    (∀ v, s.Permits l wr A_SEB_REQ v → L.holder = true →
      s.Writes l wr (.sebReqWrite l wr v) fun M => M.b F_SEB_REQ_SO0_ON = v.getLsbD 0 ∧ M.b F_SEB_REQ_SO1_ON = v.getLsbD 1) ∧
    (∀ (pads : PadVolts) (hot : SourceBits), s.fdUp = true → L.spine = true → (instantIn L.fclk 1600 0).isSome = true →
      Does (.stateFrame l pads hot) s fun t =>
        (∀ n : FieldInput, (t.lane l).seb.frame.code[n] = s.fd.inp[n].code ∧ (t.lane l).seb.inp[n] = s.fd.inp[n].value) ∧
        (t.lane l).seb.frame.vstate = t.fd.vstate ∧ (t.lane l).seb.frame.forced = t.fd.forced ∧
        (∀ (k : Source) (mv : Nat), pads[k.val]? = some (some mv) → t.fd.on[k] = s.fd.on[k] →
          let vfld := 10 * s.fd.f F_FIO_VFLD_VFLD
          (t.lane l).seb.frame.rbk[k] = if srcHigh k.val then decide (3 * vfld ≤ 4 * mv) else decide (4 * mv ≤ vfld)) ∧
        (∀ k : Source, pads[k.val]? = some none → (t.lane l).seb.frame.rbk[k] = t.fd.on[k]) ∧
        (∀ k : Switch, (t.lane l).seb.sw[k] = t.fd.on[k.val + 4] ∧ (t.lane l).seb.rbk[k] = (t.lane l).seb.frame.rbk[k.val + 4]) ∧
        (t.lane l).bg.fio = t.fd.regs ∧ (t.lane l).bg.fioOwn = t.fd.copy l ∧ (t.lane l).bg.fioHoop = rget (t.lane l).regs F_LNK_HOOP_STATE.addr) ∧
    (∀ x rest, L.sebUp = true → b.latDue = x :: rest → b.latUsed < 128 →
      let a := latRecBase b.latSector + 32 * b.latUsed
      s.SebDoes l (.latchRecordWrite l) fun M => M.seb.latDue = rest ∧ M.seb.latUsed = b.latUsed + 1 ∧ M.seb.latSeq = (b.latSeq + 1) % 2 ^ 32 ∧
        M.flashWord a = b.latSeq % 2 ^ 32 ∧ M.flashWord (a + 4) = x.1.toNat ∧ M.flashWord (a + 8) = x.2.toNat ∧
        ∀ o, o < a ∨ a + 32 ≤ o → M.byte .flash o = L.byte .flash o) ∧
    (L.sebUp = true → b.latErase = true → b.latDue = [] →
      s.SebDoes l (.latchRecordEraseDone l) fun M => M.seb.latErase = false ∧ ∀ i, i < 0x1000 → M.byte .flash (latRecBase (!b.latSector) + i) = 0xFF#8) ∧
    (∀ ms, L.sebUp = true → 100 ≤ ms → ms ≤ 5000 →
      s.SebDoes l (.resetButton l ms) fun M => ∀ k, k < 23 → (M.latched k = true ↔ L.latched k = true ∧ L.causePresent k = true)) ∧
    (∀ ms, L.sebUp = true → 100 ≤ ms → ms ≤ 5000 → s.fd.forced = true → s.fd.fCut = true → s.vfldGood = true →
      Does (.resetButton l ms) s fun t => t.fd.ack = true) ∧
    (∀ ms, L.sebUp = true → 5000 < ms → s.SebDoes l (.resetButton l ms) fun M => M.latches = L.latches ∧ M.b F_SEB_FLAG_RSTBTN_S = true) ∧
    (s.Permits l wr A_SEB_CMD 4#32 → L.sebUp = true →
      s.Writes l wr (.sebReset l wr) fun M => ∀ k, k < 23 → (M.latched k = true ↔ L.latched k = true ∧ (latchF k = true ∨ L.causePresent k = true))) ∧
    (L.spine = true → b.up = false → s.Acts l (.sebSelftest l true) fun M => M.seb.up = true)

/-- R339 to R342, R345: a configuration session is opened, committed, stored, aborted, reverted and ended for idleness; the password lock expires. -/
def Obligations.SafetyConfigurationSession : Prop :=
  ∀ (s : State) (l : LaneId) (e : Eng),
    let L := s.lane l
    let b := L.seb
    let wr := Writer.eng e
    let st := L.f F_SEB_SESS_STATE
    (s.Permits l wr A_SEB_CMD 1#32 → (L.writerRole wr = .ins ∨ L.writerRole wr = .mkr) → b.pwLock = false → sebPwOk L b.pwd = true →
      L.ps 0 = psOff → L.ps 1 = psOff → L.pairReleased 0 = true → L.pairReleased 1 = true → L.sebMoving = false → st = 0 →
      2 ≤ L.safeLeft → L.log.clN + 2 ≤ 32 →
      s.Writes l wr (.sebOpen l wr) fun M => M.f F_SEB_SESS_STATE = 1 ∧ M.f F_SEB_SESS_ENGINE = e.val ∧ M.f F_SEB_SESS_ERR = 0 ∧ M.seb.pwd = 0#32 ∧ M.log.clOutcome = false) ∧
    (s.Permits l wr A_SEB_CMD 1#32 → (L.writerRole wr = .ins ∨ L.writerRole wr = .mkr) → b.pwLock = false → sebPwOk L b.pwd = false →
      Does (.sebOpen l wr) s fun t => t.KlastIs l wr sebPwWrong ∧ (t.lane l).f F_SEB_SESS_STATE = st ∧ (t.lane l).seb.pwd = 0#32) ∧
    (s.Permits l wr A_SEB_CMD 2#32 → st = 1 → L.f F_SEB_SESS_ENGINE = e.val → sebCheck L = 0 →
      s.Writes l wr (.sebCommit l wr) fun M => M.f F_SEB_SESS_STATE = 2 ∧ M.f F_SEB_SESS_ERR = 0) ∧
    (s.Permits l wr A_SEB_CMD 2#32 → st = 1 → L.f F_SEB_SESS_ENGINE = e.val → sebCheck L ≠ 0 →
      Does (.sebCommit l wr) s fun t => t.KlastIs l wr sebCfgReject ∧ (t.lane l).f F_SEB_SESS_STATE = 1 ∧ (t.lane l).f F_SEB_SESS_ERR = sebCheck L) ∧
    (s.Permits l wr A_SEB_CMD 3#32 → st = 1 → L.f F_SEB_SESS_ENGINE = e.val →
      s.Writes l wr (.sebAbort l wr) fun M => M.f F_SEB_SESS_STATE = 3) ∧
    (L.spine = true → st = 2 → L.log.clSafe = 0 →
      s.Acts l (.configStoreComplete l true) fun M => M.f F_SEB_SESS_STATE = 0 ∧ M.f F_SEB_SESS_SEQ = (L.f F_SEB_SESS_SEQ + 1) % 65536 ∧
        M.seb.cfgSector = !b.cfgSector ∧ M.seb.cfgBad = false ∧ M.flashWord (cfgRecBase (!b.cfgSector)) = (L.f F_SEB_SESS_SEQ + 1) % 65536) ∧
    (L.spine = true → st = 3 → Does (.revertComplete l) s fun t => (t.lane l).f F_SEB_SESS_STATE = 0 ∧ (t.lane l).seb.pwdNew = none) ∧
    (st = 1 → Does (.sessionIdleTimeout l) s fun t => (t.lane l).f F_SEB_SESS_STATE = 3) ∧
    (L.spine = true → s.Acts l (.pwLockExpiry l) fun M => M.seb.pwLock = false)

/-- R352 to R365, R533: supervised measurements change a band on two in a row; an edge is stored for both lanes; the head of a lane's edge FIFO is
removed; the rising threshold follows VFLD; a test slot whose readback goes as the test wants, and one whose does not. R485, R497: below VPOR, in
Carrier reset and in Hush the field die does nothing of itself. -/
def Obligations.FieldInputs : Prop :=
  ∀ (s : State) (l : LaneId) (wr : Writer),
    let d := s.fd
    (∀ (k : Ratios) (n : FieldInput) (m0 m : Nat), s.fdUp = true → d.inp[n].mode = 1 → d.inp[n].meas = 3 → d.inp[n].last = some m0 → k[n.val]? = some (some m) →
      5300 < min m0 m → max m0 m ≤ 9000 →
      Does (.supervisedMeasure k) s fun t => t.fd.inp[n].meas = 4 ∧ t.fd.inp[n].last = some m ∧ t.fd.f F_FIO_IN_IN = bitsOf (t.fd.inp.toList.map FioIn.value)) ∧
    (∀ (n : FieldInput) (mv : Nat) (rise : Bool), s.fdUp = true → (if rise then d.thr < mv else mv + 1000 < d.thr) →
      d.inp[n].mode = 2 → d.inp[n].meas ≠ (if rise then 2 else 1) → d.inp[n].since + d.inp[n].glitch < s.time → d.edges[laneIx l].length < 64 →
      Does (.inputEdge n mv) s fun t => t.fd.inp[n].meas = (if rise then 2 else 1) ∧
        t.fd.edges[laneIx l] = d.edges[laneIx l] ++ [⟨((s.lane l).gtime + 2 ^ 48 - d.inp[n].glitch % 2 ^ 48) % 2 ^ 48, n.val, rise⟩]) ∧
    (∀ (n : FieldInput) (mv : Nat), mv ≤ d.thr → d.thr ≤ mv + 1000 → Does (.inputEdge n mv) s fun t => t.fd = s.fd) ∧
    (∀ e rest, s.Permits l wr A_FIO_EDGEPOP 1#32 → d.edges[laneIx l] = e :: rest →
      Does (.edgePop l wr) s fun t => t.KlastIs l wr stOk ∧ t.fd.edges[laneIx l] = rest ∧ t.fd.edges[laneIx l.other] = d.edges[laneIx l.other]) ∧
    (∀ v : Nat, s.fdUp = true → v < 65536 → d.vstate ≤ vsWarn →
      Does (.thresholdUpdate v) s fun t => t.fd.thr = min (4 * v + 500) 10700 ∧ t.fd.f F_FIO_VFLD_VFLD = v) ∧
    (∀ v : Nat, s.fdUp = true → vsLow ≤ d.vstate → Does (.thresholdUpdate v) s fun t => t.fd.thr = 7220) ∧
    (∀ (o : TestObs) (src : Source), s.fdUp = true → src.val < 8 → d.slot = src.val → d.retest[src] = true → d.vstate < vsLow → d.forced = false → d.flt src.val = 0 → d.on[src] = false →
      (o.pass = true → Does (.testSlot o) s fun t => t.fd.slot = src.val + 1 ∧ t.fd.retest[src] = false ∧ t.fd.f (missF src.val) = 0 ∧ t.fd.flt src.val = 0) ∧
      (o.pass = false → Does (.testSlot o) s fun t => t.fd.slot = src.val + 1 ∧ t.fd.flt src.val = 6 ∧ t.fd.b F_FIO_STAT_OUTFLT_S = true)) ∧
    (s.fdUp = false → ∀ (o : TestObs) (c : Instr), c ∈ [Instr.supervisedMeasure [], .inputEdge 0 20000, .thresholdUpdate 2400, .testSlot o, .outputFault 0 .drop, .vfldFall 0, .vfldRise 24000,
      .lowTimeout, .outputsCutDelay, .watchdogExpiry, .stateFrame l [] 0#16] → exec c s = .next s)

/-- R366 to R373, R17: an output that drops, the field supply's states, the outputs off after a cut, keep-alives, the watchdog, the release, faults
cleared, a cut acknowledged, the general outputs written, a pulse train lost, and a lane's input configuration loaded. -/
def Obligations.FieldOutputs : Prop :=
  ∀ (s : State) (l : LaneId) (wr : Writer),
    let d := s.fd
    (∀ src : Source, s.fdUp = true → d.flt src.val = 0 → d.on[src] = true →
      Does (.outputFault src .drop) s fun t => t.fd.flt src.val = 3 ∧ t.fd.on[src] = false ∧ t.fd.b F_FIO_STAT_OUTFLT_S = true) ∧
    (∀ mv : Nat, s.fdUp = true → d.vstate = vsNormal → 16800 ≤ mv → mv < 19200 →
      Does (.vfldFall mv) s fun t => t.fd.vstate = vsWarn ∧ t.fd.b F_FIO_STAT_WARN_S = true ∧ t.fd.forced = d.forced) ∧
    (∀ mv : Nat, s.fdUp = true → d.vstate = vsWarn → 19500 < mv → Does (.vfldRise mv) s fun t => t.fd.vstate = vsNormal) ∧
    (s.fdUp = true → d.vstate = vsLow → Does .lowTimeout s fun t => t.fd.vstate = vsCut ∧ t.fd.forced = true ∧ t.fd.fCut = true ∧ t.fd.f F_FIO_STAT_FCAUSE = fcCut ∧
      ∀ k : Switch, t.fd.on[k.val + 4] = false) ∧
    (s.fdUp = true → d.cutDue = true → Does .outputsCutDelay s fun t => t.fd.cutOff = true ∧ (∀ src : Source, src.val < 4 ∨ 8 ≤ src.val → t.fd.on[src] = false) ∧
      ∀ n : FieldInput, (d.inp[n].mode = 1 ∨ d.inp[n].mode = 2) → 1 ≤ d.inp[n].src → d.inp[n].src ≤ 4 → t.fd.inp[n].value = false) ∧
    (∀ key : Byte, s.Permits l wr A_FIO_KEEPALIVE (key.zeroExtend 32) → d.heldBy l = true → key.toNat = d.wdKey →
      Does (.keepalive l wr key) s fun t => t.KlastIs l wr stOk ∧ t.fd.wdLow = !d.wdLow ∧ t.fd.wdRun = true ∧ t.fd.kaAt = s.time) ∧
    (s.fdUp = true → d.wdRun = true → Does .watchdogExpiry s fun t => t.fd.forced = true ∧ t.fd.fSilence = true ∧ t.fd.wdRun = false ∧ t.fd.b F_FIO_STAT_SILENCE_S = true ∧
      t.fd.b F_FIO_STAT_DOOREN = false ∧ ∀ k : Switch, t.fd.on[k.val + 4] = false) ∧
    (s.Permits l wr A_FIO_CMD 1#32 → d.heldBy l = true → d.forced = true → getB s.sup.regs F_PWR_STAT_HOLD = false → d.kaN = 3 → d.fHoop = false → d.fCut = false →
      Does (.fioRelease l wr) s fun t => t.KlastIs l wr stOk ∧ t.fd.forced = false ∧ t.fd.f F_FIO_STAT_FCAUSE = 0 ∧ t.fd.b F_FIO_STAT_DOOREN = true) ∧
    (∀ mask : SourceBits, s.Permits l wr A_FIO_CMD (BitVec.ofNat 32 (mask.toNat * 0x10000 + 2)) → d.heldBy l = true → (∀ src : Source, d.fltPresent src = false) →
      Does (.fioClrflt l wr mask) s fun t => t.KlastIs l wr stOk ∧
        ∀ src : Source, t.fd.flt src.val = if mask.getLsbD src.val = true ∧ (src.val < 4 ∨ 8 ≤ src.val) then 0 else d.flt src.val) ∧
    (∀ mask : SourceBits, s.Permits l wr A_FIO_CMD (BitVec.ofNat 32 (mask.toNat * 0x10000 + 2)) → d.heldBy l = true →
      (∃ src : Source, mask.getLsbD src.val = true ∧ d.fltPresent src = true) →
      Does (.fioClrflt l wr mask) s fun t => t.KlastIs l wr fioFault ∧ t.fd = s.fd) ∧
    (s.Permits l wr A_FIO_ACK 1#32 → d.forced = true → d.fCut = true → s.vfldGood = true →
      Does (.ackcut l wr) s fun t => t.KlastIs l wr stOk ∧ t.fd.ack = true) ∧
    (∀ v : Byte, s.Permits l wr A_FIO_OUT (v.zeroExtend 32) → d.heldBy l = true → d.forced = false → d.vstate ≤ vsWarn →
      Does (.fioOutWrite l wr v) s fun t => t.KlastIs l wr stOk ∧ t.fd.f F_FIO_OUT_FO = v.toNat ∧
        ∀ k : Fin 8, t.fd.on[k.val + 8] = (v.getLsbD k.val && decide (d.flt (k.val + 8) = 0) && !d.cutOff)) ∧
    (∀ k : Switch, (s.lane (if k.val % 2 = 0 then .a else .b)).seb.drive[k.val / 2] = false →
      Does (.switchDriveLost k) s fun t => t.fd.train[k] = false ∧ t.fd.on[k.val + 4] = false) ∧
    ((s.lane l).spine = true → (s.lane l).seb.fioCfg.length = 24 →
      Does (.fioConfigLoad l) s fun t => ∀ n : FieldInput, some (rget (t.fd.copy l) (A_FIO_INCFG n.val)) = (s.lane l).seb.fioCfg[n.val]?)

/-- R374 to R378, R391 to R397, R400: heartbeats sent, received and lost; F started; a seal edge in each lane; a segment of an epoch; a seal that
passes its checks and one that does not; epochs that fail to come; a bulk's line and its end; a damaged heartbeat. R374: a message waits while one the
link sends ahead of it is there. -/
def Obligations.LaneLinkMessages : Prop :=
  ∀ (s : State) (l : LaneId),
    let L := s.lane l
    let O := s.lane l.other
    let k := L.lnk
    (L.spine = true → k.fWait = false →
      s.Acts l (.hbSend l) fun M => M.lnk.hbSeq = (k.hbSeq + 1) % 2 ^ 16 ∧
        M.lnk.hbOut = some ⟨(k.hbSeq + 1) % 2 ^ 16, L.fclk, healthWord L, L.f F_LNK_EPOCH_SEQ, s.fd.hoop⟩) ∧
    (∀ (m : Heartbeat) (half : Nat), s.linkHb l = true → O.lnk.hbOut = some m →
      Does (.hb l half) s fun t => rget (t.lane l).regs A_LNK_PHEALTH = m.health ∧ (t.lane l).pstate = bits m.health 31 28 ∧ (t.lane l).lnk.hbLost = false ∧
        (t.lane l).lnk.hbAt = some s.time ∧ (t.lane l.other).lnk.hbOut = none ∧
        (k.fWait = true → (t.lane l).fclk = m.fclk + half ∧ (t.lane l).lnk.fWait = false)) ∧
    (L.spine = true → k.hbLost = false → L.lst ≠ lsUpdate →
      s.Acts l (.heartbeatLoss l) fun M => M.lnk.hbLost = true ∧ M.pstate = 15 ∧ rget M.regs A_LNK_PHEALTH = 0 ∧
        (L.lst = lsStandby → s.fd.heldBy l.other = true → M.lst = lsSuspect ∧ M.b F_LNK_STAT_HBLOSS_S = true)) ∧
    (L.spine = true → k.fWait = true → l = .b → s.Acts l (.fStartTimeout l) fun M => M.fclk = 0 ∧ M.lnk.fWait = false) ∧
    (L.spine = true → k.fWait = false → L.holder = false → s.Acts l (.sealEdge l) fun M => M.lnk.ownSnap = snapshot L) ∧
    (L.spine = true → k.fWait = false → L.holder = true → k.dirty.length ≤ 447 → k.regDirty.length ≤ 256 →
      let seq := (L.f F_LNK_EPOCH_SEQ + 1) % 2 ^ 32
      s.Acts l (.sealEdge l) fun M => M.f F_LNK_EPOCH_SEQ = seq ∧ M.lnk.epPos = 0 ∧ M.lnk.epLen = 288 + 8 * k.regDirty.length + 68 * k.dirty.length ∧
        M.lnk.sealOut = some (seq, crc32 (readBytes 0 M.tsram (stageOff seq) M.lnk.epLen))) ∧
    (∀ seq crc, s.linkOpen l = true → O.lnk.sealOut = some (seq, crc) → O.lnk.epPos < O.lnk.epLen → L.holder = false → O.lnk.ahead 4 = false →
      let n := min 256 (O.lnk.epLen - O.lnk.epPos)
      Does (.epdata l) s fun t => (t.lane l.other).lnk.epPos = O.lnk.epPos + n ∧ (t.lane l).lnk.rxLen = O.lnk.epPos + n ∧
        ∀ i, i < n → (t.lane l).byte .table (stageOff seq + O.lnk.epPos + i) = O.byte .table (stageOff seq + O.lnk.epPos + i)) ∧
    (∀ seq crc, s.linkOpen l = true → O.lnk.sealOut = some (seq, crc) → O.lnk.epLen ≤ O.lnk.epPos → L.holder = false → O.lnk.ahead 3 = false → (L.lst = lsSync ∨ L.lst = lsStandby) →
      seq < 2 ^ 32 →
      let b := readBytes 0 L.tsram (stageOff seq) k.rxLen
      let ahead := (leNat ((b.drop 4).take 4) + 2 ^ 32 - L.f F_LNK_EPOCH_SEQ) % 2 ^ 32
      let passes := k.rxOk = true ∧ leNat (b.take 4) = seq ∧ crc32 b = crc ∧ BitVec.ofNat 32 (leNat ((b.drop 20).take 4)) = rget L.regs A_LNK_REPLID ∧
        (ahead = 0 ∨ 2 ^ 31 ≤ ahead)
      (passes → Does (.seal l) s fun t => (t.lane l).f F_LNK_EPOCH_SEQ = seq ∧ (t.lane l).lnk.epBad = 0 ∧ (t.lane l.other).lnk.sealOut = none) ∧
      (¬ passes → Does (.seal l) s fun t => (t.lane l).f F_LNK_EPOCH_SEQ = L.f F_LNK_EPOCH_SEQ ∧ (t.lane l).b F_LNK_STAT_EPDISC_S = true)) ∧
    (L.spine = true → L.lst = lsStandby → s.Acts l (.epochMissing l) fun M => M.lst = lsSync ∧ M.b F_LNK_STAT_VALID = false) ∧
    (∀ a b, s.linkOpen l = true → O.lnk.ahead 6 = false → O.lnk.bulkActive = true → bulkItem O.lnk.bulkPos O = some (a, b, true) → L.lst = lsSync → 0x30000000 ≤ a →
      Does (.bulk l) s fun t => (t.lane l.other).lnk.bulkPos = O.lnk.bulkPos + 1 ∧ ∀ i, i < b.length → (t.lane l).byte .table (a - 0x30000000 + i) = listGet 0 b i) ∧
    (s.linkOpen l = true → O.lnk.ahead 6 = false → O.lnk.bulkActive = true → bulkItem O.lnk.bulkPos O = none → O.lnk.bulkLen ≠ 0 → L.lst = lsSync →
      (k.bulkRxLen = O.lnk.bulkLen → k.bulkRxCrc = O.lnk.bulkCrc →
        Does (.bulkend l) s fun t => (t.lane l).lnk.bulkDone = some (O.f F_LNK_EPOCH_SEQ) ∧ (t.lane l).lnk.bulkFails = 0) ∧
      (k.bulkRxCrc ≠ O.lnk.bulkCrc → k.bulkFails = 0 →
        Does (.bulkend l) s fun t => (t.lane l).b F_LNK_STAT_BULKFAIL_S = true ∧ (t.lane l).lnk.bulkFails = 1 ∧ (t.lane l.other).lnk.bulkPos = 0 ∧
          (t.lane l.other).lnk.bulkActive = true)) ∧
    (∀ (rank : Nat) (c : Instr), (rank, c) ∈ [(2, .ctrlRestart l), (2, .ctrlSwitch l), (3, .seal l), (4, .epdata l), (5, .updack l), (6, .bulk l), (6, .bulkend l), (7, .upd l true)] →
      O.lnk.ahead rank = true → exec c s = .next s) ∧
    (L.spine = true → O.spine = true → L.f F_LNK_CNT_CRC < 255 →
      Does (.laneMessageCrcError l .hb) s fun t => (t.lane l.other).lnk.hbOut = none ∧ (t.lane l).f F_LNK_CNT_CRC = L.f F_LNK_CNT_CRC + 1)

/-- R384 to R390, R402: the Hoop granted, released, in FAULT and out of it; a cold train; a keep-alive missed; READY, a firmware release, the
self-test and its end; the peer restarted; the firmware's self-test and its lapse; a planned switchover. -/
def Obligations.HoopAndLaneStates : Prop :=
  ∀ (s : State) (l : LaneId) (wr : Writer),
    let L := s.lane l
    let O := s.lane l.other
    let k := L.lnk
    (s.fd.hoop = hoopFree → k.train = true →
      Does (.hoopGrant l) s fun t => t.fd.hoop = hoopHeld l ∧ (t.lane l).holder = true ∧ (t.lane l).lst = lsActive ∧ t.fd.wdRun = true ∧ t.fd.kaN = 0 ∧
        (t.lane .a).f F_LNK_HOOP_STATE = hoopHeld l ∧ (t.lane .b).f F_LNK_HOOP_STATE = hoopHeld l) ∧
    (s.fd.heldBy l = true → k.train = false →
      Does .hoopRelease s fun t => t.fd.hoop = hoopFree ∧ ∀ j, (t.lane j).holder = false) ∧
    (s.sup.off = false → Does .hoopFault s fun t => t.fd.hoop = hoopFault ∧ t.fd.forced = true ∧ t.fd.fHoop = true ∧ ∀ j, (t.lane j).holder = false) ∧
    (s.fd.hoop = hoopFault → Does .hoopFaultClear s fun t => t.fd.hoop = hoopFree) ∧
    (s.coldOk l = true → L.spine = true →
      s.Acts l (.coldTrainStart l) fun M => M.lnk.coldTrain = true ∧ M.lnk.train = (L.f F_PWR_STAT_STATE != pwrEntering)) ∧
    (L.spine = true → L.lst = lsActive → s.fd.heldBy l = true →
      s.Acts l (.keepaliveTimeout l) fun M => M.lst = lsFailed ∧ M.f F_LNK_STAT_RCAUSE = rcKeepalive) ∧
    (s.Permits l wr A_LNK_CTRL 1#32 → L.writerEng wr = some 0 →
      s.Writes l wr (.ready l wr) fun M => M.lnk.ready = true ∧
        (L.lst = lsStart → L.partnerHolds = true → k.hbLost = false → k.coldTrain = false → M.lst = lsSync)) ∧
    (s.Permits l wr A_LNK_CTRL 2#32 → L.lst = lsActive →
      s.Writes l wr (.lnkRelease l wr) fun M => M.lst = lsSync ∧ M.f F_LNK_STAT_RCAUSE = rcFirmware) ∧
    (s.Permits l wr A_LNK_CTRL 3#32 → L.lst = lsStandby → s.Writes l wr (.selftest l wr) fun M => M.lst = lsSuspect) ∧
    (L.spine = true → L.lst = lsSuspect →
      s.Acts l (.suspectSelftestComplete l true) fun M => M.lnk.testOk = true ∧ (k.hbSince = none → M.lst = lsSuspect) ∧
        (∀ t0, k.hbSince = some t0 → t0 + 10000 ≤ s.time → M.lst = lsSync)) ∧
    (s.Permits l wr A_LNK_CTRL 4#32 → (L.writerRole wr = .ins ∨ L.writerRole wr = .mkr) → L.holder = true → L.pstate = lsHalted →
      s.Writes l wr (.restartPeer l wr) fun M => M.lnk.ctrlOut = k.ctrlOut ++ [CtrlMsg.restart]) ∧
    (∀ rest, s.linkOpen l = true → O.lnk.ahead 2 = false → O.lnk.ctrlOut = CtrlMsg.restart :: rest →
      Does (.ctrlRestart l) s fun t => (L.lst ≠ lsHalted → (t.lane l.other).lnk.ctrlOut = rest) ∧
        (L.lst = lsHalted → (t.lane l).phase = .reset ∧ t.sup.rstCause[laneIx l].getLsbD rbPeerrst = true)) ∧
    (s.Permits l wr A_LNK_FWTEST 1#32 →
      s.Writes l wr (.fwtestWrite l wr true false) fun M => M.lnk.fwstale = L.b F_SYS_DBGCTL_DBGON) ∧
    (L.spine = true → s.Acts l (.fwStale l) fun M => M.lnk.fwstale = true ∧ M.b F_LNK_STAT_ELIGIBLE = false) ∧
    (s.Permits l wr A_LNK_SWITCH 1#32 → L.holder = true → L.partnerElig = true → L.spgSt = spgIdle → L.ps 0 = psOff → L.ps 1 = psOff → L.lst = lsActive →
      s.Writes l wr (.lnkSwitch l wr) fun M => M.lst = lsSync ∧ M.f F_LNK_STAT_RCAUSE = rcSwitch ∧ M.lnk.ctrlOut = k.ctrlOut ++ [CtrlMsg.switch]) ∧
    (∀ rest, s.linkOpen l = true → O.lnk.ahead 2 = false → O.lnk.ctrlOut = CtrlMsg.switch :: rest →
      Does (.ctrlSwitch l) s fun t => (t.lane l).lnk.switchIn = true ∧ (t.lane l.other).lnk.ctrlOut = rest)

/-- R375, R405, R406, R474, R483, R484: the update of the lane without the Hoop, from the holder's commands to the block, sent in segments,
acknowledged, the boot record written and the lane reset; its debug port opened, where it does not hold the Hoop, and closed. What an UPDATE_ABORT
leaves, and when the restart it asks for halts the lane, is the model's reading (assumption log 139, DEDUCED). -/
def Obligations.UpdateOfTheOtherLane : Prop :=
  ∀ (s : State) (l : LaneId) (wr : Writer),
    let L := s.lane l
    let O := s.lane l.other
    let k := L.lnk
    let next : CtrlMsg → Prop := fun m => s.linkOpen l = true ∧ O.lnk.ahead 2 = false ∧ O.lnk.ctrlOut.head? = some m
    (s.Permits l wr A_LNK_UPD 1#32 → k.updActive = false → L.holder = true → L.partnerElig = true → L.spgSt = spgIdle → L.ps 0 = psOff → L.ps 1 = psOff →
      s.Writes l wr (.updateStart l wr) fun M => M.lnk.updActive = true ∧ M.lnk.ctrlOut = k.ctrlOut ++ [CtrlMsg.updateStart]) ∧
    (s.Permits l wr A_LNK_UPD 2#32 → k.updActive = true → L.holder = true →
      s.Writes l wr (.updateCommit l wr) fun M => M.lnk.updActive = false ∧ M.lnk.ctrlOut = k.ctrlOut ++ [CtrlMsg.updateCommit]) ∧
    (s.Permits l wr A_LNK_UPD 3#32 → k.updActive = true → L.holder = true →
      s.Writes l wr (.updateAbort l wr) fun M => M.lnk.updActive = false ∧ M.lnk.ctrlOut = k.ctrlOut ++ [CtrlMsg.updateAbort]) ∧
    (next .updateStart → L.lst = lsStandby →
      Does (.ctrlUpdateStart l) s fun t => (t.lane l).lst = lsUpdate ∧ (t.lane l).f F_LNK_UPDSTAT_STATE = 2 ∧ (t.lane l).f F_LNK_UPDSTAT_BLOCKS = 0 ∧
        (∀ g, g < 4 → (t.lane l).gateState g = gClosed) ∧ ∀ i, i < 0x300000 → (t.lane l).byte .flash (slotOff L.updSlotNo + i) = 0xFF#8) ∧
    (∀ off data crc good, s.linkOpen l = true → O.lnk.ahead 7 = false → O.lnk.updOut = some (off, data, crc) → O.lnk.updPos + 256 < data.length →
      let seg := (data.drop O.lnk.updPos).take 256
      Does (.upd l good) s fun t => (t.lane l.other).lnk.updPos = O.lnk.updPos + 256 ∧ (t.lane l.other).lnk.updOut = O.lnk.updOut ∧
        (t.lane l).lnk.updRx = (if O.lnk.updPos = 0 then seg else k.updRx ++ seg) ∧ (t.lane l).flash = L.flash ∧ (t.lane l).lnk.updAckOut = k.updAckOut) ∧
    (∀ off data, s.linkOpen l = true → O.lnk.ahead 7 = false → O.lnk.updOut = some (off, data, crc32 data) → L.lst = lsUpdate → off + data.length ≤ 0x300000 →
      data.length ≤ O.lnk.updPos + 256 → (O.lnk.updPos = 0 ∨ (O.lnk.updPos ≤ data.length ∧ k.updRxOk = true ∧ k.updRx = data.take O.lnk.updPos)) →
      Does (.upd l true) s fun t => (t.lane l).lnk.updAckOut = some (off, true) ∧ (t.lane l).f F_LNK_UPDSTAT_BLOCKS = min 1023 (L.f F_LNK_UPDSTAT_BLOCKS + 1) ∧
        (t.lane l.other).lnk.updOut = none ∧ ∀ i, i < data.length → (t.lane l).byte .flash (slotOff L.updSlotNo + off + i) = listGet 0 data i) ∧
    (∀ off, L.gateState 5 = gOpen → L.spine = true → O.spine = true → O.lnk.ahead 5 = false → O.lnk.updAckOut = some (off, true) → L.img.sent = some off →
      Does (.updack l) s fun t => (t.lane l).img.acked = off :: L.img.acked ∧ (t.lane l).img.sent = none ∧ (t.lane l.other).lnk.updAckOut = none) ∧
    (next .updateCommit → L.lst = lsUpdate → slotOk L.updSlotNo L = true →
      Does (.ctrlUpdateCommit l) s fun t => (L.phase ≠ .off → (t.lane l).phase = .reset ∧ ∃ c q, bootCopy c (t.lane l) = some (q, L.updSlotNo))) ∧
    (next .updateAbort → L.lst = lsUpdate → L.due = [] →
      ((∀ t0, L.lastRestart = some t0 → t0 + 60000000 ≤ s.time) → Does (.ctrlUpdateAbort l) s fun t => (t.lane l).lst = lsSync ∧
        (t.lane l).b F_LNK_UPDSTAT_ERR = true ∧ (t.lane l).f F_LNK_UPDSTAT_STATE = 0 ∧ (t.lane l).due = [.restart] ∧ (t.lane l).lastRestart = some s.time) ∧
      (∀ t0, L.lastRestart = some t0 → s.time < t0 + 60000000 → s.fd.heldBy l = false →
        Does (.ctrlUpdateAbort l) s fun t => (t.lane l).lst = lsHalted)) ∧
    (next .debugOn → L.holder = false → Does (.ctrlDebugOn l) s fun t => (t.lane l).b F_SYS_DBGCTL_DBGON = true ∧ (t.lane l).lnk.fwstale = true) ∧
    (next .debugOn → L.holder = true → Does (.ctrlDebugOn l) s fun t => (t.lane l).regs = L.regs ∧ (t.lane l.other).lnk.ctrlOut = O.lnk.ctrlOut.drop 1) ∧
    (next .debugOff → Does (.ctrlDebugOff l) s fun t => (t.lane l).b F_SYS_DBGCTL_DBGON = false ∧
      (L.b F_SYS_DBGCTL_DBGON = true → ∀ e : Eng, (t.lane l).eng[e].halted = false))

/-- R408, R412 to R425: an object filled, sent, probed, cancelled and released; a frame received through the directory into its FIFO, and removed; the
index rebuilt; the scan for silent nodes. -/
def Obligations.CanFramesAndDirectory : Prop :=
  ∀ (s : State) (l : LaneId) (n : Port) (wr : Writer),
    let L := s.lane l
    let c := L.cn n
    let up := L.up (.can n) = true
    (s.Permits l wr (A_CAN_TXPUSH n.val) 1#32 →
      let h0 := rget L.regs (A_CAN_TXS0 n.val)
      let h1 := rget L.regs (A_CAN_TXS1 n.val)
      let o : CanObj := { h0 := h0, h1 := h1 }
      ∀ k rest, (c.inState coFree).filter (fun k => decide (k.val < 28)) = k :: rest → (o.brs = true → o.fdf = true) → (o.fdf = true → L.b (F_CAN_CTRL_FDEN n.val) = true) →
        (o.rtr = true → o.fdf = false) → (o.ide = false → bits h0 28 0 ≤ 0x7FF) → L.inTelBand n h0 = false → c.mode = canModeNormal →
        s.Writes l wr (.canTxpush l n wr) fun M => (M.cn n).objs[k].h0 = h0 ∧ (M.cn n).objs[k].h1 = h1 ∧ M.f (F_CAN_TXQSTAT_LAST n.val) = k.val ∧
          ((M.cn n).objs[k].st = coPending ∨ (M.cn n).objs[k].st = coActive)) ∧
    (∀ k seen settle more, up → c.active = some k →
      Does (.canTxEnd l n ⟨.sent, seen, settle, more⟩) s fun t => ((t.lane l).cn n).objs[k].st = coDone ∧ ((t.lane l).cn n).objs[k].result = crSent ∧
        ((t.lane l).cn n).objs[k].late = c.objs[k].cancel ∧ (t.lane l).b (F_CAN_STAT_LONE n.val) = false) ∧
    (∀ k, up → L.canSends n = true → L.b (F_CAN_STAT_LONE n.val) = true → c.active = none → c.probe = none → c.best = some k →
      s.Acts l (.probeTimer l n) fun M => (M.cn n).objs[k].st = coActive ∧ (M.cn n).probe = some k) ∧
    (∀ (fr : CanFrame) (i : Nat), up → fr.data.length ≤ 64 → (fr.ide = true ∨ fr.id.toNat < 2 ^ 11) → L.f (F_CAN_STAT_PSTATE n.val) = psRun →
      (fr.fdf = true → L.b (F_CAN_CTRL_FDEN n.val) = true) → c.mode = canModeNormal → L.dirFind n fr.ide fr.id.toNat = some i → L.holder = true →
      let f : Fin 2 := if L.dirRxf i then 1 else 0
      c.rx[f].length < 32 →
      s.Feeds l (.canRxFrame n fr .good) fun M => M.dirSeen i = L.seenNow ∧ M.dirSilent i = false ∧
        ∃ e : CanRx, (M.cn n).rx[f] = c.rx[f] ++ [e] ∧ bits e.h0 28 0 = fr.id.toNat ∧ e.h0.getLsbD 29 = fr.ide ∧ bits e.h1 3 0 = fr.dlc.val ∧
          e.data = fr.data.take (min (if fr.rtr then 0 else dlcLen fr.fdf fr.dlc.val) (L.rxSize n f))) ∧
    (∀ (k : CanObjNo) (won : Bool), s.Permits l wr (A_CAN_OBJ3 n.val k.val) 1#32 → (28 ≤ k.val → L.f F_TEL_CFG_PORT ≠ n.val) →
      (c.objs[k].st = coPending → s.Writes l wr (.cancel l n k won wr) fun M => (M.cn n).objs[k].st = coDone ∧ (M.cn n).objs[k].result = crCancelled) ∧
      (c.objs[k].st = coActive → s.Writes l wr (.cancel l n k won wr) fun M => (M.cn n).objs[k].st = coActive ∧ (M.cn n).objs[k].cancel = true)) ∧
    (∀ k : CanObjNo, s.Permits l wr (A_CAN_OBJ3 n.val k.val) 2#32 → (28 ≤ k.val → L.f F_TEL_CFG_PORT ≠ n.val) → c.objs[k].st = coDone →
      s.Writes l wr (.canObjRelease l n k wr) fun M => (M.cn n).objs[k].st = coFree) ∧
    (∀ (f : Bool) (e : CanRx) (rest : List CanRx), s.Permits l wr (A_CAN_RXPOP n.val (Bool.toNat f)) 1#32 →
      (if f then c.rx[(1 : Fin 2)] else c.rx[(0 : Fin 2)]) = e :: rest →
      s.Writes l wr (.canRxpop l n f wr) fun M => (if f then (M.cn n).rx[(1 : Fin 2)] else (M.cn n).rx[(0 : Fin 2)]) = rest) ∧
    (s.Permits l wr (A_CAN_DIRCTL n.val) (setBits (L.rwWord (A_CAN_DIRCTL n.val)) 3 0 1) → L.b (F_CAN_DIRSTAT_BUSY n.val) = false →
      s.Writes l wr (.rebuild l n wr) fun M => M.b (F_CAN_DIRSTAT_BUSY n.val) = true) ∧
    (up → L.b (F_CAN_DIRSTAT_BUSY n.val) = true →
      ((∀ i, i ∈ L.dirOf n → L.dirErr (L.dirOf n) i = 0) →
        s.Acts l (.rebuildComplete l n) fun M => M.b (F_CAN_DIRSTAT_BUSY n.val) = false ∧ M.f (F_CAN_DIRSTAT_DIRERR n.val) = 0 ∧
          ∀ i, i ∈ (M.cn n).index ↔ i ∈ L.dirOf n) ∧
      ((∃ i, i ∈ L.dirOf n ∧ L.dirErr (L.dirOf n) i ≠ 0) →
        s.Acts l (.rebuildComplete l n) fun M => M.b (F_CAN_DIRSTAT_BUSY n.val) = false ∧ M.f (F_CAN_DIRSTAT_DIRERR n.val) ≠ 0 ∧ (M.cn n).index = c.index)) ∧
    (∀ i, up → L.holder = true → c.index = [i] → L.dirSiltmo i ≠ 0 → L.dirSilent i = false →
      L.dirSiltmo i * 100000 < (L.seenNow + 2 ^ 31 - L.dirSeen i) % 2 ^ 31 * 1024 →
      s.Acts l (.silenceScan l n) fun M => M.dirSilent i = true ∧ M.dirSeen i = L.dirSeen i ∧ M.b (F_CAN_STAT_SILENT_S n.val) = true ∧
        M.f (F_CAN_DIRSTAT2_NSILENT n.val) = 1)

/-- R426 to R434 (that a recovery begun in another state goes on once the controller has integrated is the model's reading, assumption log 172): the
modes of a CAN port, in force at the next bus idle, as is its sleep; bus-off and recovery, autobaud, an object of the lane without the Hoop that
nothing matched, a new holder that drives again, sleep and wake. -/
def Obligations.CanPortStates : Prop :=
  ∀ (s : State) (l : LaneId) (n : Port) (wr : Writer),
    let L := s.lane l
    let c := L.cn n
    let up := L.up (.can n) = true
    let ps : Lane → Nat := fun M => M.f (F_CAN_STAT_PSTATE n.val)
    (∀ m : CanModeNo, s.Permits l wr (A_CAN_CTRL n.val) (setBits (L.rwWord (A_CAN_CTRL n.val)) 31 29 m.val) → c.mode = canModeOff → c.wait = false → s.canBusy l n = false →
      m.val ≠ canModeOff →
      s.Writes l wr (.canModeWrite l n m wr) fun M => (M.cn n).mode = m.val ∧ ps M = psInteg ∧ M.f (F_CAN_CTRL_MODE n.val) = m.val) ∧
    (∀ m : CanModeNo, s.Permits l wr (A_CAN_CTRL n.val) (setBits (L.rwWord (A_CAN_CTRL n.val)) 31 29 m.val) → c.active = none → s.canBusy l n = true →
      s.Writes l wr (.canModeWrite l n m wr) fun M => (M.cn n).wait = true ∧ (M.cn n).mode = c.mode ∧ M.f (F_CAN_CTRL_MODE n.val) = m.val) ∧
    (up → ps L = psRecover → c.sleepDue = false → c.wait = false →
      s.Acts l (.busoffRecovery l n) fun M => ps M = psRun ∧ M.f (F_CAN_EC_TEC n.val) = 0 ∧ M.f (F_CAN_EC_REC n.val) = 0 ∧ M.f (F_CAN_STAT_ESTATE n.val) = esActive) ∧
    (s.Permits l wr (A_CAN_CMD n.val) 3#32 → L.f (F_CAN_STAT_ESTATE n.val) = esBusOff → c.recov = false →
      s.Writes l wr (.canRestart l n wr) fun M => (M.cn n).recov = true ∧
        ps M = if c.mode ≠ canModeOff ∧ ps L = psStopped then psRecover else ps L) ∧
    (∀ k, up → c.cand = some k → s.Acts l (.autobaudDwell l n) fun M => (M.cn n).cand = abNext (L.f (F_CAN_ABCFG_MASK n.val)) k ∧ (M.cn n).good = 0) ∧
    (∀ k, up → c.cand = none → c.mode = canModeAuto → L.b (F_CAN_STAT_ABDONE n.val) = false → k < 4 → (L.f (F_CAN_ABCFG_MASK n.val)).testBit k = true →
      (∀ j, j < k → (L.f (F_CAN_ABCFG_MASK n.val)).testBit j = false) → s.Acts l (.autobaudDwell l n) fun M => (M.cn n).cand = some k) ∧
    (up → c.mode = canModeAuto → L.b (F_CAN_STAT_ABDONE n.val) = false → L.b (F_CAN_STAT_ABAUD_TMO n.val) = false →
      s.Acts l (.autobaudTimeout l n) fun M => M.b (F_CAN_STAT_ABAUD_TMO n.val) = true ∧ M.b (F_CAN_STAT_ABTMO_S n.val) = true) ∧
    (∀ k : CanObjNo, up → L.holder = false → c.objs[k].st = coPending →
      s.Acts l (.shadowUnmatched l n k) fun M => (M.cn n).objs[k].st = coDone ∧ (M.cn n).objs[k].result = crUnmatched ∧ M.b (F_CAN_STAT_SHMIS_S n.val) = true) ∧
    (up → L.holder = true → s.Acts l (.canTakeoverResume l n) fun M => (M.cn n).drive = true) ∧
    (s.Permits l wr (A_CAN_CMD n.val) 1#32 → (c.mode = canModeNormal ∨ c.mode = canModeListen ∨ c.mode = canModeRestricted) → ps L ≠ psSleep →
      c.inState coPending = [] → c.active = none →
      (s.canBusy l n = false → s.Writes l wr (.sleep l n wr) fun M => ps M = psSleep) ∧
      (s.canBusy l n = true → s.Writes l wr (.sleep l n wr) fun M => ps M = ps L ∧ (M.cn n).sleepDue = true)) ∧
    (s.Permits l wr (A_CAN_CMD n.val) 2#32 → ps L = psSleep →
      s.Writes l wr (.wake l n wr) fun M => ps M = psInteg ∧ M.f (F_CAN_WAKESTAT_CAUSE n.val) = 1) ∧
    (up → ps L = psSleep → L.f (F_CAN_WAKECFG_WMODE n.val) = 1 →
      s.Feeds l (.canWake n .edge) fun M => ps M = psInteg ∧ M.f (F_CAN_WAKESTAT_CAUSE n.val) = 2) ∧
    (up → ps L = psInteg → c.sleepDue = false → c.wait = false → s.Acts l (.canIntegrationComplete l n) fun M => (M.cn n).busy = false ∧
      ps M = if L.f (F_CAN_STAT_ESTATE n.val) = esBusOff then (if c.recov = true then psRecover else psStopped) else psRun) ∧
    (up → ps L = psInteg → c.sleepDue = true → c.active = none → s.Acts l (.canIntegrationComplete l n) fun M => ps M = psSleep ∧ (M.cn n).sleepDue = false)

/-- R437 to R439, R442 to R447: a firmware frame received and delivered, forwarded at once by an idle transmitter, waiting in its place behind a busy
one; a STATE that shows a part; a time mark seen and the master's own; the frames a part sends: TIME, LTEST (whose bit that says the part leaves is
the model's choice, assumption log 98), PUB, firmware frames; the queues. -/
def Obligations.RingFrames : Prop :=
  ∀ (s : State) (l : LaneId) (wr : Writer),
    let L := s.lane l
    let p := L.pic
    let run := L.up .pic = true ∧ L.picOn = true
    let send := L.up .pic = true ∧ L.picTx = true
    let wrapped := (L.b F_PIC_STAT_UWRAP || L.b F_PIC_STAT_DWRAP) = true
    let idle : Bool → Prop := fun b => (L.tx b).freeAt ≤ p.clk ∧ (L.tx b).queue = []
    (∀ (ringB : Bool) (fr : PicFrame), run → fr.payload.length ≤ 256 → ftFw fr.type = true → fr.src ≠ L.pos → (fr.dst = 0xFF ∨ fr.dst = L.pos.val) → p.rxq.length < 32 →
      s.Feeds l (.picFrameRx ringB fr none) fun M => M.pic.rxq = p.rxq ++ [⟨fr, ringB, L.gtime⟩] ∧
        (L.holder = true → ¬ wrapped → fr.hops < 64 →
          (idle ringB → (if ringB then M.pic.lastB else M.pic.lastA) = some { fr with hops := fr.hops + 1 }) ∧
          (p.clk < (L.tx ringB).freeAt → ((L.tx ringB).queue.filter fun o => o.rank == 3).length < 2 → ∃ a o b, (L.tx ringB).queue = a ++ b ∧
            (M.tx ringB).queue = a ++ o :: b ∧ o.frame = { fr with hops := fr.hops + 1 } ∧ (∀ x, x ∈ a → x.rank ≤ 3) ∧ ∀ x, b.head? = some x → 3 < x.rank) ∧
          (p.clk < (L.tx ringB).freeAt → 2 ≤ ((L.tx ringB).queue.filter fun o => o.rank == 3).length → (M.tx ringB).queue = (L.tx ringB).queue))) ∧
    (∀ (ringB : Bool) (fr : PicFrame), run → fr.payload.length ≤ 256 → fr.type = ftState → fr.src ≠ L.pos → p.stSeq[fr.src] ≠ some fr.seq →
      s.Feeds l (.picFrameRx ringB fr none) fun M => M.posBit F_PIC_SEEN_M fr.src = true ∧ M.pic.arr[fr.src] = some L.gtime ∧ M.pic.stSeq[fr.src] = some fr.seq) ∧
    (∀ (ringB : Bool) (gt corr loop arrA arrB : Nat), run → L.f F_PIC_STAT_ROLE ≠ roleMaster → ¬ wrapped → p.first = none →
      let arr := if l = .a then arrA else arrB
      s.Feeds l (.time ringB false gt corr loop arrA arrB) fun M => M.pic.first = some (gt, (arr : Int) + 400 - corr, loop) ∧
        M.f (F_PIC_LOOP_NS (Bool.toNat ringB)) = loop % 2 ^ 32) ∧
    (∀ (ringB : Bool) (gt corr loop arrA arrB : Nat), run → L.f F_PIC_STAT_ROLE = roleMaster →
      let arr := if l = .a then arrA else arrB
      s.Feeds l (.time ringB true gt corr loop arrA arrB) fun M =>
        M.f (F_PIC_LOOP_NS (Bool.toNat ringB)) = (arr - (if ringB then p.markB else p.markA) - corr) % 2 ^ 32) ∧
    (send → L.f F_PIC_STAT_ROLE = roleMaster → p.dup = false → ¬ wrapped → idle true → idle false →
      s.Acts l (.timeSend l) fun M => M.pic.markA = 1000 * L.gtime + (p.frac / 1000).toNat ∧ M.pic.markB = M.pic.markA ∧ sget 0 M.pic.seqs ftTime = (sget 0 p.seqs ftTime + 1) % 65536) ∧
    (send → idle true → idle false → s.Acts l (.ltestSend l) fun M => ∃ a b, M.pic.lastA = some a ∧ M.pic.lastB = some b ∧ a.type = ftLtest ∧ b.type = ftLtest ∧
      listGet 0 a.payload 0 = BitVec.ofNat 8 (L.f F_PIC_PORTS_DRXOK + if p.leaving then 2 else 0) ∧
      listGet 0 b.payload 0 = BitVec.ofNat 8 (L.f F_PIC_PORTS_URXOK + if p.leaving then 2 else 0)) ∧
    (send → L.b F_PIC_STAT_JOINED = true → L.prk.pub ≠ [] → p.dup = false →
      s.Acts l (.pubSend l) fun M => sget 0 M.pic.seqs ftPub = (sget 0 p.seqs ftPub + 1) % 65536 ∧
        ∃ a b, M.pic.pubs[L.pos] = some (sget 0 p.seqs ftPub, a, b) ∧ a.length = 256 ∧ b.length = 64) ∧
    (∀ fr rest, send → L.b F_PIC_STAT_JOINED = true → p.dup = false → p.txq = fr :: rest →
      1000 * fr.payload.length ≤ min (1000 * L.f F_PIC_FWRATE_BURST) (p.bucket + L.f F_PIC_FWRATE_RATE * (s.time - p.bucketAt)) →
      s.Acts l (.fwFrameSend l) fun M => M.pic.txq = rest ∧ sget 0 M.pic.seqs fr.type = (sget 0 p.seqs fr.type + 1) % 65536) ∧
    (s.Permits l wr A_PIC_TXPUSH 1#32 → ftFw (L.f F_PIC_TXH_TYPE) = true → L.b F_PIC_STAT_JOINED = true → 0 < L.f F_PIC_TXH_LEN → p.txq.length < 16 →
      s.Writes l wr (.picTxpush l wr) fun M => ∃ fr : PicFrame, M.pic.txq = p.txq ++ [fr] ∧ fr.type = L.f F_PIC_TXH_TYPE ∧ fr.dst = L.f F_PIC_TXH_DST ∧
        fr.payload.length = min 256 (L.f F_PIC_TXH_LEN)) ∧
    (∀ e rest, s.Permits l wr A_PIC_RXPOP 1#32 → p.rxq = e :: rest → s.Writes l wr (.picRxpop l wr) fun M => M.pic.rxq = rest)

/-- R443, R444, R448 to R452: ports that are good, broken, wrapped and unwrapped; a notice of a new master, a part unseen, a handover, a candidate
that becomes master; leaving the ring; a receiver's boost, from EQFIX, one step the way that narrows the edges, within its limits, frozen at a broken
port. -/
def Obligations.RingRoles : Prop :=
  ∀ (s : State) (l : LaneId) (wr : Writer) (up : Bool),
    let L := s.lane l
    let p := L.pic
    let run := L.up .pic = true ∧ L.picOn = true
    (∀ src, run → (L.port up).okAt = none → s.Feeds l (.ltest up true false src) fun M => (M.port up).okAt = some L.gtime ∧ M.b (portOkF up) = true) ∧
    (∀ (rxok leave : Bool) src, run → (leave = true ∨ rxok = false) → s.Feeds l (.ltest up rxok leave src) fun M => M.b (portWrapF up) = true ∧ M.b (portOkF up) = true) ∧
    (run → s.Acts l (.portBroken l up) fun M => M.b (portWrapF up) = true ∧ M.b (portOkF up) = false ∧ M.port up = { broken := true }) ∧
    (∀ t, run → L.b (portWrapF up) = true → (L.port up).asked = some t → s.Feeds l (.unwrap up t true) fun M => (M.port up).agreed = some t) ∧
    (∀ t since, run → L.b (portWrapF up) = true → (L.port up).okAt = some since →
      (since + 100000 ≤ L.gtime → s.Feeds l (.unwrap up t false) fun M => (M.port up).agreed = some t) ∧
      (L.gtime < since + 100000 → s.Feeds l (.unwrap up t false) fun M => M = L)) ∧
    (∀ t, L.up .pic = true → (L.port up).agreed = some t → L.gtime < t → s.Acts l (.unwrapAtT l up) fun M => M = L) ∧
    (∀ t, L.up .pic = true → L.b (portWrapF up) = true → (L.port up).agreed = some t → t ≤ L.gtime →
      s.Acts l (.unwrapAtT l up) fun M => M.b (portWrapF up) = false ∧ (M.port up).agreed = none ∧ (M.port up).asked = none) ∧
    (L.up .pic = true → L.b (portWrapF up) = true → (L.port up).asked.isSome = true → (L.port up).agreed = none →
      s.Acts l (.unwrapRetry l up) fun M => (M.port up).asked = some ((L.gtime + 29999) / 10000 * 10000)) ∧
    (∀ src master, run → L.f F_PIC_STAT_ROLE ≠ roleMaster →
      s.Feeds l (.notice .takeover src master) fun M => M.f F_PIC_STAT_MPOS = master.val ∧ M.b F_PIC_STAT_MV = true) ∧
    (∀ g, L.up .pic = true → L.posBit F_PIC_SEEN_M g = true →
      s.Acts l (.partUnseen l g) fun M => M.posBit F_PIC_SEEN_M g = false ∧ M.posBit F_PIC_CANDS_M g = false) ∧
    (L.up .pic = true → L.f F_PIC_STAT_ROLE = roleMaster → L.b F_PIC_STAT_SV = true → L.f F_PIC_STAT_SPOS < L.pos.val →
      s.Acts l (.handover l) fun M => M.f F_PIC_STAT_ROLE = roleStandby ∧ M.f F_PIC_STAT_MPOS = L.f F_PIC_STAT_SPOS ∧ M.f F_PIC_STAT_SPOS = L.pos.val) ∧
    (run → L.b F_PIC_STAT_MV = false → L.b F_PIC_STAT_SV = false → L.b F_PIC_CTRL_CAND = true → p.dup = false →
      (∀ g : GroupPos, L.posBit F_PIC_CANDS_M g = true → L.pos.val ≤ g.val) →
      s.Acts l (.candidateMasterTimeout l) fun M => M.f F_PIC_STAT_ROLE = roleMaster ∧ M.f F_PIC_STAT_MPOS = L.pos.val ∧ M.b F_PIC_STAT_MV = true) ∧
    (s.Permits l wr A_PIC_CTRL (setBits (L.rwWord A_PIC_CTRL) 3 0 1) → L.b F_PIC_STAT_JOINED = true →
      s.Writes l wr (.leave l wr) fun M => M.pic.leaving = true) ∧
    (L.up .pic = true → p.leaving = true → s.Acts l (.leaveComplete l) fun M => M.picOn = false ∧ M.b F_PIC_STAT_JOINED = false ∧ M.pic.leaving = false) ∧
    (∀ more shut, L.up .pic = true → L.b F_PIC_EQCFG_ADAPT = false →
      s.Acts l (.eqAdapt l up more shut) fun M => M.f F_PIC_PORTS_EQU = L.f F_PIC_EQCFG_EQFIX ∧ M.f F_PIC_PORTS_EQD = L.f F_PIC_EQCFG_EQFIX) ∧
    (∀ more shut, L.up .pic = true → L.b F_PIC_EQCFG_ADAPT = true →
      let boost := if up then F_PIC_PORTS_EQU else F_PIC_PORTS_EQD
      let lo := L.f F_PIC_EQCFG_EQMIN
      let hi := L.f F_PIC_EQCFG_EQMAX
      let cur := if p.eqBegun then L.f boost else L.f F_PIC_EQCFG_EQFIX
      let moved (x : Nat) (M : Lane) : Prop := M.f boost = x ∧ M.pic.eqBegun = true
      ((L.port up).broken = true → s.Acts l (.eqAdapt l up more shut) (moved cur)) ∧
      ((L.port up).broken = false → lo ≤ cur → cur ≤ hi →
        (more = true → cur < hi → s.Acts l (.eqAdapt l up more shut) (moved (cur + 1))) ∧
        (more = false → lo < cur → s.Acts l (.eqAdapt l up more shut) (moved (cur - 1))) ∧
        ((if more then hi else lo) = cur → s.Acts l (.eqAdapt l up more shut) fun M => moved cur M ∧ (shut = true → M.b F_PIC_STAT_EQLIM_S = true))))

/-- R456 to R460: CHAL, LOGIN with the right response, with a wrong one, LOGOUT, KEEP and SETCRED by an engine. -/
def Obligations.SessionCommands : Prop :=
  ∀ (s : State) (l : LaneId) (e : Eng) (n : SessNo) (role : Role),
    let L := s.lane l
    let ctl (c : Nat) : Word := BitVec.ofNat 32 (c * 0x10000000)
    (s.Permits l (.eng e) (A_SYS_SESSCTL n.val) (BitVec.ofNat 32 (0x10000000 + role.num * 0x1000000)) → role ≠ .none → L.hasCred role.num = true → L.sst n = ssIdle →
      (∀ m, L.sessEng m ≠ some e) →
      s.Writes l (.eng e) (.chal l (.eng e) n role) fun M => M.sst n = ssChallenged ∧ M.sessEng n = some e ∧ M.f (F_SYS_SESSSTAT_ROLE n.val) = role.num ∧
        M.sess[n].pending = true ∧ M.sess[n].idleAt = s.time ∧ M.eng[e].krole = L.eng[e].krole ∧
        ∀ k, k < 8 → rget M.regs (A_SYS_CHAL n.val k) = Config.challenge s.freeCtr k) ∧
    (s.Permits l (.eng e) (A_SYS_SESSCTL n.val) (ctl 2) → L.sst n = ssChallenged → L.sessEng n = some e → L.sess[n].pending = true →
      let r := L.f (F_SYS_SESSSTAT_ROLE n.val)
      L.auth.locked[roleIx r] = false →
      (L.respOk l n r = true →
        s.Writes l (.eng e) (.login l (.eng e) n) fun M => M.sst n = ssGranted ∧ M.f (F_SYS_SESSSTAT_ROLE n.val) = r ∧ M.eng[e].krole = Role.ofNum r ∧
          M.sess[n].pending = false ∧ M.sess[n].idleAt = s.time ∧ ∀ k : Eng, k ≠ e → M.eng[k].krole = L.eng[k].krole) ∧
      (L.respOk l n r = false →
        Does (.login l (.eng e) n) s fun t => t.KlastIs l (.eng e) sysAuthFail ∧ (t.lane l).sst n = ssIdle ∧ (t.lane l).sess[n].pending = false ∧
          (∀ k : Eng, (t.lane l).eng[k].krole = L.eng[k].krole) ∧ (t.lane l).auth.fails[roleIx r] = s.time :: L.failTimes s.time (roleIx r) ∧
          (4 ≤ (L.failTimes s.time (roleIx r)).length → (t.lane l).auth.locked[roleIx r] = true ∧ (t.lane l).b F_SYS_SVCSTAT_LOCK_S = true))) ∧
    (s.Permits l (.eng e) (A_SYS_SESSCTL n.val) (ctl 3) → L.sessEng n = some e →
      s.Writes l (.eng e) (.logout l (.eng e) n) fun M => M.sst n = ssIdle ∧ M.f (F_SYS_SESSSTAT_CAUSE n.val) = scLogout ∧
        M.f (F_SYS_SESSSTAT_ROLE n.val) = 0 ∧ M.eng[e].krole = .none) ∧
    (s.Permits l (.eng e) (A_SYS_SESSCTL n.val) (ctl 4) → L.sst n = ssGranted → L.sessEng n = some e →
      s.Writes l (.eng e) (Instr.keep l (.eng e) n) fun M => M.sess[n].idleAt = s.time ∧ M.sst n = ssGranted ∧ M.eng[e].krole = L.eng[e].krole) ∧
    (s.Permits l (.eng e) A_SYS_CREDCTL (BitVec.ofNat 32 (0x10000000 + role.num * 0x1000000)) → (L.eng[e].krole = .mkr ∨ L.noMkrKey = true ∧ role = .mkr) →
      role ≠ .none → L.clRoom = true →
      s.Writes l (.eng e) (.setcred l (.eng e) role) fun M => M.flash = (credStore role.num L).flash ∧ L.log.clN < M.log.clN)

/-- R456, R458, R460, R463, R476, R477: a session's idle end, a challenge's and a lockout's expiry; USB_VBUS falls and rises, VLOG low and high again,
10 ms after the grant. -/
def Obligations.SessionEndsAndUsbPins : Prop :=
  ∀ (s : State) (l : LaneId) (n : SessNo),
    let L := s.lane l
    let attach (M : Lane) : Prop := M.up .usb = true → M.b F_USB_STAT_ATTACHED = usbMay M
    let ended (k : LaneId) (t : State) : Prop := ∀ e, (s.lane k).sessEng 0 = some e →
      (t.lane k).sst 0 = ssIdle ∧ (t.lane k).f (F_SYS_SESSSTAT_CAUSE 0) = scVbus ∧ (t.lane k).eng[e].krole = .none
    (∀ e, L.spine = true → L.sessEng n = some e →
      Does (.sessionIdleEnd l n) s fun t => t.lane l.other = s.lane l.other ∧ (t.lane l).sst n = ssIdle ∧
        (t.lane l).f (F_SYS_SESSSTAT_CAUSE n.val) = scIdle ∧ (t.lane l).eng[e].krole = .none) ∧
    (L.spine = true → s.Acts l (.challengeExpiry l n) fun M => M.sess[n].pending = false ∧ M.sst n = L.sst n ∧ M.eng = L.eng) ∧
    (∀ role : Role, role ≠ .none → L.spine = true →
      s.Acts l (.authLockoutExpiry l role) fun M => M.auth.locked[roleIx role.num] = false ∧ M.auth.fails = L.auth.fails) ∧
    Does .vbusFall s (fun t => ∀ k, (t.lane k).usb.vbus = false ∧ attach (t.lane k) ∧ ended k t) ∧
    Does .vbusRise s (fun t => ∀ k, (t.lane k).usb.vbus = true ∧ attach (t.lane k)) ∧
    Does .usbVlogLow s (fun t => ∀ k, (t.lane k).usb.low = true ∧ attach (t.lane k) ∧ ((s.lane k).b F_USB_STAT_ATTACHED = true → ended k t)) ∧
    Does .usbVlogOk s (fun t => ∀ k, (t.lane k).usb.low = false ∧ attach (t.lane k)) ∧
    (L.spine = true → L.holder = true → s.Acts l (.usbConnectAfterGrant l) fun M => M.usb.wait = false ∧ attach M)

/-- R404, R470 to R473: a frame's packets on USB and its segments on CAN give it back; a frame that is good, of an unknown operation, broken, too
short; a request for the other lane, one while another is in progress, an operation the loader lacks, a role too low: refused in this order, whatever
the request. -/
def Obligations.ServiceRefusals : Prop :=
  ∀ (s : State) (l : LaneId) (n : SessNo) (tag : Tag) (field : LaneField),
    let L := s.lane l
    (∀ f : Bytes, f ≠ [] → svcUnframe 0 (svcUnits 0 f) = some (f, true)) ∧
    (∀ f : Bytes, f.length = 14 + leNat ((f.drop 8).take 2) → svcUnframe 1 (svcUnits 1 f) = some (f, true)) ∧
    (∀ units, svcUnframe n (units.filterMap (svcTaken L n)) = none → s.Acts l (.serviceFrame l n units) fun M => M = L) ∧
    (∀ fr : CanFrame, (svcTaken L 1 (.can fr)).isSome = true →
      fr.ide = false ∧ fr.fdf = true ∧ fr.brs = true ∧ fr.id.toNat = 0x6A0 + L.pos.val ∧ fr.data.length = 64 ∧ svcTaken L 1 (.can fr) = some fr.data) ∧
    (∀ (units : List SvcUnit) (frame : Bytes) (order : Bool), L.svcUp n = true → svcUnframe n (units.filterMap (svcTaken L n)) = some (frame, order) → frame.length ≤ 4174 →
      let op := leNat ((frame.drop 1).take 1)
      let tg := leNat ((frame.drop 2).take 2)
      let good := order = true ∧ 14 ≤ frame.length ∧ leNat (frame.take 1) = 1 ∧
        crc32 (frame.take (frame.length - 4)) = BitVec.ofNat 32 (leNat (frame.drop (frame.length - 4)))
      s.Acts l (.serviceFrame l n units) fun M =>
        (good → knownOp op = true → M = L) ∧
        (good → knownOp op = false → M.svc[n].status = svBadOp ∧ M.svc[n].tag = tg) ∧
        (¬ good → 4 ≤ frame.length → M.svc[n].status = svBadFrame ∧ M.svc[n].tag = tg) ∧
        (frame.length < 4 → M.svc[n].discarded = L.svc[n].discarded + 1)) ∧
    ∀ (role : Role) (resp data nonce link : Bytes) (addr v count table first log seq len off : Nat) (buf : Bool) (x : Word) (cmd : OpCmd) (landing : Landing)
      (c : Instr) (op least : Nat),
      (c, op, least) ∈ ([(.hello l n tag field, 0x01, 0), (.serviceChal l n tag field role, 0x02, 0), (.serviceLogin l n tag field role resp, 0x03, 0),
        (.serviceLogout l n tag field, 0x04, 0), (.serviceKeep l n tag field, 0x05, 1), (.rdreg l n tag field addr count, 0x10, 1),
        (.wrreg l n tag field addr x, 0x11, 2), (.rdtab l n tag field table buf first count, 0x12, 1), (.wrtab l n tag field table buf first data, 0x13, 2),
        (.opcmd l n tag field cmd landing, 0x14, 1), (.serviceRestart l n tag field, 0x15, 2), (.rdlog l n tag field log seq count, 0x20, 1)] ++
        [(.archive l n tag field link, 0x21, 3), (.imgbegin l n tag field len, 0x30, 3), (.imgblock l n tag field off data x, 0x31, 3),
        (.imgcommit l n tag field, 0x32, 3), (.imgabort l n tag field, 0x33, 3), (.attest l n tag field nonce, 0x40, 0), (.cert l n tag field, 0x41, 0),
        (.serviceSetcred l n tag field role data, 0x50, 0)] : List (Instr × Nat × Nat)) →
      (L.svcUp n = false → Does c s fun t => t = s) ∧
      (L.svcUp n = true → wrongLane l field = true → s.Answers l n c tag op svWrongLane fun t => OnlyLane l s t) ∧
      (L.svcUp n = true → wrongLane l field = false → L.svc[n].busy.isSome = true → s.Answers l n c tag op sysSessBusy fun t => OnlyLane l s t) ∧
      (L.svcUp n = true → wrongLane l field = false → L.svc[n].busy = none →
        (L.b F_LNK_UPDSTAT_LOADER = true → loaderOp op = false → s.Answers l n c tag op svBadOp fun t => OnlyLane l s t) ∧
        ((L.b F_LNK_UPDSTAT_LOADER = true → loaderOp op = true) → L.svcRole n < least → s.Answers l n c tag op stRoleDenied fun t => OnlyLane l s t))

/-- R7, R456 to R460, R472, R481: HELLO, CHAL, LOGIN with the right and a wrong response, LOGOUT, KEEP, SETCRED, CERT on the service interface. That a
response waits behind the packets of those before it is the model's choice (assumption log 155). -/
def Obligations.ServiceSessions : Prop :=
  ∀ (s : State) (l : LaneId) (n : SessNo) (tag : Tag) (field : LaneField) (role : Role),
    let L := s.lane l
    let e := L.svcEng n
    let ctl (c : Nat) : Word := BitVec.ofNat 32 (c * 0x10000000)
    (s.Serves l n field 0x01 0 → s.Answers l n (.hello l n tag field) tag 0x01 stOk fun t => OnlyLane l s t ∧
      (t.lane l).svc[n].payload = uidBytes ++ leBytes 1 L.pos.val ++ wordBytes (rget L.regs A_LNK_STAT) ++ leBytes 4 (L.flashWord (L.slotBase + 0xC)) ++ leBytes 1 1 ∧
      (t.lane l).svc[n].out = L.svc[n].out ++ svcUnits n (svcResponse tag.toNat 0x01 stOk 0 (t.lane l).svc[n].payload)) ∧
    (s.Serves l n field 0x02 0 → s.Permits l (.eng e) (A_SYS_SESSCTL n.val) (BitVec.ofNat 32 (0x10000000 + role.num * 0x1000000)) → role ≠ .none →
      L.hasCred role.num = true → L.sst n = ssIdle → (∀ m, L.sessEng m ≠ some e) →
      s.Answers l n (.serviceChal l n tag field role) tag 0x02 stOk fun t => (t.lane l).sst n = ssChallenged ∧ (t.lane l).sessEng n = some e ∧
        (t.lane l).svc[n].payload.length = 48 ∧
        (t.lane l).svc[n].payload.take 32 = (List.range 8).flatMap fun k => wordBytes (Config.challenge s.freeCtr k)) ∧
    (∀ resp : Bytes, s.Serves l n field 0x03 0 → s.Permits l (.eng e) (A_SYS_SESSCTL n.val) (ctl 2) →
      (∀ k, k < 16 → s.Permits l (.eng e) (A_SYS_RESP n.val k) (listGet 0 (bytesWords 16 resp) k)) →
      L.sst n = ssChallenged → L.sessEng n = some e → L.sess[n].pending = true →
      let r := L.f (F_SYS_SESSSTAT_ROLE n.val)
      let filled := L.updSess n fun x => { x with resp := Vector.ofFn fun k : Fin 16 => listGet 0 (bytesWords 16 resp) k.val }
      L.auth.locked[roleIx r] = false →
      (filled.respOk l n r = true → s.Answers l n (.serviceLogin l n tag field role resp) tag 0x03 stOk fun t =>
        (t.lane l).sst n = ssGranted ∧ (t.lane l).eng[e].krole = Role.ofNum r ∧ (t.lane l).svc[n].payload = leBytes 1 r ∧
        (t.lane l).svc[n].flags = (if 64 < resp.length then fgTrunc else 0)) ∧
      (filled.respOk l n r = false → s.Answers l n (.serviceLogin l n tag field role resp) tag 0x03 sysAuthFail fun t =>
        (t.lane l).sst n = ssIdle ∧ (t.lane l).eng[e].krole = L.eng[e].krole)) ∧
    (s.Serves l n field 0x04 0 → s.Permits l (.eng e) (A_SYS_SESSCTL n.val) (ctl 3) → L.sessEng n = some e →
      s.Answers l n (.serviceLogout l n tag field) tag 0x04 stOk fun t => (t.lane l).sst n = ssIdle ∧
        (t.lane l).f (F_SYS_SESSSTAT_CAUSE n.val) = scLogout ∧ (t.lane l).eng[e].krole = .none) ∧
    (s.Serves l n field 0x05 1 → s.Permits l (.eng e) (A_SYS_SESSCTL n.val) (ctl 4) → L.sessEng n = some e →
      s.Answers l n (.serviceKeep l n tag field) tag 0x05 stOk fun t => (t.lane l).sess[n].idleAt = s.time ∧
        (t.lane l).svc[n].payload = leBytes 2 (L.f F_SYS_SVCCFG_IDLE)) ∧
    (∀ data : Bytes, s.Serves l n field 0x50 0 → (3 ≤ L.svcRole n ∨ (L.noMkrKey = true ∧ role = .mkr ∧ n = 0)) → role ≠ .none →
      data.length = (if role = .mkr then 64 else 48) →
      s.Permits l (.eng e) A_SYS_CREDCTL (BitVec.ofNat 32 (0x10000000 + role.num * 0x1000000)) → (L.eng[e].krole = .mkr ∨ (L.noMkrKey = true ∧ role = .mkr)) →
      (∀ k, k < 8 → s.Permits l (.eng e) (A_SYS_CREDDATA 0 k) (listGet 0 (bytesWords 16 data) k)) →
      (∀ k, k < 8 → s.Permits l (.eng e) (A_SYS_CREDDATA 1 k) (listGet 0 (bytesWords 16 data) (8 + k))) →
      L.log.clN + 18 ≤ L.clLimit →
      s.Answers l n (.serviceSetcred l n tag field role data) tag 0x50 stOk fun t =>
        (t.lane l).flash = (credStore role.num (L.updAuth fun u => { u with cred := Vector.ofFn fun k : Fin 16 => listGet 0 (bytesWords 16 data) k.val })).flash) ∧
    (s.Serves l n field 0x41 0 → s.Answers l n (.cert l n tag field) tag 0x41 stOk fun t => OnlyLane l s t ∧
      (t.lane l).svc[n].payload = ((List.range 256).flatMap fun k => wordBytes (Config.cert l.num k)).take (Config.certLen l.num))

/-- R6, R7, R385, R454, R472, R475, R469: registers and tables read, a count of 0 asking for nothing and one beyond the table cut to it, and written;
operators' commands, each recorded in the event log (what each does and its entry's layout are the model's choice, assumption log 107) or, where that takes
no entry, refused; RESTART_PEER, the logs read, the safety region archived, one archive at a time (the model's choice, assumption log 157), whose anchor
comes ahead of the entries still queued (log 178). -/
def Obligations.ServiceAccess : Prop :=
  ∀ (s : State) (l : LaneId) (n : SessNo) (tag : Tag) (field : LaneField),
    let L := s.lane l
    let e := L.svcEng n
    (∀ a, s.Serves l n field 0x10 1 → (rowOf a).isSome = true → a % 4 = 0 → L.regGate (some e) a = none →
      s.Answers l n (.rdreg l n tag field a 1) tag 0x10 stOk fun t => (t.lane l).svc[n].payload = wordBytes (s.regWord l (some e) a) ++ leBytes 1 stOk) ∧
    (∀ a count, s.Serves l n field 0x10 1 → 1 ≤ count → count ≤ 64 →
      s.Answers l n (.rdreg l n tag field a count) tag 0x10 stOk fun t => (t.lane l).svc[n].payload.length = 5 * count) ∧
    (∀ a, s.Serves l n field 0x10 1 → s.Answers l n (.rdreg l n tag field a 0) tag 0x10 stNoop fun t => OnlyLane l s t) ∧
    (∀ a v, s.Serves l n field 0x11 2 → (rowOf a).isSome = true → a % 4 = 0 →
      let st := (s.toWorld.regWrite l (.eng e) a v false).2
      s.Answers l n (.wrreg l n tag field a v) tag 0x11 st fun t => (t.lane l).svc[n].payload = leBytes 1 st ∧
        ∀ k, (t.lane k).regs = ((s.toWorld.regWrite l (.eng e) a v false).1.lane k).regs) ∧
    (∀ (landing : Landing) v, s.Serves l n field 0x11 2 → s.Permits l (.eng e) (A_PRK_LANDX landing.val) v →
      s.Answers l n (.wrreg l n tag field (A_PRK_LANDX landing.val) v) tag 0x11 stOk fun t => (t.lane l).svc[n].payload = leBytes 1 stOk ∧
        (rget (t.lane l).regs (A_PRK_LANDX landing.val)).getLsbD 0 = v.getLsbD 0) ∧
    (∀ table buf first count off size k, s.Serves l n field 0x12 1 → svcTable table buf = some (off, size, k) → first < k →
      (count = 0 → s.Answers l n (.rdtab l n tag field table buf first count) tag 0x12 stNoop fun t => OnlyLane l s t) ∧
      (0 < count → s.Answers l n (.rdtab l n tag field table buf first count) tag 0x12 stOk fun t => OnlyLane l s t ∧
        (t.lane l).svc[n].payload = readBytes 0 L.tsram (off + first * size) (min (min count (k - first)) (4096 / size) * size) ∧
        (t.lane l).svc[n].flags = (if k - first < count then fgTrunc else 0) + if 4096 / size < min count (k - first) then fgMore else 0)) ∧
    (∀ table buf first data off size k, s.Serves l n field 0x13 2 → svcTable table buf = some (off, size, k) → 2 ≤ table → table ≤ 5 → data.length % size = 0 →
      first + data.length / size ≤ k →
      (L.svcSelected table buf first (data.length / size) = true → s.Answers l n (.wrtab l n tag field table buf first data) tag 0x13 svTableLive fun t =>
        (s.lane l).SameMem (t.lane l)) ∧
      (L.svcSelected table buf first (data.length / size) = false → L.gateState 4 = gOpen → s.Answers l n (.wrtab l n tag field table buf first data) tag 0x13 stOk fun t =>
        table ≠ 5 → (∀ i, i < data.length → (t.lane l).byte .table (off + first * size + i) = listGet 0 data i) ∧
          ∀ o, o < off + first * size ∨ off + first * size + data.length ≤ o → (t.lane l).byte .table o = L.byte .table o)) ∧
    (∀ (cmd : OpCmd) (landing : Landing), s.Serves l n field 0x14 1 → L.log.evN < 64 → 4 ≤ L.wer.pool.length →
      let off := 0x2C000 + 32 * ((L.log.evHead + L.log.evN) % 64)
      let done (Q : State → Prop) : Prop := s.Answers l n (.opcmd l n tag field cmd landing) tag 0x14 stOk fun t => (t.lane l).log.evN = L.log.evN + 1 ∧
        (t.lane l).ts (off + 8) = BitVec.ofNat 32 (opCmdNum cmd + 2 ^ 8 * L.svcRole n + 2 ^ 16 * landing.val) ∧ Q t
      let bit (a k : Nat) (b : Bool) : Word := setBits (L.rwWord a) k k b.toNat
      let count := bits (listGet 0 L.prk.pub 3) 31 24
      (∀ b : Bool, cmd = (if b then .lockout else .unlock) →
        let a := A_PRK_LANDX landing.val
        s.Permits l (.eng e) a (bit a 0 b) → done fun t => (rget (t.lane l).regs a).getLsbD 0 = b) ∧
      (∀ b : Bool, cmd = (if b then .park else .unpark) → s.Permits l (.eng e) A_SEL_CTRL (bit A_SEL_CTRL 0 b) →
        done fun t => (rget (t.lane l).regs A_SEL_CTRL).getLsbD 0 = b) ∧
      (∀ b : Bool, cmd = (if b then .indepOff else .indepOn) → s.Permits l (.eng e) (A_PRK_CVIEW 0) (bit (A_PRK_CVIEW 0) 18 b) →
        (s.toWorld.svcWrite l e (A_PRK_CVIEW 0) (bit (A_PRK_CVIEW 0) 18 b)).1.Permits l (.eng e) A_PRK_SLPUB (BitVec.ofNat 32 count) →
        (∀ i, i < min 128 count → slOk (slWord L i 0) (slWord L i 1) = true) →
        done fun t => (rget (t.lane l).regs (A_PRK_CVIEW 0)).getLsbD 18 = b ∧ (t.lane l).prk.seq = (L.prk.seq + 1) % 65536) ∧
      (cmd = .faultAck → (∀ d : Door, L.dorSt d ≠ dsFault) → done fun t => OnlyLane l s t) ∧
      (∀ d : Door, cmd = .faultAck → L.dorSt d = dsFault → (∀ k : Door, k ≠ d → L.dorSt k ≠ dsFault) → s.Permits l (.eng e) (A_DOR_CMD d.val) 0x80000000#32 →
        (L.f (F_DOR_STAT_FCAUSE d.val) = fcCap ∨ L.f (F_DOR_STAT_FCAUSE d.val) = fcRefTmo) → done fun t => (t.lane l).door[d].cmd = some dcClrflt)) ∧
    (∀ (cmd : OpCmd) (landing : Landing), s.Serves l n field 0x14 1 → L.evFull = true →
      s.Answers l n (.opcmd l n tag field cmd landing) tag 0x14 stQfull fun t => OnlyLane l s t ∧ (t.lane l).log = L.log) ∧
    (s.Serves l n field 0x15 2 → s.Permits l (.eng e) A_LNK_CTRL 4#32 → (L.eng[e].krole = .ins ∨ L.eng[e].krole = .mkr) → L.pstate = lsHalted →
      s.Answers l n (.serviceRestart l n tag field) tag 0x15 stOk fun t => (t.lane l).lnk.ctrlOut = L.lnk.ctrlOut ++ [CtrlMsg.restart]) ∧
    (∀ log seq count, s.Serves l n field 0x20 1 → log ≤ 2 → (count = 0 →
        s.Answers l n (.rdlog l n tag field log seq count) tag 0x20 stNoop fun t => OnlyLane l s t) ∧ (1 ≤ count → count ≤ 128 →
      let ring := L.logRing log
      let kept := (List.range' ring.2.2.2 (ring.2.2.1 - ring.2.2.2)).map fun k => L.bankGet ring.1 ring.2.1 32 k
      s.Answers l n (.rdlog l n tag field log seq count) tag 0x20 stOk fun t => OnlyLane l s t ∧
        (t.lane l).svc[n].payload = ((kept.dropWhile fun b => decide (leNat (b.take 4) < seq)).take count).flatten ∧
        ((t.lane l).svc[n].flags / fgGap % 2 = 1 ↔ 0 < ring.2.2.2 ∧ ∃ b, kept.head? = some b ∧ seq < leNat (b.take 4)))) ∧
    (∀ link, s.Serves l n field 0x21 3 → L.wer.safLink = some link → L.f F_SEB_SESS_STATE = 0 →
      (L.log.archiving = false → s.Starts l n (.archive l n tag field link) tag 0x21 fun M => M.log.archiving = true) ∧
      (L.log.archiving = true → s.Answers l n (.archive l n tag field link) tag 0x21 sysSessBusy fun t => OnlyLane l s t)) ∧
    (L.up (.eng 10) = true → L.eng[10].phase = .running → L.log.archiving = true →
      Does (.archiveComplete l) s fun t => (t.lane l).log.archiving = false ∧ (t.lane l).wer.safN = 1 ∧
        t.sup.seqSaf[laneIx l] = (s.sup.seqSaf[laneIx l] + 1) % 2 ^ 32 ∧ (t.lane l).wer.safSeq = some (L.anchorSeq s.sup.seqSaf[laneIx l] % 2 ^ 32) ∧
        (L.svcBusyOp 0x21 = some n → (t.lane l).svc[n].busy = none ∧ (t.lane l).svc[n].status = stOk) ∧
        (L.svcBusyOp 0x21 = none → (t.lane l).svc = L.svc))

/-- R6, R7, R404 to R406, R474, R480: the image begun, its length cut to the slot's, a block of it, the commit and the abort, served by the holder's
firmware and by the loader, one block at a time (the model's choice, assumption log 157); ATTEST and the report's end, signed by ECDSA over its
SHA-256 (key and secret number free, assumption log 103). -/
def Obligations.ServiceImagesAndReports : Prop :=
  ∀ (s : State) (l : LaneId) (n : SessNo) (tag : Tag) (field : LaneField),
    let L := s.lane l
    let e := L.svcEng n
    let loader := L.b F_LNK_UPDSTAT_LOADER = true
    (s.Serves l n field 0x30 3 → s.Answers l n (.imgbegin l n tag field 0) tag 0x30 stNoop fun t => OnlyLane l s t) ∧
    (∀ len, s.Serves l n field 0x30 3 → 0 < len →
      let cut (t : State) : Prop := (t.lane l).img.len = min len 0x300000 ∧ (t.lane l).svc[n].flags = if 0x300000 < len then fgTrunc else 0
      (loader → s.Answers l n (.imgbegin l n tag field len) tag 0x30 stOk fun t => (t.lane l).img.active = true ∧ cut t ∧
        ∀ i, i < 0x300000 → (t.lane l).byte .flash i = 0xFF#8) ∧
      (¬ loader → s.Permits l (.eng e) A_LNK_UPD 1#32 → L.lnk.updActive = false → L.partnerElig = true → L.spgSt = spgIdle → L.ps 0 = psOff → L.ps 1 = psOff →
        s.Answers l n (.imgbegin l n tag field len) tag 0x30 stOk fun t => (t.lane l).img.active = true ∧ cut t ∧ (t.lane l).img.acked = [] ∧
          (t.lane l).lnk.updActive = true ∧ (t.lane l).lnk.ctrlOut = L.lnk.ctrlOut ++ [CtrlMsg.updateStart])) ∧
    (∀ off data crc, s.Serves l n field 0x31 3 → L.img.active = true → off % 4096 = 0 → off < L.img.len → data ≠ [] → data.length ≤ 4096 →
      L.img.acked.contains off = false →
      (L.img.sent.isSome = true → s.Answers l n (.imgblock l n tag field off data crc) tag 0x31 sysSessBusy fun t => OnlyLane l s t ∧ (t.lane l).img = L.img) ∧
      (L.img.sent = none → loader → crc32 data = crc → off + data.length ≤ 0x300000 → s.Answers l n (.imgblock l n tag field off data crc) tag 0x31 stOk fun t =>
        (t.lane l).img.acked = off :: L.img.acked ∧ ∀ i, i < data.length → (t.lane l).byte .flash (off + i) = listGet 0 data i) ∧
      (L.img.sent = none → ¬ loader → s.Starts l n (.imgblock l n tag field off data crc) tag 0x31 fun M =>
        M.lnk.updOut = some (off, data, crc) ∧ M.lnk.updPos = 0 ∧ M.img.sent = some off)) ∧
    (s.Serves l n field 0x32 3 → L.img.whole = true →
      (loader → L.phase ≠ .off → s.Answers l n (.imgcommit l n tag field) tag 0x32 stOk fun t => (t.lane l).phase = .reset ∧
        ∃ c q, bootCopy c (t.lane l) = some (q, 0)) ∧
      (¬ loader → s.Permits l (.eng e) A_LNK_UPD 2#32 → L.lnk.updActive = true →
        s.Answers l n (.imgcommit l n tag field) tag 0x32 stOk fun t => (t.lane l).img.active = false ∧ (t.lane l).lnk.updActive = false ∧
          (t.lane l).lnk.ctrlOut = L.lnk.ctrlOut ++ [CtrlMsg.updateCommit] ∧ (t.lane l).svc[n].payload = wordBytes (rget (t.lane l).regs A_LNK_UPDSTAT))) ∧
    (s.Serves l n field 0x33 3 →
      (loader → L.img.active = true → s.Answers l n (.imgabort l n tag field) tag 0x33 stOk fun t => (t.lane l).img.active = false) ∧
      (¬ loader → s.Permits l (.eng e) A_LNK_UPD 3#32 → L.lnk.updActive = true →
        s.Answers l n (.imgabort l n tag field) tag 0x33 stOk fun t => (t.lane l).img.active = false ∧ (t.lane l).lnk.updActive = false)) ∧
    (∀ nonce : Bytes, s.Serves l n field 0x40 0 → 8 ≤ nonce.length → nonce.length ≤ 32 →
      (L.b F_MEA_STAT_BUSY = true → s.Starts l n (.attest l n tag field nonce) tag 0x40 fun M => M.svc[n].nonce = some nonce) ∧
      (L.b F_MEA_STAT_BUSY = false → (∀ k, k < 8 → s.Permits l (.eng e) (A_MEA_NONCE k) (listGet 0 (bytesWords 8 nonce) k)) →
        s.Permits l (.eng e) A_MEA_CTRL (BitVec.ofNat 32 (0x10000000 + nonce.length * 256)) →
        s.Starts l n (.attest l n tag field nonce) tag 0x40 fun M => M.b F_MEA_STAT_BUSY = true ∧ ∃ b, M.mea.forming = some b ∧ b.length = 320 ∧
          (b.drop 32).take nonce.length = nonce)) ∧
    (∀ b, L.up .mea = true → L.mea.forming = some b → (∀ m : SessNo, L.svc[m].nonce = none) →
      Does (.signComplete l) s fun t => t.freeCtr = s.freeCtr + 1 ∧ (t.lane l).mea.forming = none ∧ (t.lane l).b F_MEA_STAT_BUSY = false ∧
        (t.lane l).b F_MEA_STAT_DONE = true ∧
        (b.length = 320 → regBytes (t.lane l) (A_MEA_REPORT 0) 96 = b ++ ecdsaSign (Config.attestKey l.num) (Config.signSecret s.freeCtr) (sha256 b)) ∧
        ∀ m : SessNo, L.svc[m].busy.map (·.2) = some 0x40 → (∀ k : SessNo, k < m → L.svc[k].busy.map (·.2) ≠ some 0x40) →
          (t.lane l).svc[m].busy = none ∧ (t.lane l).svc[m].payload = regBytes (t.lane l) (A_MEA_REPORT 0) 96)

/-- R478 to R480, R483, R484: the debug port opened and closed, HALT, STEP, RUN, memory and registers read and written through it; SIGN. -/
def Obligations.DebugAndMeasurement : Prop :=
  ∀ (s : State) (l : LaneId) (wr : Writer) (e : Eng) (a : Nat) (v : Word),
    let L := s.lane l
    let port := L.spine = true ∧ L.b F_SYS_DBGCTL_DBGON = true
    let answer (M : Lane) (op st : Nat) : Prop := M.dbgp.op = op ∧ M.dbgp.status = st
    (s.Permits l wr A_SYS_DBGCTL 0x80000000#32 → L.b F_SYS_DBGCTL_EN = false → L.holder = true → L.lnk.hbLost = false → L.pstate ≠ lsUpdate →
      s.Writes l wr (.dbgctlWrite l wr true) fun M => M.b F_SYS_DBGCTL_EN = true ∧ M.lnk.ctrlOut = L.lnk.ctrlOut ++ [CtrlMsg.debugOn]) ∧
    (s.Permits l wr A_SYS_DBGCTL 0x80000000#32 → L.holder = true → (L.lnk.hbLost = true ∨ L.pstate = lsUpdate) →
      Does (.dbgctlWrite l wr true) s fun t => t.KlastIs l wr sysDbgRefused ∧ (t.lane l).b F_SYS_DBGCTL_EN = L.b F_SYS_DBGCTL_EN ∧ (t.lane l).lnk = L.lnk) ∧
    (s.Permits l wr A_SYS_DBGCTL 0#32 → L.b F_SYS_DBGCTL_EN = true → L.holder = true →
      s.Writes l wr (.dbgctlWrite l wr false) fun M => M.b F_SYS_DBGCTL_EN = false ∧ M.lnk.ctrlOut = L.lnk.ctrlOut ++ [CtrlMsg.debugOff]) ∧
    (port → s.Acts l (.debugHalt l e) fun M => M.eng[e].halted = true ∧ answer M 0x60 stOk ∧ ∀ k : Eng, k ≠ e → M.eng[k] = L.eng[k]) ∧
    (port → s.Acts l (.debugRun l e) fun M => M.eng[e].halted = false ∧ answer M 0x62 stOk ∧ ∀ k : Eng, k ≠ e → M.eng[k] = L.eng[k]) ∧
    (port → L.eng[e].halted = false → s.Acts l (.debugStep l e) fun M => M.eng = L.eng ∧ answer M 0x61 stNoop) ∧
    (port → L.eng[e].halted = true → L.up (.eng e) = true → L.eng[e].phase = .running → L.waitOver e = true →
      Does (.debugStep l e) s fun t => t.toWorld = (s.toWorld.kStep l e).updLane l (dbgAnswer 0x61 stOk [])) ∧
    (port → OwnWords e a 1 → L.ue.contains a = false →
      s.Acts l (.rdmem l a) fun M => answer M 0x63 stOk ∧ M.dbgp.payload = wordBytes (s.ownWord l e a) ∧ L.SameMem M) ∧
    (port → a % 4 = 0 → tsBase ≤ a → a < tsBase + 0x180000 → L.ue.contains a = false →
      s.Acts l (.rdmem l a) fun M => answer M 0x63 stOk ∧ M.dbgp.payload = wordBytes (L.ts (a - tsBase)) ∧ L.SameMem M) ∧
    (port → a % 4 = 0 → (rowOf a).isSome = true → L.regGate none a = none → L.ue.contains a = false →
      Does (.rdmem l a) s fun t => answer (t.lane l) 0x63 stOk ∧ (t.lane l).dbgp.payload = wordBytes (s.regWord l none a)) ∧
    (port → OwnWords e a 1 →
      s.Acts l (.wrmem l a v) fun M => answer M 0x64 stOk ∧ (∀ i, i < 4 → M.byte (.ram e) (a - engBase e + i) = listGet 0 (wordBytes v) i) ∧
        ∀ m o, ¬ (m = Space.ram e ∧ a - engBase e ≤ o ∧ o < a - engBase e + 4) → M.byte m o = L.byte m o) ∧
    (port → a % 4 = 0 → (rowOf a).isSome = true →
      Does (.wrmem l a v) s fun t => answer (t.lane l) 0x64 (s.toWorld.regWrite l .dbg a v false).2) ∧
    (∀ nlen : NonceLen, s.Permits l wr A_MEA_CTRL (BitVec.ofNat 32 (0x10000000 + nlen.val * 256)) → 1 ≤ nlen.val → nlen.val ≤ 32 → L.b F_MEA_STAT_BUSY = false →
      s.Writes l wr (.sign l wr nlen) fun M => M.b F_MEA_STAT_BUSY = true ∧ M.b F_MEA_STAT_DONE = false ∧ ∃ b, M.mea.forming = some b ∧ b.length = 320 ∧
        (b.drop 32).take nlen.val = (regBytes L (A_MEA_NONCE 0) 8).take nlen.val ∧ b.drop 64 = regBytes L (A_MEA_PCR 0 0) 64)

/-- R20, R479, R506: a general output, a test-pulse schedule or the keep-alive is written by the holder alone, the other lane's write is refused with
NOT_HOLDER and changes neither the field die nor a register of the lane; EXTEND is accepted from E0 alone and for PCR5 to PCR7, with the digest in
MEA_EXTD, and else refused with ROLE_DENIED or MEA_LOCKED; the flash address and data registers are not written while a command is in progress, which
goes on. -/
def Obligations.CommandsRefusedByTheirRules : Prop :=
  ∀ (s : State) (l : LaneId) (wr : Writer) (r : Region),
    let L := s.lane l
    let kept : Instr → Prop := fun c => Does c s fun t => t.KlastIs l wr stNotHolder ∧ t.fd = s.fd ∧ (t.lane l).regs = L.regs
    (∀ a ∈ [A_FIO_OUT, A_FIO_TPCFG0, A_FIO_TPCFG1, A_FIO_KEEPALIVE], ∀ v,
      L.writerLive wr = true → (∀ e, L.writerEng wr = some e → L.eng[e].sbuf = []) → L.regGate (L.writerEng wr) a = none → s.regRights l wr a v = none →
      (a = A_FIO_KEEPALIVE ∨ legalWord a v = true) → L.holder = false →
      kept (.registerWrite l wr a v) ∧ (∀ b : Byte, a = A_FIO_OUT → v = b.zeroExtend 32 → kept (.fioOutWrite l wr b)) ∧
        ∀ k : Byte, a = A_FIO_KEEPALIVE → v = k.zeroExtend 32 → kept (.keepalive l wr k)) ∧
    (∀ pcr : PcrNo, s.Permits l (.eng 0) A_MEA_CTRL (BitVec.ofNat 32 (0x20000000 + pcr.val)) →
      (5 ≤ pcr.val → s.Writes l (.eng 0) (.extend l (.eng 0) pcr) fun M =>
        regBytes M (A_MEA_PCR pcr.val 0) 8 = sha256 (regBytes L (A_MEA_PCR pcr.val 0) 8 ++ regBytes L (A_MEA_EXTD 0) 8) ∧
        ∀ p, p < 8 → p ≠ pcr.val → regBytes M (A_MEA_PCR p 0) 8 = regBytes L (A_MEA_PCR p 0) 8) ∧
      (pcr.val < 5 → Does (.extend l (.eng 0) pcr) s fun t => t.KlastIs l (.eng 0) meaLocked ∧
        ∀ p, p < 8 → regBytes (t.lane l) (A_MEA_PCR p 0) 8 = regBytes L (A_MEA_PCR p 0) 8)) ∧
    (∀ pcr : PcrNo, s.Permits l wr A_MEA_CTRL (BitVec.ofNat 32 (0x20000000 + pcr.val)) → L.writerEng wr ≠ some 0 →
      Does (.extend l wr pcr) s fun t => t.KlastIs l wr stRoleDenied ∧ ∀ p, p < 8 → regBytes (t.lane l) (A_MEA_PCR p 0) 8 = regBytes L (A_MEA_PCR p 0) 8) ∧
    (∀ (reg : NvmReg) v,
      let a := if reg.val = 0 then A_NVM_ADDR r.val else A_NVM_DATA r.val (reg.val - 1)
      s.Permits l wr a v → L.b (F_NVM_STAT_BUSY r.val) = true → Does (.nvmAddrWrite l wr r reg v) s fun t => t.KlastIs l wr nvmBusy ∧
        (t.lane l).regs = L.regs ∧ (t.lane l).bg.nvm = L.bg.nvm)

/-- R4, R485 to R488, R496 to R501, R529, Table 1.5: supplies and pins, Carrier resets and Lane resets with their causes. -/
def Obligations.SuppliesAndLaneResets : Prop :=
  ∀ (s : State) (l : LaneId),
    let p := s.sup
    let live := p.off = false
    let resets (c : Instr) (bit : Nat) : Prop := Does c s fun t => t.fd = {} ∧
      ∀ k, (t.lane k).phase = .reset ∧ (t.lane k).flash = (s.lane k).flash ∧ t.sup.rstCause[laneIx k].getLsbD bit = true
    let laneResets (c : Instr) (k : LaneId) (bit : Nat) : Prop := (s.lane k).phase ≠ .off → Does c s fun t =>
      (t.lane k).phase = .reset ∧ (t.lane k).flash = (s.lane k).flash ∧ t.sup.rstCause[laneIx k].getLsbD bit = true ∧ t.fd = s.fd ∧
      (t.lane k.other).phase = (s.lane k.other).phase ∧
      ((s.lane k.other).spine = true → (t.lane k.other).gateState 5 = gClosed ∧ (t.lane k.other).b F_SYS_DBGCTL_DBGON = false)
    (∀ pos, Does (.powerOnReset pos) s fun t => t.fd = {} ∧ t.sup.off = false ∧ t.sup.rstCause[laneIx l].getLsbD rbPor = true ∧
      (t.lane l).phase = .reset ∧ (t.lane l).flash = (s.lane l).flash ∧ (t.lane l).pos = pos) ∧
    Does .powerOff s (fun t => t.sup.off = true ∧ ∀ k, (t.lane k).phase = .off ∧ (t.lane k).flash = (s.lane k).flash ∧ (t.lane k).bg.spares = (s.lane k).bg.spares) ∧
    (live → Does .powerLossWarning s fun t => getB t.sup.regs F_PWR_STAT_PLW_S = true ∧
      (p.hush = false → getB t.sup.regs F_PWR_STAT_PLW = true ∧ ∀ k, (s.lane k).spine = true → (t.lane k).wer.plDue = true)) ∧
    (live → p.hush = true → Does .powerLossWarning s fun t => t = { s with sup := { s.sup with regs := setF s.sup.regs F_PWR_STAT_PLW_S 1 } }) ∧
    Does .powerLossWarningEnd s (fun t => getB t.sup.regs F_PWR_STAT_PLW = false ∧ ∀ k, t.lane k = s.lane k) ∧
    (live → p.hush = false → Does .brownOut s fun t => t.sup.bor = true ∧ getB t.sup.regs F_PWR_STAT_BOR_S = true ∧
      ∀ k, (s.lane k).phase ≠ .off → (t.lane k).phase = .reset ∧ t.sup.rstCause[laneIx k].getLsbD rbCoreSupply = true) ∧
    (live → p.hush = true → Does .brownOut s fun t => t = { s with sup := { s.sup with bor := true } }) ∧
    Does .brownOutRecovery s (fun t => t.sup.bor = false ∧ ∀ k, t.lane k = s.lane k) ∧
    (live → getB p.regs F_PWR_STAT_HOLD = false → resets .xresLow rbXres ∧ Does .xresLow s fun t => t.sup.xres = true) ∧
    Does .xresRelease s (fun t => t.sup.xres = false ∧ ∀ k, t.lane k = s.lane k) ∧
    (p.xres = true → Does .resetHold s fun t => t.sup.xres = false ∧ getB t.sup.regs F_PWR_STAT_HOLD = true ∧ getB t.sup.regs F_PWR_STAT_RSTSTUCK_S = true) ∧
    (live → getB p.regs F_PWR_STAT_HOLD = true → resets .holdEnd rbXres ∧ Does .holdEnd s fun t => getB t.sup.regs F_PWR_STAT_HOLD = false) ∧
    (live → resets (.carrierReset .supervisor) rbSupv ∧ resets (.carrierReset .hoopFault) rbHoopFault ∧ ∀ c, Does (.carrierReset c) s fun t =>
      t.sup.bor = p.bor ∧ getB t.sup.regs F_PWR_STAT_HOLD = getB p.regs F_PWR_STAT_HOLD) ∧
    laneResets (.laneReset l .coreSupply) l rbCoreSupply ∧ laneResets (.laneReset l .pllLoss) l rbPllLoss ∧ laneResets (.laneReset l .sebFault) l rbSebFlt ∧
    laneResets (.pllLoss l) l rbPllLoss ∧ (3 ≤ (s.lane l).coreLow → laneResets (.coreSupplyFault l) l rbCoreSupply) ∧
    ((s.lane l).coreLow < 3 → Does (.coreSupplyFault l) s fun t => t = s) ∧
    ((s.lane l).phase = .reset → live → p.bor = false → p.xres = false → p.hush = false →
      s.Acts l (.laneResetEnd l) fun M => M.phase = .waitPll ∧ M.lnk.fWait = true) ∧
    ((s.lane l).phase = .waitPll → Does (.pllLock l) s fun t => (t.lane l).phase = .run ∧ t.lane l.other = s.lane l.other ∧ t.fd = s.fd ∧
      t.sup = { p with waking := p.waking && !(s.lane l.other).spine } ∧
      (l = .a → (s.lane l).lnk.hbSeen = none → (t.lane l).fclk = 0 ∧ (t.lane l).lnk.fWait = false))

/-- R40 to R43, R490 to R495: Doze and Run again, the entry into Hush and its end, what wakes the part, a source counted while the lanes start,
PWR_WAKESTAT; an iteration of the core-voltage adaptation, with the calibration E9 left (how that acts on a slack is the model's reading, assumption
log 127, DEDUCED), with the deadline term where DL_MIN is not 0. -/
def Obligations.PowerStates : Prop :=
  ∀ (s : State) (l : LaneId) (wr : Writer),
    let L := s.lane l
    let p := s.sup
    let shows (t : State) (st : Nat) : Prop := ∀ k, (s.lane k).spine = true → (t.lane k).f F_PWR_STAT_STATE = st
    (s.Permits l wr A_PWR_CTRL 1#32 → p.entering = false → L.f F_PWR_STAT_STATE ≠ pwrDoze → s.dozeOk l = true →
      Does (.doze l wr) s fun t => t.KlastIs l wr stOk ∧ shows t pwrDoze) ∧
    (s.Permits l wr A_PWR_CTRL 3#32 → L.f F_PWR_STAT_STATE = pwrDoze → Does (.pwrRun l wr) s fun t => t.KlastIs l wr stOk ∧ shows t pwrRun) ∧
    (s.Permits l wr A_PWR_CTRL 2#32 → p.entering = false → s.hushOk l = true →
      Does (.hush l wr) s fun t => t.KlastIs l wr stOk ∧ shows t pwrEntering ∧ t.sup.entering = true ∧ getB t.fd.regs F_FIO_STAT_FORCED = true ∧
        (t.lane l).lst ≠ lsActive) ∧
    (p.entering = true → Does .hushEntered s fun t => t.sup.hush = true ∧ t.sup.entering = false ∧
      ∀ k, (t.lane k).phase = .off ∧ (t.lane k).flash = (s.lane k).flash) ∧
    (∀ src cause ix,
      let hold : LaneId := if s.fd.hoop = 2 then .b else .a
      let H := s.lane hold
      let doze : Bool := H.spine && H.dozing
      let set := if doze then p.regs else p.wake
      let seen (t : State) : Prop := getF p.regs F_PWR_WAKESTAT_CAUSE = 0 → getF t.sup.regs F_PWR_WAKESTAT_CAUSE = cause ∧ getF t.sup.regs F_PWR_WAKESTAT_INDEX = ix
      let mode (n : Port) : Prop := (if doze then H.f (F_CAN_WAKECFG_WMODE n) else getF p.wake (F_CAN_WAKECFG_WMODE n)) = 1
      p.off = false →
      ((∃ n : Port, src = .can n .edge ∧ getBit set F_PWR_WAKECFG_CAN n.val = true ∧ mode n ∧ cause = 1 ∧ ix = n.val) ∨
        (∃ n, src = .field n ∧ getBit set F_PWR_WAKECFG_FI n.val = true ∧ cause = 3 ∧ ix = n.val) ∨
        (src = .vbus ∧ getB set F_PWR_WAKECFG_USB = true ∧ cause = 4 ∧ ix = 0) ∨
        (src = .wakeL ∧ getB set F_PWR_WAKECFG_WAKEL = true ∧ cause = 5 ∧ ix = 0)) →
      (doze = true → p.entering = false → p.hush = false → Does (.wakeSource src) s fun t => shows t pwrRun ∧ seen t) ∧
      (p.entering = true → p.hush = false →
        Does (.wakeSource src) s fun t => shows t pwrRun ∧ seen t ∧ t.sup.entering = false ∧ getB t.sup.regs F_PWR_STAT_ENTABT_S = true) ∧
      (p.hush = true → Does (.wakeSource src) s fun t => seen t ∧ t.sup.hush = false ∧ getB t.sup.regs F_PWR_STAT_WAKE_S = true ∧
        ∀ k, (t.lane k).phase = .reset ∧ t.sup.rstCause[laneIx k].getLsbD rbWake = true) ∧
      (doze = false → p.entering = false → p.hush = false → s.waking = true → Does (.wakeSource src) s fun t => seen t ∧ ∀ k, t.lane k = s.lane k)) ∧
    (∀ v, s.Permits l wr A_PWR_WAKESTAT v → Does (.pwrWakestatWrite l wr v) s fun t => t.KlastIs l wr stOk ∧ rget t.sup.regs A_PWR_WAKESTAT = 0) ∧
    (∀ ctrl group port keep spine,
      let K := L.calTake 4
      let cal (x : Nat) : Nat := (K.calGain 4 (x : Int)).toNat
      let sl := min (cal ctrl) (min (cal group) (min (cal port) (min (cal keep) (cal spine))))
      let vc := L.f F_AVS_STAT_VCODE
      let hi := L.f F_AVS_VLIM_VMAX
      let lo := L.f F_AVS_VLIM_VMIN
      let tgt := L.f F_AVS_CTRL_SLACK_TGT
      let dl := L.f F_AVS_CTRL_DL_MIN
      let margin := L.dlMargin.getD (L.f F_AVS_STAT_DLMARGIN)
      let short : Prop := sl < tgt ∨ (0 < dl ∧ margin < dl)
      let ample : Prop := tgt + L.f F_AVS_CTRL_HYST ≤ sl ∧ (dl = 0 ∨ dl + L.f F_AVS_CTRL_HYST ≤ margin)
      L.spine = true → lo ≤ hi →
      s.Acts l (.avsIteration l ctrl group port keep spine) fun M =>
        M.f F_AVS_STAT_SLACK = min 100 sl ∧ M.f F_AVS_SLKMIN_MIN = min sl (L.f F_AVS_SLKMIN_MIN) ∧ M.f F_AVS_STAT_DLMARGIN = min 255 margin ∧ M.dlMargin = none ∧
        (sl < 10 → M.f F_AVS_STAT_VCODE = max lo (min (vc + 20) hi) ∧ M.b F_AVS_STAT_FAST = true) ∧
        (10 ≤ sl → short → M.f F_AVS_STAT_VCODE = max lo (min (vc + 4) hi) ∧ M.b F_AVS_STAT_FAST = false) ∧
        (10 ≤ sl → ¬ short → ample → M.f F_AVS_STAT_VCODE = max lo (min (vc - 1) hi) ∧ M.b F_AVS_STAT_FAST = false) ∧
        (10 ≤ sl → ¬ short → ¬ ample → M.f F_AVS_STAT_VCODE = vc ∧ M.b F_AVS_STAT_FAST = L.b F_AVS_STAT_FAST) ∧
        (sl < 15 → M.b F_AVS_STAT_LOW_S = true) ∧ (short → M.f F_AVS_STAT_VCODE = hi → M.b F_AVS_STAT_CEIL_S = true) ∧
        (¬ short ∨ M.f F_AVS_STAT_VCODE ≠ hi → M.b F_AVS_STAT_CEIL_S = L.b F_AVS_STAT_CEIL_S) ∧ (M.coreLow = if sl < 8 then L.coreLow + 1 else 0) ∧ M.bg.calNext[(4 : Fin 5)] = none)

/-- R4, R23 to R26, R31 to R38, Table 1.6, Table 1.9: Block resets and Quarter resets by faults and, whatever came before, on request, the lane-logic
restart; a gate reopens; a crossing reopens, its events and toggles; a late reply counted. -/
def Obligations.ResetsGatesAndCrossings : Prop :=
  ∀ (s : State) (l : LaneId) (wr : Writer) (q : Quarter) (b : Block),
    let L := s.lane l
    let fresh (k : Block) : Prop := L.spine = true ∧ L.held k.quarter = false
    let before := recent s.time 1000000 L.blkHist[blkIx b]
    let blockIs (c : Instr) (cause : Nat) : Prop := fresh b → before.length < 3 → Does c s fun t =>
      let M := t.lane l
      M.f (F_SYS_BLKSTAT_RSTCNT b.num) = min 255 (L.f (F_SYS_BLKSTAT_RSTCNT b.num) + 1) ∧ M.f (F_SYS_BLKSTAT_CAUSE b.num) = cause ∧
      M.f (F_SYS_BLKSTAT_ESC b.num) = before.length + 1 ∧ M.blkHist[blkIx b] = s.time :: before ∧ t.fd = s.fd ∧ t.lane l.other = s.lane l.other ∧
      (∀ e, b = .eng e → M.eng[e].ram = [] ∧ M.eng[e].krole = .none ∧ M.eng[e].core.ksr = L.eng[e].core.ksr &&& 0x700#32 ∧
        M.eng[e].phase = (if e.val < 8 ∧ L.engRun e = true then .reloading else .stopped))
    let few : Prop := (recent s.time 10000000 L.qHist[q.num]!).length < 2
    let quarterIs (c : Instr) : Prop := L.spine = true → L.held q = false →
      ((q = .keeping ∨ s.fd.heldBy l = false) → Does c s fun t => (t.lane l).gateState q.num = gClosed ∧ (t.lane l).gateCause q.num = gcReset ∧
        t.sup.rstCause[laneIx l].getLsbD (8 + q.num) = true) ∧
      (q ≠ .keeping → s.fd.heldBy l = true → L.lst = lsActive → Does c s fun t => (t.lane l).lst = lsFailed ∧ (t.lane l).due.contains (.quarter q) = true ∧
        (t.lane l).gateState q.num = L.gateState q.num)
    blockIs (.blockReset l b) bcSelfCheck ∧ blockIs (.blockHandshakeTimeout l b) bcHandshake ∧
    (few → quarterIs (.ringStall l q) ∧ quarterIs (.quarterReset l q)) ∧
    (s.Permits l wr A_SYS_RSTREQ (BitVec.ofNat 32 (0x5A000000 + q.num + 1)) → quarterIs (.requestQuarterReset l wr q)) ∧
    (s.Permits l wr A_SYS_RSTREQ 0x5A000005#32 → Does (.requestLogicRestart l wr) s fun t => (t.lane l).due.contains .restart = true ∧
      (s.fd.heldBy l = true → L.lst = lsActive → (t.lane l).lst = lsFailed)) ∧
    (L.due.contains .restart = true → s.fd.heldBy l = false → Does (.laneLogicRestart l) s fun t => (t.lane l).due.contains .restart = false ∧
      t.sup.rstCause[laneIx l].getLsbD rbLogicRestart = true ∧ ∀ k : Quarter, (t.lane l).gateState k.num = gClosed) ∧
    (∀ g : GateNo, L.spine = true → L.gateState g.val ≠ gOpen → (g.val < 4 → L.lst ≠ lsHalted ∧ L.lst ≠ lsUpdate) → (g.val = 5 → (s.lane l.other).spine = true) →
      let alone : Prop := ∀ k : Quarter, k.num ≠ g.val → L.held k = false
      (4 ≤ g.val → s.Acts l (.gateReopen l g) fun M => M.gateState g.val = gOpen) ∧
      (g.val < 4 → alone → s.Acts l (.gateReopen l g) fun M => M.gateState g.val = gOpen ∧
        ∀ k : Quarter, L.gateState k.num = gReopening → M.gateState k.num = gOpen) ∧
      (g.val < 4 → ¬ alone → s.Acts l (.gateReopen l g) fun M => M.gateState g.val = gReopening)) ∧
    (∀ n : XingNo, L.spine = true →
      (L.xing[n].coreReset = true → L.xing[n].islandReset = false → s.Acts l (.crossingReady l n true) fun M => M.xOpen n.val = true ∧ M.xing[n].coreReset = false) ∧
      (L.xing[n].islandReset = true → L.xing[n].coreReset = false → s.Acts l (.crossingReady l n false) fun M => M.xOpen n.val = true ∧ M.xing[n].islandReset = false) ∧
      (L.xing[n].coreReset = true → L.xing[n].islandReset = true → s.Acts l (.crossingReady l n true) fun M => M.xOpen n.val = L.xOpen n.val) ∧
      (∀ code, isP n = true → L.xOpen n.val = true →
        (L.xing[n].busy = false → s.Acts l (.pCrossingEvent l n code) fun M => M.xing[n].busy = true ∧ M.xing[n].acc = L.xing[n].acc ∧
          (n.val = 16 → M.spg.ticks = L.spg.ticks + 1) ∧ (n.val = 17 → M.bob.ticks = L.bob.ticks + 1)) ∧
        (L.xing[n].busy = true → L.xing[n].acc < 15 → s.Acts l (.pCrossingEvent l n code) fun M => M.xing[n].acc = L.xing[n].acc + 1 ∧
          M.xing[n].code = L.xing[n].code ||| code % 2 ^ 16) ∧
        (L.xing[n].busy = true → L.xing[n].acc = 15 → s.Acts l (.pCrossingEvent l n code) fun M => M.xing = L.xing ∧
          (if n.val < 32 then getBit M.regs F_XCR_OVF0_OVF_S n.val else getBit M.regs F_XCR_OVF1_OVF_S (n.val - 32)) = true)) ∧
      (L.xing[n].busy = true → s.Acts l (.toggleReturn l n) fun M => M.xing[n].acc = 0 ∧ M.xing[n].busy = decide (0 < L.xing[n].acc) ∧
        (n.val = 16 → M.spg.ticks = L.spg.ticks + L.xing[n].acc) ∧ (n.val = 17 → M.bob.ticks = L.bob.ticks + L.xing[n].acc))) ∧
    (L.spine = true → s.Acts l (.staleReply l) fun M => M.f F_SYS_DGCNT_LATE = min 65535 (L.f F_SYS_DGCNT_LATE + 1))

/-- R59 to R63, R75, R403, R404, R478: an engine started and stopped by E0, reloaded and entered; the boot ROM's start, into firmware and into the
loader; a background engine's start. -/
def Obligations.EnginesStartAndStop : Prop :=
  ∀ (s : State) (l : LaneId) (n : FgEng),
    let L := s.lane l
    let e := fgEng n
    let bgRun : Prop := ∀ k : BgEng, ∀ g : Eng, g.val = 8 + k.val → L.eng[g].phase = .running
    let runWord (on : Nat) : Word := setBits (setBits (L.rwWord A_SYS_ENGCTL) 31 24 0xA5) n.val n.val on
    let loaded (M : Lane) (k : Eng) (base : Nat) : Prop :=
      let w (o : Nat) := L.flashWord (base + 0x10 + 16 * k.val + o)
      0 < w 4 → w 8 + w 4 ≤ engSize k →
        M.eng[k].phase = .running ∧ M.eng[k].pc = BitVec.ofNat 32 (engBase k + w 12) ∧ M.eng[k].core.w[14] = BitVec.ofNat 32 (engBase k + engSize k) ∧
        ∀ i, i < w 4 → M.byte (.ram k) (w 8 + i) = L.byte .flash (base + w 0 + i)
    (s.Permits l (.eng 0) A_SYS_ENGCTL (runWord 1) → n.val ≠ 0 → L.eng[e].phase = .stopped →
      Does (.engineStart l (.eng 0) n) s fun t => (t.lane l).eng[e].phase = .reloading ∧ (t.lane l).engRun e = true) ∧
    (s.Permits l (.eng 0) A_SYS_ENGCTL (runWord 0) → n.val ≠ 0 → L.engRun e = true →
      Does (.engineStop l (.eng 0) n) s fun t => (t.lane l).eng[e].phase = .stopped ∧ (t.lane l).engRun e = false) ∧
    (L.up (.eng e) = true → n.val ≠ 0 → L.eng[e].phase = .reloading → s.Acts l (.reloadEntry l n) fun M => loaded M e L.slotBase ∧
      (L.flashWord (L.slotBase + 0x10 + 16 * e.val + 4) = 0 → M.eng[e].phase = .stopped ∧ M.engRun e = false)) ∧
    (L.up (.eng 0) = true → L.eng[0].phase = .reloading → s.Acts l (.e0WarmEntry l) fun M =>
      (L.b F_LNK_UPDSTAT_LOADER = false → loaded M 0 L.slotBase) ∧
      (L.b F_LNK_UPDSTAT_LOADER = true → M.eng[0].phase = .running ∧ M.eng[0].pc = 0)) ∧
    (∀ sl fb nr, L.up (.eng 0) = true → L.eng[0].phase = .stopped → L.b F_MEA_STAT_LOCK = false → bgRun → bootChoose L = (some sl, fb, nr) →
      s.Acts l (.bootRomStart l) fun M => M.b F_MEA_STAT_LOCK = true ∧ M.f F_LNK_UPDSTAT_SLOT = sl ∧ M.b F_LNK_UPDSTAT_BOOTFB = fb ∧
        M.b F_LNK_UPDSTAT_NOREC = nr ∧ M.b F_LNK_UPDSTAT_LOADER = false ∧ loaded M 0 (slotOff sl)) ∧
    (∀ fb nr, L.up (.eng 0) = true → L.eng[0].phase = .stopped → L.b F_MEA_STAT_LOCK = false → bgRun → bootChoose L = (none, fb, nr) →
      s.Acts l (.bootRomStart l) fun M => M.b F_MEA_STAT_LOCK = true ∧ M.b F_LNK_UPDSTAT_LOADER = true ∧ M.eng[0].phase = .running ∧ M.eng[0].pc = 0 ∧
        M.lnk.ready = true) ∧
    (∀ (k : BgEng) (g : Eng), g.val = 8 + k.val → L.up (.eng g) = true → L.eng[g].phase = .stopped →
      s.Acts l (.bgEngineStart l k) fun M => M.eng[g].phase = .running ∧ M.eng[g].pc = Config.bgEntry g.val ∧ getBit M.regs F_SYS_ENGCTL_BGRUN k.val = true)

/-- R69 to R90, R435, R464, R465, R504, R512: what the background engines do: scrubbing, flash refresh, calibration, the wear counters, the logs,
telemetry and the snoop port. -/
def Obligations.BackgroundEngines : Prop :=
  ∀ (s : State) (l : LaneId) (wr : Writer),
    let L := s.lane l
    let on (e : Eng) : Prop := L.up (.eng e) = true ∧ L.eng[e].phase = .running
    let head := readBytes 0 L.tsram (0x2C800 + 64 * L.log.clHead) 24
    (∀ x r newer, on 8 → L.post = x :: r → s.Acts l (.scrubRewrite l newer) fun M => M.post = r ∧
      (newer = true → M.f F_SCR_STAT_CE = L.f F_SCR_STAT_CE ∧ M.bg.spares = L.bg.spares) ∧
      (newer = false → 0x20000000 ≤ x → M.f F_SCR_STAT_CE = min 65535 (L.f F_SCR_STAT_CE + 1)) ∧
      (newer = false → x < 0x20000000 →
        let r := flashRegion x
        r ≠ 3 → (0 < L.bg.spares[r] → M.bg.spares[r] + 1 = L.bg.spares[r]) ∧ (L.bg.spares[r] = 0 → M.b F_SCR_STAT_SPARE_OUT_S = true))) ∧
    (∀ a, on 8 → a % 4 = 0 → a < 2 ^ 32 →
      (L.ue.contains a = false → s.Acts l (.scrubSweep l a .clean false) fun M => M = L) ∧
      (L.ue.contains a = false → s.Acts l (.scrubSweep l a .corrected false) fun M => M.ue = L.ue ∧ M.f F_SCR_STAT_CE = min 65535 (L.f F_SCR_STAT_CE + 1)) ∧
      ((L.ueFatal a = false ∨ L.lnk.ue = true) → s.Acts l (.scrubSweep l a .uncorrectable false) fun M => M.ue.contains a = true ∧ M.f F_SCR_UEADDR_ADDR = a ∧
        M.bg.sweepUe = a :: L.bg.sweepUe) ∧
      (L.ueFatal a = true → L.lnk.ue = false → L.lst ≠ lsHalted →
        Does (.scrubSweep l a .uncorrectable false) s fun t => (t.lane l).lst = lsFailed ∨ (t.lane l).lst = lsHalted) ∧
      (L.ue.contains a = false → s.Acts l (.scrubSweep l a .clean true) fun M => M.f F_SCR_STAT_UE = min 255 L.bg.sweepUe.length ∧ M.bg.sweepUe = [])) ∧
    (on 8 → s.Acts l (.scrubSweepLate l) fun M => M.b F_SCR_STAT_LATE_S = true ∧ M.bg = L.bg) ∧
    (∀ off : FlashOff, on 8 →
      let r := flashRegion (0x08000000 + off.val)
      r ≠ 3 → s.Acts l (.flashRefresh l off) fun M => L.SameMem M ∧
        (0 < L.bg.spares[r] → M.bg.spares[r] + 1 = L.bg.spares[r]) ∧ (L.bg.spares[r] = 0 → M.b F_SCR_STAT_SPARE_OUT_S = true)) ∧
    (∀ off : FlashOff, on 8 → 0x780000 ≤ off.val → s.Acts l (.flashRefresh l off) fun M => L.SameMem M ∧ M.bg.spares = L.bg.spares ∧
      M.wer.weak.contains ((off.val - 0x780000) / 0x1000) = true) ∧
    (∀ item gain ofs cycle, on 9 →
      let i := (calPlace item).1
      let g := ((L.bg.calNext[i]).getD (L.bg.cal[i], 0)).1
      let d := (1000000 + g) * 5 / 1000
      (0 ≤ d → absI gain ≤ 50000 → item ≠ .temp → s.Acts l (.calUpdate l item gain ofs true cycle) fun M => M.bg.cal = L.bg.cal ∧
        ∃ o, M.bg.calNext[i] = some (nearest (g - d) (g + d) gain, o)) ∧
      (0 ≤ d → absI gain ≤ 50000 → item = .temp → s.Acts l (.calUpdate l item gain ofs true cycle) fun M => M.bg.cal[i] = nearest (g - d) (g + d) gain) ∧
      (50000 < absI gain → s.Acts l (.calUpdate l item gain ofs true cycle) fun M => M.b (calPlace item).2 = true ∧ M.bg.cal = L.bg.cal ∧
        M.bg.calNext = L.bg.calNext) ∧
      s.Acts l (.calUpdate l item gain ofs false cycle) fun M => M.b F_CAL_STAT_AREF_S = true ∧ M.bg.cal = L.bg.cal ∧ M.bg.calNext = L.bg.calNext) ∧
    (on 10 → s.Acts l (.wearCommit l) fun M => M.wer.cntN = L.wer.cntN + 1 ∧ M.wer.plDue = false) ∧
    (∀ e, s.Permits l (.eng e) A_WER_QPUSH 1#32 → L.log.evN < 64 → 4 ≤ L.wer.pool.length →
      s.Writes l (.eng e) (.logPush l (.eng e)) fun M =>
        let off := 0x2C000 + 32 * ((L.log.evHead + L.log.evN) % 64)
        M.log.evN = L.log.evN + 1 ∧ M.wer.evSeq = (L.wer.evSeq + 1) % 2 ^ 32 ∧ M.ts off = BitVec.ofNat 32 L.wer.evSeq ∧
        M.ts (off + 4) = BitVec.ofNat 32 L.gtime ∧ ∀ j : Fin 8, 2 ≤ j.val → M.ts (off + 4 * j.val) = L.eng[e].qdata[j]) ∧
    (on 10 → 0 < L.log.evN → 4 ≤ L.wer.pool.length → s.Acts l (.eventLogCommit l) fun M => M.wer.evN = L.wer.evN + 1 ∧
      (L.seb.stuck = 0 → M.log.evN + 1 = L.log.evN) ∧ (0 < L.seb.stuck → L.log.evN ≤ 64 → 5 ≤ L.wer.pool.length → M.log.evN = L.log.evN ∧ M.seb.stuck + 1 = L.seb.stuck)) ∧
    (on 10 → 0 < L.log.clN → (L.clHeadWord 0).getLsbD 18 = true → (L.log.archiving = true ∨ 512 ≤ L.wer.safN) →
      s.Acts l (.changeLogCommit l) fun M => M = L) ∧
    (on 10 → 0 < L.log.clN → ((L.clHeadWord 0).getLsbD 18 = true → L.log.archiving = false ∧ L.wer.safN < 512) → s.Acts l (.changeLogCommit l) fun M => M.log.clN + 1 = L.log.clN ∧
      ((L.clHeadWord 0).getLsbD 18 = true → M.wer.safN = L.wer.safN + 1 ∧ M.wer.safLink = some (clLink L.wer.safLink l true head)) ∧
      ((L.clHeadWord 0).getLsbD 18 = false → M.wer.genN = L.wer.genN + 1 ∧ M.wer.genLink = some (clLink L.wer.genLink l false head))) ∧
    (on 11 → (L.f F_TEL_CFG_PERIOD = 0 → s.Acts l (.telemetrySample l) fun M => M = L) ∧
      (L.f F_TEL_CFG_PERIOD ≠ 0 → L.b F_TEL_CFG_CAN = false → L.b F_TEL_CFG_PIC = true → L.up .pic = true → L.b F_PIC_STAT_JOINED = true → L.pic.dup = false →
        s.Acts l (.telemetrySample l) fun M => sget 0 M.pic.seqs ftTel = (sget 0 L.pic.seqs ftTel + 1) % 65536) ∧
      (∀ (n : Port) (k : CanObjNo), L.f F_TEL_CFG_PERIOD ≠ 0 → L.b F_TEL_CFG_CAN = true → L.b F_TEL_CFG_PIC = false → L.f F_TEL_CFG_PORT = n.val → L.up (.can n) = true →
        (L.cn n).mode = canModeOff → 28 ≤ k.val → (L.cn n).objs[k].st = coDone →
        s.Acts l (.telemetrySample l) fun M => (M.cn n).objs[k].st = coFree)) ∧
    (on 11 → s.Acts l (.snoopRefresh l) fun M => ∀ a ∈ snoopAddrs,
      sget 0 M.bg.shadow a = if a / 0x10000 = 0x400B then fioWordOf L.bg.fio L.bg.fioOwn a
        else if a = F_LNK_HOOP_STATE.addr then L.bg.fioHoop else s.regWord l none a)

/-- R74, R505 to R508: flash programmed and erased, its address and data registers, the end of either; USB packets both ways; a transfer on SPI_CS1_L,
one that would end too late waiting for its turn, and its end. -/
def Obligations.FlashUsbAndSpi : Prop :=
  ∀ (s : State) (l : LaneId) (wr : Writer) (r : Region),
    let L := s.lane l
    let addr := L.f (F_NVM_ADDR_ADDR r.val)
    let may (size : Nat) : Prop := L.b (F_NVM_STAT_BUSY r.val) = false ∧ (nvmRegion r.val).1 ≤ addr ∧ addr < (nvmRegion r.val).2 ∧ addr % size = 0 ∧
      nvmOwnedAt wr r.val addr = false ∧ (r.val ≤ 1 → nvmLoader L r.val = false → L.holder = false ∧ L.f F_LNK_UPDSTAT_SLOT ≠ r.val)
    (s.Permits l wr (A_NVM_CMD r.val) 0x10000000#32 → may 16 →
      s.Writes l wr (.nvmProgram l wr r) fun M => M.b (F_NVM_STAT_BUSY r.val) = true ∧ M.b (F_NVM_STAT_DONE r.val) = false ∧
        M.bg.nvm[r] = some (2 ^ 32 + addr)) ∧
    (s.Permits l wr (A_NVM_CMD r.val) 0x20000000#32 → may 4096 →
      s.Writes l wr (.nvmErase l wr r) fun M => M.b (F_NVM_STAT_BUSY r.val) = true ∧ M.b (F_NVM_STAT_DONE r.val) = false ∧
        M.bg.nvm[r] = some (2 * 2 ^ 32 + addr)) ∧
    (∀ (reg : NvmReg) v,
      let a := if reg.val = 0 then A_NVM_ADDR r.val else A_NVM_DATA r.val (reg.val - 1)
      s.Permits l wr a v → L.b (F_NVM_STAT_BUSY r.val) = false → s.Writes l wr (.nvmAddrWrite l wr r reg v) fun M => rget M.regs a = v) ∧
    (∀ a good, L.up .nvm = true → 0x08000000 ≤ a → a < 0x08800000 →
      let ended (M : Lane) : Prop := M.b (F_NVM_STAT_BUSY r.val) = false ∧ M.b (F_NVM_STAT_DONE r.val) = true ∧ M.bg.nvm[r] = none
      let off := a - 0x08000000
      (L.bg.nvm[r] = some (2 * 2 ^ 32 + a) → Does (.nvmDone l r good) s fun t => ended (t.lane l) ∧ (t.lane l).f (F_NVM_STAT_STATUS r.val) = stOk ∧
        (∀ i, off ≤ i → i < off + 4096 → (t.lane l).byte .flash i = 0xFF#8) ∧ ∀ i, i < off ∨ off + 4096 ≤ i → (t.lane l).byte .flash i = L.byte .flash i) ∧
      (L.bg.nvm[r] = some (2 ^ 32 + a) → good = true → (∀ i, i < 16 → L.byte .flash (off + i) = 0xFF#8) →
        Does (.nvmDone l r good) s fun t => ended (t.lane l) ∧ (t.lane l).f (F_NVM_STAT_STATUS r.val) = stOk ∧
          (∀ i, i < 16 → (t.lane l).byte .flash (off + i) = listGet 0 (regBytes L (A_NVM_DATA r.val 0) 4) i) ∧
          ∀ i, i < off ∨ off + 16 ≤ i → (t.lane l).byte .flash i = L.byte .flash i) ∧
      (L.bg.nvm[r] = some (2 ^ 32 + a) → (good = false ∨ ∃ i, i < 16 ∧ L.byte .flash (off + i) ≠ 0xFF#8) →
        Does (.nvmDone l r good) s fun t => ended (t.lane l) ∧ (t.lane l).f (F_NVM_STAT_STATUS r.val) = nvmVerify ∧
          ∀ i, i < off ∨ off + 16 ≤ i → (t.lane l).byte .flash i = L.byte .flash i)) ∧
    (∀ data : Bytes, data.length ≤ 64 → L.up .usb = true → L.b F_USB_STAT_ATTACHED = true →
      s.Feeds l (.usbPacketRx data) fun M => M.usb.rx = if L.usb.rx.length < 4 then L.usb.rx ++ [data] else L.usb.rx) ∧
    (∀ x rest, s.Permits l wr A_USB_RXPOP 1#32 → L.usb.rx = x :: rest → s.Writes l wr (.usbRxpop l wr) fun M => M.usb.rx = rest) ∧
    (s.Permits l wr A_USB_TXPUSH 1#32 → L.b F_USB_STAT_ATTACHED = true → 0 < L.f F_USB_TXH_LEN → L.usb.tx.length < 4 →
      s.Writes l wr (.usbTxpush l wr) fun M => M.usb.tx = L.usb.tx ++ [usbStaged L (min (L.f F_USB_TXH_LEN) 64)]) ∧
    (∀ x rest, L.up .usb = true → L.b F_USB_STAT_ATTACHED = true → L.usb.tx = x :: rest → s.Acts l (.usbPacketSent l) fun M => M.usb.tx = rest) ∧
    (∀ len : SpiLen, s.Permits l wr A_SPI_CTRL (BitVec.ofNat 32 (0x10000000 + len.val)) → L.holder = true → L.b F_SPI_STAT_BUSY = false → 0 < len.val →
      s.Writes l wr (.spiStart l wr len) fun M => M.b F_SPI_STAT_BUSY = true ∧ M.b F_SPI_STAT_DONE = false ∧ M.usb.spiLen = min 8 len.val ∧
        let fits := L.fclk % 20000 + spiTicks (min 8 len.val) (L.f F_SPI_CFG_DIV) + 160 ≤ 20000
        (fits → M.usb.spiWait = none ∧ M.f F_SPI_STAT_WAITS = L.f F_SPI_STAT_WAITS) ∧
        (¬ fits → M.usb.spiWait = some ((L.fclk / 20000 + 1) * 20000) ∧ (L.f F_SPI_STAT_WAITS < 65535 → M.f F_SPI_STAT_WAITS = L.f F_SPI_STAT_WAITS + 1))) ∧
    (∀ rx0 rx1 : Word, L.up .spi = true → L.usb.spiWait.isSome = true → s.Acts l (.spiDone l rx0 rx1) fun M => M = L) ∧
    (∀ (data : Bytes) (due : Nat), L.up .bob = true → L.holder = true → L.bob.window = true → L.b F_BOB_CTRL_ACCEN = true → L.f F_BOB_ACCCFG_NBYTES ≠ 0 →
      L.usb.spiWait = some due → due ≤ L.bob.tk → s.Acts l (.accTransfer l data true) fun M => M.usb.spiWait = none ∧ M.usb.spiLen = L.usb.spiLen) ∧
    (∀ rx0 rx1 : Word, L.up .spi = true → L.b F_SPI_STAT_BUSY = true → L.usb.spiWait = none → L.usb.spiLen = 8 →
      s.Acts l (.spiDone l rx0 rx1) fun M => M.b F_SPI_STAT_BUSY = false ∧ M.b F_SPI_STAT_DONE = true ∧
        rget M.regs (A_SPI_RX 0) = rx0 ∧ rget M.regs (A_SPI_RX 1) = rx1)

/-- A step takes the command at the front of the queue and answers what it does on the state with the rest of the queue; with an empty queue the part
idles for a microsecond (the model's choice, assumption log: the passing of time): the field die and the supervisor stay; a lane that does not run stays,
but for F where it has taken it; one that runs keeps its phase, its flash and its engines' registers and local SRAM, F goes on, the oldest word of each
store buffer leaves it, and no byte of the table SRAM changes but in such a word. -/
def Obligations.StepRunsTheFrontCommand : Prop :=
  (∀ (s : State) (c : Instr) (r : List Instr), step { s with pending := c :: r } = exec c { s with pending := r }) ∧
  ∀ s : State, s.pending = [] → ∃ t, step s = .next t ∧ t.pending = [] ∧ t.time = s.time + 1 ∧ t.fd = s.fd ∧ t.sup = s.sup ∧ t.freeCtr = s.freeCtr ∧
    ∀ k : LaneId,
      let L := s.lane k
      let M := t.lane k
      (L.phase ≠ .run → M = if L.phase = .waitPll ∧ L.lnk.fWait = false then { L with fclk := L.fclk + 80 } else L) ∧
      (L.phase = .run → M.phase = .run ∧ M.flash = L.flash ∧ M.fclk = (if L.lnk.fWait = true then L.fclk else L.fclk + 80) ∧
        (∀ e : Eng, M.eng[e].core = L.eng[e].core ∧ M.eng[e].pc = L.eng[e].pc ∧ M.eng[e].ram = L.eng[e].ram ∧ M.eng[e].phase = L.eng[e].phase ∧
          M.eng[e].krole = L.eng[e].krole ∧ M.eng[e].sbuf = L.eng[e].sbuf.drop 1) ∧
        ∀ o, M.byte .table o ≠ L.byte .table o → Area.buffered.Holds s k .table o)

/-- Every command completes in every state, leaving the queue and the environment's clock alone. -/
def Obligations.EveryCommandCompletes : Prop := ∀ (c : Instr) (s : State), Does c s fun t => t.time = s.time

/-- Every step keeps the lists that hold the part's memories in their one canonical form: addresses strictly rising, and no byte listed that an
unlisted address reads as. -/
def Obligations.EveryStepKeepsMemoryCanonical : Prop :=
  ∀ s t : State, s.memWf = true → step s = .next t → t.memWf = true

/-- R386 to R390: in every step, a lane that believes it holds the Hoop is the holder the field die knows; so at most one lane ever does. -/
def Obligations.EveryStepKeepsOneHolder : Prop :=
  (∀ s t : State, s.OneHolder → step s = .next t → t.OneHolder) ∧ ∀ s : State, s.OneHolder → ¬ (s.laneA.holder = true ∧ s.laneB.holder = true)

/-- The part right after power-on: no command waits, memory lists nothing and is canonical, the Hoop is FREE, both lanes are in reset with their
engines stopped and without a role, every session is IDLE, the outputs are in their forced safe state, the cause is the power-on. -/
def Obligations.ResetState : Prop :=
  let s := State.reset
  s.pending = [] ∧ s.memWf = true ∧ s.OneHolder ∧ s.fd.hoop = 0 ∧ s.fd.forced = true ∧
  ∀ l, (s.lane l).phase = .reset ∧ (s.lane l).tsram = [] ∧ (s.lane l).flash = [] ∧ (s.lane l).holder = false ∧ s.sup.rstCause[laneIx l] = 1#32 ∧
    (∀ n, (s.lane l).sst n = ssIdle) ∧ ∀ e : Eng, (s.lane l).eng[e].ram = [] ∧ (s.lane l).eng[e].phase = .stopped ∧ (s.lane l).eng[e].krole = .none

/-- Frames: every command leaves every part of the state that its list does not name as it was, and every register of a lane outside the blocks its
list names. -/
def Obligations.CommandsChangeOnlyTheirParts : Prop :=
  ∀ (c : Instr) (s t : State), exec c s = .next t →
    (∀ p, p ∉ (frameOf c).1 → s.SamePart t p) ∧
    ∀ l a, (∀ b ∈ (frameOf c).2, a / 0x10000 ≠ 0x4000 + b) → rget (t.lane l).regs a = rget (s.lane l).regs a

/-- Frames of memory, for every command and in every state, words that wait in the store buffers included, and the local SRAM of an engine that the
command may reset, which is then cleared (Table 1.5): (a) outside 0x2C000 to 0x2CFFF of the table
SRAM, where the queues of the logs are, a byte of a memory changes only in an area that the command names, the bytes it stores among them; (b) a byte
of those queues changes only under a command that names the queue it lies in, the whole of the table SRAM, or a word that waits or is stored there. -/
def Obligations.CommandsKeepMemory : Prop :=
  ∀ (c : Instr) (s t : State), exec c s = .next t → ∀ l,
    (∀ m o, ¬ (m = Space.table ∧ 0x2C000 ≤ o ∧ o < 0x2D000) → (t.lane l).byte m o ≠ (s.lane l).byte m o → ∃ x ∈ mayWrite c s, x.Holds s l m o) ∧
    ∀ o, 0x2C000 ≤ o → o < 0x2D000 → (t.lane l).byte .table o ≠ (s.lane l).byte .table o →
      ∃ x ∈ mayWrite c s, x.Holds s l .table o
end

