-- ==== Sys2Proof/Laws/Blocks.lean ====
section
/-!
SUPPORT. What the operations shared by several blocks do and leave: an input of both lanes, an instant of the lane's clock, a crossing's delivery, a
calibration set taken, a transmitter of the ring.
-/
namespace Sys2Proof.Machine

/-! ### Both lanes -/

/-- An input of a shared pad does on each lane what it does there, where it leaves the other lane alone. -/
theorem World.pads_lane (f : LaneId → Lane → Lane) (w : World) (l : LaneId) : (w.pads fun l w => w.updLane l (f l)).lane l = f l (w.lane l) := by
  cases l <;> rfl
@[simp] theorem World.pads_fd (f : LaneId → Lane → Lane) (w : World) : (w.pads fun l w => w.updLane l (f l)).fd = w.fd := rfl
@[simp] theorem World.pads_sup (f : LaneId → Lane → Lane) (w : World) : (w.pads fun l w => w.updLane l (f l)).sup = w.sup := rfl

/-! ### Instants -/

/-- An instant found in the microsecond at `F` lies on its edge: `off` clocks on, the clock is `phase` modulo the period. -/
theorem instantIn_edge {F period phase off : Nat} (hp : phase < period) (h : instantIn F period phase = some off) :
    off < 80 ∧ (F + off) % period = phase := by
  simp only [instantIn] at h
  split at h
  · rename_i lt
    cases h
    refine ⟨lt, ?_⟩
    have r : F % period ≤ period := Nat.le_of_lt (Nat.mod_lt F (by omega))
    have e : F + (phase + (period - F % period)) = phase + period * (F / period + 1) := by
      have := Nat.div_add_mod F period
      rw [Nat.mul_add]; omega
    rw [Nat.add_mod_mod, e, Nat.add_mul_mod_self_left, Nat.mod_eq_of_lt hp]
  · cases h

/-! ### Crossings and calibration -/

@[simp] theorem Lane.calTake_regs (L : Lane) (i : Fin 5) : (L.calTake i).regs = L.regs := by unfold Lane.calTake; split <;> rfl
@[simp] theorem Lane.calTake_eng (L : Lane) (i : Fin 5) : (L.calTake i).eng = L.eng := by unfold Lane.calTake; split <;> rfl
@[simp] theorem Lane.calTake_tsram (L : Lane) (i : Fin 5) : (L.calTake i).tsram = L.tsram := by unfold Lane.calTake; split <;> rfl
@[simp] theorem Lane.calTake_fclk (L : Lane) (i : Fin 5) : (L.calTake i).fclk = L.fclk := by unfold Lane.calTake; split <;> rfl

/-- A set taken is gone: the user holds it, and no second one waits. -/
theorem Lane.calTake_takes (L : Lane) (i : Fin 5) (g o : Int) (h : L.bg.calNext[i] = some (g, o)) :
    (L.calTake i).bg.cal[i] = g ∧ (L.calTake i).bg.calNext[i] = none := by
  simp only [Lane.calTake, h]; simp

/-! ### The ring's transmitters -/

@[simp] theorem Lane.updTx_regs (L : Lane) (b : Bool) (f : PicTx → PicTx) : (L.updTx b f).regs = L.regs := rfl
@[simp] theorem Lane.updTx_eng (L : Lane) (b : Bool) (f : PicTx → PicTx) : (L.updTx b f).eng = L.eng := rfl
@[simp] theorem Lane.updTx_tsram (L : Lane) (b : Bool) (f : PicTx → PicTx) : (L.updTx b f).tsram = L.tsram := rfl
@[simp] theorem Lane.updTx_gtime (L : Lane) (b : Bool) (f : PicTx → PicTx) : (L.updTx b f).gtime = L.gtime := rfl

/-- A departure shows the frame and whether it was ended with K30.7 on its own ring, and keeps the other ring's. -/
theorem picDepart_shows (b cut : Bool) (o : PicOut) (n : Nat) (L : Lane) :
    (picDepart b cut o n L).pic.lastA = (if b then L.pic.lastA else some (picStamp o n L)) ∧
    (picDepart b cut o n L).pic.lastB = (if b then some (picStamp o n L) else L.pic.lastB) ∧
    (picDepart b cut o n L).pic.cutA = (if b then L.pic.cutA else cut) ∧ (picDepart b cut o n L).pic.cutB = (if b then cut else L.pic.cutB) := by
  cases b <;> exact ⟨rfl, rfl, rfl, rfl⟩
@[simp] theorem picDepart_regs (b cut : Bool) (o : PicOut) (n : Nat) (L : Lane) : (picDepart b cut o n L).regs = L.regs := rfl

end Sys2Proof.Machine
end

