-- ==== Sys2Proof/Laws/Crypto.lean ====
section
/-! SUPPORT. Lengths and round trips of digests, and of the words that carry bytes. -/

namespace Sys2Proof.Machine

theorem shaRound_length (v : List Word) (kw : Word × Word) : (shaRound v kw).length = v.length := by
  unfold shaRound
  split <;> simp

theorem shaRounds_length (ks : List (Word × Word)) (v : List Word) : (ks.foldl shaRound v).length = v.length := by
  induction ks generalizing v with
  | nil => rfl
  | cons k r ih => simp [ih, shaRound_length]

theorem shaBlock_length (h : List Word) (b : Bytes) : (shaBlock h b).length = h.length := by
  simp [shaBlock, shaRounds_length]

theorem shaBlocks_length (n : Nat) (h : List Word) (b : Bytes) : (shaBlocks n h b).length = h.length := by
  induction n generalizing h b with
  | zero => rfl
  | succ n ih =>
    unfold shaBlocks
    split
    · rfl
    · rw [ih, shaBlock_length]

/-- The hash value has eight words. -/
theorem shaH0_length : shaH0.length = 8 := by decide +kernel

/-- A digest has 32 bytes. -/
@[simp] theorem sha256_length (m : Bytes) : (sha256 m).length = 32 := by
  simp [sha256, List.length_flatMap, wordBytes, shaBlocks_length, shaH0_length, List.map_const']

/-- A word made of four bytes has those bytes. -/
theorem wordBytes_leNat (a b c d : Byte) : wordBytes (BitVec.ofNat 32 (leNat [a, b, c, d])) = [a, b, c, d] := by
  have ha := a.isLt; have hb := b.isLt; have hc := c.isLt; have hd := d.isLt
  simp only [wordBytes, leNat, List.cons.injEq, and_true]
  refine ⟨?_, ?_, ?_, ?_⟩ <;> apply BitVec.eq_of_toNat_eq <;>
    simp only [BitVec.extractLsb'_toNat, BitVec.toNat_ofNat, Nat.shiftRight_eq_div_pow] <;> omega

/-- The words of a response give back the first 32 bytes they were made of. -/
theorem respBytes (h : Bytes) (n : h.length = 32) :
    ((Vector.ofFn fun k : Fin 16 => listGet 0 (bytesWords 16 h) k.val).toList.flatMap wordBytes).take 32 = h := by
  have e : (Vector.ofFn fun k : Fin 16 => listGet 0 (bytesWords 16 h) k.val).toList = bytesWords 16 h := by
    refine List.ext_getElem (by simp [bytesWords]) fun i a b => ?_
    simp [bytesWords, listGet]
  rw [e]
  match h, n with
  | [a0, a1, a2, a3, a4, a5, a6, a7, a8, a9, b0, b1, b2, b3, b4, b5, b6, b7, b8, b9, c0, c1, c2, c3, c4, c5, c6, c7, c8, c9, d0, d1], _ =>
    simp [bytesWords, List.range_succ, wordBytes_leNat]

/-- The credentials a lane holds are what its flash says. -/
theorem credCopy_flash (L M : Lane) (k : Bool) (h : L.flash = M.flash) : credCopy L k = credCopy M k := by
  unfold credCopy
  rw [h]

theorem creds_flash (L M : Lane) (h : L.flash = M.flash) : L.creds = M.creds := by
  unfold Lane.creds
  rw [credCopy_flash L M false h, credCopy_flash L M true h]

theorem hasCred_flash (L M : Lane) (k : Nat) (h : L.flash = M.flash) : L.hasCred k = M.hasCred k := by
  unfold Lane.hasCred
  rw [creds_flash L M h]

/-- A session's staged response that is the digest asked for is right. -/
theorem respOk_of (L : Lane) (f : Session → Session) (h : Bytes) (e : h = sha256 (L.creds.2.opr.drop 16 ++ L.chalBytes .a 0 1))
    (g : (f L.sess[(0 : Fin 2)]).resp = Vector.ofFn fun k : Fin 16 => listGet 0 (bytesWords 16 h) k.val) : (L.updSess 0 f).respOk .a 0 1 = true := by
  have n : h.length = 32 := by rw [e]; exact sha256_length _
  have c : (L.updSess 0 f).creds = L.creds := creds_flash _ _ rfl
  have b : (L.updSess 0 f).chalBytes .a 0 1 = L.chalBytes .a 0 1 := by simp only [Lane.chalBytes, Lane.updSess]
  have x : (L.updSess 0 f).sess[(0 : Fin 2)] = f L.sess[(0 : Fin 2)] := by simp [Lane.updSess]
  have y : ((L.updSess 0 f).sess[(0 : Fin 2)].resp.toList.flatMap wordBytes).take 32 = h := by rw [x, g]; exact respBytes h n
  unfold Lane.respOk
  rw [c, b]
  dsimp only
  rw [if_neg (by decide), if_pos rfl, y, e]
  exact beq_self_eq_true _

end Sys2Proof.Machine
end

