-- ==== Sys2Proof/Laws/State.lean ====
section
/-!
SUPPORT. What each update of the state leaves: one lemma for every field of a lane under every general update, and for the fields most read under the
updates of one block.
-/
namespace Sys2Proof.Machine

/-! ### The part and its lanes -/

@[simp] theorem World.lane_setLane_same (w : World) (l : LaneId) (L : Lane) : (w.setLane l L).lane l = L := by cases l <;> rfl
@[simp] theorem World.lane_setLane_other (w : World) (l : LaneId) (L : Lane) : (w.setLane l L).lane l.other = w.lane l.other := by cases l <;> rfl
@[simp] theorem World.setLane_setLane (w : World) (l : LaneId) (L M : Lane) : (w.setLane l L).setLane l M = w.setLane l M := by cases l <;> rfl
@[simp] theorem World.setLane_lane (w : World) (l : LaneId) : w.setLane l (w.lane l) = w := by cases l <;> rfl
@[simp] theorem World.setLane_fd (w : World) (l : LaneId) (L : Lane) : (w.setLane l L).fd = w.fd := by cases l <;> rfl
@[simp] theorem World.setLane_sup (w : World) (l : LaneId) (L : Lane) : (w.setLane l L).sup = w.sup := by cases l <;> rfl
@[simp] theorem World.setLane_time (w : World) (l : LaneId) (L : Lane) : (w.setLane l L).time = w.time := by cases l <;> rfl
@[simp] theorem World.setLane_freeCtr (w : World) (l : LaneId) (L : Lane) : (w.setLane l L).freeCtr = w.freeCtr := by cases l <;> rfl
@[simp] theorem World.lane_updLane_same (w : World) (l : LaneId) (f : Lane → Lane) : (w.updLane l f).lane l = f (w.lane l) := by cases l <;> rfl
@[simp] theorem World.lane_updLane_other (w : World) (l : LaneId) (f : Lane → Lane) : (w.updLane l f).lane l.other = w.lane l.other := by cases l <;> rfl
@[simp] theorem World.updLane_updLane (w : World) (l : LaneId) (f g : Lane → Lane) : (w.updLane l f).updLane l g = w.updLane l fun L => g (f L) := by cases l <;> rfl
@[simp] theorem World.updLane_fd (w : World) (l : LaneId) (f : Lane → Lane) : (w.updLane l f).fd = w.fd := by cases l <;> rfl
@[simp] theorem World.updLane_sup (w : World) (l : LaneId) (f : Lane → Lane) : (w.updLane l f).sup = w.sup := by cases l <;> rfl
@[simp] theorem World.updLane_time (w : World) (l : LaneId) (f : Lane → Lane) : (w.updLane l f).time = w.time := by cases l <;> rfl
@[simp] theorem World.updLane_freeCtr (w : World) (l : LaneId) (f : Lane → Lane) : (w.updLane l f).freeCtr = w.freeCtr := by cases l <;> rfl

/-! ### One engine of a lane -/

theorem Lane.updEng_get (L : Lane) (e : Eng) (f : Engine → Engine) : (L.updEng e f).eng[e] = f L.eng[e] := by
  simp [Lane.updEng]
@[simp] theorem Lane.updEng_getVal (L : Lane) (e : Eng) (f : Engine → Engine) : (L.updEng e f).eng[e.val] = f L.eng[e.val] := by
  simp [Lane.updEng]
theorem Lane.updEng_get_ne (L : Lane) (e k : Eng) (f : Engine → Engine) (h : k ≠ e) : (L.updEng e f).eng[k] = L.eng[k] := by
  simp only [Lane.updEng, Fin.getElem_fin]
  exact Vector.getElem_set_ne _ _ (by intro c; exact h (Fin.ext c.symm))
@[simp] theorem Lane.updEng_updEng (L : Lane) (e : Eng) (f g : Engine → Engine) : (L.updEng e f).updEng e g = L.updEng e fun x => g (f x) := by
  simp [Lane.updEng]

/-! ### Lane.s -/

@[simp] theorem Lane.s_regs (L : Lane) (F : Field) (v : Nat) : (L.s F v).regs = setF L.regs F v := rfl
@[simp] theorem Lane.s_phase (L : Lane) (F : Field) (v : Nat) : (L.s F v).phase = L.phase := rfl
@[simp] theorem Lane.s_eng (L : Lane) (F : Field) (v : Nat) : (L.s F v).eng = L.eng := rfl
@[simp] theorem Lane.s_tsram (L : Lane) (F : Field) (v : Nat) : (L.s F v).tsram = L.tsram := rfl
@[simp] theorem Lane.s_flash (L : Lane) (F : Field) (v : Nat) : (L.s F v).flash = L.flash := rfl
@[simp] theorem Lane.s_ue (L : Lane) (F : Field) (v : Nat) : (L.s F v).ue = L.ue := rfl
@[simp] theorem Lane.s_post (L : Lane) (F : Field) (v : Nat) : (L.s F v).post = L.post := rfl
@[simp] theorem Lane.s_gtime (L : Lane) (F : Field) (v : Nat) : (L.s F v).gtime = L.gtime := rfl
@[simp] theorem Lane.s_fclk (L : Lane) (F : Field) (v : Nat) : (L.s F v).fclk = L.fclk := rfl
@[simp] theorem Lane.s_tags (L : Lane) (F : Field) (v : Nat) : (L.s F v).tags = L.tags := rfl
@[simp] theorem Lane.s_xing (L : Lane) (F : Field) (v : Nat) : (L.s F v).xing = L.xing := rfl
@[simp] theorem Lane.s_tick (L : Lane) (F : Field) (v : Nat) : (L.s F v).tick = L.tick := rfl
@[simp] theorem Lane.s_blkHist (L : Lane) (F : Field) (v : Nat) : (L.s F v).blkHist = L.blkHist := rfl
@[simp] theorem Lane.s_qHist (L : Lane) (F : Field) (v : Nat) : (L.s F v).qHist = L.qHist := rfl
@[simp] theorem Lane.s_lastRestart (L : Lane) (F : Field) (v : Nat) : (L.s F v).lastRestart = L.lastRestart := rfl
@[simp] theorem Lane.s_coreLow (L : Lane) (F : Field) (v : Nat) : (L.s F v).coreLow = L.coreLow := rfl
@[simp] theorem Lane.s_dlMargin (L : Lane) (F : Field) (v : Nat) : (L.s F v).dlMargin = L.dlMargin := rfl
@[simp] theorem Lane.s_tat (L : Lane) (F : Field) (v : Nat) : (L.s F v).tat = L.tat := rfl
@[simp] theorem Lane.s_trc (L : Lane) (F : Field) (v : Nat) : (L.s F v).trc = L.trc := rfl
@[simp] theorem Lane.s_bob (L : Lane) (F : Field) (v : Nat) : (L.s F v).bob = L.bob := rfl
@[simp] theorem Lane.s_spg (L : Lane) (F : Field) (v : Nat) : (L.s F v).spg = L.spg := rfl
@[simp] theorem Lane.s_drv (L : Lane) (F : Field) (v : Nat) : (L.s F v).drv = L.drv := rfl
@[simp] theorem Lane.s_sel (L : Lane) (F : Field) (v : Nat) : (L.s F v).sel = L.sel := rfl
@[simp] theorem Lane.s_door (L : Lane) (F : Field) (v : Nat) : (L.s F v).door = L.door := rfl
@[simp] theorem Lane.s_prk (L : Lane) (F : Field) (v : Nat) : (L.s F v).prk = L.prk := rfl
@[simp] theorem Lane.s_can (L : Lane) (F : Field) (v : Nat) : (L.s F v).can = L.can := rfl
@[simp] theorem Lane.s_seb (L : Lane) (F : Field) (v : Nat) : (L.s F v).seb = L.seb := rfl
@[simp] theorem Lane.s_pic (L : Lane) (F : Field) (v : Nat) : (L.s F v).pic = L.pic := rfl
@[simp] theorem Lane.s_lnk (L : Lane) (F : Field) (v : Nat) : (L.s F v).lnk = L.lnk := rfl
@[simp] theorem Lane.s_due (L : Lane) (F : Field) (v : Nat) : (L.s F v).due = L.due := rfl
@[simp] theorem Lane.s_log (L : Lane) (F : Field) (v : Nat) : (L.s F v).log = L.log := rfl
@[simp] theorem Lane.s_wer (L : Lane) (F : Field) (v : Nat) : (L.s F v).wer = L.wer := rfl
@[simp] theorem Lane.s_sess (L : Lane) (F : Field) (v : Nat) : (L.s F v).sess = L.sess := rfl
@[simp] theorem Lane.s_auth (L : Lane) (F : Field) (v : Nat) : (L.s F v).auth = L.auth := rfl
@[simp] theorem Lane.s_svc (L : Lane) (F : Field) (v : Nat) : (L.s F v).svc = L.svc := rfl
@[simp] theorem Lane.s_dbgp (L : Lane) (F : Field) (v : Nat) : (L.s F v).dbgp = L.dbgp := rfl
@[simp] theorem Lane.s_img (L : Lane) (F : Field) (v : Nat) : (L.s F v).img = L.img := rfl
@[simp] theorem Lane.s_mea (L : Lane) (F : Field) (v : Nat) : (L.s F v).mea = L.mea := rfl
@[simp] theorem Lane.s_usb (L : Lane) (F : Field) (v : Nat) : (L.s F v).usb = L.usb := rfl
@[simp] theorem Lane.s_bg (L : Lane) (F : Field) (v : Nat) : (L.s F v).bg = L.bg := rfl

/-! ### Lane.si -/

@[simp] theorem Lane.si_regs (L : Lane) (F : Field) (v : Int) : (L.si F v).regs = setI L.regs F v := rfl
@[simp] theorem Lane.si_phase (L : Lane) (F : Field) (v : Int) : (L.si F v).phase = L.phase := rfl
@[simp] theorem Lane.si_eng (L : Lane) (F : Field) (v : Int) : (L.si F v).eng = L.eng := rfl
@[simp] theorem Lane.si_tsram (L : Lane) (F : Field) (v : Int) : (L.si F v).tsram = L.tsram := rfl
@[simp] theorem Lane.si_flash (L : Lane) (F : Field) (v : Int) : (L.si F v).flash = L.flash := rfl
@[simp] theorem Lane.si_ue (L : Lane) (F : Field) (v : Int) : (L.si F v).ue = L.ue := rfl
@[simp] theorem Lane.si_post (L : Lane) (F : Field) (v : Int) : (L.si F v).post = L.post := rfl
@[simp] theorem Lane.si_gtime (L : Lane) (F : Field) (v : Int) : (L.si F v).gtime = L.gtime := rfl
@[simp] theorem Lane.si_fclk (L : Lane) (F : Field) (v : Int) : (L.si F v).fclk = L.fclk := rfl
@[simp] theorem Lane.si_tags (L : Lane) (F : Field) (v : Int) : (L.si F v).tags = L.tags := rfl
@[simp] theorem Lane.si_xing (L : Lane) (F : Field) (v : Int) : (L.si F v).xing = L.xing := rfl
@[simp] theorem Lane.si_tick (L : Lane) (F : Field) (v : Int) : (L.si F v).tick = L.tick := rfl
@[simp] theorem Lane.si_blkHist (L : Lane) (F : Field) (v : Int) : (L.si F v).blkHist = L.blkHist := rfl
@[simp] theorem Lane.si_qHist (L : Lane) (F : Field) (v : Int) : (L.si F v).qHist = L.qHist := rfl
@[simp] theorem Lane.si_lastRestart (L : Lane) (F : Field) (v : Int) : (L.si F v).lastRestart = L.lastRestart := rfl
@[simp] theorem Lane.si_coreLow (L : Lane) (F : Field) (v : Int) : (L.si F v).coreLow = L.coreLow := rfl
@[simp] theorem Lane.si_dlMargin (L : Lane) (F : Field) (v : Int) : (L.si F v).dlMargin = L.dlMargin := rfl
@[simp] theorem Lane.si_tat (L : Lane) (F : Field) (v : Int) : (L.si F v).tat = L.tat := rfl
@[simp] theorem Lane.si_trc (L : Lane) (F : Field) (v : Int) : (L.si F v).trc = L.trc := rfl
@[simp] theorem Lane.si_bob (L : Lane) (F : Field) (v : Int) : (L.si F v).bob = L.bob := rfl
@[simp] theorem Lane.si_spg (L : Lane) (F : Field) (v : Int) : (L.si F v).spg = L.spg := rfl
@[simp] theorem Lane.si_drv (L : Lane) (F : Field) (v : Int) : (L.si F v).drv = L.drv := rfl
@[simp] theorem Lane.si_sel (L : Lane) (F : Field) (v : Int) : (L.si F v).sel = L.sel := rfl
@[simp] theorem Lane.si_door (L : Lane) (F : Field) (v : Int) : (L.si F v).door = L.door := rfl
@[simp] theorem Lane.si_prk (L : Lane) (F : Field) (v : Int) : (L.si F v).prk = L.prk := rfl
@[simp] theorem Lane.si_can (L : Lane) (F : Field) (v : Int) : (L.si F v).can = L.can := rfl
@[simp] theorem Lane.si_seb (L : Lane) (F : Field) (v : Int) : (L.si F v).seb = L.seb := rfl
@[simp] theorem Lane.si_pic (L : Lane) (F : Field) (v : Int) : (L.si F v).pic = L.pic := rfl
@[simp] theorem Lane.si_lnk (L : Lane) (F : Field) (v : Int) : (L.si F v).lnk = L.lnk := rfl
@[simp] theorem Lane.si_due (L : Lane) (F : Field) (v : Int) : (L.si F v).due = L.due := rfl
@[simp] theorem Lane.si_log (L : Lane) (F : Field) (v : Int) : (L.si F v).log = L.log := rfl
@[simp] theorem Lane.si_wer (L : Lane) (F : Field) (v : Int) : (L.si F v).wer = L.wer := rfl
@[simp] theorem Lane.si_sess (L : Lane) (F : Field) (v : Int) : (L.si F v).sess = L.sess := rfl
@[simp] theorem Lane.si_auth (L : Lane) (F : Field) (v : Int) : (L.si F v).auth = L.auth := rfl
@[simp] theorem Lane.si_svc (L : Lane) (F : Field) (v : Int) : (L.si F v).svc = L.svc := rfl
@[simp] theorem Lane.si_dbgp (L : Lane) (F : Field) (v : Int) : (L.si F v).dbgp = L.dbgp := rfl
@[simp] theorem Lane.si_img (L : Lane) (F : Field) (v : Int) : (L.si F v).img = L.img := rfl
@[simp] theorem Lane.si_mea (L : Lane) (F : Field) (v : Int) : (L.si F v).mea = L.mea := rfl
@[simp] theorem Lane.si_usb (L : Lane) (F : Field) (v : Int) : (L.si F v).usb = L.usb := rfl
@[simp] theorem Lane.si_bg (L : Lane) (F : Field) (v : Int) : (L.si F v).bg = L.bg := rfl

/-! ### Lane.sb -/

@[simp] theorem Lane.sb_regs (L : Lane) (F : Field) (v : Bool) : (L.sb F v).regs = setB L.regs F v := rfl
@[simp] theorem Lane.sb_phase (L : Lane) (F : Field) (v : Bool) : (L.sb F v).phase = L.phase := rfl
@[simp] theorem Lane.sb_eng (L : Lane) (F : Field) (v : Bool) : (L.sb F v).eng = L.eng := rfl
@[simp] theorem Lane.sb_tsram (L : Lane) (F : Field) (v : Bool) : (L.sb F v).tsram = L.tsram := rfl
@[simp] theorem Lane.sb_flash (L : Lane) (F : Field) (v : Bool) : (L.sb F v).flash = L.flash := rfl
@[simp] theorem Lane.sb_ue (L : Lane) (F : Field) (v : Bool) : (L.sb F v).ue = L.ue := rfl
@[simp] theorem Lane.sb_post (L : Lane) (F : Field) (v : Bool) : (L.sb F v).post = L.post := rfl
@[simp] theorem Lane.sb_gtime (L : Lane) (F : Field) (v : Bool) : (L.sb F v).gtime = L.gtime := rfl
@[simp] theorem Lane.sb_fclk (L : Lane) (F : Field) (v : Bool) : (L.sb F v).fclk = L.fclk := rfl
@[simp] theorem Lane.sb_tags (L : Lane) (F : Field) (v : Bool) : (L.sb F v).tags = L.tags := rfl
@[simp] theorem Lane.sb_xing (L : Lane) (F : Field) (v : Bool) : (L.sb F v).xing = L.xing := rfl
@[simp] theorem Lane.sb_tick (L : Lane) (F : Field) (v : Bool) : (L.sb F v).tick = L.tick := rfl
@[simp] theorem Lane.sb_blkHist (L : Lane) (F : Field) (v : Bool) : (L.sb F v).blkHist = L.blkHist := rfl
@[simp] theorem Lane.sb_qHist (L : Lane) (F : Field) (v : Bool) : (L.sb F v).qHist = L.qHist := rfl
@[simp] theorem Lane.sb_lastRestart (L : Lane) (F : Field) (v : Bool) : (L.sb F v).lastRestart = L.lastRestart := rfl
@[simp] theorem Lane.sb_coreLow (L : Lane) (F : Field) (v : Bool) : (L.sb F v).coreLow = L.coreLow := rfl
@[simp] theorem Lane.sb_dlMargin (L : Lane) (F : Field) (v : Bool) : (L.sb F v).dlMargin = L.dlMargin := rfl
@[simp] theorem Lane.sb_tat (L : Lane) (F : Field) (v : Bool) : (L.sb F v).tat = L.tat := rfl
@[simp] theorem Lane.sb_trc (L : Lane) (F : Field) (v : Bool) : (L.sb F v).trc = L.trc := rfl
@[simp] theorem Lane.sb_bob (L : Lane) (F : Field) (v : Bool) : (L.sb F v).bob = L.bob := rfl
@[simp] theorem Lane.sb_spg (L : Lane) (F : Field) (v : Bool) : (L.sb F v).spg = L.spg := rfl
@[simp] theorem Lane.sb_drv (L : Lane) (F : Field) (v : Bool) : (L.sb F v).drv = L.drv := rfl
@[simp] theorem Lane.sb_sel (L : Lane) (F : Field) (v : Bool) : (L.sb F v).sel = L.sel := rfl
@[simp] theorem Lane.sb_door (L : Lane) (F : Field) (v : Bool) : (L.sb F v).door = L.door := rfl
@[simp] theorem Lane.sb_prk (L : Lane) (F : Field) (v : Bool) : (L.sb F v).prk = L.prk := rfl
@[simp] theorem Lane.sb_can (L : Lane) (F : Field) (v : Bool) : (L.sb F v).can = L.can := rfl
@[simp] theorem Lane.sb_seb (L : Lane) (F : Field) (v : Bool) : (L.sb F v).seb = L.seb := rfl
@[simp] theorem Lane.sb_pic (L : Lane) (F : Field) (v : Bool) : (L.sb F v).pic = L.pic := rfl
@[simp] theorem Lane.sb_lnk (L : Lane) (F : Field) (v : Bool) : (L.sb F v).lnk = L.lnk := rfl
@[simp] theorem Lane.sb_due (L : Lane) (F : Field) (v : Bool) : (L.sb F v).due = L.due := rfl
@[simp] theorem Lane.sb_log (L : Lane) (F : Field) (v : Bool) : (L.sb F v).log = L.log := rfl
@[simp] theorem Lane.sb_wer (L : Lane) (F : Field) (v : Bool) : (L.sb F v).wer = L.wer := rfl
@[simp] theorem Lane.sb_sess (L : Lane) (F : Field) (v : Bool) : (L.sb F v).sess = L.sess := rfl
@[simp] theorem Lane.sb_auth (L : Lane) (F : Field) (v : Bool) : (L.sb F v).auth = L.auth := rfl
@[simp] theorem Lane.sb_svc (L : Lane) (F : Field) (v : Bool) : (L.sb F v).svc = L.svc := rfl
@[simp] theorem Lane.sb_dbgp (L : Lane) (F : Field) (v : Bool) : (L.sb F v).dbgp = L.dbgp := rfl
@[simp] theorem Lane.sb_img (L : Lane) (F : Field) (v : Bool) : (L.sb F v).img = L.img := rfl
@[simp] theorem Lane.sb_mea (L : Lane) (F : Field) (v : Bool) : (L.sb F v).mea = L.mea := rfl
@[simp] theorem Lane.sb_usb (L : Lane) (F : Field) (v : Bool) : (L.sb F v).usb = L.usb := rfl
@[simp] theorem Lane.sb_bg (L : Lane) (F : Field) (v : Bool) : (L.sb F v).bg = L.bg := rfl

/-! ### Lane.inc -/

@[simp] theorem Lane.inc_regs (L : Lane) (F : Field) (n : Nat) : (L.inc F n).regs = addF L.regs F n := rfl
@[simp] theorem Lane.inc_phase (L : Lane) (F : Field) (n : Nat) : (L.inc F n).phase = L.phase := rfl
@[simp] theorem Lane.inc_eng (L : Lane) (F : Field) (n : Nat) : (L.inc F n).eng = L.eng := rfl
@[simp] theorem Lane.inc_tsram (L : Lane) (F : Field) (n : Nat) : (L.inc F n).tsram = L.tsram := rfl
@[simp] theorem Lane.inc_flash (L : Lane) (F : Field) (n : Nat) : (L.inc F n).flash = L.flash := rfl
@[simp] theorem Lane.inc_ue (L : Lane) (F : Field) (n : Nat) : (L.inc F n).ue = L.ue := rfl
@[simp] theorem Lane.inc_post (L : Lane) (F : Field) (n : Nat) : (L.inc F n).post = L.post := rfl
@[simp] theorem Lane.inc_gtime (L : Lane) (F : Field) (n : Nat) : (L.inc F n).gtime = L.gtime := rfl
@[simp] theorem Lane.inc_fclk (L : Lane) (F : Field) (n : Nat) : (L.inc F n).fclk = L.fclk := rfl
@[simp] theorem Lane.inc_tags (L : Lane) (F : Field) (n : Nat) : (L.inc F n).tags = L.tags := rfl
@[simp] theorem Lane.inc_xing (L : Lane) (F : Field) (n : Nat) : (L.inc F n).xing = L.xing := rfl
@[simp] theorem Lane.inc_tick (L : Lane) (F : Field) (n : Nat) : (L.inc F n).tick = L.tick := rfl
@[simp] theorem Lane.inc_blkHist (L : Lane) (F : Field) (n : Nat) : (L.inc F n).blkHist = L.blkHist := rfl
@[simp] theorem Lane.inc_qHist (L : Lane) (F : Field) (n : Nat) : (L.inc F n).qHist = L.qHist := rfl
@[simp] theorem Lane.inc_lastRestart (L : Lane) (F : Field) (n : Nat) : (L.inc F n).lastRestart = L.lastRestart := rfl
@[simp] theorem Lane.inc_coreLow (L : Lane) (F : Field) (n : Nat) : (L.inc F n).coreLow = L.coreLow := rfl
@[simp] theorem Lane.inc_dlMargin (L : Lane) (F : Field) (n : Nat) : (L.inc F n).dlMargin = L.dlMargin := rfl
@[simp] theorem Lane.inc_tat (L : Lane) (F : Field) (n : Nat) : (L.inc F n).tat = L.tat := rfl
@[simp] theorem Lane.inc_trc (L : Lane) (F : Field) (n : Nat) : (L.inc F n).trc = L.trc := rfl
@[simp] theorem Lane.inc_bob (L : Lane) (F : Field) (n : Nat) : (L.inc F n).bob = L.bob := rfl
@[simp] theorem Lane.inc_spg (L : Lane) (F : Field) (n : Nat) : (L.inc F n).spg = L.spg := rfl
@[simp] theorem Lane.inc_drv (L : Lane) (F : Field) (n : Nat) : (L.inc F n).drv = L.drv := rfl
@[simp] theorem Lane.inc_sel (L : Lane) (F : Field) (n : Nat) : (L.inc F n).sel = L.sel := rfl
@[simp] theorem Lane.inc_door (L : Lane) (F : Field) (n : Nat) : (L.inc F n).door = L.door := rfl
@[simp] theorem Lane.inc_prk (L : Lane) (F : Field) (n : Nat) : (L.inc F n).prk = L.prk := rfl
@[simp] theorem Lane.inc_can (L : Lane) (F : Field) (n : Nat) : (L.inc F n).can = L.can := rfl
@[simp] theorem Lane.inc_seb (L : Lane) (F : Field) (n : Nat) : (L.inc F n).seb = L.seb := rfl
@[simp] theorem Lane.inc_pic (L : Lane) (F : Field) (n : Nat) : (L.inc F n).pic = L.pic := rfl
@[simp] theorem Lane.inc_lnk (L : Lane) (F : Field) (n : Nat) : (L.inc F n).lnk = L.lnk := rfl
@[simp] theorem Lane.inc_due (L : Lane) (F : Field) (n : Nat) : (L.inc F n).due = L.due := rfl
@[simp] theorem Lane.inc_log (L : Lane) (F : Field) (n : Nat) : (L.inc F n).log = L.log := rfl
@[simp] theorem Lane.inc_wer (L : Lane) (F : Field) (n : Nat) : (L.inc F n).wer = L.wer := rfl
@[simp] theorem Lane.inc_sess (L : Lane) (F : Field) (n : Nat) : (L.inc F n).sess = L.sess := rfl
@[simp] theorem Lane.inc_auth (L : Lane) (F : Field) (n : Nat) : (L.inc F n).auth = L.auth := rfl
@[simp] theorem Lane.inc_svc (L : Lane) (F : Field) (n : Nat) : (L.inc F n).svc = L.svc := rfl
@[simp] theorem Lane.inc_dbgp (L : Lane) (F : Field) (n : Nat) : (L.inc F n).dbgp = L.dbgp := rfl
@[simp] theorem Lane.inc_img (L : Lane) (F : Field) (n : Nat) : (L.inc F n).img = L.img := rfl
@[simp] theorem Lane.inc_mea (L : Lane) (F : Field) (n : Nat) : (L.inc F n).mea = L.mea := rfl
@[simp] theorem Lane.inc_usb (L : Lane) (F : Field) (n : Nat) : (L.inc F n).usb = L.usb := rfl
@[simp] theorem Lane.inc_bg (L : Lane) (F : Field) (n : Nat) : (L.inc F n).bg = L.bg := rfl

/-! ### Lane.updEng -/

@[simp] theorem Lane.updEng_regs (L : Lane) (e : Eng) (f : Engine → Engine) : (L.updEng e f).regs = L.regs := rfl
@[simp] theorem Lane.updEng_phase (L : Lane) (e : Eng) (f : Engine → Engine) : (L.updEng e f).phase = L.phase := rfl
@[simp] theorem Lane.updEng_tsram (L : Lane) (e : Eng) (f : Engine → Engine) : (L.updEng e f).tsram = L.tsram := rfl
@[simp] theorem Lane.updEng_flash (L : Lane) (e : Eng) (f : Engine → Engine) : (L.updEng e f).flash = L.flash := rfl
@[simp] theorem Lane.updEng_ue (L : Lane) (e : Eng) (f : Engine → Engine) : (L.updEng e f).ue = L.ue := rfl
@[simp] theorem Lane.updEng_post (L : Lane) (e : Eng) (f : Engine → Engine) : (L.updEng e f).post = L.post := rfl
@[simp] theorem Lane.updEng_gtime (L : Lane) (e : Eng) (f : Engine → Engine) : (L.updEng e f).gtime = L.gtime := rfl
@[simp] theorem Lane.updEng_fclk (L : Lane) (e : Eng) (f : Engine → Engine) : (L.updEng e f).fclk = L.fclk := rfl
@[simp] theorem Lane.updEng_tags (L : Lane) (e : Eng) (f : Engine → Engine) : (L.updEng e f).tags = L.tags := rfl
@[simp] theorem Lane.updEng_xing (L : Lane) (e : Eng) (f : Engine → Engine) : (L.updEng e f).xing = L.xing := rfl
@[simp] theorem Lane.updEng_tick (L : Lane) (e : Eng) (f : Engine → Engine) : (L.updEng e f).tick = L.tick := rfl
@[simp] theorem Lane.updEng_blkHist (L : Lane) (e : Eng) (f : Engine → Engine) : (L.updEng e f).blkHist = L.blkHist := rfl
@[simp] theorem Lane.updEng_qHist (L : Lane) (e : Eng) (f : Engine → Engine) : (L.updEng e f).qHist = L.qHist := rfl
@[simp] theorem Lane.updEng_lastRestart (L : Lane) (e : Eng) (f : Engine → Engine) : (L.updEng e f).lastRestart = L.lastRestart := rfl
@[simp] theorem Lane.updEng_coreLow (L : Lane) (e : Eng) (f : Engine → Engine) : (L.updEng e f).coreLow = L.coreLow := rfl
@[simp] theorem Lane.updEng_dlMargin (L : Lane) (e : Eng) (f : Engine → Engine) : (L.updEng e f).dlMargin = L.dlMargin := rfl
@[simp] theorem Lane.updEng_tat (L : Lane) (e : Eng) (f : Engine → Engine) : (L.updEng e f).tat = L.tat := rfl
@[simp] theorem Lane.updEng_trc (L : Lane) (e : Eng) (f : Engine → Engine) : (L.updEng e f).trc = L.trc := rfl
@[simp] theorem Lane.updEng_bob (L : Lane) (e : Eng) (f : Engine → Engine) : (L.updEng e f).bob = L.bob := rfl
@[simp] theorem Lane.updEng_spg (L : Lane) (e : Eng) (f : Engine → Engine) : (L.updEng e f).spg = L.spg := rfl
@[simp] theorem Lane.updEng_drv (L : Lane) (e : Eng) (f : Engine → Engine) : (L.updEng e f).drv = L.drv := rfl
@[simp] theorem Lane.updEng_sel (L : Lane) (e : Eng) (f : Engine → Engine) : (L.updEng e f).sel = L.sel := rfl
@[simp] theorem Lane.updEng_door (L : Lane) (e : Eng) (f : Engine → Engine) : (L.updEng e f).door = L.door := rfl
@[simp] theorem Lane.updEng_prk (L : Lane) (e : Eng) (f : Engine → Engine) : (L.updEng e f).prk = L.prk := rfl
@[simp] theorem Lane.updEng_can (L : Lane) (e : Eng) (f : Engine → Engine) : (L.updEng e f).can = L.can := rfl
@[simp] theorem Lane.updEng_seb (L : Lane) (e : Eng) (f : Engine → Engine) : (L.updEng e f).seb = L.seb := rfl
@[simp] theorem Lane.updEng_pic (L : Lane) (e : Eng) (f : Engine → Engine) : (L.updEng e f).pic = L.pic := rfl
@[simp] theorem Lane.updEng_lnk (L : Lane) (e : Eng) (f : Engine → Engine) : (L.updEng e f).lnk = L.lnk := rfl
@[simp] theorem Lane.updEng_due (L : Lane) (e : Eng) (f : Engine → Engine) : (L.updEng e f).due = L.due := rfl
@[simp] theorem Lane.updEng_log (L : Lane) (e : Eng) (f : Engine → Engine) : (L.updEng e f).log = L.log := rfl
@[simp] theorem Lane.updEng_wer (L : Lane) (e : Eng) (f : Engine → Engine) : (L.updEng e f).wer = L.wer := rfl
@[simp] theorem Lane.updEng_sess (L : Lane) (e : Eng) (f : Engine → Engine) : (L.updEng e f).sess = L.sess := rfl
@[simp] theorem Lane.updEng_auth (L : Lane) (e : Eng) (f : Engine → Engine) : (L.updEng e f).auth = L.auth := rfl
@[simp] theorem Lane.updEng_svc (L : Lane) (e : Eng) (f : Engine → Engine) : (L.updEng e f).svc = L.svc := rfl
@[simp] theorem Lane.updEng_dbgp (L : Lane) (e : Eng) (f : Engine → Engine) : (L.updEng e f).dbgp = L.dbgp := rfl
@[simp] theorem Lane.updEng_img (L : Lane) (e : Eng) (f : Engine → Engine) : (L.updEng e f).img = L.img := rfl
@[simp] theorem Lane.updEng_mea (L : Lane) (e : Eng) (f : Engine → Engine) : (L.updEng e f).mea = L.mea := rfl
@[simp] theorem Lane.updEng_usb (L : Lane) (e : Eng) (f : Engine → Engine) : (L.updEng e f).usb = L.usb := rfl
@[simp] theorem Lane.updEng_bg (L : Lane) (e : Eng) (f : Engine → Engine) : (L.updEng e f).bg = L.bg := rfl

/-! ### Lane.store -/

@[simp] theorem Lane.store_regs (L : Lane) (a : Nat) (v : Word) : (L.store a v).regs = rstore L.regs a v := rfl
@[simp] theorem Lane.store_phase (L : Lane) (a : Nat) (v : Word) : (L.store a v).phase = L.phase := rfl
@[simp] theorem Lane.store_eng (L : Lane) (a : Nat) (v : Word) : (L.store a v).eng = L.eng := rfl
@[simp] theorem Lane.store_tsram (L : Lane) (a : Nat) (v : Word) : (L.store a v).tsram = L.tsram := rfl
@[simp] theorem Lane.store_flash (L : Lane) (a : Nat) (v : Word) : (L.store a v).flash = L.flash := rfl
@[simp] theorem Lane.store_ue (L : Lane) (a : Nat) (v : Word) : (L.store a v).ue = L.ue := rfl
@[simp] theorem Lane.store_post (L : Lane) (a : Nat) (v : Word) : (L.store a v).post = L.post := rfl
@[simp] theorem Lane.store_gtime (L : Lane) (a : Nat) (v : Word) : (L.store a v).gtime = L.gtime := rfl
@[simp] theorem Lane.store_fclk (L : Lane) (a : Nat) (v : Word) : (L.store a v).fclk = L.fclk := rfl
@[simp] theorem Lane.store_tags (L : Lane) (a : Nat) (v : Word) : (L.store a v).tags = L.tags := rfl
@[simp] theorem Lane.store_xing (L : Lane) (a : Nat) (v : Word) : (L.store a v).xing = L.xing := rfl
@[simp] theorem Lane.store_tick (L : Lane) (a : Nat) (v : Word) : (L.store a v).tick = L.tick := rfl
@[simp] theorem Lane.store_blkHist (L : Lane) (a : Nat) (v : Word) : (L.store a v).blkHist = L.blkHist := rfl
@[simp] theorem Lane.store_qHist (L : Lane) (a : Nat) (v : Word) : (L.store a v).qHist = L.qHist := rfl
@[simp] theorem Lane.store_lastRestart (L : Lane) (a : Nat) (v : Word) : (L.store a v).lastRestart = L.lastRestart := rfl
@[simp] theorem Lane.store_coreLow (L : Lane) (a : Nat) (v : Word) : (L.store a v).coreLow = L.coreLow := rfl
@[simp] theorem Lane.store_dlMargin (L : Lane) (a : Nat) (v : Word) : (L.store a v).dlMargin = L.dlMargin := rfl
@[simp] theorem Lane.store_tat (L : Lane) (a : Nat) (v : Word) : (L.store a v).tat = L.tat := rfl
@[simp] theorem Lane.store_trc (L : Lane) (a : Nat) (v : Word) : (L.store a v).trc = L.trc := rfl
@[simp] theorem Lane.store_bob (L : Lane) (a : Nat) (v : Word) : (L.store a v).bob = L.bob := rfl
@[simp] theorem Lane.store_spg (L : Lane) (a : Nat) (v : Word) : (L.store a v).spg = L.spg := rfl
@[simp] theorem Lane.store_drv (L : Lane) (a : Nat) (v : Word) : (L.store a v).drv = L.drv := rfl
@[simp] theorem Lane.store_sel (L : Lane) (a : Nat) (v : Word) : (L.store a v).sel = L.sel := rfl
@[simp] theorem Lane.store_door (L : Lane) (a : Nat) (v : Word) : (L.store a v).door = L.door := rfl
@[simp] theorem Lane.store_prk (L : Lane) (a : Nat) (v : Word) : (L.store a v).prk = L.prk := rfl
@[simp] theorem Lane.store_can (L : Lane) (a : Nat) (v : Word) : (L.store a v).can = L.can := rfl
@[simp] theorem Lane.store_seb (L : Lane) (a : Nat) (v : Word) : (L.store a v).seb = L.seb := rfl
@[simp] theorem Lane.store_pic (L : Lane) (a : Nat) (v : Word) : (L.store a v).pic = L.pic := rfl
@[simp] theorem Lane.store_lnk (L : Lane) (a : Nat) (v : Word) : (L.store a v).lnk = L.lnk := rfl
@[simp] theorem Lane.store_due (L : Lane) (a : Nat) (v : Word) : (L.store a v).due = L.due := rfl
@[simp] theorem Lane.store_log (L : Lane) (a : Nat) (v : Word) : (L.store a v).log = L.log := rfl
@[simp] theorem Lane.store_wer (L : Lane) (a : Nat) (v : Word) : (L.store a v).wer = L.wer := rfl
@[simp] theorem Lane.store_sess (L : Lane) (a : Nat) (v : Word) : (L.store a v).sess = L.sess := rfl
@[simp] theorem Lane.store_auth (L : Lane) (a : Nat) (v : Word) : (L.store a v).auth = L.auth := rfl
@[simp] theorem Lane.store_svc (L : Lane) (a : Nat) (v : Word) : (L.store a v).svc = L.svc := rfl
@[simp] theorem Lane.store_dbgp (L : Lane) (a : Nat) (v : Word) : (L.store a v).dbgp = L.dbgp := rfl
@[simp] theorem Lane.store_img (L : Lane) (a : Nat) (v : Word) : (L.store a v).img = L.img := rfl
@[simp] theorem Lane.store_mea (L : Lane) (a : Nat) (v : Word) : (L.store a v).mea = L.mea := rfl
@[simp] theorem Lane.store_usb (L : Lane) (a : Nat) (v : Word) : (L.store a v).usb = L.usb := rfl
@[simp] theorem Lane.store_bg (L : Lane) (a : Nat) (v : Word) : (L.store a v).bg = L.bg := rfl

/-! ### Lane.updBob -/

@[simp] theorem Lane.updBob_bob (L : Lane) (f : Bob → Bob) : (L.updBob f).bob = f L.bob := rfl
@[simp] theorem Lane.updBob_regs (L : Lane) (f : Bob → Bob) : (L.updBob f).regs = L.regs := rfl
@[simp] theorem Lane.updBob_eng (L : Lane) (f : Bob → Bob) : (L.updBob f).eng = L.eng := rfl
@[simp] theorem Lane.updBob_tsram (L : Lane) (f : Bob → Bob) : (L.updBob f).tsram = L.tsram := rfl
@[simp] theorem Lane.updBob_flash (L : Lane) (f : Bob → Bob) : (L.updBob f).flash = L.flash := rfl
@[simp] theorem Lane.updBob_phase (L : Lane) (f : Bob → Bob) : (L.updBob f).phase = L.phase := rfl
@[simp] theorem Lane.updBob_ue (L : Lane) (f : Bob → Bob) : (L.updBob f).ue = L.ue := rfl
@[simp] theorem Lane.updBob_xing (L : Lane) (f : Bob → Bob) : (L.updBob f).xing = L.xing := rfl
@[simp] theorem Lane.updBob_tick (L : Lane) (f : Bob → Bob) : (L.updBob f).tick = L.tick := rfl
@[simp] theorem Lane.updBob_lnk (L : Lane) (f : Bob → Bob) : (L.updBob f).lnk = L.lnk := rfl
@[simp] theorem Lane.updBob_log (L : Lane) (f : Bob → Bob) : (L.updBob f).log = L.log := rfl

/-! ### Lane.updDrv -/

@[simp] theorem Lane.updDrv_drv (L : Lane) (f : Drv → Drv) : (L.updDrv f).drv = f L.drv := rfl
@[simp] theorem Lane.updDrv_regs (L : Lane) (f : Drv → Drv) : (L.updDrv f).regs = L.regs := rfl
@[simp] theorem Lane.updDrv_eng (L : Lane) (f : Drv → Drv) : (L.updDrv f).eng = L.eng := rfl
@[simp] theorem Lane.updDrv_tsram (L : Lane) (f : Drv → Drv) : (L.updDrv f).tsram = L.tsram := rfl
@[simp] theorem Lane.updDrv_flash (L : Lane) (f : Drv → Drv) : (L.updDrv f).flash = L.flash := rfl
@[simp] theorem Lane.updDrv_phase (L : Lane) (f : Drv → Drv) : (L.updDrv f).phase = L.phase := rfl
@[simp] theorem Lane.updDrv_ue (L : Lane) (f : Drv → Drv) : (L.updDrv f).ue = L.ue := rfl
@[simp] theorem Lane.updDrv_xing (L : Lane) (f : Drv → Drv) : (L.updDrv f).xing = L.xing := rfl
@[simp] theorem Lane.updDrv_tick (L : Lane) (f : Drv → Drv) : (L.updDrv f).tick = L.tick := rfl
@[simp] theorem Lane.updDrv_lnk (L : Lane) (f : Drv → Drv) : (L.updDrv f).lnk = L.lnk := rfl
@[simp] theorem Lane.updDrv_log (L : Lane) (f : Drv → Drv) : (L.updDrv f).log = L.log := rfl

/-! ### Lane.updLnk -/

@[simp] theorem Lane.updLnk_lnk (L : Lane) (f : Lnk → Lnk) : (L.updLnk f).lnk = f L.lnk := rfl
@[simp] theorem Lane.updLnk_regs (L : Lane) (f : Lnk → Lnk) : (L.updLnk f).regs = L.regs := rfl
@[simp] theorem Lane.updLnk_eng (L : Lane) (f : Lnk → Lnk) : (L.updLnk f).eng = L.eng := rfl
@[simp] theorem Lane.updLnk_tsram (L : Lane) (f : Lnk → Lnk) : (L.updLnk f).tsram = L.tsram := rfl
@[simp] theorem Lane.updLnk_flash (L : Lane) (f : Lnk → Lnk) : (L.updLnk f).flash = L.flash := rfl
@[simp] theorem Lane.updLnk_phase (L : Lane) (f : Lnk → Lnk) : (L.updLnk f).phase = L.phase := rfl
@[simp] theorem Lane.updLnk_ue (L : Lane) (f : Lnk → Lnk) : (L.updLnk f).ue = L.ue := rfl
@[simp] theorem Lane.updLnk_xing (L : Lane) (f : Lnk → Lnk) : (L.updLnk f).xing = L.xing := rfl
@[simp] theorem Lane.updLnk_tick (L : Lane) (f : Lnk → Lnk) : (L.updLnk f).tick = L.tick := rfl
@[simp] theorem Lane.updLnk_log (L : Lane) (f : Lnk → Lnk) : (L.updLnk f).log = L.log := rfl

/-! ### Lane.updWer -/

@[simp] theorem Lane.updWer_wer (L : Lane) (f : Wer → Wer) : (L.updWer f).wer = f L.wer := rfl
@[simp] theorem Lane.updWer_regs (L : Lane) (f : Wer → Wer) : (L.updWer f).regs = L.regs := rfl
@[simp] theorem Lane.updWer_eng (L : Lane) (f : Wer → Wer) : (L.updWer f).eng = L.eng := rfl
@[simp] theorem Lane.updWer_tsram (L : Lane) (f : Wer → Wer) : (L.updWer f).tsram = L.tsram := rfl
@[simp] theorem Lane.updWer_flash (L : Lane) (f : Wer → Wer) : (L.updWer f).flash = L.flash := rfl
@[simp] theorem Lane.updWer_phase (L : Lane) (f : Wer → Wer) : (L.updWer f).phase = L.phase := rfl
@[simp] theorem Lane.updWer_ue (L : Lane) (f : Wer → Wer) : (L.updWer f).ue = L.ue := rfl
@[simp] theorem Lane.updWer_xing (L : Lane) (f : Wer → Wer) : (L.updWer f).xing = L.xing := rfl
@[simp] theorem Lane.updWer_tick (L : Lane) (f : Wer → Wer) : (L.updWer f).tick = L.tick := rfl
@[simp] theorem Lane.updWer_lnk (L : Lane) (f : Wer → Wer) : (L.updWer f).lnk = L.lnk := rfl
@[simp] theorem Lane.updWer_log (L : Lane) (f : Wer → Wer) : (L.updWer f).log = L.log := rfl

/-! ### Lane.updPic -/

@[simp] theorem Lane.updPic_pic (L : Lane) (f : Pic → Pic) : (L.updPic f).pic = f L.pic := rfl
@[simp] theorem Lane.updPic_regs (L : Lane) (f : Pic → Pic) : (L.updPic f).regs = L.regs := rfl
@[simp] theorem Lane.updPic_eng (L : Lane) (f : Pic → Pic) : (L.updPic f).eng = L.eng := rfl
@[simp] theorem Lane.updPic_tsram (L : Lane) (f : Pic → Pic) : (L.updPic f).tsram = L.tsram := rfl
@[simp] theorem Lane.updPic_flash (L : Lane) (f : Pic → Pic) : (L.updPic f).flash = L.flash := rfl
@[simp] theorem Lane.updPic_phase (L : Lane) (f : Pic → Pic) : (L.updPic f).phase = L.phase := rfl
@[simp] theorem Lane.updPic_ue (L : Lane) (f : Pic → Pic) : (L.updPic f).ue = L.ue := rfl
@[simp] theorem Lane.updPic_xing (L : Lane) (f : Pic → Pic) : (L.updPic f).xing = L.xing := rfl
@[simp] theorem Lane.updPic_tick (L : Lane) (f : Pic → Pic) : (L.updPic f).tick = L.tick := rfl
@[simp] theorem Lane.updPic_lnk (L : Lane) (f : Pic → Pic) : (L.updPic f).lnk = L.lnk := rfl
@[simp] theorem Lane.updPic_log (L : Lane) (f : Pic → Pic) : (L.updPic f).log = L.log := rfl

/-! ### Lane.updPrk -/

@[simp] theorem Lane.updPrk_prk (L : Lane) (f : Prk → Prk) : (L.updPrk f).prk = f L.prk := rfl
@[simp] theorem Lane.updPrk_regs (L : Lane) (f : Prk → Prk) : (L.updPrk f).regs = L.regs := rfl
@[simp] theorem Lane.updPrk_eng (L : Lane) (f : Prk → Prk) : (L.updPrk f).eng = L.eng := rfl
@[simp] theorem Lane.updPrk_tsram (L : Lane) (f : Prk → Prk) : (L.updPrk f).tsram = L.tsram := rfl
@[simp] theorem Lane.updPrk_flash (L : Lane) (f : Prk → Prk) : (L.updPrk f).flash = L.flash := rfl
@[simp] theorem Lane.updPrk_phase (L : Lane) (f : Prk → Prk) : (L.updPrk f).phase = L.phase := rfl
@[simp] theorem Lane.updPrk_ue (L : Lane) (f : Prk → Prk) : (L.updPrk f).ue = L.ue := rfl
@[simp] theorem Lane.updPrk_xing (L : Lane) (f : Prk → Prk) : (L.updPrk f).xing = L.xing := rfl
@[simp] theorem Lane.updPrk_tick (L : Lane) (f : Prk → Prk) : (L.updPrk f).tick = L.tick := rfl
@[simp] theorem Lane.updPrk_lnk (L : Lane) (f : Prk → Prk) : (L.updPrk f).lnk = L.lnk := rfl
@[simp] theorem Lane.updPrk_log (L : Lane) (f : Prk → Prk) : (L.updPrk f).log = L.log := rfl

/-! ### Lane.updSeb -/

@[simp] theorem Lane.updSeb_seb (L : Lane) (f : Seb → Seb) : (L.updSeb f).seb = f L.seb := rfl
@[simp] theorem Lane.updSeb_regs (L : Lane) (f : Seb → Seb) : (L.updSeb f).regs = L.regs := rfl
@[simp] theorem Lane.updSeb_eng (L : Lane) (f : Seb → Seb) : (L.updSeb f).eng = L.eng := rfl
@[simp] theorem Lane.updSeb_tsram (L : Lane) (f : Seb → Seb) : (L.updSeb f).tsram = L.tsram := rfl
@[simp] theorem Lane.updSeb_flash (L : Lane) (f : Seb → Seb) : (L.updSeb f).flash = L.flash := rfl
@[simp] theorem Lane.updSeb_phase (L : Lane) (f : Seb → Seb) : (L.updSeb f).phase = L.phase := rfl
@[simp] theorem Lane.updSeb_ue (L : Lane) (f : Seb → Seb) : (L.updSeb f).ue = L.ue := rfl
@[simp] theorem Lane.updSeb_xing (L : Lane) (f : Seb → Seb) : (L.updSeb f).xing = L.xing := rfl
@[simp] theorem Lane.updSeb_tick (L : Lane) (f : Seb → Seb) : (L.updSeb f).tick = L.tick := rfl
@[simp] theorem Lane.updSeb_lnk (L : Lane) (f : Seb → Seb) : (L.updSeb f).lnk = L.lnk := rfl
@[simp] theorem Lane.updSeb_log (L : Lane) (f : Seb → Seb) : (L.updSeb f).log = L.log := rfl

/-! ### Lane.updSel -/

@[simp] theorem Lane.updSel_sel (L : Lane) (f : Sel → Sel) : (L.updSel f).sel = f L.sel := rfl
@[simp] theorem Lane.updSel_regs (L : Lane) (f : Sel → Sel) : (L.updSel f).regs = L.regs := rfl
@[simp] theorem Lane.updSel_eng (L : Lane) (f : Sel → Sel) : (L.updSel f).eng = L.eng := rfl
@[simp] theorem Lane.updSel_tsram (L : Lane) (f : Sel → Sel) : (L.updSel f).tsram = L.tsram := rfl
@[simp] theorem Lane.updSel_flash (L : Lane) (f : Sel → Sel) : (L.updSel f).flash = L.flash := rfl
@[simp] theorem Lane.updSel_phase (L : Lane) (f : Sel → Sel) : (L.updSel f).phase = L.phase := rfl
@[simp] theorem Lane.updSel_ue (L : Lane) (f : Sel → Sel) : (L.updSel f).ue = L.ue := rfl
@[simp] theorem Lane.updSel_xing (L : Lane) (f : Sel → Sel) : (L.updSel f).xing = L.xing := rfl
@[simp] theorem Lane.updSel_tick (L : Lane) (f : Sel → Sel) : (L.updSel f).tick = L.tick := rfl
@[simp] theorem Lane.updSel_lnk (L : Lane) (f : Sel → Sel) : (L.updSel f).lnk = L.lnk := rfl
@[simp] theorem Lane.updSel_log (L : Lane) (f : Sel → Sel) : (L.updSel f).log = L.log := rfl

/-! ### Lane.updImg -/

@[simp] theorem Lane.updImg_img (L : Lane) (f : Img → Img) : (L.updImg f).img = f L.img := rfl
@[simp] theorem Lane.updImg_regs (L : Lane) (f : Img → Img) : (L.updImg f).regs = L.regs := rfl
@[simp] theorem Lane.updImg_eng (L : Lane) (f : Img → Img) : (L.updImg f).eng = L.eng := rfl
@[simp] theorem Lane.updImg_tsram (L : Lane) (f : Img → Img) : (L.updImg f).tsram = L.tsram := rfl
@[simp] theorem Lane.updImg_flash (L : Lane) (f : Img → Img) : (L.updImg f).flash = L.flash := rfl
@[simp] theorem Lane.updImg_phase (L : Lane) (f : Img → Img) : (L.updImg f).phase = L.phase := rfl
@[simp] theorem Lane.updImg_ue (L : Lane) (f : Img → Img) : (L.updImg f).ue = L.ue := rfl
@[simp] theorem Lane.updImg_xing (L : Lane) (f : Img → Img) : (L.updImg f).xing = L.xing := rfl
@[simp] theorem Lane.updImg_tick (L : Lane) (f : Img → Img) : (L.updImg f).tick = L.tick := rfl
@[simp] theorem Lane.updImg_lnk (L : Lane) (f : Img → Img) : (L.updImg f).lnk = L.lnk := rfl
@[simp] theorem Lane.updImg_log (L : Lane) (f : Img → Img) : (L.updImg f).log = L.log := rfl

/-! ### Bytes into the table SRAM and the flash -/

@[simp] theorem Lane.healed_regs (L : Lane) (a n : Nat) : (L.healed a n).regs = L.regs := rfl
@[simp] theorem Lane.healed_eng (L : Lane) (a n : Nat) : (L.healed a n).eng = L.eng := rfl
@[simp] theorem Lane.healed_tsram (L : Lane) (a n : Nat) : (L.healed a n).tsram = L.tsram := rfl
@[simp] theorem Lane.healed_flash (L : Lane) (a n : Nat) : (L.healed a n).flash = L.flash := rfl
@[simp] theorem Lane.healed_phase (L : Lane) (a n : Nat) : (L.healed a n).phase = L.phase := rfl
@[simp] theorem Lane.healed_xing (L : Lane) (a n : Nat) : (L.healed a n).xing = L.xing := rfl
@[simp] theorem Lane.healed_tick (L : Lane) (a n : Nat) : (L.healed a n).tick = L.tick := rfl
@[simp] theorem Lane.healed_lnk (L : Lane) (a n : Nat) : (L.healed a n).lnk = L.lnk := rfl
@[simp] theorem Lane.healed_log (L : Lane) (a n : Nat) : (L.healed a n).log = L.log := rfl
@[simp] theorem Lane.healed_prk (L : Lane) (a n : Nat) : (L.healed a n).prk = L.prk := rfl
@[simp] theorem Lane.healed_bob (L : Lane) (a n : Nat) : (L.healed a n).bob = L.bob := rfl
@[simp] theorem Lane.healed_seb (L : Lane) (a n : Nat) : (L.healed a n).seb = L.seb := rfl
@[simp] theorem Lane.healed_svc (L : Lane) (a n : Nat) : (L.healed a n).svc = L.svc := rfl
@[simp] theorem Lane.healed_img (L : Lane) (a n : Nat) : (L.healed a n).img = L.img := rfl
@[simp] theorem Lane.healed_wer (L : Lane) (a n : Nat) : (L.healed a n).wer = L.wer := rfl
@[simp] theorem Lane.tsPut_regs (L : Lane) (off : Nat) (b : Bytes) : (L.tsPut off b).regs = L.regs := rfl
@[simp] theorem Lane.tsPut_eng (L : Lane) (off : Nat) (b : Bytes) : (L.tsPut off b).eng = L.eng := rfl
@[simp] theorem Lane.tsPut_tsram (L : Lane) (off : Nat) (b : Bytes) : (L.tsPut off b).tsram = writeBytes 0 L.tsram off b := rfl
@[simp] theorem Lane.tsPut_flash (L : Lane) (off : Nat) (b : Bytes) : (L.tsPut off b).flash = L.flash := rfl
@[simp] theorem Lane.tsPut_phase (L : Lane) (off : Nat) (b : Bytes) : (L.tsPut off b).phase = L.phase := rfl
@[simp] theorem Lane.tsPut_xing (L : Lane) (off : Nat) (b : Bytes) : (L.tsPut off b).xing = L.xing := rfl
@[simp] theorem Lane.tsPut_tick (L : Lane) (off : Nat) (b : Bytes) : (L.tsPut off b).tick = L.tick := rfl
@[simp] theorem Lane.tsPut_lnk (L : Lane) (off : Nat) (b : Bytes) : (L.tsPut off b).lnk = L.lnk := rfl
@[simp] theorem Lane.tsPut_log (L : Lane) (off : Nat) (b : Bytes) : (L.tsPut off b).log = L.log := rfl
@[simp] theorem Lane.tsPut_prk (L : Lane) (off : Nat) (b : Bytes) : (L.tsPut off b).prk = L.prk := rfl
@[simp] theorem Lane.tsPut_bob (L : Lane) (off : Nat) (b : Bytes) : (L.tsPut off b).bob = L.bob := rfl
@[simp] theorem Lane.tsPut_seb (L : Lane) (off : Nat) (b : Bytes) : (L.tsPut off b).seb = L.seb := rfl
@[simp] theorem Lane.tsPut_svc (L : Lane) (off : Nat) (b : Bytes) : (L.tsPut off b).svc = L.svc := rfl
@[simp] theorem Lane.tsPut_img (L : Lane) (off : Nat) (b : Bytes) : (L.tsPut off b).img = L.img := rfl
@[simp] theorem Lane.tsPut_wer (L : Lane) (off : Nat) (b : Bytes) : (L.tsPut off b).wer = L.wer := rfl
@[simp] theorem Lane.flashPut_regs (L : Lane) (off : Nat) (b : Bytes) : (L.flashPut off b).regs = L.regs := rfl
@[simp] theorem Lane.flashPut_eng (L : Lane) (off : Nat) (b : Bytes) : (L.flashPut off b).eng = L.eng := rfl
@[simp] theorem Lane.flashPut_tsram (L : Lane) (off : Nat) (b : Bytes) : (L.flashPut off b).tsram = L.tsram := rfl
@[simp] theorem Lane.flashPut_flash (L : Lane) (off : Nat) (b : Bytes) : (L.flashPut off b).flash = writeBytes 0xFF L.flash off b := rfl
@[simp] theorem Lane.flashPut_phase (L : Lane) (off : Nat) (b : Bytes) : (L.flashPut off b).phase = L.phase := rfl
@[simp] theorem Lane.flashPut_xing (L : Lane) (off : Nat) (b : Bytes) : (L.flashPut off b).xing = L.xing := rfl
@[simp] theorem Lane.flashPut_tick (L : Lane) (off : Nat) (b : Bytes) : (L.flashPut off b).tick = L.tick := rfl
@[simp] theorem Lane.flashPut_lnk (L : Lane) (off : Nat) (b : Bytes) : (L.flashPut off b).lnk = L.lnk := rfl
@[simp] theorem Lane.flashPut_log (L : Lane) (off : Nat) (b : Bytes) : (L.flashPut off b).log = L.log := rfl
@[simp] theorem Lane.flashPut_prk (L : Lane) (off : Nat) (b : Bytes) : (L.flashPut off b).prk = L.prk := rfl
@[simp] theorem Lane.flashPut_bob (L : Lane) (off : Nat) (b : Bytes) : (L.flashPut off b).bob = L.bob := rfl
@[simp] theorem Lane.flashPut_seb (L : Lane) (off : Nat) (b : Bytes) : (L.flashPut off b).seb = L.seb := rfl
@[simp] theorem Lane.flashPut_svc (L : Lane) (off : Nat) (b : Bytes) : (L.flashPut off b).svc = L.svc := rfl
@[simp] theorem Lane.flashPut_img (L : Lane) (off : Nat) (b : Bytes) : (L.flashPut off b).img = L.img := rfl
@[simp] theorem Lane.flashPut_wer (L : Lane) (off : Nat) (b : Bytes) : (L.flashPut off b).wer = L.wer := rfl
@[simp] theorem Lane.flashErase_regs (L : Lane) (off n : Nat) : (L.flashErase off n).regs = L.regs := rfl
@[simp] theorem Lane.flashErase_eng (L : Lane) (off n : Nat) : (L.flashErase off n).eng = L.eng := rfl
@[simp] theorem Lane.flashErase_tsram (L : Lane) (off n : Nat) : (L.flashErase off n).tsram = L.tsram := rfl
@[simp] theorem Lane.flashErase_flash (L : Lane) (off n : Nat) : (L.flashErase off n).flash = clearRange L.flash off n := rfl
@[simp] theorem Lane.flashErase_phase (L : Lane) (off n : Nat) : (L.flashErase off n).phase = L.phase := rfl
@[simp] theorem Lane.flashErase_xing (L : Lane) (off n : Nat) : (L.flashErase off n).xing = L.xing := rfl
@[simp] theorem Lane.flashErase_tick (L : Lane) (off n : Nat) : (L.flashErase off n).tick = L.tick := rfl
@[simp] theorem Lane.flashErase_lnk (L : Lane) (off n : Nat) : (L.flashErase off n).lnk = L.lnk := rfl
@[simp] theorem Lane.flashErase_log (L : Lane) (off n : Nat) : (L.flashErase off n).log = L.log := rfl
@[simp] theorem Lane.flashErase_prk (L : Lane) (off n : Nat) : (L.flashErase off n).prk = L.prk := rfl
@[simp] theorem Lane.flashErase_bob (L : Lane) (off n : Nat) : (L.flashErase off n).bob = L.bob := rfl
@[simp] theorem Lane.flashErase_seb (L : Lane) (off n : Nat) : (L.flashErase off n).seb = L.seb := rfl
@[simp] theorem Lane.flashErase_svc (L : Lane) (off n : Nat) : (L.flashErase off n).svc = L.svc := rfl
@[simp] theorem Lane.flashErase_img (L : Lane) (off n : Nat) : (L.flashErase off n).img = L.img := rfl
@[simp] theorem Lane.flashErase_wer (L : Lane) (off n : Nat) : (L.flashErase off n).wer = L.wer := rfl

/-- Healing takes lines out of the ones in error and puts none in. -/
theorem Lane.mem_healed_ue (L : Lane) (a n x : Nat) : x ∈ (L.healed a n).ue ↔ x ∈ L.ue ∧ ¬(a ≤ x ∧ x < a + n) := by
  simp only [Lane.healed, List.mem_filter, Bool.and_eq_false_iff, decide_eq_false_iff_not, Bool.not_eq_eq_eq_not, Bool.not_true]
  constructor <;> rintro ⟨h, k⟩ <;> exact ⟨h, by omega⟩

/-! ### The queue -/

/-- A command that completes leaves the queue as it was. -/
theorem lift_pending {f : World → World} {s t : State} (h : lift f s = .next t) : t.pending = s.pending := by
  cases h; rfl

theorem lift_eq (f : World → World) (s : State) : lift f s = .next { s with toWorld := f s.toWorld } := rfl

/-- What a completing command does, said of the part. -/
theorem does_lift {c : Instr} {f : World → World} {s : State} {Q : State → Prop} (h : exec c s = lift f s)
    (q : Q { s with toWorld := f s.toWorld }) : Does c s Q := ⟨_, h, rfl, q⟩

end Sys2Proof.Machine
end

