-- ==== Sys2Proof/Laws/Engine.lean ====
section
/-!
SUPPORT. What running one instruction does to its engine, said once: for an instruction of the registers alone, and for any other by what its body
comes to.
-/
namespace Sys2Proof.Machine

theorem World.kUpd_running {w : World} {l : LaneId} {e : Eng} (f : Engine → Engine) (h : (w.lane l).eng[e].phase = .running) :
    w.kUpd l e f = w.updLane l fun L => L.updEng e f := by
  simp only [World.kUpd, if_pos h]

theorem World.Ready.running {w : World} {l : LaneId} {e : Eng} (h : w.Ready l e) : (w.lane l).eng[e].phase = .running := by
  have := h.1
  simp only [Lane.engLive, Bool.and_eq_true, decide_eq_true_eq] at this
  exact this.1.1.2

/-- The part with an engine no longer waiting. -/
def World.unwait (w : World) (l : LaneId) (e : Eng) : World := w.updLane l fun L => L.updEng e fun g => { g with wait := none }

/-- A ready engine runs the instruction's body, its wait over. -/
theorem World.kRun_ready {w : World} {l : LaneId} {e : Eng} (h : w.Ready l e) (body : World → KRes KNext) :
    w.kRun l e none body = World.kDone l e (body (w.unwait l e)) := by
  obtain ⟨h1, h2, h3⟩ := h
  have r : (w.lane l).eng[e].phase = .running := World.Ready.running ⟨h1, h2, h3⟩
  simp only [World.pc] at h2 h3
  simp only [World.kRun, h1, if_true, World.kExec, World.kUpd_running _ r, h2, Bool.not_true, Bool.false_eq_true, if_false,
    World.lane_updLane_same, Lane.updEng_ue, h3, World.unwait]

/-- An instruction of the registers alone: the engine's registers change by it, and the pc goes on. -/
theorem World.kRun_alu {w : World} {l : LaneId} {e : Eng} (h : w.Ready l e) (f : KCore → KCore) :
    w.kRun l e none (kAlu l e f) = w.updLane l fun L => L.updEng e fun g => g.go (f g.core) := by
  have r := h.running
  rw [World.kRun_ready h]
  simp only [kAlu, World.kDone, World.kCore, World.unwait]
  rw [World.kUpd_running (w := w.updLane l _) _ (by simpa using r)]
  rw [World.kUpd_running _ (by simpa using r)]
  simp only [World.updLane_updLane, Lane.updEng_updEng, Engine.go]

/-- An illegal encoding raises ILLEGAL. -/
theorem World.kRun_illegal {w : World} {l : LaneId} {e : Eng} (h : w.Ready l e) (sub : Nat) (body : World → KRes KNext) :
    w.kRun l e (some sub) body = (w.unwait l e).kRaise l e xIllegal sub 0 := by
  obtain ⟨h1, h2, h3⟩ := h
  have r : (w.lane l).eng[e].phase = .running := World.Ready.running ⟨h1, h2, h3⟩
  simp only [World.pc] at h2 h3
  simp only [World.kRun, h1, if_true, World.kExec, World.kUpd_running _ r, h2, Bool.not_true, Bool.false_eq_true, if_false,
    World.lane_updLane_same, Lane.updEng_ue, h3, World.unwait]

end Sys2Proof.Machine
end

