-- ==== Sys2Proof/Laws/Maps.lean ====
section
/-!
SUPPORT. Laws of the sparse maps that hold registers and memory: a read after a write, and the canonical form, which every operation on a map keeps.
-/
namespace Sys2Proof.Machine

variable {α : Type} {d : α}

/-! ### Reads after writes -/

theorem sget_dropWhile (m : List (Nat × α)) (i j : Nat) (h : i < j) :
    sget d (m.dropWhile fun c => decide (c.1 ≤ i)) j = sget d m j := by
  induction m with
  | nil => rfl
  | cons c m ih =>
    obtain ⟨k, v⟩ := c
    by_cases hk : k ≤ i
    · simp only [List.dropWhile, hk, decide_true, ih, sget]
      rw [if_neg (by omega), if_neg (by omega)]
    · simp [List.dropWhile, hk]

theorem sget_dropWhile_le (m : List (Nat × α)) (i j : Nat) (h : j ≤ i) :
    sget d (m.dropWhile fun c => decide (c.1 ≤ i)) j = d := by
  induction m with
  | nil => rfl
  | cons c m ih =>
    obtain ⟨k, v⟩ := c
    by_cases hk : k ≤ i
    · simp only [List.dropWhile, hk, decide_true, ih]
    · simp only [List.dropWhile, hk, decide_false, sget]
      rw [if_neg (by omega), if_pos (by omega)]

variable [DecidableEq α]

/-- Reading the address just written gives the value written. -/
@[simp] theorem sget_sput_same (m : List (Nat × α)) (i : Nat) (x : α) : sget d (sput d m i x) i = x := by
  induction m with
  | nil => by_cases h : x = d <;> simp [sput, sget, h]
  | cons c m ih =>
    obtain ⟨k, v⟩ := c
    rcases Nat.lt_trichotomy i k with h | h | h
    · by_cases hx : x = d
      · simp [sput, sget, h, hx, Nat.ne_of_lt h]
      · simp [sput, sget, h, hx]
    · subst h
      by_cases hx : x = d
      · simp [sput, hx, sget_dropWhile_le]
      · simp [sput, sget, hx]
    · simp [sput, sget, Nat.not_lt.2 (Nat.le_of_lt h), Nat.ne_of_gt h, ih]

/-- Writing one address leaves every other as it was. -/
theorem sget_sput_ne (m : List (Nat × α)) (i j : Nat) (x : α) (h : j ≠ i) : sget d (sput d m i x) j = sget d m j := by
  induction m with
  | nil => by_cases hx : x = d <;> simp [sput, sget, hx, h]
  | cons c m ih =>
    obtain ⟨k, v⟩ := c
    rcases Nat.lt_trichotomy i k with hk | hk | hk
    · by_cases hx : x = d
      · simp [sput, hk, hx]
      · simp only [sput, hk, hx, if_true, if_false, sget, h]
        by_cases hj : j < i
        · rw [if_pos hj, if_neg (by omega), if_pos (by omega)]
        · rw [if_neg hj]
    · subst hk
      by_cases hx : x = d
      · rcases Nat.lt_or_ge i j with hj | hj
        · simp only [sput, Nat.lt_irrefl, hx, if_true, if_false, sget_dropWhile m i j hj, sget]
          rw [if_neg h, if_neg (by omega)]
        · simp only [sput, Nat.lt_irrefl, hx, if_true, if_false, sget_dropWhile_le m i j hj, sget]
          rw [if_neg h, if_pos (by omega)]
      · simp [sput, sget, hx, h]
    · simp only [sput, Nat.not_lt.2 (Nat.le_of_lt hk), Nat.ne_of_gt hk, if_false, sget, ih]

theorem sget_sput (m : List (Nat × α)) (i j : Nat) (x : α) : sget d (sput d m i x) j = if j = i then x else sget d m j := by
  by_cases h : j = i
  · subst h; simp
  · simp [h, sget_sput_ne]

/-! ### The canonical form -/

theorem swf_mono (m : List (Nat × α)) (a b : Nat) (h : a ≤ b) (hm : swf d b m = true) : swf d a m = true := by
  cases m with
  | nil => rfl
  | cons c m =>
    simp only [swf, Bool.and_eq_true, decide_eq_true_eq] at hm ⊢
    exact ⟨⟨Nat.le_trans h hm.1.1, hm.1.2⟩, hm.2⟩

theorem swf_dropWhile (m : List (Nat × α)) (lo i : Nat) (hm : swf d lo m = true) :
    swf d lo (m.dropWhile fun c => decide (c.1 ≤ i)) = true := by
  induction m generalizing lo with
  | nil => rfl
  | cons c m ih =>
    obtain ⟨k, v⟩ := c
    by_cases hk : k ≤ i
    · simp only [List.dropWhile, hk, decide_true]
      simp only [swf, Bool.and_eq_true, decide_eq_true_eq] at hm
      exact ih lo (swf_mono m lo (k + 1) (by omega) hm.2)
    · simpa [List.dropWhile, hk] using hm

/-- A write keeps the canonical form. -/
theorem swf_sput (m : List (Nat × α)) (lo i : Nat) (x : α) (hi : lo ≤ i) (hm : swf d lo m = true) : swf d lo (sput d m i x) = true := by
  induction m generalizing lo with
  | nil => by_cases hx : x = d <;> simp [sput, swf, hx, hi]
  | cons c m ih =>
    obtain ⟨k, v⟩ := c
    have hm' := hm
    simp only [swf, Bool.and_eq_true, decide_eq_true_eq] at hm'
    rcases Nat.lt_trichotomy i k with hk | hk | hk
    · by_cases hx : x = d
      · simpa [sput, hk, hx] using hm
      · simp only [sput, hk, hx, if_true, if_false, swf, Bool.and_eq_true, decide_eq_true_eq]
        exact ⟨⟨hi, hx⟩, ⟨by omega, hm'.1.2⟩, hm'.2⟩
    · subst hk
      by_cases hx : x = d
      · simp only [sput, Nat.lt_irrefl, hx, if_true, if_false]
        exact swf_dropWhile m lo i (swf_mono m lo (i + 1) (by omega) hm'.2)
      · simp only [sput, Nat.lt_irrefl, hx, if_true, if_false, swf, Bool.and_eq_true, decide_eq_true_eq]
        exact ⟨⟨hi, hx⟩, hm'.2⟩
    · simp only [sput, Nat.not_lt.2 (Nat.le_of_lt hk), Nat.ne_of_gt hk, if_false, swf, Bool.and_eq_true, decide_eq_true_eq]
      exact ⟨hm'.1, ih (k + 1) (by omega) hm'.2⟩

/-- Keeping some of the addresses keeps the canonical form. -/
theorem swf_sfilter (p : Nat → Bool) (m : List (Nat × α)) (lo : Nat) (hm : swf d lo m = true) : swf d lo (sfilter p m) = true := by
  induction m generalizing lo with
  | nil => rfl
  | cons c m ih =>
    obtain ⟨k, v⟩ := c
    simp only [swf, Bool.and_eq_true, decide_eq_true_eq] at hm
    by_cases hp : p k = true
    · simp only [sfilter, List.filter, hp, swf, Bool.and_eq_true, decide_eq_true_eq]
      exact ⟨hm.1, ih (k + 1) hm.2⟩
    · simp only [sfilter, List.filter, hp]
      exact ih lo (swf_mono m lo (k + 1) (by omega) hm.2)

/-- Clearing a range keeps the canonical form. -/
theorem swf_clearRange (m : List (Nat × α)) (a n lo : Nat) (hm : swf d lo m = true) : swf d lo (clearRange m a n) = true :=
  swf_sfilter _ m lo hm

/-- Rewriting every value keeps the canonical form. -/
theorem swf_smap (f : Nat → α → α) (m : List (Nat × α)) (lo : Nat) (hm : swf d lo m = true) : swf d lo (smap d f m) = true := by
  induction m generalizing lo with
  | nil => rfl
  | cons c m ih =>
    obtain ⟨k, v⟩ := c
    simp only [swf, Bool.and_eq_true, decide_eq_true_eq] at hm
    by_cases hf : f k v = d
    · simp only [smap, hf, if_true]
      exact ih lo (swf_mono _ lo (k + 1) (by omega) hm.2)
    · simp only [smap, hf, if_false, swf, Bool.and_eq_true, decide_eq_true_eq]
      exact ⟨⟨hm.1.1, hf⟩, ih (k + 1) hm.2⟩

/-- Writing bytes keeps the canonical form. -/
theorem swf_writeBytes (d : Byte) (m : List (Nat × Byte)) (a : Nat) (b : Bytes) (hm : swf d 0 m = true) : swf d 0 (writeBytes d m a b) = true := by
  induction b generalizing m a with
  | nil => exact hm
  | cons x r ih => exact ih _ _ (swf_sput m 0 a x (Nat.zero_le a) hm)

/-- Writing a word keeps the canonical form. -/
theorem swf_writeWord (m : List (Nat × Byte)) (a : Nat) (w : Word) (hm : swf 0 0 m = true) : swf 0 0 (writeWord m a w) = true :=
  swf_writeBytes 0 m a _ hm

/-! ### Bytes and words -/

/-- Bytes written elsewhere leave a byte as it was. -/
theorem sget_writeBytes_out (d : Byte) (m : List (Nat × Byte)) (a j : Nat) (b : Bytes) (h : j < a ∨ a + b.length ≤ j) :
    sget d (writeBytes d m a b) j = sget d m j := by
  induction b generalizing m a with
  | nil => rfl
  | cons x r ih =>
    simp only [List.length_cons] at h
    rw [writeBytes, ih _ _ (by omega), sget_sput_ne _ _ _ _ (by omega)]

/-- A byte written reads back. -/
theorem sget_writeBytes_in (d : Byte) (m : List (Nat × Byte)) (a k : Nat) (b : Bytes) (h : k < b.length) :
    sget d (writeBytes d m a b) (a + k) = b[k] := by
  induction b generalizing m a k with
  | nil => simp at h
  | cons x r ih =>
    cases k with
    | zero => rw [writeBytes, Nat.add_zero, sget_writeBytes_out _ _ _ _ _ (by omega)]; simp
    | succ k =>
      rw [writeBytes, show a + (k + 1) = a + 1 + k by omega, ih _ _ _ (by simpa using h)]
      simp

theorem leNat_wordBytes (w : Word) : BitVec.ofNat 32 (leNat (wordBytes w)) = w := by
  apply BitVec.eq_of_toNat_eq
  simp only [wordBytes, leNat, BitVec.toNat_ofNat, BitVec.extractLsb'_toNat, Nat.shiftRight_eq_div_pow]
  have := w.isLt
  omega

/-- A word written reads back. -/
@[simp] theorem readWord_writeWord (m : List (Nat × Byte)) (a : Nat) (w : Word) : readWord (writeWord m a w) a = w := by
  have h : readBytes 0 (writeWord m a w) a 4 = wordBytes w := by
    have g : ∀ k (h : k < (wordBytes w).length), sget 0 (writeWord m a w) (a + k) = (wordBytes w)[k] := fun k h =>
      sget_writeBytes_in 0 m a k _ h
    have l : (wordBytes w).length = 4 := rfl
    simp only [readBytes, Nat.add_assoc]
    have g0 := g 0 (by omega); have g1 := g 1 (by omega); have g2 := g 2 (by omega); have g3 := g 3 (by omega)
    simp only [Nat.add_zero] at g0
    simp only [g0, g1, g2, g3]
    simp [wordBytes]
  rw [readWord, h, leNat_wordBytes]

/-- A word outside the four bytes written is as it was. -/
theorem readWord_writeWord_ne (m : List (Nat × Byte)) (a b : Nat) (w : Word) (h : b + 4 ≤ a ∨ a + 4 ≤ b) :
    readWord (writeWord m a w) b = readWord m b := by
  have g : ∀ k, k < 4 → sget 0 (writeWord m a w) (b + k) = sget 0 m (b + k) := fun k hk =>
    sget_writeBytes_out 0 m a _ _ (by simp [wordBytes]; omega)
  have g0 := g 0 (by omega); simp only [Nat.add_zero] at g0
  simp only [readWord, readBytes, Nat.add_assoc, g0, g 1 (by omega), g (1 + 1) (by omega), g (1 + (1 + 1)) (by omega)]

/-! ### Memory after reset -/

/-- The part after reset holds its memories in canonical form. -/
theorem reset_memWf : State.reset.memWf = true := by decide +kernel

end Sys2Proof.Machine
end

