-- ==== Sys2Proof/Laws/Regs.lean ====
section
/-!
SUPPORT. Laws of register files and their fields: a field reads as it was last written, and writing one leaves the others.
-/
namespace Sys2Proof.Machine

/-- Reading a register after writing one. -/
theorem rget_rput (r : RegFile) (a b : Nat) (v : Word) : rget (rput r a v) b = if b = a then v else rget r b := sget_sput r a b v

@[simp] theorem rget_rput_same (r : RegFile) (a : Nat) (v : Word) : rget (rput r a v) a = v := sget_sput_same r a v

theorem rget_rput_ne (r : RegFile) (a b : Nat) (v : Word) (h : b ≠ a) : rget (rput r a v) b = rget r b := sget_sput_ne r a b v h

/-- A bit of a word's field. -/
theorem testBit_bits (w : Word) (hi lo k : Nat) : (bits w hi lo).testBit k = (decide (k < hi + 1 - lo) && w.getLsbD (lo + k)) := by
  simp [bits, Nat.testBit_mod_two_pow, Nat.testBit_shiftRight, BitVec.getLsbD]

theorem getLsbD_fmask (hi lo k : Nat) (h : hi < 32) : (fmask hi lo).getLsbD k = (decide (lo ≤ k) && decide (k ≤ hi)) := by
  have key : ∀ n, n ≤ 32 → ((1#32 <<< n) - 1#32) = BitVec.ofNat 32 (2 ^ n - 1) := by
    intro n hn
    by_cases h32 : n = 32
    · subst h32; decide
    · apply BitVec.eq_of_toNat_eq
      have : (2 : Nat) ^ n < 2 ^ 32 := Nat.pow_lt_pow_right (by decide) (by omega)
      have p : 0 < (2 : Nat) ^ n := Nat.pow_pos (by decide)
      simp only [BitVec.toNat_sub, BitVec.toNat_shiftLeft, BitVec.toNat_ofNat, Nat.shiftLeft_eq]
      simp only [Nat.reducePow, Nat.reduceMod, Nat.one_mul] at this ⊢
      omega
  by_cases hl : lo ≤ hi
  · rw [fmask, key _ (by omega)]
    simp only [BitVec.getLsbD_shiftLeft, BitVec.getLsbD_ofNat, Nat.testBit_two_pow_sub_one]
    by_cases a : lo ≤ k <;> by_cases b : k ≤ hi <;> simp [a, b] <;> omega
  · have : fmask hi lo = 0#32 := by
      have e : hi + 1 - lo = 0 := by omega
      simp [fmask, e]
    rw [this]
    simp
    omega

/-- A bit of a word with a field replaced. -/
theorem getLsbD_setBits (w : Word) (hi lo v k : Nat) (h : hi < 32) :
    (setBits w hi lo v).getLsbD k = if lo ≤ k ∧ k ≤ hi then v.testBit (k - lo) else w.getLsbD k := by
  simp only [setBits, BitVec.getLsbD_or, BitVec.getLsbD_and, BitVec.getLsbD_not, BitVec.getLsbD_shiftLeft, BitVec.getLsbD_ofNat,
    getLsbD_fmask _ _ _ h]
  by_cases a : lo ≤ k <;> by_cases b : k ≤ hi <;> simp [a, b]
  · have : k < 32 := by omega
    simp [this, show ¬k < lo by omega, show k - lo < 32 by omega]
  all_goals
    intro hw
    rcases Nat.lt_or_ge k 32 with hk | hk
    · exact hk
    · rw [BitVec.getLsbD_of_ge w k hk] at hw
      cases hw

theorem bits_setBits_same (w : Word) (hi lo v : Nat) (h : hi < 32) : bits (setBits w hi lo v) hi lo = v % 2 ^ (hi + 1 - lo) := by
  apply Nat.eq_of_testBit_eq
  intro k
  rw [testBit_bits, Nat.testBit_mod_two_pow, getLsbD_setBits _ _ _ _ _ h]
  by_cases a : k < hi + 1 - lo
  · rw [if_pos (by omega), show lo + k - lo = k by omega]
  · simp [a]

theorem bits_setBits_out (w : Word) (hi lo v hi' lo' : Nat) (h : hi < 32) (o : hi' < lo ∨ hi < lo') :
    bits (setBits w hi lo v) hi' lo' = bits w hi' lo' := by
  apply Nat.eq_of_testBit_eq
  intro k
  rw [testBit_bits, testBit_bits, getLsbD_setBits _ _ _ _ _ h]
  by_cases a : k < hi' + 1 - lo'
  · rw [if_neg (by omega)]
  · simp [a]

/-- Two fields that share no bit. -/
def fieldApart (f g : Field) : Prop := f.addr ≠ g.addr ∨ f.hi < g.lo ∨ g.hi < f.lo

theorem getF_setF_same (r : RegFile) (f : Field) (v : Nat) (h : f.hi < 32) : getF (setF r f v) f = v % 2 ^ (f.hi + 1 - f.lo) := by
  simp [getF, setF, bits_setBits_same _ _ _ _ h]

/-- A field reads as written, where its width holds the value. -/
theorem getF_setF (r : RegFile) (f : Field) (v : Nat) (h : f.hi < 32) (hv : v < 2 ^ (f.hi + 1 - f.lo)) : getF (setF r f v) f = v := by
  rw [getF_setF_same r f v h, Nat.mod_eq_of_lt hv]

/-- Writing a field leaves a field apart from it. -/
theorem getF_setF_apart (r : RegFile) (f g : Field) (v : Nat) (h : f.hi < 32) (o : fieldApart f g) : getF (setF r f v) g = getF r g := by
  by_cases a : g.addr = f.addr
  · have o' : g.hi < f.lo ∨ f.hi < g.lo := by
      rcases o with o | o | o
      · exact absurd a.symm o
      · exact Or.inr o
      · exact Or.inl o
    simp only [getF, setF, a, rget_rput_same]
    exact bits_setBits_out _ _ _ _ _ _ h o'
  · simp only [getF, setF, rget_rput_ne _ _ _ _ a]

theorem getF_rput_ne (r : RegFile) (a : Nat) (v : Word) (g : Field) (h : g.addr ≠ a) : getF (rput r a v) g = getF r g := by
  simp only [getF, rget_rput_ne _ _ _ _ h]

/-- The register's word where a field of another register is written. -/
theorem rget_setF_ne (r : RegFile) (f : Field) (v b : Nat) (h : b ≠ f.addr) : rget (setF r f v) b = rget r b := rget_rput_ne _ _ _ _ h

theorem getB_setB (r : RegFile) (f : Field) (b : Bool) (h : f.hi < 32) (l : f.lo ≤ f.hi) : getB (setB r f b) f = b := by
  have : (1 : Nat) < 2 ^ (f.hi + 1 - f.lo) := Nat.one_lt_two_pow (by omega)
  cases b <;> simp [getB, setB, getF_setF_same _ _ _ h, Nat.mod_eq_of_lt this]

/-- The registers keep their canonical form when a field is written. -/
theorem swf_setF (r : RegFile) (f : Field) (v : Nat) (h : swf 0 0 r = true) : swf 0 0 (setF r f v) = true := swf_sput r 0 _ _ (Nat.zero_le _) h

end Sys2Proof.Machine
end

