-- ==== Sys2Proof/Tests/Slice0.lean ====
section
/-!
SUPPORT. Tests: the refusals of WellFormed, single steps checked against the manual's own numbers, and for every obligation with hypotheses states and
operands that meet them all, clause by clause, at boundary values where a clause has a range.
-/

namespace Sys2Proof.Tests
open Sys2Proof Sys2Proof.Machine

set_option Elab.async false

/-! ### States for the witnesses -/

/-- A register file of fields. -/
def wF (fs : List (Field × Nat)) : RegFile := fs.foldl (fun r x => setF r x.1 x.2) [(A_XCR_OPEN0, 0xFFFFFFFF#32), (A_XCR_OPEN1, 0xFFFF#32)]
def wEngs : Vector Engine 12 := Vector.ofFn fun n => { Engine.fresh n with phase := .running, krole := .mkr, pc := BitVec.ofNat 32 (if n.val < 8 then engBase n else 0) }
def wL (fs : List (Field × Nat) := []) : Lane := { regs := wF fs, phase := .run, eng := wEngs }
def wS (A : Lane) (B : Lane := wL) : State := { laneA := A, laneB := B }
def w0 : State := wS wL
def eClean : Ecc := ⟨0, .clean⟩
def rK (rs : List (Nat × Nat)) : Vector Word 16 := rs.foldl (fun v x => v.set! x.1 (BitVec.ofNat 32 x.2)) (Vector.replicate 16 0)
/-- The default part with one engine of lane A changed. -/
def wK (e : Eng) (f : Engine → Engine) (s : State := w0) : State := { s with laneA := s.laneA.updEng e f }
def wW (e : Eng) (rs : List (Nat × Nat)) (s : State := w0) : State := wK e (fun g => { g with core := { g.core with w := rK rs } }) s
/-- Words of an engine's own SRAM, by offset, in the default part with registers. -/
def wRam (ws : List (Nat × Nat)) : List (Nat × Byte) := ws.foldl (fun m x => writeWord m x.1 (BitVec.ofNat 32 x.2)) []
/-- A table of three entries of 8 bytes (10 and 20 and 40 with values 100, 200, 150) at offset 0x40 with its descriptor at offset 0 of engine 3's SRAM. -/
def wTab (count size : Nat) (rs : List (Nat × Nat)) : State := wK 3 (fun g => { g with ram := wRam [(0, 0x20060040), (4, count * 65536 + size), (12, 0xFFFFFFFF), (0x40, 10), (0x44, 100), (0x48, 20), (0x4C, 200), (0x50, 40), (0x54, 150)] }) (wW 3 ((3, 0x20060000) :: rs))
/-- Fields of lane A's registers. -/
def wA (fs : List (Field × Nat)) : State := wS (wL fs)
/-- Lane A holds the Hoop. -/
def wHold (fs : List (Field × Nat) := []) : State := let s := wA ((F_LNK_STAT_STATE, 1) :: (F_LNK_STAT_HOLDER, 1) :: fs); { s with fd := { s.fd with hoop := 1 } }
/-- A part whose lane A is changed. -/
def wAnd (s : State) (f : Lane → Lane) : State := { s with laneA := f s.laneA }
/-- Channel 4 of engine 3 bound to channel 5 of engine 2. -/
def wCh (dir3 : Nat) : State := wA [(F_SYS_CHCFG_EN 3 4, 1), (F_SYS_CHCFG_DIR 3 4, dir3), (F_SYS_CHCFG_PEER 3 4, 2), (F_SYS_CHCFG_PEER_CH 3 4, 5), (F_SYS_CHCFG_EN 2 5, 1), (F_SYS_CHCFG_DIR 2 5, 1 - dir3), (F_SYS_CHCFG_PEER 2 5, 3), (F_SYS_CHCFG_PEER_CH 2 5, 4)]
def wFifo (e : Eng) (ch : ChNo) (f : List Word) (s : State) : State := wK e (fun g => { g with ep := g.ep.set ch { fifo := f } }) s
/-- A gain table of slot 0 that rises by 10 from 0. -/
def wGain (x : Nat) : State :=
  wAnd w0 fun L => { L with tsram := (List.range 64).foldl (fun m j => writeWord (writeWord m (0x25000 + 8 * j) (BitVec.ofNat 32 (10 * j + 5))) (0x25004 + 8 * j) (BitVec.ofNat 32 (7 * j))) [], tat := { L.tat with core := { L.tat.core with w := rK [(2, x)] } } }
def wSlot (f : TatSlot → TatSlot) (s : State) : State := wAnd s fun L => { L with tat := { L.tat with slots := L.tat.slots.set 0 (f L.tat.slots[0]) } }
def wBob (f : Bob → Bob) (s : State) : State := wAnd s fun L => { L with bob := f L.bob }
def wSpg (f : Spg → Spg) (s : State) : State := wAnd s fun L => { L with spg := f L.spg }
/-- Lane A at the instant of a publication of SPG, with a tick of BOB's. -/
def wDue (s : State) : State := wAnd (wSpg (fun g => { g with ticks := 1 }) s) fun L => { L with fclk := 16800 }
/-- Lane A at a time of F. -/
def wAt (f : Nat) (s : State) : State := wAnd s fun L => { L with fclk := f }
def wDoor (f : DoorOp → DoorOp) (s : State) : State := wAnd s fun L => { L with door := L.door.set 0 (f L.door[0]) }
/-- A landing table in buffer 0 with one entry, of landing 255 and deck 1, at 0 with no zone, its check right or wrong. -/
def wLt (chk : Nat) (fs : List (Field × Nat)) : State :=
  wAnd (wA fs) fun L => { L with tsram := writeWord (writeWord [] (0x21000 + 16 * 511 + 8) 0x80000000#32) (0x21000 + 16 * 511 + 12) (BitVec.ofNat 32 chk) }
/-- A safety session of engine 3 is open. -/
def wSess (fs : List (Field × Nat)) : State := wA ((F_SEB_SESS_STATE, 1) :: (F_SEB_SESS_ENGINE, 3) :: fs)
def wMotion : List (Field × Nat) := [(F_SPG_STAT_STATE, spgIdle), (F_TAT_SLOTSTAT_STATE 0, slRun), (F_DRV_STAT_LINK, 1), (F_DRV_STAT_READY, 1), (F_SPG_TGT_TGT, 1)]
def wDc (st : Nat) (fs : List (Field × Nat)) : State := wDoor (fun o => { o with perm := true }) (wA ((F_DOR_STAT_STATE 0, st) :: fs))
def wTs (ws : List (Nat × Nat)) (s : State) : State := wAnd s fun L => { L with tsram := wRam ws }
def wPrk (fs : List (Field × Nat)) (f : Prk → Prk) : State := wAnd (wA ((F_PRK_CTRL_EN, 1) :: (F_PRK_STAT_ROLE, 2) :: fs)) fun L => { L with prk := f L.prk, gtime := 100000 }
def wSeb (fs : List (Field × Nat)) (f : Seb → Seb) : State := wAnd (wA fs) fun L => { L with seb := f { L.seb with up := true } }
def wFd (fs : List (Field × Nat)) (f : FieldDie → FieldDie) (s : State := w0) : State := { s with fd := f { s.fd with regs := wF fs } }
/-- A configuration that passes every check: the signals that must be mapped, on inputs of their own. -/
def wCfg : List (Field × Nat) := [(⟨A_SEB_INMAP 0, 31, 0⟩, 0x83828180), (⟨A_SEB_INMAP 2, 31, 0⟩, 0x8584), (⟨A_SEB_INMAP 5, 31, 0⟩, 0x87860000), (F_SEB_OUTCFG_STO0, 1), (F_SEB_ZTSBOT_Z, 1), (F_SEB_ZTSTOP_Z, 2), (F_SEB_FINTOP_Z, 3)]
def wDone (fs : List (Field × Nat)) : State := wSeb ((F_SEB_SESS_STATE, 1) :: (F_SEB_SESS_ENGINE, 3) :: fs) fun b => { b with pwdNew := some 5#32 }
def wB (f : Lane → Lane) (s : State) : State := { s with laneB := f s.laneB }
def wLnk (fs : List (Field × Nat)) (f : Lnk → Lnk) : State := wAnd (wA fs) fun L => { L with lnk := f L.lnk }
def wO (f : Lnk → Lnk) (s : State) : State := wB (fun L => { L with lnk := f L.lnk }) s
def wSup (f : Supervisor → Supervisor) : State := { w0 with sup := f { w0.sup with regs := [] } }
def wCan (fs : List (Field × Nat)) (f : Can → Can) : State := wAnd (wA fs) fun L => { L with can := L.can.set 0 (f L.can[0]) }
def wObj (k : Fin 32) (st : Nat) (fs : List (Field × Nat)) (f : Can → Can) : State := wCan fs fun c => f { c with objs := c.objs.set k { st := st } }
def wPic (fs : List (Field × Nat)) (f : Pic → Pic) : State := wAnd (wA ((F_PIC_CTRL_EN, 1) :: fs)) fun L => { L with pic := f L.pic }
def wFrame (t : Nat) (n : Nat) : PicFrame := { type := t, src := 3, frag := false, dst := 255, hops := 0, seq := 7, payload := List.replicate n 0 }
/-- A session of engine 3, in a state, with a role. -/
def wSn (st role : Nat) (fs : List (Field × Nat) := []) : List (Field × Nat) := (F_SYS_SESSSTAT_STATE 0, st) :: (F_SYS_SESSSTAT_ENGINE 0, 3) :: (F_SYS_SESSSTAT_ROLE 0, role) :: fs
def wCred (role : Nat) (s : State) : State := wAnd s (credStore role)
/-- Lane A's firmware serves session 0 of engine 7 with a role. -/
def wSv (role : Nat) (fs : List (Field × Nat) := []) : State :=
  wHold ((F_USB_STAT_ATTACHED, 1) :: (F_SYS_SESSSTAT_STATE 0, if role = 0 then 0 else ssGranted) :: (F_SYS_SESSSTAT_ENGINE 0, 7) :: (F_SYS_SESSSTAT_ROLE 0, role) :: fs)
/-- Lane A's loader serves session 0 with a role. -/
def wLd (role : Nat) (fs : List (Field × Nat) := []) : State := wSv role ((F_SYS_SESSSTAT_ENGINE 0, 0) :: (F_LNK_UPDSTAT_LOADER, 1) :: fs)
/-- The header of a slot passes its checks. -/
def wSlotFlash (base : Nat) (L : Lane) : Lane := { L with flash := writeBytes 0xFF L.flash base (leBytes 4 0x4B564931 ++ leBytes 4 1 ++ leBytes 4 256) }
def wDbg (s : State) : State := wAnd s fun L => L.s F_SYS_DBGCTL_DBGON 1
/-- A session of engine 3 (of engine 7 on the service interface) is CHALLENGED for OPR, its challenge pending. -/
def wChal (s : State) : State := wAnd s fun L => { L with sess := L.sess.set 0 { pending := true } }
/-- The right response of a lane to its challenge for OPR. -/
def wAns (L : Lane) : Bytes := sha256 (L.creds.2.opr.drop 16 ++ L.chalBytes .a 0 1)
/-- A response is staged. -/
def wResp (b : Bytes) (L : Lane) : Lane := L.updSess 0 fun x => { x with resp := Vector.ofFn fun k : Fin 16 => listGet 0 (bytesWords 16 b) k.val }

/-! ### WellFormed refuses what no command carries -/

def wBig (n : Nat) : CanFrame := { id := 5#29, ide := false, fdf := true, brs := false, rtr := false, esi := false, dlc := 15, data := List.replicate n 0, tsof := 0, settle := 0 }

theorem test_wf_canRxFrame_data : (Instr.canRxFrame 0 (wBig 65) .good).wf = false ∧ (Instr.canRxFrame 0 (wBig 64) .good).wf = true := by decide +kernel
theorem test_wf_canRxFrame_id : (Instr.canRxFrame 0 { wBig 1 with id := 0x800#29 } .good).wf = false := by decide +kernel
theorem test_wf_picFrameRx : (Instr.picFrameRx true (wFrame 0x10 257) none).wf = false ∧ (Instr.picFrameRx true (wFrame 0x10 256) none).wf = true := by decide +kernel
theorem test_wf_usbPacketRx : (Instr.usbPacketRx (List.replicate 65 0)).wf = false ∧ (Instr.usbPacketRx (List.replicate 64 0)).wf = true := by decide +kernel
theorem test_wf_bfx_pos : (Instr.bfx .a 3 1 2 32 0).wf = false := by decide +kernel
theorem test_wf_bfx_len : (Instr.bfx .a 3 1 2 1 32).wf = false ∧ (Instr.bfx .a 3 1 2 0 32).wf = true := by decide +kernel
theorem test_wf_bfi : (Instr.bfi .a 3 1 2 32 0).wf = false ∧ (Instr.bfi .a 3 1 2 31 2).wf = false := by decide +kernel
theorem test_wf_sext : (Instr.sext .a 3 1 2 32).wf = false := by decide +kernel
theorem test_wf_sel : (Instr.sel .a 3 1 2 3 13).wf = false := by decide +kernel
theorem test_wf_bcc : (Instr.bcc .a 3 13 0#17).wf = false := by decide +kernel
theorem test_wf_mfk : (Instr.mfk .a 3 1 12).wf = false ∧ (Instr.mfk .a 3 1 11).wf = true := by decide +kernel
theorem test_wf_mtk : (Instr.mtk .a 3 3 1).wf = false ∧ (Instr.mtk .a 3 9 1).wf = true := by decide +kernel
theorem test_wf_lda : (Instr.lda .a 3 0 1 1 true).wf = false := by decide +kernel
theorem test_wf_rda : (Instr.rda .a 3 1 0 1 true).wf = false := by decide +kernel
theorem test_wf_pushm : (Instr.pushm .a 3 0x4000#16).wf = false := by decide +kernel
theorem test_wf_popm : (Instr.popm .a 3 0x4000#16 eClean).wf = false := by decide +kernel

/-! ### Single steps against numbers of the manual -/

/-- The state a step answers. -/
def wOut (o : Host.Outcome State Fault Refusal) : State := match o with
  | .next t => t
  | _ => w0

/-- Engine 3 before a step of Table 4.22: a0 and two registers. -/
def wMac (a : Acc) (x y : Word) : State := wK 3 fun g => { g with core := { g.core with a := g.core.a.set 0 a, w := (g.core.w.set! 1 x).set! 2 y } }

/-- Source: Table 4.22, the encodings of its first and sixth instructions. -/
theorem test_decode_mac : kDecode .a 3 eClean 0x7E025000#32 = .ok (.mac .a 3 0 1 2 16) := by decide +kernel
theorem test_decode_rda : kDecode .a 3 eClean 0x88100800#32 = .ok (.rda .a 3 8 0 8 false) := by decide +kernel

/-- Source: Table 4.22, step 2. -/
theorem test_mac_product : ((wOut (exec (.mac .a 3 0 1 2 16) (wMac 0 0x00038000 0x00024000))).core .a 3).a[0] = 0x00000007E000#48 := by decide +kernel
/-- Source: Table 4.22, step 3. -/
theorem test_mac_wide : ((wOut (exec (.mac .a 3 0 1 2 16) (wMac 0x7E000 0x7FFF0000 0x01000000))).core .a 3).a[0] = 0x007FFF07E000#48 := by decide +kernel
/-- Source: Table 4.22, step 4: half of the last place rounds up (R97). -/
theorem test_mac_half : ((wOut (exec (.mac .a 3 0 1 2 16) (wMac 0x007FFF07E000 1 0x8000))).core .a 3).a[0] = 0x007FFF07E001#48 := by decide +kernel
/-- Source: Table 4.22, step 5. -/
theorem test_rda_clamps : let c := (wOut (exec (.rda .a 3 7 0 0 false) (wMac 0x007FFF07E001 0 0))).core .a 3
    c.w[7] = 0x7FFFFFFF#32 ∧ c.flag ksrV = true ∧ c.flag ksrSat = true := by decide +kernel
/-- Source: Table 4.22, steps 6 and 7. -/
theorem test_rda_rounds : ((wOut (exec (.rda .a 3 8 0 8 false) (wMac 0x007FFF07E001 0 0))).core .a 3).w[8] = 0x7FFF07E0#32 ∧
    ((wOut (exec (.rda .a 3 9 0 16 false) (wMac 0x007FFF07E001 0 0))).core .a 3).w[9] = 8388360#32 := by decide +kernel

/-- Source: the check value of CRC-32 over the nine digits 1 to 9, as every catalogue of this polynomial gives it. -/
theorem test_crc32 : crc32 [0x31, 0x32, 0x33, 0x34, 0x35, 0x36, 0x37, 0x38, 0x39] = 0xCBF43926#32 := by decide +kernel
/-- Source: the first example of FIPS 180-2: the digest of the three letters abc. -/
theorem test_sha256 : sha256 [0x61, 0x62, 0x63] = [0xBA, 0x78, 0x16, 0xBF, 0x8F, 0x01, 0xCF, 0xEA, 0x41, 0x41, 0x40, 0xDE, 0x5D, 0xAE, 0x22, 0x23,
    0xB0, 0x03, 0x61, 0xA3, 0x96, 0x17, 0x7A, 0x9C, 0xB4, 0x10, 0xFF, 0x61, 0xF2, 0x00, 0x15, 0xAD] := by decide +kernel

/-- Source: Table 12.13, step 2: at 16.8 V the rising threshold is 7.22 V. -/
theorem test_threshold : (wOut (exec (.thresholdUpdate 1680) (wFd [] id))).fd.thr = 7220 := by decide +kernel
/-- Source: Table 12.13, steps 1 and 2. -/
theorem test_vfld_warn : (wOut (exec (.vfldFall 19100) (wFd [] id))).fd.vstate = vsWarn ∧ (wOut (exec (.vfldFall 16700) (wFd [] id))).fd.vstate = vsLow := by decide +kernel
/-- Source: R96: division by zero gives the largest number of the dividend's sign. -/
theorem test_div_zero : ((wOut (exec (.div .a 3 1 2 3) (wW 3 [(2, 5), (3, 0)]))).core .a 3).w[1] = 0x7FFFFFFF#32 ∧
    ((wOut (exec (.div .a 3 1 2 3) (wW 3 [(2, 0x80000001), (3, 0)]))).core .a 3).w[1] = 0x80000000#32 := by decide +kernel
/-- Source: R403, R404: with a valid header in slot 0 and no boot record, the boot ROM takes slot 0 and sets NOREC. -/
theorem test_boot_norec : bootChoose (wAnd w0 (wSlotFlash 0)).laneA = (some 0, false, true) := by decide +kernel
/-- A step of a queue takes its front command and leaves the rest. -/
theorem test_step_front : ((wOut (step { w0 with pending := [.vfldFall 19100, .lowTimeout] })).pending = [Instr.lowTimeout]) := by decide +kernel
/-- The command at the front of the queue right after reset runs. -/
theorem test_reset_brownout : (wOut (step { State.reset with pending := [.powerOff] })).sup.off = true := by decide +kernel

/-! ### Witnesses of the statements over every command -/

theorem wit_StepRunsTheFrontCommand_0 : State.reset.pending = [] := rfl

theorem wit_StepRunsTheFrontCommand_1 :
    let s : State := w0
    let L := s.lane .a
    s.pending = [] ∧ L.phase = .run := by
  decide +kernel

theorem wit_StepRunsTheFrontCommand_2 :
    let s : State := wAnd w0 fun L => { L with phase := .waitPll }
    let L := s.lane .a
    s.pending = [] ∧ L.phase ≠ .run := by
  decide +kernel

theorem wit_EveryStepKeepsMemoryCanonical_0 : ∃ s t : State, s.memWf = true ∧ step s = .next t :=
  ⟨w0, _, by decide +kernel, rfl⟩

theorem wit_EveryStepKeepsOneHolder_0 : ∃ s t : State, s.OneHolder ∧ s.laneA.holder = true ∧ step s = .next t :=
  ⟨wHold, _, ⟨fun _ => rfl, fun h => absurd h (by decide +kernel)⟩, by decide +kernel, rfl⟩

theorem wit_CommandsChangeOnlyTheirParts_0 : ∃ (c : Instr) (s t : State) (p : Part),
    exec c s = .next t ∧ p ∉ (frameOf c).1 ∧ ∀ b ∈ (frameOf c).2, 0x40010000 / 0x10000 ≠ 0x4000 + b :=
  ⟨.xresRelease, w0, _, .regs, rfl, by decide +kernel, by decide +kernel⟩

theorem wit_CommandsKeepMemory_0 : ∃ (c : Instr) (s t : State) (o : Nat), exec c s = .next t ∧ (t.lane .a).byte .table o ≠ (s.lane .a).byte .table o ∧
    ¬ (0x2C000 ≤ o ∧ o < 0x2D000) :=
  ⟨.fence .a 3, wK 3 (fun g => { g with sbuf := [(0x30090000, 9#32)] }), _, 0x90000, rfl, by decide +kernel, by decide⟩

theorem wit_CommandsKeepMemory_1 : ∃ (c : Instr) (s t : State) (o : Nat), exec c s = .next t ∧ (t.lane .a).byte .table o ≠ (s.lane .a).byte .table o ∧
    0x2C000 ≤ o ∧ o < 0x2D000 :=
  ⟨.fence .a 3, wK 3 (fun g => { g with sbuf := [(0x3002C010, 9#32)] }), _, 0x2C010, rfl, by decide +kernel, by decide, by decide⟩

theorem wit_EveryCommandCompletes_0 : ∃ c : Instr, c.wf = true ∧ ∃ d : Instr, d.wf = false :=
  ⟨.usbPacketRx [], by decide +kernel, .usbPacketRx (List.replicate 65 0), by decide +kernel⟩

/-! ### Witnesses of the refusals of the service interface -/

/-- The three requests used below are in the list the statement names. -/
theorem wit_ServiceRefusals_list (l : LaneId) (n : SessNo) (tag : Tag) (field : LaneField) (role : Role) (resp data nonce link : Bytes)
    (addr count table first log seq len off : Nat) (buf : Bool) (x : Word) (cmd : OpCmd) (landing : Landing) :
    ∀ q ∈ [(Instr.hello l n tag field, 0x01, 0), (.serviceKeep l n tag field, 0x05, 1), (.rdreg l n tag field addr count, 0x10, 1)],
      q ∈ ([(.hello l n tag field, 0x01, 0), (.serviceChal l n tag field role, 0x02, 0), (.serviceLogin l n tag field role resp, 0x03, 0),
        (.serviceLogout l n tag field, 0x04, 0), (.serviceKeep l n tag field, 0x05, 1), (.rdreg l n tag field addr count, 0x10, 1),
        (.wrreg l n tag field addr x, 0x11, 2), (.rdtab l n tag field table buf first count, 0x12, 1), (.wrtab l n tag field table buf first data, 0x13, 2),
        (.opcmd l n tag field cmd landing, 0x14, 1), (.serviceRestart l n tag field, 0x15, 2), (.rdlog l n tag field log seq count, 0x20, 1)] ++
        [(.archive l n tag field link, 0x21, 3), (.imgbegin l n tag field len, 0x30, 3), (.imgblock l n tag field off data x, 0x31, 3),
        (.imgcommit l n tag field, 0x32, 3), (.imgabort l n tag field, 0x33, 3), (.attest l n tag field nonce, 0x40, 0), (.cert l n tag field, 0x41, 0),
        (.serviceSetcred l n tag field role data, 0x50, 0)] : List (Instr × Nat × Nat)) := by
  intro q hq
  simp only [List.mem_cons, List.not_mem_nil, or_false] at hq
  rcases hq with rfl | rfl | rfl <;> simp only [List.mem_append, List.mem_cons, true_or, or_true]

/-- HELLO where nobody serves. -/
theorem wit_ServiceRefusals_1 : w0.laneA.svcUp 0 = false := by decide +kernel
/-- HELLO for the other lane. -/
theorem wit_ServiceRefusals_2 : (wSv 0).laneA.svcUp 0 = true ∧ wrongLane .a .b = true := by decide +kernel
/-- HELLO while an archive is in progress. -/
theorem wit_ServiceRefusals_3 : let L := (wAnd (wSv 0) fun L => { L with svc := L.svc.set 0 { busy := some (7, 0x21) } }).laneA
    L.svcUp 0 = true ∧ wrongLane .a .holder = false ∧ L.svc[(0 : SessNo)].busy.isSome = true := by decide +kernel
/-- RDREG in the loader. -/
theorem wit_ServiceRefusals_4 : let L := (wLd 0).laneA
    L.svcUp 0 = true ∧ wrongLane .a .holder = false ∧ L.svc[(0 : SessNo)].busy = none ∧ L.b F_LNK_UPDSTAT_LOADER = true ∧ loaderOp 0x10 = false := by decide +kernel
/-- KEEP with no role. -/
theorem wit_ServiceRefusals_5 : let L := (wSv 0).laneA
    L.svcUp 0 = true ∧ wrongLane .a .holder = false ∧ L.svc[(0 : SessNo)].busy = none ∧ (L.b F_LNK_UPDSTAT_LOADER = true → loaderOp 0x05 = true) ∧ L.svcRole 0 < 1 := by decide +kernel


/-! ### Witnesses: the hypotheses of each clause of each obligation are met together -/

theorem respOk_wResp (M : Lane) (h : M.f (F_SYS_SESSSTAT_ROLE 0) = 1) :
    (wResp (wAns M) M).respOk .a 0 ((wResp (wAns M) M).f (F_SYS_SESSSTAT_ROLE 0)) = true := by
  have g : (wResp (wAns M) M).f (F_SYS_SESSSTAT_ROLE 0) = 1 := h
  rw [g]
  exact respOk_of M (fun x => { x with resp := Vector.ofFn fun k : Fin 16 => listGet 0 (bytesWords 16 (wAns M)) k.val }) (wAns M) rfl rfl

theorem permits_resp (s : State) (h : s = wChal (wSv 1 [(F_SYS_SESSSTAT_STATE 0, ssChallenged)])) (k : Fin 16) (v : Word) :
    s.Permits .a (.eng 7) (A_SYS_RESP 0 k.val) v := by
  subst h
  have hf : ∀ k : Fin 16, fieldsOf (A_SYS_RESP 0 k.val) = [⟨31, 0, .cmd, .lane, 0, .any⟩] := by decide +kernel
  have h2 : (wChal (wSv 1 [(F_SYS_SESSSTAT_STATE 0, ssChallenged)])).regChanged .a (.eng 7) (A_SYS_RESP 0 k.val) v = [⟨31, 0, .cmd, .lane, 0, .any⟩] ∨
      (wChal (wSv 1 [(F_SYS_SESSSTAT_STATE 0, ssChallenged)])).regChanged .a (.eng 7) (A_SYS_RESP 0 k.val) v = [] := by
    have h1 : ¬ (A_SYS_RESP 0 k.val = A_SEB_PWNEW ∨ isCredData (A_SYS_RESP 0 k.val) = true) := by revert k; decide +kernel
    rw [World.regChanged, if_neg h1, changed, hf]
    simp only [List.filter_cons, List.filter_nil]
    split <;> simp
  refine ⟨by decide +kernel, by decide +kernel, by clear h2; revert k; decide +kernel, ?_, ?_, by clear h2; revert k; decide +kernel, ?_, ?_⟩
  · have h3 : ¬ ((A_SYS_RESP 0 k.val = A_SYS_ENGCTL ∨ isChcfg (A_SYS_RESP 0 k.val) = true) ∧
        ((wChal (wSv 1 [(F_SYS_SESSSTAT_STATE 0, ssChallenged)])).lane .a).writerEng (.eng 7) ≠ some 0) := by clear h2; revert k; decide +kernel
    have h4 : ∀ k : Fin 16, ((wChal (wSv 1 [(F_SYS_SESSSTAT_STATE 0, ssChallenged)])).lane .a).fieldRight (.eng 7) (A_SYS_RESP 0 k.val) ⟨31, 0, .cmd, .lane, 0, .any⟩ = true := by
      decide +kernel
    rw [World.regRights, if_neg h3]
    rcases h2 with h2 | h2 <;> simp [h2, h4]
  · simp [legalWord, hf, legalOk]
  · have h5 : ∀ k : Fin 16, fieldLogged (A_SYS_RESP 0 k.val) ⟨31, 0, .cmd, .lane, 0, .any⟩ = false := by decide +kernel
    rcases h2 with h2 | h2 <;> simp [h2, h5]
  · rcases h2 with h2 | h2 <;> simp [h2]

theorem wit_ArithmeticSaturates_0 :
    let s : State := wW 3 [(1, 5), (2, 0x7FFFFFFF), (3, 0x80000000)]
    let l : LaneId := .a
    let e : Eng := 3
    s.Ready l e := by
  decide +kernel

theorem wit_DivisionAndRemainder_0 :
    let s : State := wW 3 [(1, 5), (2, 0x80000000), (3, 0xFFFFFFFF)]
    let l : LaneId := .a
    let e : Eng := 3
    s.Ready l e := by
  decide +kernel

theorem wit_RegisterResultsAndCompares_0 :
    let s : State := wW 3 [(1, 5), (2, 0x80000001), (3, 7)]
    let l : LaneId := .a
    let e : Eng := 3
    let p : Nat := 31
    let len : Nat := 1
    s.Ready l e ∧ p < 32 ∧ p + len ≤ 32 := by
  decide +kernel

theorem wit_RegisterResultsAndCompares_1 :
    let s : State := wW 3 [(1, 5), (2, 0x80000001), (3, 7)]
    let l : LaneId := .a
    let e : Eng := 3
    let b : Nat := 31
    s.Ready l e ∧ b < 32 := by
  decide +kernel

theorem wit_RegisterResultsAndCompares_2 :
    let s : State := wW 3 [(1, 5), (2, 0x80000001), (3, 7)]
    let l : LaneId := .a
    let e : Eng := 3
    let cond : Nat := 12
    s.Ready l e ∧ cond ≤ 12 := by
  decide +kernel

theorem wit_RegisterResultsAndCompares_3 :
    let s : State := wW 3 [(1, 5), (2, 0x80000001), (3, 7)]
    let l : LaneId := .a
    let e : Eng := 3
    s.Ready l e := by
  decide +kernel

theorem wit_Accumulators_0 :
    let s : State := wW 3 [(1, 5), (2, 0x80000001), (3, 0x80000000)]
    let l : LaneId := .a
    let e : Eng := 3
    s.Ready l e := by
  decide +kernel

theorem wit_BranchesAndReturns_0 :
    let s : State := w0
    let l : LaneId := .a
    let e : Eng := 3
    let cond : Nat := 12
    s.Ready l e ∧ cond ≤ 12 := by
  decide +kernel

theorem wit_BranchesAndReturns_1 :
    let s : State := wW 3 [(2, 0x20060010)]
    let l : LaneId := .a
    let e : Eng := 3
    let rs : RegNo := 2
    let c := s.core l e
    s.Ready l e ∧ c.getn rs % 4 = 0 := by
  decide +kernel

theorem wit_BranchesAndReturns_2 :
    let s : State := w0
    let l : LaneId := .a
    let e : Eng := 3
    let rs : RegNo := 2
    let c := s.core l e
    s.Ready l e ∧ c.get rs = 0 := by
  decide +kernel

theorem wit_BranchesAndReturns_3 :
    let s : State := wW 3 [(2, 1)]
    let l : LaneId := .a
    let e : Eng := 3
    let rs : RegNo := 2
    let c := s.core l e
    s.Ready l e ∧ c.get rs = 1 := by
  decide +kernel

theorem wit_BranchesAndReturns_4 :
    let s : State := wW 3 [(2, 2)]
    let l : LaneId := .a
    let e : Eng := 3
    let rs : RegNo := 2
    let c := s.core l e
    s.Ready l e ∧ 1 < c.getn rs := by
  decide +kernel

theorem wit_BranchesAndReturns_5 :
    let s : State := wK 3 fun g => { g with core := { g.core with ksr := 0x10000#32 }, kepc := 0x20060004#32 }
    let l : LaneId := .a
    let e : Eng := 3
    let c := s.core l e
    s.Ready l e ∧ c.flag 16 = true := by
  decide +kernel

theorem wit_ControlRegisters_0 :
    let s : State := w0
    let l : LaneId := .a
    let e : Eng := 3
    let k : Nat := 11
    let g := (s.lane l).eng[e]
    let reads : Nat → Option Word := fun k => match k with | 0 => some g.core.ksr | 1 => some g.kepc | 2 => some g.kesr | 3 => some g.kcause | 4 => some g.keaddr | 5 => some g.kvbr | 6 => some (BitVec.ofNat 32 (e.val + 256 * (if l = .a then 0 else 1))) | 7 => some (BitVec.ofNat 32 g.krole.num) | 8 => some (BitVec.ofNat 32 g.klast) | 9 => some (BitVec.ofNat 32 g.ktper) | 11 => some (BitVec.ofNat 32 g.ktimeh) | _ => none
    let x := 0#32
    s.Ready l e ∧ reads k = some x := by
  decide +kernel

theorem wit_ControlRegisters_1 :
    let s : State := wW 3 [(2, 3)]
    let l : LaneId := .a
    let e : Eng := 3
    let r : RegNo := 2
    let g := (s.lane l).eng[e]
    let v := (s.core l e).get r
    s.Ready l e ∧ g.krole.num ≤ v.toNat % 4 := by
  decide +kernel

theorem wit_ControlRegisters_2 :
    let s : State := wW 3 [(2, 1)]
    let l : LaneId := .a
    let e : Eng := 3
    let r : RegNo := 2
    let g := (s.lane l).eng[e]
    let v := (s.core l e).get r
    s.Ready l e ∧ 0 < v.toNat % 4 ∧ v.toNat % 4 < g.krole.num := by
  decide +kernel

theorem wit_ControlRegisters_3 :
    let s : State := w0
    let l : LaneId := .a
    let e : Eng := 3
    let r : RegNo := 2
    let g := (s.lane l).eng[e]
    let v := (s.core l e).get r
    s.Ready l e ∧ v.toNat % 4 = 0 ∧ 0 < g.krole.num ∧ (s.lane l).sessOf e = none := by
  decide +kernel

theorem wit_ControlRegisters_4 :
    let s : State := w0
    let l : LaneId := .a
    let e : Eng := 3
    let r : RegNo := 2
    let v := (s.core l e).get r
    s.Ready l e ∧ v.toNat = 0 := by
  decide +kernel

theorem wit_ControlRegisters_5 :
    let s : State := wW 3 [(2, 1000000)]
    let l : LaneId := .a
    let e : Eng := 3
    let r : RegNo := 2
    let v := (s.core l e).get r
    s.Ready l e ∧ 0 < v.toNat ∧ v.toNat ≤ 1000000 := by
  decide +kernel

theorem wit_ControlRegisters_6 :
    let s : State := wW 3 [(2, 1000001)]
    let l : LaneId := .a
    let e : Eng := 3
    let r : RegNo := 2
    let v := (s.core l e).get r
    s.Ready l e ∧ 1000000 < v.toNat := by
  decide +kernel

theorem wit_ExceptionEntry_0 :
    let s : State := w0
    let l : LaneId := .a
    let e : Eng := 3
    let k : Nat := 13
    s.Ready l e ∧ (s.core l e).flag 16 = false ∧ 12 < k := by
  decide +kernel

theorem wit_ExceptionEntry_1 :
    let s : State := w0
    let l : LaneId := .a
    let e : Eng := 3
    let k : Nat := 12
    s.Ready l e ∧ (s.core l e).flag 16 = false ∧ 11 < k := by
  decide +kernel

theorem wit_ExceptionEntry_2 :
    let s : State := w0
    let l : LaneId := .a
    let e : Eng := 3
    let k : Nat := 3
    s.Ready l e ∧ (s.core l e).flag 16 = false ∧ k ∉ [0, 1, 2, 5, 7, 9] := by
  decide +kernel

theorem wit_ExceptionEntry_3 :
    let s : State := w0
    let l : LaneId := .a
    let e : Eng := 3
    let k : Nat := 2
    let p := 31
    s.Ready l e ∧ (s.core l e).flag 16 = false ∧ 32 < p + k := by
  decide +kernel

theorem wit_ExceptionEntry_4 :
    let s : State := w0
    let l : LaneId := .a
    let e : Eng := 3
    let sh : ShAmt := 1
    s.Ready l e ∧ (s.core l e).flag 16 = false ∧ sh ≠ 0 := by
  decide +kernel

theorem wit_ExceptionEntry_5 :
    let s : State := w0
    let l : LaneId := .a
    let e : Eng := 3
    let m : Imm16 := 0x4000#16
    s.Ready l e ∧ (s.core l e).flag 16 = false ∧ m.getLsbD 14 = true := by
  decide +kernel

theorem wit_ExceptionEntry_6 :
    let s : State := wW 3 [(2, 0x20060002)]
    let l : LaneId := .a
    let e : Eng := 3
    let rs : RegNo := 2
    s.Ready l e ∧ (s.core l e).flag 16 = false ∧ (s.core l e).getn rs % 4 ≠ 0 := by
  decide +kernel

theorem wit_MemoryAccess_0 :
    let s : State := wW 3 [(2, 0x20060010)]
    let l : LaneId := .a
    let e : Eng := 3
    let rs : RegNo := 2
    let imm : Imm17 := 0#17
    let ecc : Ecc := eClean
    let a := ((s.core l e).getn rs + imm.toInt).toNat
    s.Ready l e ∧ ecc.kind = .clean ∧ (a : Int) = (s.core l e).getn rs + imm.toInt ∧ s.Readable l e a ∧ a % 4 = 0 := by
  decide +kernel

theorem wit_MemoryAccess_1 :
    let s : State := wW 3 [(2, 0x20077FFE)]
    let l : LaneId := .a
    let e : Eng := 3
    let rs : RegNo := 2
    let imm : Imm17 := 0#17
    let ecc : Ecc := eClean
    let a := ((s.core l e).getn rs + imm.toInt).toNat
    s.Ready l e ∧ ecc.kind = .clean ∧ (a : Int) = (s.core l e).getn rs + imm.toInt ∧ s.Readable l e a ∧ a % 2 = 0 := by
  decide +kernel

theorem wit_MemoryAccess_2 :
    let s : State := wW 3 [(2, 0x20077FFC), (5, 0x12345678)]
    let l : LaneId := .a
    let e : Eng := 3
    let rs : RegNo := 2
    let imm : Imm17 := 0#17
    let ecc : Ecc := eClean
    let a := ((s.core l e).getn rs + imm.toInt).toNat
    s.Ready l e ∧ ecc.kind = .clean ∧ (a : Int) = (s.core l e).getn rs + imm.toInt ∧ OwnWords e a 1 ∧ s.Puts l a 1 := by
  decide +kernel

theorem wit_MemoryAccess_3 :
    let s : State := wW 3 [(2, 0x20077FFE), (5, 0x12345678)]
    let l : LaneId := .a
    let e : Eng := 3
    let rs : RegNo := 2
    let imm : Imm17 := 0#17
    let ecc : Ecc := eClean
    let a := ((s.core l e).getn rs + imm.toInt).toNat
    s.Ready l e ∧ ecc.kind = .clean ∧ (a : Int) = (s.core l e).getn rs + imm.toInt ∧ a % 2 = 0 ∧ s.Readable l e a ∧ OwnWords e (a - a % 4) 1 ∧ s.Puts l (a - a % 4) 1 := by
  decide +kernel

theorem wit_MemoryAccess_4 :
    let s : State := wK 3 (fun g => { g with sbuf := [(0x30090004, 1#32)] }) (wW 3 [(2, 0x30090000)])
    let l : LaneId := .a
    let e : Eng := 3
    let rs : RegNo := 2
    let imm : Imm17 := 0#17
    let ecc : Ecc := eClean
    let a := ((s.core l e).getn rs + imm.toInt).toNat
    s.Ready l e ∧ ecc.kind = .clean ∧ (a : Int) = (s.core l e).getn rs + imm.toInt ∧ a % 4 = 0 ∧ kRegion e a = .table ∧ (s.lane l).tsRefuses a = none ∧ (s.lane l).eng[e].sbuf.length < 2 := by
  decide +kernel

theorem wit_MemoryAccess_5 :
    let s : State := wK 3 (fun g => { g with sbuf := [(0x30090000, 9#32)] })
    let l : LaneId := .a
    let e : Eng := 3
    let ecc : Ecc := eClean
    let x := 0x30090000
    let w := 9#32
    s.Ready l e ∧ ecc.kind = .clean ∧ (s.lane l).eng[e].sbuf = [(x, w)] ∧ tsBase ≤ x ∧ (s.lane l).gateState 4 = gOpen ∧ ((s.lane l).replicated x = false ∨ (s.lane l).holder = true) := by
  decide +kernel

theorem wit_MemoryAccess_6 :
    let s : State := w0
    let l : LaneId := .a
    let e : Eng := 3
    let ecc : Ecc := eClean
    s.Ready l e ∧ ecc.kind = .clean ∧ (s.lane l).eng[e].sbuf = [] := by
  decide +kernel

theorem wit_MemoryAccess_7 :
    let s : State := w0
    let l : LaneId := .a
    let e : Eng := 3
    let m : Imm16 := 0#16
    let ecc : Ecc := eClean
    s.Ready l e ∧ ecc.kind = .clean ∧ m.getLsbD 14 = false ∧ m = 0 := by
  decide +kernel

theorem wit_MemoryAccess_8 :
    let s : State := wW 3 [(14, 0x20060008), (0, 77), (15, 99)]
    let l : LaneId := .a
    let e : Eng := 3
    let m : Imm16 := 0x8001#16
    let ecc : Ecc := eClean
    let c := s.core l e
    let sp := c.getn 14
    let up : List RegNo := (List.finRange 16).filter fun r => m.getLsbD r.val
    let n := up.length
    s.Ready l e ∧ ecc.kind = .clean ∧ m.getLsbD 14 = false ∧ m ≠ 0 ∧ sp % 4 = 0 ∧ engBase e + 4 * n ≤ sp ∧ sp ≤ engBase e + engSize e ∧ s.Puts l (sp - 4 * n) n := by
  decide +kernel

theorem wit_MemoryAccess_9 :
    let s : State := wW 3 [(14, 0x20077FF8), (0, 77), (15, 99)]
    let l : LaneId := .a
    let e : Eng := 3
    let m : Imm16 := 0x8001#16
    let ecc : Ecc := eClean
    let c := s.core l e
    let sp := c.getn 14
    let up : List RegNo := (List.finRange 16).filter fun r => m.getLsbD r.val
    let n := up.length
    s.Ready l e ∧ ecc.kind = .clean ∧ m.getLsbD 14 = false ∧ m ≠ 0 ∧ OwnWords e sp n ∧ (∀ k, k < n → s.Readable l e (sp + 4 * k)) := by
  decide +kernel

theorem wit_MemoryAccess_10 :
    let s : State := wAnd (wK 3 fun g => { g with sbuf := [(0x30090000, 9#32)] }) fun L => (L.setGate 4 gClosed gcReset).s F_SYS_DGCNT_ABORTS 65534
    let l : LaneId := .a
    let e : Eng := 3
    let ecc : Ecc := eClean
    let x := 0x30090000
    let w := 9#32
    s.Ready l e ∧ ecc.kind = .clean ∧ (s.lane l).eng[e].sbuf = [(x, w)] ∧ (s.lane l).gateState 4 ≠ gOpen ∧ (s.lane l).f F_SYS_DGCNT_ABORTS < 65535 := by
  decide +kernel

theorem wit_MemoryAccess_11 :
    let s : State := wW 3 [(2, A_TAT_DATA 0 0 + 4)]
    let l : LaneId := .a
    let e : Eng := 3
    let rs : RegNo := 2
    let imm : Imm17 := 0x1FFFC#17
    let ecc : Ecc := eClean
    let a := ((s.core l e).getn rs + imm.toInt).toNat
    s.Ready l e ∧ ecc.kind = .clean ∧ (a : Int) = (s.core l e).getn rs + imm.toInt ∧ s.Reaches l e a ∧ a ≠ A_BOB_POS ∧
      (regMacro a = true → (s.lane l).ue.contains a = false) := by
  decide +kernel

theorem wit_MemoryAccess_12 :
    let s : State := wW 3 [(2, 0x20060004), (5, 0x12345678)] (wA [(F_LNK_REPLB_BASE 0, 0x20060000), (F_LNK_REPLL_LEN 0, 16), (F_LNK_CNT_SUPPRESS, 254)])
    let l : LaneId := .a
    let e : Eng := 3
    let rs : RegNo := 2
    let imm : Imm17 := 0#17
    let ecc : Ecc := eClean
    let a := ((s.core l e).getn rs + imm.toInt).toNat
    s.Ready l e ∧ ecc.kind = .clean ∧ (a : Int) = (s.core l e).getn rs + imm.toInt ∧ OwnWords e a 1 ∧ ¬ s.Puts l a 1 ∧ (s.lane l).f F_LNK_CNT_SUPPRESS < 255 := by
  decide +kernel

theorem wit_MemoryAccess_13 :
    let s : State := wW 3 [(2, 0x30090002), (5, 0x12345678)]
    let l : LaneId := .a
    let e : Eng := 3
    let rs : RegNo := 2
    let imm : Imm17 := 0#17
    let ecc : Ecc := eClean
    let a := ((s.core l e).getn rs + imm.toInt).toNat
    let L := s.lane l
    s.Ready l e ∧ ecc.kind = .clean ∧ (a : Int) = (s.core l e).getn rs + imm.toInt ∧ kRegion e a = .table ∧ L.tsRefuses a = none ∧
      L.ue.contains (a - a % 4) = false ∧ L.eng[e].sbuf = [] ∧ L.gateState 4 = gOpen ∧ (L.replicated (a - a % 4) = false ∨ L.holder = true) ∧ a % 2 = 0 := by
  decide +kernel

theorem wit_MemoryAccess_14 :
    let s : State := wW 3 [(2, A_TAT_FWIN 8), (5, 0x12345678)]
    let l : LaneId := .a
    let e : Eng := 3
    let rs : RegNo := 2
    let imm : Imm17 := 0#17
    let ecc : Ecc := eClean
    let a := ((s.core l e).getn rs + imm.toInt).toNat
    let i : Fin 9 := 8
    s.Ready l e ∧ ecc.kind = .clean ∧ (a : Int) = (s.core l e).getn rs + imm.toInt ∧ s.Reaches l e a ∧ a = A_TAT_FWIN i.val := by
  decide +kernel

theorem wit_AtomicsAndBlocks_0 :
    let s : State := wW 3 [(2, 0x20077FFC), (1, 5)]
    let l : LaneId := .a
    let e : Eng := 3
    let rs : RegNo := 2
    let ecc : Ecc := eClean
    let c := s.core l e
    let a := c.getn rs
    s.Ready l e ∧ (s.lane l).eng[e].sbuf = [] ∧ ecc.kind = .clean ∧ OwnWords e a 1 ∧ s.Puts l a 1 ∧ s.Readable l e a := by
  decide +kernel

theorem wit_AtomicsAndBlocks_1 :
    let s : State := wW 3 [(3, 0x20077FFC), (2, 5)]
    let l : LaneId := .a
    let e : Eng := 3
    let rt : RegNo := 3
    let ecc : Ecc := eClean
    let c := s.core l e
    let a := c.getn rt
    s.Ready l e ∧ (s.lane l).eng[e].sbuf = [] ∧ ecc.kind = .clean ∧ OwnWords e a 1 ∧ s.Puts l a 1 ∧ s.Readable l e a := by
  decide +kernel

theorem wit_AtomicsAndBlocks_2 :
    let s : State := w0
    let l : LaneId := .a
    let e : Eng := 3
    let rd : RegNo := 1
    let rs : RegNo := 2
    let rt : RegNo := 3
    let ecc : Ecc := eClean
    let c := s.core l e
    let n := c.getn rt
    s.Ready l e ∧ (s.lane l).eng[e].sbuf = [] ∧ ecc.kind = .clean ∧ (rd ≠ rs ∧ rd ≠ rt ∧ rs ≠ rt) ∧ n = 0 := by
  decide +kernel

theorem wit_AtomicsAndBlocks_3 :
    let s : State := wW 3 [(1, 0x20060004), (2, 0x20060000), (3, 2)]
    let l : LaneId := .a
    let e : Eng := 3
    let rd : RegNo := 1
    let rs : RegNo := 2
    let rt : RegNo := 3
    let ecc : Ecc := eClean
    let c := s.core l e
    let n := c.getn rt
    s.Ready l e ∧ (s.lane l).eng[e].sbuf = [] ∧ ecc.kind = .clean ∧ (rd ≠ rs ∧ rd ≠ rt ∧ rs ≠ rt) ∧ 0 < n ∧
      (65535 < n ∨ (c.getn rs < c.getn rd ∧ c.getn rd < c.getn rs + 4 * n)) := by
  decide +kernel

theorem wit_AtomicsAndBlocks_4 :
    let s : State := wW 3 [(1, 0x20077FF8), (2, 0x20060000), (3, 2)]
    let l : LaneId := .a
    let e : Eng := 3
    let rd : RegNo := 1
    let rs : RegNo := 2
    let rt : RegNo := 3
    let ecc : Ecc := eClean
    let c := s.core l e
    let n := c.getn rt
    s.Ready l e ∧ (s.lane l).eng[e].sbuf = [] ∧ ecc.kind = .clean ∧ (rd ≠ rs ∧ rd ≠ rt ∧ rs ≠ rt) ∧ 0 < n ∧ n ≤ 65535 ∧ OwnWords e (c.getn rd) n ∧ s.Puts l (c.getn rd) n ∧
      OwnWords e (c.getn rs) n ∧ (∀ k, k < n → s.Readable l e (c.getn rs + 4 * k)) ∧ (c.getn rd ≤ c.getn rs ∨ c.getn rs + 4 * n ≤ c.getn rd) := by
  decide +kernel

theorem wit_AtomicsAndBlocks_5 :
    let s : State := wW 3 [(1, 0x20077FF8), (2, 7), (3, 65536)]
    let l : LaneId := .a
    let e : Eng := 3
    let rd : RegNo := 1
    let rs : RegNo := 2
    let rt : RegNo := 3
    let ecc : Ecc := eClean
    let c := s.core l e
    let n := c.getn rt
    s.Ready l e ∧ (s.lane l).eng[e].sbuf = [] ∧ ecc.kind = .clean ∧ (rd ≠ rs ∧ rd ≠ rt ∧ rs ≠ rt) ∧ 65535 < n := by
  decide +kernel

theorem wit_AtomicsAndBlocks_6 :
    let s : State := wW 3 [(1, 0x20077FF8), (2, 7), (3, 2)]
    let l : LaneId := .a
    let e : Eng := 3
    let rd : RegNo := 1
    let rs : RegNo := 2
    let rt : RegNo := 3
    let c := s.core l e
    let n := c.getn rt
    s.Ready l e ∧ (s.lane l).eng[e].sbuf = [] ∧ (rd ≠ rs ∧ rd ≠ rt ∧ rs ≠ rt) ∧ 0 < n ∧ n ≤ 65535 ∧ OwnWords e (c.getn rd) n ∧ s.Puts l (c.getn rd) n := by
  decide +kernel

theorem wit_TableInstructions_0 :
    let s : State := wTab 3 6 [(2, 1)]
    let l : LaneId := .a
    let e : Eng := 3
    let rt : RegNo := 3
    let ecc : Ecc := eClean
    let c := s.core l e
    let p := c.getn rt
    s.Ready l e ∧ ecc.kind = .clean ∧ s.DescAt l e p ∧ ¬ s.DescOk l e p := by
  decide +kernel

theorem wit_TableInstructions_1 :
    let s : State := wTab 3 8 [(2, 2)]
    let l : LaneId := .a
    let e : Eng := 3
    let rs : RegNo := 2
    let rt : RegNo := 3
    let ecc : Ecc := eClean
    let c := s.core l e
    let p := c.getn rt
    let count := s.descWord l e p 1 / 2 ^ 16
    s.Ready l e ∧ ecc.kind = .clean ∧ s.DescAt l e p ∧ s.DescOk l e p ∧ c.getn rs < count ∧ s.entryAt l e p (c.getn rs) 0 < 2 ^ 32 := by
  decide +kernel

theorem wit_TableInstructions_2 :
    let s : State := wTab 3 8 [(2, 3)]
    let l : LaneId := .a
    let e : Eng := 3
    let rs : RegNo := 2
    let rt : RegNo := 3
    let ecc : Ecc := eClean
    let c := s.core l e
    let p := c.getn rt
    let count := s.descWord l e p 1 / 2 ^ 16
    s.Ready l e ∧ ecc.kind = .clean ∧ s.DescAt l e p ∧ s.DescOk l e p ∧ count ≤ c.getn rs := by
  decide +kernel

theorem wit_TableInstructions_3 :
    let s : State := wTab 3 8 [(2, 20)]
    let l : LaneId := .a
    let e : Eng := 3
    let rt : RegNo := 3
    let ecc : Ecc := eClean
    let c := s.core l e
    let p := c.getn rt
    let count := s.descWord l e p 1 / 2 ^ 16
    let keys := s.keyOf l e p
    s.Ready l e ∧ ecc.kind = .clean ∧ s.DescAt l e p ∧ s.DescOk l e p ∧ (∀ i, i < count → s.Readable l e (s.keyAt l e p i)) ∧
      0 < count ∧ (∀ j, j < count → ∀ i, i < j → keys i ≤ keys j) := by
  decide +kernel

theorem wit_TableInstructions_4 :
    let s : State := wTab 0 8 [(2, 20)]
    let l : LaneId := .a
    let e : Eng := 3
    let rt : RegNo := 3
    let ecc : Ecc := eClean
    let c := s.core l e
    let p := c.getn rt
    let count := s.descWord l e p 1 / 2 ^ 16
    s.Ready l e ∧ ecc.kind = .clean ∧ s.DescAt l e p ∧ s.DescOk l e p ∧ (∀ i, i < count → s.Readable l e (s.keyAt l e p i)) ∧ count = 0 := by
  decide +kernel

theorem wit_TableInstructions_5 :
    let s : State := wTab 3 8 [(2, 40), (1, 1)]
    let l : LaneId := .a
    let e : Eng := 3
    let rd : RegNo := 1
    let rs : RegNo := 2
    let rt : RegNo := 3
    let ecc : Ecc := eClean
    let c := s.core l e
    let p := c.getn rt
    let count := s.descWord l e p 1 / 2 ^ 16
    let key := c.get rs &&& s.dataWord l e (p + 12)
    let keys := s.keyOf l e p
    let i := 2
    s.Ready l e ∧ ecc.kind = .clean ∧ s.DescAt l e p ∧ s.DescOk l e p ∧ (∀ i, i < count → s.Readable l e (s.keyAt l e p i)) ∧ c.getn rd ≤ i ∧
      i < count ∧ keys i = key ∧ (∀ j, j < i → c.getn rd ≤ j → keys j ≠ key) := by
  decide +kernel

theorem wit_TableInstructions_6 :
    let s : State := wTab 3 8 [(2, 10), (1, 1)]
    let l : LaneId := .a
    let e : Eng := 3
    let rd : RegNo := 1
    let rs : RegNo := 2
    let rt : RegNo := 3
    let ecc : Ecc := eClean
    let c := s.core l e
    let p := c.getn rt
    let count := s.descWord l e p 1 / 2 ^ 16
    let key := c.get rs &&& s.dataWord l e (p + 12)
    let keys := s.keyOf l e p
    s.Ready l e ∧ ecc.kind = .clean ∧ s.DescAt l e p ∧ s.DescOk l e p ∧ (∀ i, i < count → s.Readable l e (s.keyAt l e p i)) ∧ 0 < count ∧
      (∀ j, j < count → c.getn rd ≤ j → keys j ≠ key) := by
  decide +kernel

theorem wit_TableInstructions_7 :
    let s : State := wTab 3 8 [(2, 40)]
    let l : LaneId := .a
    let e : Eng := 3
    let rs : RegNo := 2
    let rt : RegNo := 3
    let ecc : Ecc := eClean
    let c := s.core l e
    let p := c.getn rt
    let count := s.descWord l e p 1 / 2 ^ 16
    let xAt : Nat → Nat := fun i => s.descWord l e p 0 + 8 * i
    let yAt : Nat → Nat := fun i => s.descWord l e p 0 + 8 * i + 4
    let x : Nat → Int := fun i => (s.dataWord l e (xAt i)).toInt
    let key := c.geti rs
    let i := 2
    s.Ready l e ∧ ecc.kind = .clean ∧ s.DescAt l e p ∧ s.DescOk l e p ∧ 0 < count ∧
      (∀ i, i < count → s.Readable l e (xAt i) ∧ s.Readable l e (yAt i)) ∧ (∀ j, j < count → ∀ i, i < j → x i < x j) ∧ i < count ∧ x i = key := by
  decide +kernel

theorem wit_TableInstructions_8 :
    let s : State := wTab 3 8 [(2, 9)]
    let l : LaneId := .a
    let e : Eng := 3
    let rs : RegNo := 2
    let rt : RegNo := 3
    let ecc : Ecc := eClean
    let c := s.core l e
    let p := c.getn rt
    let count := s.descWord l e p 1 / 2 ^ 16
    let xAt : Nat → Nat := fun i => s.descWord l e p 0 + 8 * i
    let yAt : Nat → Nat := fun i => s.descWord l e p 0 + 8 * i + 4
    let x : Nat → Int := fun i => (s.dataWord l e (xAt i)).toInt
    let key := c.geti rs
    s.Ready l e ∧ ecc.kind = .clean ∧ s.DescAt l e p ∧ s.DescOk l e p ∧ 0 < count ∧
      (∀ i, i < count → s.Readable l e (xAt i) ∧ s.Readable l e (yAt i)) ∧ (∀ j, j < count → ∀ i, i < j → x i < x j) ∧ key < x 0 := by
  decide +kernel

theorem wit_TableInstructions_9 :
    let s : State := wTab 3 8 [(2, 41)]
    let l : LaneId := .a
    let e : Eng := 3
    let rs : RegNo := 2
    let rt : RegNo := 3
    let ecc : Ecc := eClean
    let c := s.core l e
    let p := c.getn rt
    let count := s.descWord l e p 1 / 2 ^ 16
    let xAt : Nat → Nat := fun i => s.descWord l e p 0 + 8 * i
    let yAt : Nat → Nat := fun i => s.descWord l e p 0 + 8 * i + 4
    let x : Nat → Int := fun i => (s.dataWord l e (xAt i)).toInt
    let key := c.geti rs
    s.Ready l e ∧ ecc.kind = .clean ∧ s.DescAt l e p ∧ s.DescOk l e p ∧ 0 < count ∧
      (∀ i, i < count → s.Readable l e (xAt i) ∧ s.Readable l e (yAt i)) ∧ (∀ j, j < count → ∀ i, i < j → x i < x j) ∧ x (count - 1) < key := by
  decide +kernel

theorem wit_TableInstructions_10 :
    let s : State := wTab 3 8 [(2, 39)]
    let l : LaneId := .a
    let e : Eng := 3
    let rs : RegNo := 2
    let rt : RegNo := 3
    let ecc : Ecc := eClean
    let c := s.core l e
    let p := c.getn rt
    let count := s.descWord l e p 1 / 2 ^ 16
    let xAt : Nat → Nat := fun i => s.descWord l e p 0 + 8 * i
    let yAt : Nat → Nat := fun i => s.descWord l e p 0 + 8 * i + 4
    let x : Nat → Int := fun i => (s.dataWord l e (xAt i)).toInt
    let key := c.geti rs
    let i := 1
    s.Ready l e ∧ ecc.kind = .clean ∧ s.DescAt l e p ∧ s.DescOk l e p ∧ 0 < count ∧
      (∀ i, i < count → s.Readable l e (xAt i) ∧ s.Readable l e (yAt i)) ∧ (∀ j, j < count → ∀ i, i < j → x i < x j) ∧ i + 1 < count ∧ x i < key ∧
      key < x (i + 1) := by
  decide +kernel

theorem wit_TableInstructions_11 :
    let s : State := wK 3 (fun g => { g with ram := wRam [(0, 0xFFFFFFFC), (4, 3 * 65536 + 8), (12, 0xFFFFFFFF)] }) (wW 3 [(2, 1), (3, 0x20060000)])
    let l : LaneId := .a
    let e : Eng := 3
    let rs : RegNo := 2
    let rt : RegNo := 3
    let ecc : Ecc := eClean
    let c := s.core l e
    let p := c.getn rt
    let count := s.descWord l e p 1 / 2 ^ 16
    s.Ready l e ∧ ecc.kind = .clean ∧ s.DescAt l e p ∧ s.DescOk l e p ∧ c.getn rs < count ∧ 2 ^ 32 ≤ s.entryAt l e p (c.getn rs) 0 := by
  decide +kernel

theorem wit_Channels_0 :
    let s : State := wFifo 2 5 [1#32, 2#32, 3#32] (wCh 0)
    let l : LaneId := .a
    let e : Eng := 3
    let ch : ChNo := 4
    let L := s.lane l
    let p := (2 : Eng)
    let q := (5 : ChNo)
    s.Ready l e ∧ (s.lane l).eng[e].sbuf = [] ∧ L.CanSend e ch p q ∧ L.eng[p].ep[q].fifo.length < 4 := by
  decide +kernel

theorem wit_Channels_1 :
    let s : State := wFifo 2 5 [1#32, 2#32, 3#32, 4#32] (wCh 0)
    let l : LaneId := .a
    let e : Eng := 3
    let ch : ChNo := 4
    let L := s.lane l
    let p := (2 : Eng)
    let q := (5 : ChNo)
    s.Ready l e ∧ (s.lane l).eng[e].sbuf = [] ∧ L.CanSend e ch p q ∧ 4 ≤ L.eng[p].ep[q].fifo.length := by
  decide +kernel

theorem wit_Channels_2 :
    let s : State := wFifo 3 4 [8#32, 9#32] (wCh 1)
    let l : LaneId := .a
    let e : Eng := 3
    let ch : ChNo := 4
    let L := s.lane l
    let x := 8#32
    let rest := [9#32]
    s.Ready l e ∧ (s.lane l).eng[e].sbuf = [] ∧ L.Receives e ch ∧ L.eng[e].ep[ch].fifo = x :: rest := by
  decide +kernel

theorem wit_Channels_3 :
    let s : State := wCh 1
    let l : LaneId := .a
    let e : Eng := 3
    let ch : ChNo := 4
    let L := s.lane l
    s.Ready l e ∧ (s.lane l).eng[e].sbuf = [] ∧ L.Receives e ch ∧ L.eng[e].ep[ch].fifo = [] ∧ L.eng[e].ep[ch].peerReset = none := by
  decide +kernel

theorem wit_Channels_4 :
    let s : State := w0
    let l : LaneId := .a
    let e : Eng := 3
    let rs : RegNo := 2
    let rt : RegNo := 3
    let c := s.core l e
    s.Ready l e ∧ (s.lane l).eng[e].sbuf = [] ∧ c.get rs = 0 ∧ c.get rt = 0 := by
  decide +kernel

theorem wit_Channels_5 :
    let s : State := wW 3 [(2, 0x18)] (wFifo 3 4 [8#32] (wCh 1))
    let l : LaneId := .a
    let e : Eng := 3
    let rs : RegNo := 2
    let rt : RegNo := 3
    let ch : ChNo := 4
    let L := s.lane l
    let c := s.core l e
    let masked : ChNo → Bool := fun k => (c.get rt ++ c.get rs).getLsbD k.val
    s.Ready l e ∧ (s.lane l).eng[e].sbuf = [] ∧ masked ch = true ∧ (∀ k : ChNo, masked k = true → L.chCut e k = false) ∧ L.chReady e ch = true ∧
      (∀ k : ChNo, k < ch → masked k = true → L.chReady e k = false) ∧ L.chReport e ch = none := by
  decide +kernel

theorem wit_Channels_6 :
    let s : State := wW 3 [(2, 0x18)] (wK 3 (fun g => { g with ep := g.ep.set 4 { peerReset := some stPeerReset } }) (wCh 1))
    let l : LaneId := .a
    let e : Eng := 3
    let rs : RegNo := 2
    let rt : RegNo := 3
    let ch : ChNo := 4
    let L := s.lane l
    let c := s.core l e
    let masked : ChNo → Bool := fun k => (c.get rt ++ c.get rs).getLsbD k.val
    s.Ready l e ∧ (s.lane l).eng[e].sbuf = [] ∧ masked ch = true ∧ (∀ k : ChNo, masked k = true → L.chCut e k = false) ∧ L.chReady e ch = true ∧
      (∀ k : ChNo, k < ch → masked k = true → L.chReady e k = false) ∧ L.chReport e ch = some stPeerReset := by
  decide +kernel

theorem wit_Channels_7 :
    let s : State := wW 3 [(2, 0x18)] (wK 3 (fun g => { g with ep := g.ep.set 4 { cut := true } }) (wCh 1))
    let l : LaneId := .a
    let e : Eng := 3
    let rs : RegNo := 2
    let rt : RegNo := 3
    let ch : ChNo := 4
    let L := s.lane l
    let c := s.core l e
    let masked : ChNo → Bool := fun k => (c.get rt ++ c.get rs).getLsbD k.val
    s.Ready l e ∧ (s.lane l).eng[e].sbuf = [] ∧ masked ch = true ∧ L.chCut e ch = true ∧ (∀ k : ChNo, k < ch → masked k = true → L.chCut e k = false) := by
  decide +kernel

theorem wit_RegisterInstructions_0 :
    let s : State := wW 3 [(3, A_BOB_POS + 4)]
    let l : LaneId := .a
    let e : Eng := 3
    let rt : RegNo := 3
    let c := s.core l e
    s.Ready l e ∧ s.Reaches l e (c.getn rt) ∧ c.getn rt ≠ A_BOB_POS ∧
      (regMacro (c.getn rt) = true → (s.lane l).ue.contains (c.getn rt) = false) := by
  decide +kernel

theorem wit_RegisterInstructions_1 :
    let s : State := wW 3 [(3, A_TAT_FWIN 8), (2, 55)]
    let l : LaneId := .a
    let e : Eng := 3
    let rt : RegNo := 3
    let i : Fin 9 := 8
    let c := s.core l e
    s.Ready l e ∧ s.Reaches l e (c.getn rt) ∧ c.getn rt = A_TAT_FWIN i.val := by
  decide +kernel

theorem wit_RegisterInstructions_2 :
    let s : State := wW 3 [(3, A_TAT_FWIN 8)]
    let l : LaneId := .a
    let e : Eng := 3
    let rt : RegNo := 3
    let L := s.lane l
    let c := s.core l e
    s.Ready l e ∧ s.Reaches l e (c.getn rt) ∧ (isChcfg (c.getn rt) = true ∨ c.getn rt = A_SYS_ENGCTL → e = 0) ∧
      (∀ f, f ∈ fieldsOf (c.getn rt) → f.acc ≠ .ro → L.fieldRight (.eng e) (c.getn rt) f = true) ∧
      (holderOnly (c.getn rt) = true ∨ c.getn rt = A_FIO_KEEPALIVE → L.holder = true) := by
  decide +kernel

theorem wit_RegisterInstructions_3 :
    let s : State := w0
    let l : LaneId := .a
    let i : Fin 9 := 8
    let wr : Writer := .eng 3
    let v : Word := 77#32
    s.Permits l wr (A_TAT_FWIN i.val) v := by
  decide +kernel

theorem wit_RegisterInstructions_4 :
    let s : State := wW 0 []
    let l : LaneId := .a
    let L := s.lane l
    let n : FgEng := 3
    let ch : ChNo := 62
    let v : Word := 0x80030400#32
    ch ≠ 63 ∧ s.Permits l (.eng 0) (A_SYS_CHCFG n.val ch.val) v ∧ (rget L.regs (A_SYS_CHCFG n.val ch.val)).getLsbD 31 = false ∧
      (v.getLsbD 30 = false → bits v 21 16 < 8) := by
  decide +kernel

theorem wit_RegisterInstructions_5 :
    let s : State := wK 3 (fun g => { g with ktper := 100 }) (wFifo 3 63 [1#32, 1#32, 1#32] w0)
    let l : LaneId := .a
    let e : Eng := 3
    let L := s.lane l
    L.up (.eng e) = true ∧ e.val < 8 ∧ L.eng[e].ktper ≠ 0 ∧ L.xOpen 46 = true ∧ L.xing[46].busy = false ∧ L.tick[e] = 0 ∧ L.eng[e].ep[63].fifo.length < 4 ∧ L.eng[e].ep[63].evCount = 0 := by
  decide +kernel

theorem wit_RegisterInstructions_6 :
    let s : State := wK 3 (fun g => { g with ktper := 100 }) (wAnd w0 fun L => { L with xing := L.xing.set 46 { busy := true, acc := 14 } })
    let l : LaneId := .a
    let e : Eng := 3
    let L := s.lane l
    L.up (.eng e) = true ∧ e.val < 8 ∧ L.eng[e].ktper ≠ 0 ∧ L.xOpen 46 = true ∧ L.xing[46].busy = true ∧ L.xing[46].acc < 15 := by
  decide +kernel

theorem wit_LoopInstructions_0 :
    let s : State := wGain 4
    let l : LaneId := .a
    let n : Slot := 0
    let rs : RegNo := 2
    let L := s.lane l
    let c := L.tat.core
    let x := c.geti rs
    let slot := L.tat.slots[n]
    let X : Nat → Int := fun j => gainWord L slot.gsel n j 0
    (s.lane l).up .tat = true ∧ (∀ j, j < 63 → X j < X (j + 1)) ∧ x < X 0 := by
  decide +kernel

theorem wit_LoopInstructions_1 :
    let s : State := wGain 636
    let l : LaneId := .a
    let n : Slot := 0
    let rs : RegNo := 2
    let L := s.lane l
    let c := L.tat.core
    let x := c.geti rs
    let slot := L.tat.slots[n]
    let X : Nat → Int := fun j => gainWord L slot.gsel n j 0
    (s.lane l).up .tat = true ∧ (∀ j, j < 63 → X j < X (j + 1)) ∧ X 63 < x := by
  decide +kernel

theorem wit_LoopInstructions_2 :
    let s : State := wGain 635
    let l : LaneId := .a
    let n : Slot := 0
    let rs : RegNo := 2
    let L := s.lane l
    let c := L.tat.core
    let x := c.geti rs
    let slot := L.tat.slots[n]
    let X : Nat → Int := fun j => gainWord L slot.gsel n j 0
    let i := 63
    (s.lane l).up .tat = true ∧ (∀ j, j < 63 → X j < X (j + 1)) ∧ i < 64 ∧ X i = x := by
  decide +kernel

theorem wit_LoopInstructions_3 :
    let s : State := wGain 634
    let l : LaneId := .a
    let n : Slot := 0
    let rs : RegNo := 2
    let L := s.lane l
    let c := L.tat.core
    let x := c.geti rs
    let slot := L.tat.slots[n]
    let X : Nat → Int := fun j => gainWord L slot.gsel n j 0
    let i := 62
    (s.lane l).up .tat = true ∧ (∀ j, j < 63 → X j < X (j + 1)) ∧ i < 63 ∧ X i < x ∧ x < X (i + 1) := by
  decide +kernel

theorem wit_LoopInstructions_4 :
    let s : State := wA [(F_TAT_LIMLO_LO 0 3, 2 ^ 31), (F_TAT_LIMHI_HI 0 3, 2 ^ 31 - 1)]
    let l : LaneId := .a
    let n : Slot := 0
    let k : AccNo := 3
    let L := s.lane l
    let slot := L.tat.slots[n]
    let own := limOwned n.val k.val L
    let lo := if own then slot.lims[k].1 else L.i (F_TAT_LIMLO_LO n.val k.val)
    let hi := if own then slot.lims[k].2 else L.i (F_TAT_LIMHI_HI n.val k.val)
    (s.lane l).up .tat = true ∧ (-(2 ^ 31) ≤ lo ∧ lo < 2 ^ 31 ∧ -(2 ^ 31) ≤ hi ∧ hi < 2 ^ 31) := by
  decide +kernel

theorem wit_LoopSchedule_0 :
    let s : State := wAnd (wA [(F_TAT_SLOTCFG_EN 0, 1), (F_TAT_SLOTCFG_PERIOD 0, 2000), (F_TAT_SLOTPH_PHASE 0, 99), (F_TAT_SLOTSTAT_STATE 0, slRun)]) fun L => { L with fclk := 2020 }
    let l : LaneId := .a
    let n : Slot := 0
    let L := s.lane l
    let slot := L.tat.slots[n]
    let period := L.f (F_TAT_SLOTCFG_PERIOD n.val)
    let off := 79
    (s.lane l).up .tat = true ∧ L.b (F_TAT_SLOTCFG_EN n.val) = true ∧ 0 < period ∧ instantIn L.fclk period (L.f (F_TAT_SLOTPH_PHASE n.val)) = some off ∧
      L.f (F_TAT_SLOTSTAT_STATE n.val) = slRun ∧ slot.guardReq = none ∧ (L.fclk < slot.due ∨ (slot.pending = false ∧ slot.sent = none)) ∧ L.spg.notchNew = Vector.replicate 4 false ∧ L.xOpen n.val = true ∧ L.xing[n.val].busy = false := by
  decide +kernel

theorem wit_LoopSchedule_1 :
    let s : State := wSlot (fun t => { t with pending := true, due := 1 }) (wA [(F_TAT_BANK_D 0 0, 0xC6000100)])
    let l : LaneId := .a
    let n : Slot := 0
    let L := s.lane l
    let slot := L.tat.slots[n]
    let ecc : Ecc := eClean
    let r : RegNo := 0
    let p : AccNo := 0
    (s.lane l).up .tat = true ∧ slot.pending = true ∧ L.fclk < slot.due ∧ ecc.kind = .clean ∧ L.ue.contains (A_TAT_BANK n.val (if slot.bank then 512 else 0)) = false ∧
      (∀ m : Slot, L.tat.slots[m].pending = true → slot.due < L.tat.slots[m].due ∨ (slot.due = L.tat.slots[m].due ∧ n ≤ m)) ∧
      kDecodeLoop (rget L.regs (A_TAT_BANK n.val (if slot.bank then 512 else 0))) = some (.out r p true) := by
  decide +kernel

theorem wit_LoopSchedule_2 :
    let s : State := wSlot (fun t => { t with sent := some [(0, 5#32)], due := 80 }) (wA [(F_TAT_SLOTCFG_PERIOD 0, 2000), (F_TAT_SLOTSTAT_STATE 0, slRun)])
    let l : LaneId := .a
    let n : Slot := 0
    let L := s.lane l
    let slot := L.tat.slots[n]
    let period := L.f (F_TAT_SLOTCFG_PERIOD n.val)
    let outs := [(0, 5#32)]
    let sub := 79
    let left : Int := (slot.due : Int) - L.fclk - (sub % 80 : Nat)
    (s.lane l).up .tat = true ∧ slot.sent = some outs ∧ 0 < left ∧ L.f (F_TAT_SLOTSTAT_STATE n.val) = slRun ∧ L.spg.ho.phase < 2 ∧ 0 < period ∧
      L.xOpen (8 + n.val) = true := by
  decide +kernel

theorem wit_LoopSchedule_3 :
    let s : State := wSlot (fun t => { t with pending := true, due := 79 }) (wA [(F_TAT_SLOTCFG_EN 0, 1), (F_TAT_SLOTSTAT_STATE 0, slRun)])
    let l : LaneId := .a
    let n : Slot := 0
    let L := s.lane l
    let slot := L.tat.slots[n]
    (s.lane l).up .tat = true ∧ slot.pending = true ∧ L.f (F_TAT_SLOTSTAT_STATE n.val) = slRun ∧ (slot.due : Int) - L.fclk < 80 := by
  decide +kernel

theorem wit_LoopSchedule_4 :
    let s : State := wAnd (wA [(F_TAT_SLOTCFG_EN 0, 1), (F_TAT_SLOTCFG_PERIOD 0, 2000), (F_TAT_SLOTPH_PHASE 0, 100)]) fun L => { L with fclk := 2020 }
    let l : LaneId := .a
    let n : Slot := 0
    let L := s.lane l
    let period := L.f (F_TAT_SLOTCFG_PERIOD n.val)
    (s.lane l).up .tat = true ∧ 0 < period ∧ instantIn L.fclk period (L.f (F_TAT_SLOTPH_PHASE n.val)) = none := by
  decide +kernel

theorem wit_LoopSchedule_5 :
    let s : State := wSlot (fun t => { t with sent := some [(0, 5#32)], due := 79 }) w0
    let l : LaneId := .a
    let n : Slot := 0
    let L := s.lane l
    let slot := L.tat.slots[n]
    let outs := [(0, 5#32)]
    let sub := 79
    let left : Int := (slot.due : Int) - L.fclk - (sub % 80 : Nat)
    (s.lane l).up .tat = true ∧ slot.sent = some outs ∧ (left ≤ 0 ∨ L.xOpen (8 + n.val) = false) := by
  decide +kernel

theorem wit_LoopSchedule_6 :
    let s : State := wSlot (fun t => { t with pending := true }) (wA [(F_TAT_SLOTCFG_EN 0, 1), (F_TAT_SLOTSTAT_STATE 0, slRun), (F_TAT_SLOTSTAT_ORUN_CNT 0, 6), (F_TAT_SLOTCFG_ORUN_M1 0, 6)])
    let l : LaneId := .a
    let n : Slot := 0
    let L := s.lane l
    let slot := L.tat.slots[n]
    (s.lane l).up .tat = true ∧ slot.pending = true ∧ L.f (F_TAT_SLOTSTAT_STATE n.val) = slRun ∧ (slot.due : Int) - L.fclk < 80 ∧
      min 8 (L.f (F_TAT_SLOTSTAT_ORUN_CNT n.val) + 1) = L.f (F_TAT_SLOTCFG_ORUN_M1 n.val) + 1 := by
  decide +kernel

theorem wit_LoopSchedule_7 :
    let s : State := wSlot (fun t => { t with pending := true }) w0
    let l : LaneId := .a
    let L := s.lane l
    (s.lane l).up .tat = true ∧ L.tat.slots[0].pending = true ∧ (∀ m : Slot, L.tat.slots[m].pending = true → L.tat.slots[m].due ≤ L.fclk) := by
  decide +kernel

theorem wit_SlotCommands_0 :
    let s : State := w0
    let l : LaneId := .a
    let wr : Writer := .eng 3
    let cmt : Byte := 0x81#8
    let clr : Byte := 0#8
    s.Permits l wr A_TAT_BQCOMMIT (BitVec.ofNat 32 (clr.toNat * 256 + cmt.toNat)) := by
  decide +kernel

theorem wit_SlotCommands_1 :
    let s : State := wA [(F_TAT_SLOTCFG_EN 0, 1)]
    let l : LaneId := .a
    let wr : Writer := .eng 3
    let n : Slot := 0
    let v : Word := 77#32
    let L := s.lane l
    let en := L.b (F_TAT_SLOTCFG_EN n.val)
    let word : BankWord := 1023
    s.Permits l wr (A_TAT_BANK n.val word.val) v ∧ (en = false ∨ L.b (F_TAT_SLOTCFG_BANK n.val) ≠ decide (512 ≤ word.val)) := by
  decide +kernel

theorem wit_SlotCommands_2 :
    let s : State := wA [(F_TAT_BANK_D 0 512, 0xC6000100)]
    let l : LaneId := .a
    let wr : Writer := .eng 3
    let n : Slot := 0
    let L := s.lane l
    let bank : Bool := true
    let r : RegNo := 0
    let p : AccNo := 0
    s.Permits l wr (A_TAT_SLOTCTL n.val) (BitVec.ofNat 32 (0x10000 + bank.toNat * 16 + 1)) ∧
      kDecodeLoop (rget L.regs (A_TAT_BANK n.val (if bank then 512 else 0))) = some (.out r p true) := by
  decide +kernel

theorem wit_SlotCommands_3 :
    let s : State := wA [(F_TAT_SLOTSTAT_STATE 0, slGuard)]
    let l : LaneId := .a
    let wr : Writer := .eng 3
    let n : Slot := 0
    let L := s.lane l
    s.Permits l wr (A_TAT_SLOTCTL n.val) 2#32 ∧ L.f (F_TAT_SLOTSTAT_STATE n.val) = slGuard := by
  decide +kernel

theorem wit_SlotCommands_4 :
    let s : State := wA [(F_TAT_SLOTSTAT_STATE 0, slRun)]
    let l : LaneId := .a
    let wr : Writer := .eng 3
    let n : Slot := 0
    let L := s.lane l
    s.Permits l wr (A_TAT_SLOTCTL n.val) 3#32 ∧ (L.f (F_TAT_SLOTSTAT_STATE n.val) = slRun ∨ L.f (F_TAT_SLOTSTAT_STATE n.val) = slBlend) := by
  decide +kernel

theorem wit_SlotCommands_5 :
    let s : State := wA [(F_TAT_PROG_OK1 0, 1)]
    let l : LaneId := .a
    let wr : Writer := .eng 3
    let n : Slot := 0
    let v : Word := 0xC0004E20#32
    let L := s.lane l
    let en := L.b (F_TAT_SLOTCFG_EN n.val)
    s.Permits l wr (A_TAT_SLOTCFG n.val) v ∧ en = false ∧ v.getLsbD 31 = true ∧
      L.b (if v.getLsbD 30 then F_TAT_PROG_OK1 n.val else F_TAT_PROG_OK0 n.val) = true := by
  decide +kernel

theorem wit_SlotCommands_6 :
    let s : State := w0
    let l : LaneId := .a
    let wr : Writer := .eng 3
    let n : Slot := 0
    let v : Word := 5#32
    let L := s.lane l
    s.Permits l wr (A_TAT_OUTDST n.val) v ∧ v.toNat < 16 ∧ v.toNat ≤ 5 ∧ (∀ m : Slot, m ≠ n → v.toNat ∉ outDsts (rget L.regs (A_TAT_OUTDST m.val))) := by
  decide +kernel

theorem wit_SlotCommands_7 :
    let s : State := wA [(F_TAT_SLOTCFG_PERIOD 0, 10)]
    let l : LaneId := .a
    let wr : Writer := .eng 3
    let n : Slot := 0
    let v : Word := 9#32
    let L := s.lane l
    let en := L.b (F_TAT_SLOTCFG_EN n.val)
    s.Permits l wr (A_TAT_SLOTPH n.val) v ∧ en = false ∧ bits v 15 0 < L.f (F_TAT_SLOTCFG_PERIOD n.val) := by
  decide +kernel

theorem wit_SlotCommands_8 :
    let s : State := w0
    let l : LaneId := .a
    let wr : Writer := .eng 3
    let n : Slot := 0
    let v : Word := 7#32
    let word : Byte := 255#8
    s.Permits l wr (A_TAT_DATA n.val word.toNat) v := by
  decide +kernel

theorem wit_TraceRecorder_0 :
    let s : State := w0
    let l : LaneId := .a
    let wr : Writer := .eng 3
    let L := s.lane l
    let div : TrcDiv := 255
    let clk : Slot := 7
    let len : TrcLen := 8191
    s.Permits l wr A_TRC_CTRL (BitVec.ofNat 32 (0x10000000 + div.val * 0x10000 + clk.val * 0x2000 + len.val)) ∧ 0 < len.val ∧ L.tracing = false := by
  decide +kernel

theorem wit_TraceRecorder_1 :
    let s : State := wA [(F_TRC_STAT_STATE, trcArmed), (F_TRC_CTRL_DIV, 1)]
    let l : LaneId := .a
    let wr : Writer := .eng 3
    let L := s.lane l
    s.Permits l wr A_TRC_CTRL (setBits (L.rwWord A_TRC_CTRL) 31 28 2) ∧ L.tracing = true := by
  decide +kernel

theorem wit_TraceRecorder_2 :
    let s : State := wA [(F_TRC_STAT_STATE, trcFilling), (F_TRC_CTRL_DIV, 1)]
    let l : LaneId := .a
    let wr : Writer := .eng 3
    let L := s.lane l
    s.Permits l wr A_TRC_CTRL (setBits (L.rwWord A_TRC_CTRL) 31 28 3) ∧ L.tracing = true := by
  decide +kernel

theorem wit_TraceRecorder_3 :
    let v : Vector Word 16 := Vector.replicate 16 7#32
    let s : State := wAnd (wA [(F_TRC_STAT_STATE, trcTriggered), (F_TRC_CHSEL_EN 15, 1)]) fun L => { L with trc := { L.trc with after := 2, wr := 4095, latched := some v } }
    let l : LaneId := .a
    let L := s.lane l
    L.up .trc = true ∧ L.trc.latched = some v ∧ L.trc.arm = false ∧ L.f F_TRC_STAT_STATE = trcTriggered ∧ L.trc.stop = false ∧ 1 < L.trc.after ∧ L.trc.wr < 4096 := by
  decide +kernel

theorem wit_TraceRecorder_4 :
    let v : Vector Word 16 := Vector.replicate 16 7#32
    let s : State := wAnd (wA [(F_TRC_STAT_STATE, trcArmed)]) fun L => { L with trc := { L.trc with stop := true, latched := some v } }
    let l : LaneId := .a
    let L := s.lane l
    L.up .trc = true ∧ L.trc.latched = some v ∧ L.trc.arm = false ∧ L.tracing = true ∧ L.trc.stop = true := by
  decide +kernel

theorem wit_TraceRecorder_5 :
    let s : State := wA [(F_TRC_STAT_STATE, trcTriggered)]
    let l : LaneId := .a
    let L := s.lane l
    L.up .trc = true ∧ L.trc.latched = none := by
  decide +kernel

theorem wit_TraceRecorder_6 :
    let v : Vector Word 16 := Vector.replicate 16 7#32
    let s : State := wAnd (wA [(F_TRC_CTRL_LEN, 8191), (F_TRC_PRE_PRE, 2)]) fun L => { L with trc := { L.trc with arm := true, latched := some v } }
    let l : LaneId := .a
    let L := s.lane l
    let len := min 4096 (L.f F_TRC_CTRL_LEN)
    let pre := min len (L.f F_TRC_PRE_PRE)
    L.up .trc = true ∧ L.trc.latched = some v ∧ L.trc.arm = true ∧ L.trc.stop = false ∧ L.trc.force = false ∧ 1 < pre := by
  decide +kernel

theorem wit_EstimatorInputs_0 :
    let s : State := wBob (fun b => { b with window := true, tk := 39999 }) (wA [(F_BOB_SSICFG_FRAMELEN, 13), (F_BOB_SSICFG_POSLEN, 13), (F_BOB_ENCSCALE_SCALE, 65536)])
    let l : LaneId := .a
    let L := s.lane l
    let bits : Bits := [true, true, true, true, true, true, true, true, true, true, true, true, false]
    let edge := 20000
    let frame := (bits ++ List.replicate (L.f F_BOB_SSICFG_FRAMELEN) false).take (L.f F_BOB_SSICFG_FRAMELEN)
    L.spine = true ∧ L.f F_BOB_SSICFG_FRAMELEN ≠ 0 ∧ L.xOpen 18 = true ∧ L.bob.window = true ∧ L.bob.tk / 20000 = edge / 20000 ∧ true ∈ frame ∧ false ∈ frame ∧
      L.f F_BOB_SSICFG_PAR = 0 ∧ L.b F_BOB_SSICFG_ERREN = false ∧ L.b F_BOB_SSICFG_GRAY = false ∧ L.b F_BOB_SSICFG_DIR = false := by
  decide +kernel

theorem wit_EstimatorInputs_1 :
    let s : State := wBob (fun b => { b with window := true }) (wHold [(F_BOB_CTRL_ACCEN, 1), (F_BOB_ACCCFG_NBYTES, 2)])
    let l : LaneId := .a
    let L := s.lane l
    L.up .bob = true ∧ L.holder = true ∧ L.bob.window = true ∧ L.b F_BOB_CTRL_ACCEN = true ∧ L.f F_BOB_ACCCFG_NBYTES ≠ 0 ∧ L.xOpen 25 = true := by
  decide +kernel

theorem wit_EstimatorInputs_2 :
    let s : State := { wBob (fun b => { b with window := true, tk := 39999 }) w0 with laneB := { wL with lnk := { ssiOut := some (5, -3, 1, false) } } }
    let l : LaneId := .a
    let L := s.lane l
    (s.lane l.other).lnk.ssiOut = some (5, -3, 1, false) ∧ L.up .bob = true ∧ L.bob.window = true ∧ L.bob.tk / 20000 = 1 := by
  decide +kernel

theorem wit_EstimatorInputs_3 :
    let s : State := { wBob (fun b => { b with window := true, tk := 39999 }) w0 with laneB := { wL with lnk := { accOut := some (1, some 5) } } }
    let l : LaneId := .a
    let L := s.lane l
    (s.lane l.other).lnk.accOut = some (1, some 5) ∧ L.up .bob = true ∧ L.bob.window = true ∧ L.bob.tk / 20000 = 1 := by
  decide +kernel

theorem wit_EstimatorInputs_4 :
    let s : State := wA [(F_BOB_CAPCFG_EN 3, 1), (F_BOB_CAPCFG_EDGE 3, 3), (F_BOB_CAPCFG_FI 3, 23)]
    let l : LaneId := .a
    let L := s.lane l
    let c : Nat := 3
    let fi : FieldInput := 23
    c < 4 ∧ L.up .bob = true ∧ L.b (F_BOB_CAPCFG_EN c) = true ∧ L.f (F_BOB_CAPCFG_FI c) = fi.val ∧ L.f (F_BOB_CAPCFG_EDGE c) = 3 := by
  decide +kernel

theorem wit_EstimatorInputs_5 :
    let s : State := wAnd w0 fun L => { L with fclk := 19921 }
    let l : LaneId := .a
    let L := s.lane l
    let off := 79
    L.up .bob = true ∧ instantIn L.fclk 20000 0 = some off ∧ L.xOpen 17 = true ∧ L.xing[17].busy = false ∧ L.bob.rst = false ∧ L.xOpen 16 = true ∧
      L.xing[16].busy = false := by
  decide +kernel

theorem wit_EstimatorInputs_6 :
    let s : State := wAnd w0 fun L => { L with fclk := 19920 }
    let l : LaneId := .a
    let L := s.lane l
    L.up .bob = true ∧ instantIn L.fclk 20000 0 = none := by
  decide +kernel

theorem wit_EstimatorInputs_7 :
    let s : State := { wBob (fun b => { b with window := true, tk := 40000 }) w0 with laneB := { wL with lnk := { ssiOut := some (5, -3, 1, false), accOut := some (1, some 5) } } }
    let l : LaneId := .a
    let L := s.lane l
    (s.lane l.other).lnk.ssiOut = some (5, -3, 1, false) ∧ (s.lane l.other).lnk.accOut = some (1, some 5) ∧ L.up .bob = true ∧
      (L.bob.window = false ∨ L.bob.tk / 20000 ≠ 1) := by
  decide +kernel

theorem wit_EstimatorOutputs_0 :
    let s : State := wBob (fun b => { b with window := true }) w0
    let l : LaneId := .a
    let L := s.lane l
    let b := L.bob
    L.up .bob = true ∧ b.window = true ∧ b.st = bobOff := by
  decide +kernel

theorem wit_EstimatorOutputs_1 :
    let s : State := wBob (fun b => { b with window := true, st := bobInit, tk := 100, ch := b.ch.set 0 { b.ch[0] with cur := some (-(2 ^ 31), 100, false), zref := some (-(2 ^ 31)), good := 7 } }) w0
    let l : LaneId := .a
    let L := s.lane l
    let b := L.bob
    let z : Int := -(2 ^ 31)
    L.up .bob = true ∧ b.window = true ∧ b.st = bobInit ∧ -(2 ^ 31) ≤ z ∧ z < 2 ^ 31 ∧ b.ch[0].cur = some (z, (b.tk : Int), false) ∧ b.ch[0].zref = some z ∧
      7 ≤ b.ch[0].good ∧ b.ch[0].voted = false ∧ b.ch[1].cur = none ∧ b.ch[1].valid = false := by
  decide +kernel

theorem wit_EstimatorOutputs_2 :
    let s : State := wBob (fun b => { b with st := bobInit, p := -(2 ^ 47) }) w0
    let l : LaneId := .a
    let L := s.lane l
    let b := L.bob
    L.up .bob = true ∧ b.rst = false ∧ b.st ≠ bobOff ∧ b.updated = true ∧ b.v = 0 ∧ b.am = 0 ∧ -(2 ^ 47) ≤ b.p ∧ b.p < 2 ^ 47 := by
  decide +kernel

theorem wit_EstimatorOutputs_3 :
    let s : State := wBob (fun b => { b with pub := { vel := -(2 ^ 31), bound := 2 ^ 32 - 1, seq := 2 ^ 32 - 1, state := 7 } }) w0
    let l : LaneId := .a
    let wr : Writer := .eng 3
    let L := s.lane l
    let b := L.bob
    L.writerLive wr = true ∧ L.regGate (L.writerEng wr) A_BOB_POS = none ∧ -(2 ^ 31) ≤ b.pub.vel ∧ b.pub.vel < 2 ^ 31 ∧ b.pub.bound < 2 ^ 32 ∧
      b.pub.seq < 2 ^ 32 ∧ b.pub.state < 8 := by
  decide +kernel

theorem wit_EstimatorOutputs_4 :
    let s : State := wA [(F_BOB_CTRL_EN, 1)]
    let l : LaneId := .a
    let L := s.lane l
    L.up .bob = true ∧ L.b F_BOB_CTRL_EN = true := by
  decide +kernel

theorem wit_EstimatorOutputs_5 :
    let s : State := wA [(F_BOB_CTRL_EN, 1)]
    let l : LaneId := .a
    let wr : Writer := .eng 3
    let L := s.lane l
    s.Permits l wr A_BOB_CTRL (setBits (L.rwWord A_BOB_CTRL) 3 0 1) ∧ L.b F_BOB_CTRL_EN = true := by
  decide +kernel

theorem wit_EstimatorOutputs_6 :
    let s : State := w0
    let l : LaneId := .a
    let wr : Writer := .eng 3
    let L := s.lane l
    let en := true
    s.Permits l wr A_BOB_CTRL (setBits (L.rwWord A_BOB_CTRL) 31 31 (Bool.toNat en)) ∧ L.b F_BOB_CTRL_EN = !en := by
  decide +kernel

theorem wit_EstimatorOutputs_7 :
    let s : State := w0
    let l : LaneId := .a
    let L := s.lane l
    let b := L.bob
    L.up .bob = true ∧ b.window = false ∧ b.rst = false ∧ b.st = bobOff := by
  decide +kernel

theorem wit_LandingTableAndCaptures_0 :
    let s : State := w0
    let l : LaneId := .a
    let wr : Writer := .eng 3
    let L := s.lane l
    s.Permits l wr A_BOB_LTCTL (setBits (L.rwWord A_BOB_LTCTL) 31 28 1) ∧ L.b F_BOB_LTCTL_BUSY = false := by
  decide +kernel

theorem wit_LandingTableAndCaptures_1 :
    let s : State := wLt 0x9230 [(F_BOB_LTCTL_BUSY, 1)]
    let l : LaneId := .a
    let L := s.lane l
    L.up .bob = true ∧ L.bob.rst = false ∧ L.b F_BOB_LTCTL_BUSY = true ∧ ltScan (L.s F_BOB_LTCTL_BUSY 0) L.bob.ltChk 512 0 none none false = .inr true := by
  decide +kernel

theorem wit_LandingTableAndCaptures_2 :
    let s : State := wLt 0x9231 [(F_BOB_LTCTL_BUSY, 1)]
    let l : LaneId := .a
    let L := s.lane l
    let k := 511
    let e := 1
    L.up .bob = true ∧ L.bob.rst = false ∧ L.b F_BOB_LTCTL_BUSY = true ∧ k < 512 ∧ e < 8 ∧
      ltScan (L.s F_BOB_LTCTL_BUSY 0) L.bob.ltChk 512 0 none none false = .inl (k, e) := by
  decide +kernel

theorem wit_LandingTableAndCaptures_3 :
    let s : State := wBob (fun b => { b with pub := { vel := 1000 } }) (wSess [(F_BOB_LTCTL_BUFOK1, 1)])
    let l : LaneId := .a
    let wr : Writer := .eng 3
    let L := s.lane l
    let sel := true
    s.Permits l wr A_BOB_LTCTL (setBits (L.rwWord A_BOB_LTCTL) 24 24 (Bool.toNat sel)) ∧ L.b F_BOB_LTCTL_LTSEL = !sel ∧ L.b (F_BUFOK sel) = true ∧
      -1000 ≤ L.bob.pub.vel ∧ L.bob.pub.vel ≤ 1000 := by
  decide +kernel

theorem wit_LandingTableAndCaptures_4 :
    let s : State := wBob (fun b => { b with pub := { pos := 3001 } }) (wLt 0x9230 [(F_BOB_RELEV0_ARM, 1), (F_BOB_LTCTL_BUFOK0, 1), (F_BOB_RELEV0_TGT, 511), (F_BOB_RELEV1_ON, 3000)])
    let l : LaneId := .a
    let L := s.lane l
    let e := (0, 0, 0, 0x80000000#32)
    L.up .bob = true ∧ L.b F_BOB_RELEV0_ARM = true ∧ ltLive L = true ∧ ltEntry L L.bob.ltAct (L.f F_BOB_RELEV0_TGT) = some e ∧
      (L.f F_BOB_RELEV1_ON : Int) < max (L.bob.pub.pos - e.1) (e.1 - L.bob.pub.pos) := by
  decide +kernel

theorem wit_LandingTableAndCaptures_5 :
    let s : State := wBob (fun b => { b with caps := [{ ch := 0, rising := true, ts := false, fi := 1, te := 2, gte := 3, known := none }] }) w0
    let l : LaneId := .a
    let wr : Writer := .eng 3
    let L := s.lane l
    let c := ({ ch := 0, rising := true, ts := false, fi := 1, te := 2, gte := 3, known := none } : BobCap)
    let rest := []
    s.Permits l wr A_BOB_CAPPOP 1#32 ∧ L.bob.caps = c :: rest := by
  decide +kernel

theorem wit_SetPointsAndSequences_0 :
    let s : State := wDue (wA [(F_SPG_STAT_STATE, spgIdle)])
    let l : LaneId := .a
    let L := s.lane l
    let g := L.spg
    let small : Int → Prop := fun x => -(2 ^ 31) ≤ x ∧ x < 2 ^ 31
    L.up .spg = true ∧ (g.ticks ≠ 0 ∧ (instantIn L.fclk 20000 16800).isSome = true) ∧ L.spgSt = spgIdle ∧ small L.bob.pub.pos ∧ small L.bob.pub.vel := by
  decide +kernel

theorem wit_SetPointsAndSequences_1 :
    let s : State := wDue (wA [(F_SPG_STAT_STATE, spgStarting)])
    let l : LaneId := .a
    let L := s.lane l
    let g := L.spg
    let small : Int → Prop := fun x => -(2 ^ 31) ≤ x ∧ x < 2 ^ 31
    L.up .spg = true ∧ (g.ticks ≠ 0 ∧ (instantIn L.fclk 20000 16800).isSome = true) ∧ L.spgSt = spgStarting ∧ small g.hold := by
  decide +kernel

theorem wit_SetPointsAndSequences_2 :
    let s : State := wDue (wA [(F_SPG_STAT_STATE, spgStopping)])
    let l : LaneId := .a
    let L := s.lane l
    let g := L.spg
    let small : Int → Prop := fun x => -(2 ^ 31) ≤ x ∧ x < 2 ^ 31
    L.up .spg = true ∧ (g.ticks ≠ 0 ∧ (instantIn L.fclk 20000 16800).isSome = true) ∧ L.spgSt = spgStopping ∧ small g.stopX := by
  decide +kernel

theorem wit_SetPointsAndSequences_3 :
    let s : State := wSpg (fun g => { g with fifo := [⟨0, 0, 0, false⟩] }) (wDue (wA [(F_SPG_STAT_STATE, spgStream)]))
    let l : LaneId := .a
    let L := s.lane l
    let g := L.spg
    let small : Int → Prop := fun x => -(2 ^ 31) ≤ x ∧ x < 2 ^ 31
    let e := (⟨0, 0, 0, false⟩ : SpgEntry)
    let rest := []
    L.up .spg = true ∧ (g.ticks ≠ 0 ∧ (instantIn L.fclk 20000 16800).isSome = true) ∧ L.spgSt = spgStream ∧ g.fifo = e :: rest ∧ spgEntryOk L e = true ∧ e.last = false ∧ g.capReq = false ∧
      L.b F_SPG_STAT_CAPT = false ∧ small e.p ∧ small e.v ∧ small e.a := by
  decide +kernel

theorem wit_SetPointsAndSequences_4 :
    let s : State := wA [(F_SPG_STAT_STATE, spgProfile)]
    let l : LaneId := .a
    let L := s.lane l
    let g := L.spg
    L.up .spg = true ∧ L.spgSt = spgProfile ∧ g.hv = 0 ∧ g.ha = 0 ∧ g.hp = g.goalX * hpgP ∧ g.passed = false := by
  decide +kernel

theorem wit_SetPointsAndSequences_5 :
    let s : State := wSpg (fun g => { g with goalX := 1000, lims := (1000000, 1000000, 1000000), vset := 1000000 }) (wA [(F_SPG_STAT_STATE, spgProfile)])
    let l : LaneId := .a
    let L := s.lane l
    let g := L.spg
    L.up .spg = true ∧ L.spgSt = spgProfile ∧ g.hv = 0 ∧ g.ha = 0 ∧ g.hp ≠ g.goalX * hpgP ∧ g.passed = false := by
  decide +kernel

theorem wit_SetPointsAndSequences_6 :
    let s : State := wS (wSpg (fun g => { g with step := 2 }) (wA [(F_SPG_STAT_STATE, spgStarting), (F_SEB_STAT_PS0, psOn)])).laneA (wL [(F_SEB_STAT_PS0, psOn)])
    let l : LaneId := .a
    let L := s.lane l
    let g := L.spg
    L.up .spg = true ∧ L.spgSt = spgStarting ∧ g.step = 2 ∧ s.so0On = true := by
  decide +kernel

theorem wit_SetPointsAndSequences_7 :
    let s : State := wSpg (fun g => { g with step := 3 }) (wA [(F_SPG_STAT_STATE, spgStarting), (F_DRV_STAT_TQ_ON, 1)])
    let l : LaneId := .a
    let L := s.lane l
    let g := L.spg
    L.up .spg = true ∧ L.spgSt = spgStarting ∧ g.step = 3 ∧ L.b F_DRV_STAT_TQ_ON = true := by
  decide +kernel

theorem wit_SetPointsAndSequences_8 :
    let s : State := wSpg (fun g => { g with step := 4 }) (wA [(F_SPG_STAT_STATE, spgStarting)])
    let l : LaneId := .a
    let L := s.lane l
    let g := L.spg
    L.up .spg = true ∧ L.spgSt = spgStarting ∧ g.step = 4 ∧ g.ho.phase = 0 := by
  decide +kernel

theorem wit_SetPointsAndSequences_9 :
    let s : State := wSpg (fun g => { g with step := 4 }) (wA [(F_SPG_STAT_STATE, spgStopping)])
    let l : LaneId := .a
    let L := s.lane l
    let g := L.spg
    L.up .spg = true ∧ L.spgSt = spgStopping ∧ g.step = 4 ∧ s.brakeDropped l = true := by
  decide +kernel

theorem wit_SetPointsAndSequences_10 :
    let s : State := wSpg (fun g => { g with step := 6 }) (wA [(F_SPG_STAT_STATE, spgStopping)])
    let l : LaneId := .a
    let L := s.lane l
    let g := L.spg
    L.up .spg = true ∧ L.spgSt = spgStopping ∧ g.step = 6 ∧ g.ho.phase = 0 := by
  decide +kernel

theorem wit_SetPointsAndSequences_11 :
    let s : State := wSpg (fun g => { g with step := 5 }) (wA [(F_SPG_STAT_STATE, spgStarting)])
    let l : LaneId := .a
    let L := s.lane l
    let g := L.spg
    L.up .spg = true ∧ L.spgSt = spgStarting ∧ g.step = 5 := by
  decide +kernel

theorem wit_SetPointsAndSequences_12 :
    let s : State := wSpg (fun g => { g with step := 3 }) (wA [(F_SPG_STAT_STATE, spgStarting)])
    let l : LaneId := .a
    let L := s.lane l
    let g := L.spg
    L.up .spg = true ∧ L.spgSt = spgStarting ∧ g.step = 3 ∧ L.b F_DRV_STAT_TQ_ON = false := by
  decide +kernel

theorem wit_SetPointsAndSequences_13 :
    let s : State := wSpg (fun g => { g with step := 2 }) (wA [(F_SPG_STAT_STATE, spgStopping)])
    let l : LaneId := .a
    let L := s.lane l
    let g := L.spg
    L.up .spg = true ∧ L.spgSt = spgStopping ∧ g.step = 2 := by
  decide +kernel

theorem wit_SetPointsAndSequences_14 :
    let s : State := w0
    let l : LaneId := .a
    let L := s.lane l
    let g := L.spg
    L.up .spg = true ∧ ¬ (g.ticks ≠ 0 ∧ (instantIn L.fclk 20000 16800).isSome = true) := by
  decide +kernel

theorem wit_SetPointCommands_0 :
    let s : State := wA wMotion
    let l : LaneId := .a
    let wr : Writer := .eng 3
    let L := s.lane l
    let target := L.i F_SPG_TGT_TGT
    let may : Word → Prop := fun v => s.Permits l wr A_SPG_CMD v
    let src := true
    may (BitVec.ofNat 32 (0x10000000 + Bool.toNat src * 4)) ∧ L.spgSt = spgIdle ∧ L.f (F_TAT_SLOTSTAT_STATE 0) = slRun ∧ L.b F_DRV_STAT_LINK = true ∧
      L.b F_DRV_STAT_READY = true ∧ L.b F_DRV_STAT_FAULT = false ∧ L.f F_SEL_STAT_STATE = 0 ∧
      (L.f F_SPG_STOP_STOPTOL : Int) < max (target - L.bob.pub.pos) (L.bob.pub.pos - target) := by
  decide +kernel

theorem wit_SetPointCommands_1 :
    let s : State := wA wMotion
    let l : LaneId := .a
    let wr : Writer := .eng 3
    let L := s.lane l
    let target := L.i F_SPG_TGT_TGT
    let may : Word → Prop := fun v => s.Permits l wr A_SPG_CMD v
    may 0x20000000#32 ∧ L.spgSt = spgIdle ∧ L.f (F_TAT_SLOTSTAT_STATE 0) = slRun ∧ L.b F_DRV_STAT_LINK = true ∧
      L.b F_DRV_STAT_READY = true ∧ L.b F_DRV_STAT_FAULT = false ∧ L.f F_SEL_STAT_STATE = 0 ∧
      (L.f F_SPG_STOP_STOPTOL : Int) < max (target - L.bob.pub.pos) (L.bob.pub.pos - target) := by
  decide +kernel

theorem wit_SetPointCommands_2 :
    let s : State := wA [(F_SPG_STAT_STATE, spgStream)]
    let l : LaneId := .a
    let wr : Writer := .eng 3
    let L := s.lane l
    let may : Word → Prop := fun v => s.Permits l wr A_SPG_CMD v
    may 0x30000000#32 ∧ (L.spgSt = spgStream ∨ L.spgSt = spgProfile) ∧ L.f F_SEL_STAT_STATE = 0 := by
  decide +kernel

theorem wit_SetPointCommands_3 :
    let s : State := wA [(F_SPG_STAT_STATE, spgProfile), (F_TAT_SLOTSTAT_STATE 0, slRun)]
    let l : LaneId := .a
    let wr : Writer := .eng 3
    let L := s.lane l
    let may : Word → Prop := fun v => s.Permits l wr A_SPG_CMD v
    may 0x40000000#32 ∧ L.spgSt = spgProfile ∧ L.f (F_TAT_SLOTSTAT_STATE 0) = slRun := by
  decide +kernel

theorem wit_SetPointCommands_4 :
    let s : State := wA [(F_SPG_STAT_STATE, spgStream)]
    let l : LaneId := .a
    let wr : Writer := .eng 3
    let L := s.lane l
    let may : Word → Prop := fun v => s.Permits l wr A_SPG_CMD v
    may 0x50000000#32 ∧ (L.spgSt = spgStream ∨ L.spgSt = spgProfile) := by
  decide +kernel

theorem wit_SetPointCommands_5 :
    let s : State := wA wMotion
    let l : LaneId := .a
    let wr : Writer := .eng 3
    let L := s.lane l
    let g := L.spg
    let may : Word → Prop := fun v => s.Permits l wr A_SPG_CMD v
    let m : Slot := 7
    let keep : Bool := true
    may (BitVec.ofNat 32 (0x60000000 + m.val * 16 + keep.toNat * 8)) ∧ g.ho.phase = 0 ∧ L.f (F_TAT_SLOTSTAT_STATE 0) = slRun ∧
      m.val ≠ L.f F_SPG_STAT_MODE ∧ L.spgSt ≠ spgOff := by
  decide +kernel

theorem wit_SetPointCommands_6 :
    let s : State := wSpg (fun g => { g with fifo := List.replicate 63 ⟨0, 0, 0, false⟩ }) (wA [(F_SPG_STAT_STATE, spgStarting)])
    let l : LaneId := .a
    let wr : Writer := .eng 3
    let L := s.lane l
    let g := L.spg
    let last := true
    s.Permits l wr A_SPG_PUSHC (BitVec.ofNat 32 (Bool.toNat last)) ∧ (L.spgSt = spgStarting ∨ L.spgSt = spgStream) ∧ g.fifo.length < 64 := by
  decide +kernel

theorem wit_NotchAndDriveLink_0 :
    let s : State := wSpg (fun g => { g with pwHi := 111, pwLo := 100 }) (wA [(F_SPG_NCFG_EN, 1), (F_SPG_NCFG_TREN, 1), (F_SPG_NCFG_MU, 13107)])
    let l : LaneId := .a
    let L := s.lane l
    L.up .spg = true ∧ L.b F_SPG_NCFG_EN = true ∧ L.b F_SPG_NCFG_TREN = true ∧ L.spg.pwLo * 11 < L.spg.pwHi * 10 ∧ 52429 ≤ L.spg.c + L.f F_SPG_NCFG_MU ∧
      L.spg.c + L.f F_SPG_NCFG_MU ≤ 78643 := by
  decide +kernel

theorem wit_NotchAndDriveLink_1 :
    let s : State := wAt 9921 (wA [(F_DRV_CTRL_EN, 1)])
    let l : LaneId := .a
    let L := s.lane l
    let d := L.drv
    let off := 79
    L.up .drv = true ∧ L.b F_DRV_CTRL_EN = true ∧ instantIn L.fclk 10000 0 = some off ∧ d.tqReq = false ∧ L.lnk.tqcmp = false := by
  decide +kernel

theorem wit_NotchAndDriveLink_2 :
    let s : State := wAnd (wA [(F_DRV_CTRL_EN, 1)]) fun L => { L with drv := { L.drv with sync := true } }
    let l : LaneId := .a
    let L := s.lane l
    let d := L.drv
    let data : Bytes := 0x7E :: List.replicate 21 0 ++ [0x37, 0xD9]
    L.up .drv = true ∧ L.b F_DRV_CTRL_EN = true ∧ d.sync = true ∧ L.xOpen 19 = true ∧ data.length = 24 ∧ data[0]? = some 0x7E#8 ∧
      beNat (data.drop 22) = (crc16 ((data.drop 1).take 21)).toNat ∧ (listGet 0 data 1).toNat = d.seq := by
  decide +kernel

theorem wit_NotchAndDriveLink_3 :
    let s : State := wAnd (wA [(F_DRV_CTRL_EN, 1)]) fun L => { L with drv := { L.drv with closed := false, gotGood := false, gotAny := false, missed := 13 } }
    let l : LaneId := .a
    let L := s.lane l
    let d := L.drv
    L.up .drv = true ∧ L.b F_DRV_CTRL_EN = true ∧ d.closed = false ∧ d.gotGood = false ∧ d.gotAny = false ∧ d.missed < 14 := by
  decide +kernel

theorem wit_NotchAndDriveLink_4 :
    let s : State := wA [(F_DRV_CTRL_TQON, 1), (F_DRV_CTRL_SYNCW, 1), (F_DRV_CTRL_NLOST, 2)]
    let l : LaneId := .a
    let wr : Writer := .eng 3
    let L := s.lane l
    let en := true
    s.Permits l wr A_DRV_CTRL (setBits (L.rwWord A_DRV_CTRL) 31 31 (Bool.toNat en)) ∧ L.b F_DRV_CTRL_EN = !en := by
  decide +kernel

theorem wit_NotchAndDriveLink_5 :
    let s : State := wA [(F_SPG_NCFG_EN, 1), (F_PWR_STAT_STATE, pwrDoze), (F_SYS_DGCNT_ABORTS, 65534)]
    let l : LaneId := .a
    let L := s.lane l
    L.up .spg = true ∧ L.b F_SPG_NCFG_EN = true ∧ L.retains .tat = true ∧ L.f F_SYS_DGCNT_ABORTS < 65535 := by
  decide +kernel

theorem wit_NotchAndDriveLink_6 :
    let s : State := wA [(F_SPG_NCFG_EN, 1), (F_SPG_NCFG_SEC, 3)]
    let l : LaneId := .a
    let L := s.lane l
    L.up .spg = true ∧ L.b F_SPG_NCFG_EN = true ∧ L.retains .tat = false := by
  decide +kernel

theorem wit_SeparationGuard_0 :
    let s : State := wA [(F_SEL_STAT_STATE, selActive)]
    let l : LaneId := .a
    let L := s.lane l
    let due : Prop := (instantIn L.fclk 80000 0).isSome = true
    let st := L.f F_SEL_STAT_STATE
    L.up .sel = true ∧ due ∧ L.b F_SEL_CFG_EN = false ∧ st ≠ selOff := by
  decide +kernel

theorem wit_SeparationGuard_1 :
    let s : State := wA [(F_SEL_CFG_EN, 1)]
    let l : LaneId := .a
    let L := s.lane l
    let due : Prop := (instantIn L.fclk 80000 0).isSome = true
    let st := L.f F_SEL_STAT_STATE
    L.up .sel = true ∧ due ∧ L.b F_SEL_CFG_EN = true ∧ st = selOff := by
  decide +kernel

theorem wit_SeparationGuard_2 :
    let s : State := wBob (fun b => { b with pub := { pos := -(2 ^ 31) } }) (wA [(F_SEL_CFG_EN, 1), (F_SEL_STAT_STATE, selActive)])
    let l : LaneId := .a
    let L := s.lane l
    let due : Prop := (instantIn L.fclk 80000 0).isSome = true
    let st := L.f F_SEL_STAT_STATE
    L.up .sel = true ∧ due ∧ L.b F_SEL_CFG_EN = true ∧ st = selActive ∧ L.b F_BOB_STAT_POSV = false ∧ -(2 ^ 31) ≤ L.bob.pub.pos ∧ L.bob.pub.pos < 2 ^ 31 := by
  decide +kernel

theorem wit_SeparationGuard_3 :
    let s : State := wA [(F_SEL_STAT_STATE, selActive), (F_SEL_FREEHI_D, 10)]
    let l : LaneId := .a
    let wr : Writer := .eng 3
    let L := s.lane l
    let st := L.f F_SEL_STAT_STATE
    let tgt : Word := 10#32
    s.Permits l wr A_SEL_CLAIM tgt ∧ st = selActive ∧ L.i F_SEL_FREELO_D ≤ tgt.toInt ∧ tgt.toInt ≤ L.i F_SEL_FREEHI_D := by
  decide +kernel

theorem wit_SeparationGuard_4 :
    let s : State := wA [(F_SEL_STAT_STATE, selActive), (F_SEL_FREEHI_D, 10)]
    let l : LaneId := .a
    let wr : Writer := .eng 3
    let L := s.lane l
    let st := L.f F_SEL_STAT_STATE
    let tgt : Word := 11#32
    s.Permits l wr A_SEL_CLAIM tgt ∧ st = selActive ∧ (tgt.toInt < L.i F_SEL_FREELO_D ∨ L.i F_SEL_FREEHI_D < tgt.toInt) := by
  decide +kernel

theorem wit_SeparationGuard_5 :
    let s : State := w0
    let l : LaneId := .a
    let wr : Writer := .eng 3
    let L := s.lane l
    let st := L.f F_SEL_STAT_STATE
    let tgt : Word := 11#32
    s.Permits l wr A_SEL_CLAIM tgt ∧ st ≠ selActive := by
  decide +kernel

theorem wit_DoorSampling_0 :
    let s : State := wA [(F_DOR_STAT_STATE 0, dsClosed), (F_DOR_ISCALE_ISCALE 0, 65536), (F_DOR_ILIM_IOC 0, 10)]
    let l : LaneId := .a
    let d : Door := 0
    let L := s.lane l
    let st := L.dorSt d
    let iu : Int := 11
    let iv : Int := 0
    let cal : Fin 5 := ⟨d.val, by omega⟩
    let (gain, ofs) := match L.bg.calNext[cal] with
      | some x => x
      | none => (L.bg.cal[cal], L.bg.calOfs[d])
    let current : Int → Int := fun x => satS 32 (rnd (rdiv ((x - ofs) * (1000000 + gain)) 1000000 * L.f (F_DOR_ISCALE_ISCALE d.val)) 16)
    let u := current iu
    let v := current iv
    L.up .dor = true ∧ (instantIn L.fclk 4000 (L.f (F_DOR_CFG_CPH d.val))).isSome = true ∧ st ≠ dsOff ∧ st ≠ dsFault ∧
      (L.f (F_DOR_ILIM_IOC d.val) : Int) < max u (-u) ∧ v = 0 := by
  decide +kernel

theorem wit_DoorSampling_1 :
    let s : State := w0
    let l : LaneId := .a
    let d : Door := 0
    let L := s.lane l
    L.up .dor = true ∧ (instantIn L.fclk 2000 (L.f (F_DOR_CFG_CPH d.val) % 2000)).isSome = true ∧ L.door[d].loopDue = false ∧ L.xOpen (23 + d.val) = true ∧ destValue (2 + 2 * d.val) L = 0 ∧ destValue (3 + 2 * d.val) L = 0 := by
  decide +kernel

theorem wit_DoorSampling_2 :
    let s : State := wDoor (fun o => { o with sector := some 0 }) (wA [(F_DOR_HALLMAP_MAP 0, 1)])
    let l : LaneId := .a
    let d : Door := 0
    let L := s.lane l
    let o := L.door[d]
    let code : Slot := 1
    let s0 : Nat := 0
    let sect := bits (rget L.regs (A_DOR_HALLMAP d.val)) (3 * code.val + 2) (3 * code.val)
    L.up .dor = true ∧ 0 < code.val ∧ code.val < 7 ∧ o.sector = some s0 ∧ L.b (F_DOR_CFG_DIR d.val) = false ∧ (sect + 6 - s0) % 6 = 1 := by
  decide +kernel

theorem wit_DoorSampling_3 :
    let s : State := w0
    let l : LaneId := .a
    let L := s.lane l
    let code : Slot := 7
    L.up .dor = true ∧ (code = 0 ∨ code = 7) := by
  decide +kernel

theorem wit_DoorSampling_4 :
    let s : State := wDoor (fun o => { o with perm := true, cmd := some dcReference, nCap := 2 }) (wA [(F_DOR_STAT_STATE 0, dsUnref), (F_DOR_SCALE_SCALE 0, 1)])
    let l : LaneId := .a
    let d : Door := 0
    let L := s.lane l
    let o := L.door[d]
    let st := L.dorSt d
    L.up .dor = true ∧ (instantIn L.fclk 40000 0).isSome = true ∧ st = dsUnref ∧ o.perm = true ∧ L.f (F_DOR_SCALE_SCALE d.val) ≠ 0 ∧ o.cmd = some dcReference ∧
      o.nCap < 3 := by
  decide +kernel

theorem wit_DoorSampling_5 :
    let s : State := wAt 36000 (wA [(F_DOR_CTRL_EN 0, 1)])
    let l : LaneId := .a
    let d : Door := 0
    let L := s.lane l
    L.up .dor = true ∧ L.b (F_DOR_CTRL_EN d.val) = true ∧ (instantIn L.fclk 40000 36000).isSome = true := by
  decide +kernel

theorem wit_DoorSampling_6 :
    let s : State := wA [(F_DOR_STAT_STATE 0, dsReferencing)]
    let l : LaneId := .a
    let d : Door := 0
    let L := s.lane l
    let st := L.dorSt d
    L.up .dor = true ∧ st = dsReferencing := by
  decide +kernel

theorem wit_DoorSampling_7 :
    let s : State := wDoor (fun o => { o with lockWait := true, locks := false }) (wA [(F_DOR_STAT_STATE 0, dsClosed)])
    let l : LaneId := .a
    let d : Door := 0
    let L := s.lane l
    let o := L.door[d]
    let st := L.dorSt d
    L.up .dor = true ∧ st = dsClosed ∧ o.lockWait = true ∧ o.locks = false := by
  decide +kernel

theorem wit_DoorSampling_8 :
    let s : State := wDoor (fun o => { o with loopDue := true }) (wA [(F_DOR_STAT_STATE 0, dsOpening), (F_DOR_STAT_GATES 0, 1)])
    let l : LaneId := .a
    let d : Door := 0
    let L := s.lane l
    let st := L.dorSt d
    L.up .dor = true ∧ (instantIn L.fclk 2000 (L.f (F_DOR_CFG_CPH d.val) % 2000)).isSome = true ∧ L.door[d].loopDue = true ∧ st ≠ dsOff := by
  decide +kernel

theorem wit_DoorSampling_9 :
    let s : State := wAt 8000000 w0
    let l : LaneId := .a
    let d : Door := 0
    let L := s.lane l
    L.up .dor = true ∧ 8000000 ≤ L.fclk - L.door[d].edgeAt := by
  decide +kernel

theorem wit_DoorCommands_0 :
    let s : State := wDc dsStopped []
    let l : LaneId := .a
    let wr : Writer := .eng 3
    let d : Door := 0
    let L := s.lane l
    let st := L.dorSt d
    let perm := L.door[d].perm
    let may : Word → Prop := fun v => s.Permits l wr (A_DOR_CMD d.val) v
    may 0x10000000#32 ∧ perm = true ∧ (st = dsClosed ∨ st = dsClosing ∨ st = dsStopped) := by
  decide +kernel

theorem wit_DoorCommands_1 :
    let s : State := wDc dsOpened []
    let l : LaneId := .a
    let wr : Writer := .eng 3
    let d : Door := 0
    let L := s.lane l
    let st := L.dorSt d
    let perm := L.door[d].perm
    let may : Word → Prop := fun v => s.Permits l wr (A_DOR_CMD d.val) v
    may 0x20000000#32 ∧ perm = true ∧ L.door[d].lc = false ∧ (st = dsOpened ∨ st = dsOpening ∨ st = dsStopped) := by
  decide +kernel

theorem wit_DoorCommands_2 :
    let s : State := wDc dsClosing []
    let l : LaneId := .a
    let wr : Writer := .eng 3
    let d : Door := 0
    let L := s.lane l
    let st := L.dorSt d
    let perm := L.door[d].perm
    let may : Word → Prop := fun v => s.Permits l wr (A_DOR_CMD d.val) v
    may 0x30000000#32 ∧ perm = true ∧ (st = dsOpened ∨ st = dsOpening ∨ st = dsStopped ∨ (st = dsClosing ∧ L.f (F_DOR_STAT_MOVE d.val) ≠ dmNudge)) := by
  decide +kernel

theorem wit_DoorCommands_3 :
    let s : State := wAnd (wDc dsClosed [(F_BOB_DZ_CERT0, 1), (F_BOB_DZ_NEAR0_V, 1)]) fun L => { L with tsram := [(0x2100B, 0x10#8)] }
    let l : LaneId := .a
    let wr : Writer := .eng 3
    let d : Door := 0
    let L := s.lane l
    let st := L.dorSt d
    let may : Word → Prop := fun v => s.Permits l wr (A_DOR_CMD d.val) v
    may 0x40000000#32 ∧ st = dsClosed ∧ preopenOk d L = true := by
  decide +kernel

theorem wit_DoorCommands_4 :
    let s : State := wA [(F_DOR_STAT_STATE 0, dsLearning)]
    let l : LaneId := .a
    let wr : Writer := .eng 3
    let d : Door := 0
    let L := s.lane l
    let st := L.dorSt d
    let may : Word → Prop := fun v => s.Permits l wr (A_DOR_CMD d.val) v
    may 0x50000000#32 ∧ (st = dsOpening ∨ st = dsClosing ∨ st = dsReversing ∨ st = dsReferencing ∨ st = dsLearning) := by
  decide +kernel

theorem wit_DoorCommands_5 :
    let s : State := wDc dsClosed [(F_DOR_SCALE_SCALE 0, 1)]
    let l : LaneId := .a
    let wr : Writer := .eng 3
    let d : Door := 0
    let L := s.lane l
    let st := L.dorSt d
    let perm := L.door[d].perm
    let may : Word → Prop := fun v => s.Permits l wr (A_DOR_CMD d.val) v
    may 0x60000000#32 ∧ perm = true ∧ L.f (F_DOR_SCALE_SCALE d.val) ≠ 0 ∧ (st = dsUnref ∨ st = dsStopped ∨ st = dsOpened ∨ st = dsClosed) := by
  decide +kernel

theorem wit_DoorCommands_6 :
    let s : State := wDc dsClosed [(F_DOR_STAT_REFD 0, 1)]
    let l : LaneId := .a
    let wr : Writer := .eng 3
    let d : Door := 0
    let L := s.lane l
    let st := L.dorSt d
    let perm := L.door[d].perm
    let may : Word → Prop := fun v => s.Permits l wr (A_DOR_CMD d.val) v
    may 0x70000000#32 ∧ perm = true ∧ st = dsClosed ∧ L.b (F_DOR_STAT_REFD d.val) = true := by
  decide +kernel

theorem wit_DoorCommands_7 :
    let s : State := wA [(F_DOR_STAT_STATE 0, dsFault), (F_DOR_STAT_FCAUSE 0, fcRefTmo)]
    let l : LaneId := .a
    let wr : Writer := .eng 3
    let d : Door := 0
    let L := s.lane l
    let st := L.dorSt d
    let may : Word → Prop := fun v => s.Permits l wr (A_DOR_CMD d.val) v
    may 0x80000000#32 ∧ st = dsFault ∧ (L.f (F_DOR_STAT_FCAUSE d.val) = fcCap ∨ L.f (F_DOR_STAT_FCAUSE d.val) = fcRefTmo) := by
  decide +kernel

theorem wit_DoorCommands_8 :
    let s : State := wA [(F_DOR_STAT_STATE 0, dsClosed), (F_DOR_CTRL_EN 0, 1)]
    let l : LaneId := .a
    let wr : Writer := .eng 3
    let d : Door := 0
    let L := s.lane l
    let st := L.dorSt d
    let en := true
    let fsel := true
    s.Permits l wr (A_DOR_CTRL d.val) (setBits (setBits (L.rwWord (A_DOR_CTRL d.val)) 31 31 (Bool.toNat en)) 30 30 (Bool.toNat fsel)) ∧
      L.b (F_DOR_CTRL_EN d.val) = en ∧ (st = dsOff ↔ en = false) ∧ (st = dsOff ∨ st = dsUnref ∨ st = dsClosed) := by
  decide +kernel

theorem wit_DoorCommands_9 :
    let s : State := w0
    let l : LaneId := .a
    let wr : Writer := .eng 3
    let d : Door := 0
    let L := s.lane l
    let v := 0x00000108#32
    s.Permits l wr (A_DOR_CFG d.val) v ∧ L.b (F_DOR_STAT_GATES d.val) = false := by
  decide +kernel

theorem wit_DoorCommands_10 :
    let s : State := wA [(F_DOR_CAPS_FCAP 0, 10), (F_DOR_CAPS_KECAP 0, 10), (F_DOR_MCAPS_FCAPM 0, 10), (F_DOR_MCAPS_KECAPM 0, 10), (F_DOR_OBS_FOBS 0, 5)]
    let l : LaneId := .a
    let wr : Writer := .eng 3
    let d : Door := 0
    let L := s.lane l
    let v := 10#32
    let e := bits v (F_DOR_NUDGE_KENUDGE d.val).hi (F_DOR_NUDGE_KENUDGE d.val).lo
    s.Permits l wr (A_DOR_NUDGE d.val) v ∧ dorCapsOk d L = true ∧ e ≤ L.f (F_DOR_CAPS_KECAP d.val) := by
  decide +kernel

theorem wit_DoorCommands_11 :
    let s : State := wA [(F_DOR_CAPS_FCAP 0, 10), (F_DOR_CAPS_KECAP 0, 10), (F_DOR_MCAPS_FCAPM 0, 10), (F_DOR_MCAPS_KECAPM 0, 10), (F_DOR_OBS_FOBS 0, 5)]
    let l : LaneId := .a
    let wr : Writer := .eng 3
    let d : Door := 0
    let L := s.lane l
    let v := 11#32
    let e := bits v (F_DOR_NUDGE_KENUDGE d.val).hi (F_DOR_NUDGE_KENUDGE d.val).lo
    s.Permits l wr (A_DOR_NUDGE d.val) v ∧ dorCapsOk d L = true ∧ L.f (F_DOR_CAPS_KECAP d.val) < e := by
  decide +kernel

theorem wit_DoorCommands_12 :
    let s : State := wA [(F_DOR_CAPS_FCAP 0, 10), (F_DOR_CAPS_KECAP 0, 10), (F_DOR_MCAPS_FCAPM 0, 20), (F_DOR_MCAPS_KECAPM 0, 20), (F_DOR_OBS_FOBS 0, 5), (F_DOR_NUDGE_KENUDGE 0, 7)]
    let l : LaneId := .a
    let wr : Writer := .eng 3
    let d : Door := 0
    let L := s.lane l
    let v := 0x00140007#32
    let force := bits v 31 16
    let energy := bits v 15 0
    s.Permits l wr (A_DOR_CAPS d.val) v ∧ (force ≤ L.f (F_DOR_MCAPS_FCAPM d.val) ∧ energy ≤ L.f (F_DOR_MCAPS_KECAPM d.val) ∧ L.f (F_DOR_NUDGE_KENUDGE d.val) ≤ energy ∧
      L.f (F_DOR_OBS_FOBS d.val) < force) := by
  decide +kernel

theorem wit_DoorCommands_13 :
    let s : State := wA [(F_DOR_CAPS_FCAP 0, 10), (F_DOR_CAPS_KECAP 0, 10), (F_DOR_MCAPS_FCAPM 0, 20), (F_DOR_MCAPS_KECAPM 0, 20), (F_DOR_OBS_FOBS 0, 5), (F_DOR_NUDGE_KENUDGE 0, 7)]
    let l : LaneId := .a
    let wr : Writer := .eng 3
    let d : Door := 0
    let L := s.lane l
    let v := 0x00150007#32
    let force := bits v 31 16
    let energy := bits v 15 0
    s.Permits l wr (A_DOR_CAPS d.val) v ∧ ¬ (force ≤ L.f (F_DOR_MCAPS_FCAPM d.val) ∧ energy ≤ L.f (F_DOR_MCAPS_KECAPM d.val) ∧ L.f (F_DOR_NUDGE_KENUDGE d.val) ≤ energy ∧
      L.f (F_DOR_OBS_FOBS d.val) < force) := by
  decide +kernel

theorem wit_DoorCommands_14 :
    let s : State := wA [(F_DOR_CAPS_FCAP 0, 10), (F_DOR_CAPS_KECAP 0, 10), (F_DOR_MCAPS_FCAPM 0, 20), (F_DOR_MCAPS_KECAPM 0, 20), (F_DOR_OBS_FOBS 0, 5), (F_DOR_NUDGE_KENUDGE 0, 7)]
    let l : LaneId := .a
    let wr : Writer := .eng 3
    let d : Door := 0
    let L := s.lane l
    let v := 0x000A000A#32
    let force := bits v 31 16
    let energy := bits v 15 0
    s.Permits l wr (A_DOR_MCAPS d.val) v ∧ (L.f (F_DOR_CAPS_FCAP d.val) ≤ force ∧ L.f (F_DOR_CAPS_KECAP d.val) ≤ energy) := by
  decide +kernel

theorem wit_DoorCommands_15 :
    let s : State := wA [(F_DOR_CAPS_FCAP 0, 10), (F_DOR_CAPS_KECAP 0, 10), (F_DOR_MCAPS_FCAPM 0, 20), (F_DOR_MCAPS_KECAPM 0, 20), (F_DOR_OBS_FOBS 0, 5), (F_DOR_NUDGE_KENUDGE 0, 7)]
    let l : LaneId := .a
    let wr : Writer := .eng 3
    let d : Door := 0
    let L := s.lane l
    let v := 0x00090014#32
    let force := bits v 31 16
    let energy := bits v 15 0
    s.Permits l wr (A_DOR_MCAPS d.val) v ∧ ¬ (L.f (F_DOR_CAPS_FCAP d.val) ≤ force ∧ L.f (F_DOR_CAPS_KECAP d.val) ≤ energy) := by
  decide +kernel

theorem wit_StopListAndSubmissions_0 :
    let s : State := wTs [(0x20000, 0x105)] w0
    let l : LaneId := .a
    let wr : Writer := .eng 3
    let L := s.lane l
    let n : Byte := 1
    s.Permits l wr A_PRK_SLPUB (BitVec.ofNat 32 n.toNat) ∧ (∀ i, i < min 128 n.toNat → slOk (slWord L i 0) (slWord L i 1) = true) := by
  decide +kernel

theorem wit_StopListAndSubmissions_1 :
    let s : State := w0
    let l : LaneId := .a
    let wr : Writer := .eng 3
    let L := s.lane l
    let n : Byte := 1
    s.Permits l wr A_PRK_SLPUB (BitVec.ofNat 32 n.toNat) ∧ (∃ i, i < min 128 n.toNat ∧ slOk (slWord L i 0) (slWord L i 1) = false) := by
  decide +kernel

theorem wit_StopListAndSubmissions_2 :
    let s : State := wHold
    let l : LaneId := .a
    let L := s.lane l
    let p := L.prk
    let free : Nat → Prop := fun off => L.holder = true ∨ L.replicated (tsBase + off) = false
    L.up .prk = true ∧ free 0x20000 ∧ p.waiting = [] ∧ L.f F_PRK_SLPUB_COUNT = 0 := by
  decide +kernel

theorem wit_StopListAndSubmissions_3 :
    let s : State := wTs [(0x20000, 0x105)] (wA [(F_PRK_SLPUB_COUNT, 1)])
    let l : LaneId := .a
    let L := s.lane l
    let p := L.prk
    L.up .prk = true ∧ p.waiting = [] ∧ L.f F_PRK_SLPUB_COUNT = 1 ∧ (slWord L 0 0).getLsbD 16 = false ∧ (slWord L 0 0).getLsbD 13 = false := by
  decide +kernel

theorem wit_StopListAndSubmissions_4 :
    let s : State := wA [(F_PRK_STAT_ROLE, 2), (⟨A_PRK_SUB 1, 31, 0⟩, 0x00010000)]
    let l : LaneId := .a
    let wr : Writer := .eng 3
    let L := s.lane l
    let p := L.prk
    let sub := (List.range 4).map fun k => rget L.regs (A_PRK_SUB k)
    let c := subCall sub
    s.Permits l wr A_PRK_SUBPUSH 1#32 ∧ p.subs.length < 16 ∧ (c.cls = 3 → p.hold.length < 16) ∧ L.f F_PRK_STAT_ROLE = 2 ∧ c.type ≠ 3 ∧
      (c.type = 2 → c.dest ≠ c.origin) ∧ c.pax ≠ 0 := by
  decide +kernel

theorem wit_StopListAndSubmissions_5 :
    let s : State := wPrk [] (fun p => { p with answers := [[1, 2, 3, 4]] })
    let l : LaneId := .a
    let wr : Writer := .eng 3
    let L := s.lane l
    let p := L.prk
    let a := [1, 2, 3, 4]
    let rest := []
    s.Permits l wr A_PRK_ANSPOP 1#32 ∧ p.answers = a :: rest := by
  decide +kernel

theorem wit_StopListAndSubmissions_6 :
    let s : State := wTs ((List.range 128).map fun i => (0x20000 + 32 * i, 0x105)) w0
    let l : LaneId := .a
    let wr : Writer := .eng 3
    let L := s.lane l
    let n : Byte := 255
    s.Permits l wr A_PRK_SLPUB (BitVec.ofNat 32 n.toNat) ∧ (∀ i, i < min 128 n.toNat → slOk (slWord L i 0) (slWord L i 1) = true) := by
  decide +kernel

theorem wit_DispatchWork_0 :
    let s : State := wPrk [(F_PRK_MODE_MODE, 4)] (fun p => { p with subs := [[0, 0x10000, 0, 0]] })
    let l : LaneId := .a
    let L := s.lane l
    let p := L.prk
    let master := L.up .prk = true ∧ L.b F_PRK_CTRL_EN = true ∧ L.f F_PRK_STAT_ROLE = 2
    let sub := [0, 0x10000, 0, 0]
    master ∧ ctLive L = [] ∧ p.subs = [sub] ∧ p.hold = [] ∧ p.forced = [] ∧ p.cache = [] ∧ p.answers = [] ∧ (subCall sub).cls < 3 ∧
      L.f F_PRK_MODE_MODE = 4 := by
  decide +kernel

theorem wit_DispatchWork_1 :
    let s : State := wPrk [] id
    let l : LaneId := .a
    let L := s.lane l
    let g : GroupPos := 0
    L.up .prk = true ∧ viewStale L (carView L g.val) = true := by
  decide +kernel

theorem wit_DispatchWork_2 :
    let s : State := wTs [(0, 1)] (wPrk [] fun p => { p with sseq := p.sseq.set 0 (some 0) })
    let l : LaneId := .a
    let L := s.lane l
    let p := L.prk
    let master := L.up .prk = true ∧ L.b F_PRK_CTRL_EN = true ∧ L.f F_PRK_STAT_ROLE = 2
    let g : GroupPos := 0
    let e : Nat := 0
    master ∧ e ∈ ctLive L ∧ (ctState L e = csAssigned ∨ ctState L e = csDelayed) ∧ ctCar L e = g.val ∧ (carView L g.val).inserv = false ∧
      p.sseq[g] = some (carView L g.val).sseq ∧ committed L (ctCall L e) g.val (bits (ctWord L e 0) 13 13) = false := by
  decide +kernel

theorem wit_DispatchWork_3 :
    let s : State := wPrk [(F_PRK_SWEEP_SWEN, 1)] id
    let l : LaneId := .a
    let L := s.lane l
    let master := L.up .prk = true ∧ L.b F_PRK_CTRL_EN = true ∧ L.f F_PRK_STAT_ROLE = 2
    master ∧ L.b F_PRK_SWEEP_SWEN = true := by
  decide +kernel

theorem wit_DispatchWork_4 :
    let s : State := wPrk [] id
    let l : LaneId := .a
    let wr : Writer := .eng 3
    let v := 5#32
    s.Permits l wr A_PRK_MODE v ∧ bits v 2 0 < 6 := by
  decide +kernel

theorem wit_DispatchWork_10 :
    let s : State := wTs [(0, 1)] (wPrk [(F_LNK_STAT_STATE, 1), (F_LNK_STAT_HOLDER, 1), (F_PRK_MODE_MODE, 4)] id)
    let l : LaneId := .a
    let L := s.lane l
    let p := L.prk
    let free : Nat → Prop := fun off => L.holder = true ∨ L.replicated (tsBase + off) = false
    let master := L.up .prk = true ∧ L.b F_PRK_CTRL_EN = true ∧ L.f F_PRK_STAT_ROLE = 2
    let e := 0
    (∀ o, o < 0x20000 → free o) ∧ (master ∧ p.answers.length < 32 ∧ p.hold = [] ∧ p.forced = [] ∧ p.subs = [] ∧ ctLive L = [e] ∧
      (ctState L e = csAssigned ∨ ctState L e = csDelayed) ∧ 4 ≤ L.f F_PRK_MODE_MODE ∧ L.f F_PRK_MODE_MODE ≠ p.mode ∧
      modeTakes (L.f F_PRK_MODE_MODE) (bits (ctWord L e 0) 4 3) = false ∧
      committed (prkLatch L) (ctCall L e) (ctCar L e) (bits (ctWord L e 0) 13 13) = false) :=
  ⟨fun _ _ => .inl (by decide +kernel), by decide +kernel⟩

theorem wit_DispatchWork_5 :
    let s : State := wTs [(0, 1)] (wPrk [(F_PIC_STAT_SV, 1)] fun p => { p with changed := [(0, true)] })
    let l : LaneId := .a
    let L := s.lane l
    let p := L.prk
    L.up .prk = true ∧ L.up .pic = true ∧ L.f F_PRK_STAT_ROLE = 2 ∧ L.b F_PIC_STAT_SV = true ∧ L.pic.dup = false ∧ p.fullAt = none := by
  decide +kernel

theorem wit_DispatchWork_6 :
    let s : State := wPrk [(F_PRK_STAT_ROLE, 1), (F_LNK_STAT_HOLDER, 1), (F_LNK_STAT_STATE, 1)] id
    let l : LaneId := .a
    let L := s.lane l
    let p := L.prk
    let m : MirrorSet := { mseq := 1, time := 7, whole := true, full := false, entries := [(5, [1#32, 2#32, 3#32, 4#32, 5#32, 6#32, 7#32, 8#32])], hold := [], mode := 3, locked := [], bypass := 0x11#32 }
    let e : Nat := 5
    let ws : List Word := [1#32, 2#32, 3#32, 4#32, 5#32, 6#32, 7#32, 8#32]
    L.up .prk = true ∧ L.f F_PRK_STAT_ROLE = 1 ∧ m.whole = true ∧ (p.mirSync = true → m.mseq = (L.f F_PRK_MIRROR_MSEQ + 1) % 65536) ∧
      m.mseq < 65536 ∧ m.mode < 8 ∧ m.entries = [(e, ws)] ∧ e < 4096 ∧ ws.length = 8 ∧ (L.holder = true ∨ L.replicated (tsBase + 32 * e) = false) := by
  decide +kernel

theorem wit_DispatchWork_7 :
    let s : State := wPrk [] id
    let l : LaneId := .a
    let L := s.lane l
    L.up .prk = true ∧ L.up .pic = true ∧ L.b F_PIC_STAT_SV = false := by
  decide +kernel

theorem wit_DispatchWork_8 :
    let s : State := wTs [(0x3C000, 100000), (0x3C008, 0x40000)] (wPrk [(F_LNK_STAT_STATE, 1), (F_LNK_STAT_HOLDER, 1), (F_PRK_LANDC_CARMASK 0, 1), (F_PRK_LOAD_BYPASS, 100), (F_PRK_LANDX_CLASSOK 0, 15)] fun p => { p with subs := [[5, 0x10000, 0, 0]] })
    let l : LaneId := .a
    let L := s.lane l
    let p := L.prk
    let free : Nat → Prop := fun off => L.holder = true ∨ L.replicated (tsBase + off) = false
    let master := L.up .prk = true ∧ L.b F_PRK_CTRL_EN = true ∧ L.f F_PRK_STAT_ROLE = 2
    let sub := [5, 0x10000, 0, 0]
    let c := subCall sub
    let K := prkLatch L
    let found := evaluate K (carsFor K c) c none
    (∀ o, o < 0x20000 → free o) ∧ (master ∧ ctLive L = [] ∧ p.subs = [sub] ∧ p.hold = [] ∧ p.forced = [] ∧ p.cache = [] ∧ p.answers = [] ∧ c.cls < 3 ∧ c.reann = false ∧
      modeTakes (L.f F_PRK_MODE_MODE) c.cls = true ∧ L.f F_PRK_DISP_EMRSV ≤ 255 ∧
      (∀ x, x ∈ [c.origin, callDest c] → getBit L.regs (F_PRK_LANDX_CLASSOK x) c.cls = true ∧ L.b (F_PRK_LANDX_LOCKED x) = false) ∧ carsFor K c ≠ 0 ∧ found ≠ []) :=
  ⟨fun _ _ => .inl (by decide +kernel), by decide +kernel⟩

theorem wit_DispatchWork_9 :
    let s : State := wTs [(0x3C000, 100000), (0x3C008, 0x840000), (0x3C010, 0x101)] (wPrk [(F_LNK_STAT_STATE, 1), (F_LNK_STAT_HOLDER, 1), (F_PRK_LANDC_CARMASK 0, 1), (F_PRK_LOAD_BYPASS, 100), (F_PRK_LANDX_CLASSOK 0, 15)] fun p => { p with subs := [[5, 0x10000, 0, 0]] })
    let l : LaneId := .a
    let L := s.lane l
    let p := L.prk
    let free : Nat → Prop := fun off => L.holder = true ∨ L.replicated (tsBase + off) = false
    let master := L.up .prk = true ∧ L.b F_PRK_CTRL_EN = true ∧ L.f F_PRK_STAT_ROLE = 2
    let sub := [5, 0x10000, 0, 0]
    let c := subCall sub
    let K := prkLatch L
    let found := evaluate K (carsFor K c) c none
    (∀ o, o < 0x20000 → free o) ∧ (master ∧ ctLive L = [] ∧ p.subs = [sub] ∧ p.hold = [] ∧ p.forced = [] ∧ p.cache = [] ∧ p.answers = [] ∧ c.cls < 3 ∧ c.reann = false ∧
      modeTakes (L.f F_PRK_MODE_MODE) c.cls = true ∧ L.f F_PRK_DISP_EMRSV ≤ 255 ∧
      (∀ x, x ∈ [c.origin, callDest c] → getBit L.regs (F_PRK_LANDX_CLASSOK x) c.cls = true ∧ L.b (F_PRK_LANDX_LOCKED x) = false) ∧ carsFor K c ≠ 0 ∧ found = []) :=
  ⟨fun _ _ => .inl (by decide +kernel), by decide +kernel⟩

theorem wit_SebCyclesAndTimeouts_0 :
    let s : State := wAt 18000 (wSeb [] id)
    let l : LaneId := .a
    (s.lane l).sebUp = true ∧ (instantIn (s.lane l).fclk 20000 18000).isSome = true := by
  decide +kernel

theorem wit_SebCyclesAndTimeouts_1 :
    let s : State := wSeb [] id
    let l : LaneId := .a
    let L := s.lane l
    L.sebUp = true := by
  decide +kernel

theorem wit_SebCyclesAndTimeouts_2 :
    let s : State := wSeb wCfg fun b => { b with filt := b.filt.set 0 true }
    let l : LaneId := .a
    let L := s.lane l
    let b := L.seb
    let g : SafetyGroup := 0
    L.sebUp = true ∧ L.groupMapped g = true ∧ b.disc[g] = false ∧ b.filt[groupA g] ≠ b.filt[groupB g] := by
  decide +kernel

theorem wit_SebCyclesAndTimeouts_3 :
    let s : State := wSeb [(F_SEB_STAT_MODE, 1)] fun b => { b with acted := (b.acted.set 15 true).set 16 true, thAge := #v[9, 5, 5] }
    let l : LaneId := .a
    let L := s.lane l
    let k : Fin 3 := 1
    L.sebUp = true ∧ L.thTimed k = true ∧ ∀ j : Fin 3, L.thTimed j = true → L.seb.thAge[j] ≤ L.seb.thAge[k] := by
  decide +kernel

theorem wit_SebCyclesAndTimeouts_4 :
    let s : State := wSeb [(F_SEL_CFG_EN, 1)] id
    let l : LaneId := .a
    let L := s.lane l
    L.sebUp = true ∧ L.b F_SEL_CFG_EN = true := by
  decide +kernel

theorem wit_SebCyclesAndTimeouts_5 :
    let s : State := wSeb [] id
    let l : LaneId := .a
    let L := s.lane l
    let b := L.seb
    L.sebUp = true ∧ b.pwMiss = 0 := by
  decide +kernel

theorem wit_SebCyclesAndTimeouts_6 :
    let s : State := wSeb [] fun b => { b with reqWait := true }
    let l : LaneId := .a
    let L := s.lane l
    let b := L.seb
    L.sebUp = true ∧ b.reqWait = true := by
  decide +kernel

theorem wit_SebCyclesAndTimeouts_7 :
    let s : State := wSeb [(F_SEB_STAT_PS0, psPullin), (F_SEB_OUTCFG_STO0, 1), (F_DRV_STAT_LINK, 1)] id
    let l : LaneId := .a
    let L := s.lane l
    let p : Pair := 0
    L.sebUp = true ∧ L.ps p = psPullin ∧ L.feedback p = some true := by
  decide +kernel

theorem wit_SebCyclesAndTimeouts_8 :
    let s : State := wSeb [(F_SEB_OUTCFG_STO0, 1), (F_DRV_STAT_STO_A, 1)] id
    let l : LaneId := .a
    let L := s.lane l
    L.sebUp = true ∧ L.b F_SEB_OUTCFG_STO0 = true ∧ L.b F_DRV_STAT_STO_A ≠ L.b F_DRV_STAT_STO_B := by
  decide +kernel

theorem wit_SebInputsAndResets_0 :
    let s : State := let x := wSeb [] id; { x with laneB := { x.laneB with lnk := { x.laneB.lnk with partnerOut := some { seq := 4, dem := #v[false, true], permit := #v[true, false], latch := 0, selrep := false, cfgid := 0, reset := false } } } }
    let l : LaneId := .a
    let L := s.lane l
    let O := s.lane l.other
    let m := { seq := 4, dem := #v[false, true], permit := #v[true, false], latch := 0, selrep := false, cfgid := 0, reset := false }
    L.sebUp = true ∧ O.lnk.partnerOut = some m := by
  decide +kernel

theorem wit_SebInputsAndResets_1 :
    let s : State := let x := wSeb [] id; { x with laneB := { x.laneB with lnk := { x.laneB.lnk with sebreqOut := some (true, false) } } }
    let l : LaneId := .a
    let L := s.lane l
    let O := s.lane l.other
    let r := (true, false)
    L.sebUp = true ∧ O.lnk.sebreqOut = some r ∧ L.holder = false := by
  decide +kernel

theorem wit_SebInputsAndResets_2 :
    let s : State := let x := wHold; wAnd x fun L => { L with seb := { L.seb with up := true } }
    let l : LaneId := .a
    let wr : Writer := .eng 3
    let L := s.lane l
    let v := 2#32
    s.Permits l wr A_SEB_REQ v ∧ L.holder = true := by
  decide +kernel

theorem wit_SebInputsAndResets_3 :
    let s : State := wSeb [] id
    let l : LaneId := .a
    let L := s.lane l
    s.fdUp = true ∧ L.spine = true ∧ (instantIn L.fclk 1600 0).isSome = true := by
  decide +kernel

theorem wit_SebInputsAndResets_4 :
    let s : State := wSeb [] fun b => { b with latDue := [(4#32, 5#32), (6#32, 5#32)], latUsed := 127 }
    let l : LaneId := .a
    let L := s.lane l
    let b := L.seb
    let x := (4#32, 5#32)
    let rest := [(6#32, 5#32)]
    L.sebUp = true ∧ b.latDue = x :: rest ∧ b.latUsed < 128 := by
  decide +kernel

theorem wit_SebInputsAndResets_5 :
    let s : State := wSeb [] fun b => { b with latErase := true }
    let l : LaneId := .a
    let L := s.lane l
    let b := L.seb
    L.sebUp = true ∧ b.latErase = true ∧ b.latDue = [] := by
  decide +kernel

theorem wit_SebInputsAndResets_6 :
    let s : State := wSeb [] id
    let l : LaneId := .a
    let L := s.lane l
    let ms := 100
    L.sebUp = true ∧ 100 ≤ ms ∧ ms ≤ 5000 := by
  decide +kernel

theorem wit_SebInputsAndResets_7 :
    let s : State := wSeb [] id
    let l : LaneId := .a
    let L := s.lane l
    let ms := 5001
    L.sebUp = true ∧ 5000 < ms := by
  decide +kernel

theorem wit_SebInputsAndResets_8 :
    let s : State := wSeb [] id
    let l : LaneId := .a
    let wr : Writer := .eng 3
    let L := s.lane l
    s.Permits l wr A_SEB_CMD 4#32 ∧ L.sebUp = true := by
  decide +kernel

theorem wit_SebInputsAndResets_9 :
    let s : State := w0
    let l : LaneId := .a
    let L := s.lane l
    let b := L.seb
    L.spine = true ∧ b.up = false := by
  decide +kernel

theorem wit_SebInputsAndResets_10 :
    let s : State := { wFd [(F_FIO_STAT_FORCED, 1)] (fun d => { d with fCut := true, goodAt := some 0 }) (wSeb [] id) with time := 100000 }
    let l : LaneId := .a
    let L := s.lane l
    let ms := 5000
    L.sebUp = true ∧ 100 ≤ ms ∧ ms ≤ 5000 ∧ s.fd.forced = true ∧ s.fd.fCut = true ∧ s.vfldGood = true := by
  decide +kernel

theorem wit_SebInputsAndResets_11 :
    let s : State := wFd [(F_FIO_VFLD_VFLD, 2400)] id (wSeb [] id)
    let l : LaneId := .a
    let L := s.lane l
    let pads : PadVolts := (some 18000) :: List.replicate 15 none
    s.fdUp = true ∧ L.spine = true ∧ (instantIn L.fclk 1600 0).isSome = true ∧ pads[(0 : Source).val]? = some (some 18000) ∧ pads[(1 : Source).val]? = some none ∧
      (wOut (exec (.stateFrame l pads 0) s)).fd.on[(0 : Source)] = s.fd.on[(0 : Source)] := by
  decide +kernel

theorem wit_SafetyConfigurationSession_0 :
    let s : State := wSeb [] id
    let l : LaneId := .a
    let e : Eng := 3
    let L := s.lane l
    let b := L.seb
    let wr := Writer.eng e
    let st := L.f F_SEB_SESS_STATE
    s.Permits l wr A_SEB_CMD 1#32 ∧ (L.writerRole wr = .ins ∨ L.writerRole wr = .mkr) ∧ b.pwLock = false ∧ sebPwOk L b.pwd = true ∧ L.ps 0 = psOff ∧
      L.ps 1 = psOff ∧ L.pairReleased 0 = true ∧ L.pairReleased 1 = true ∧ L.sebMoving = false ∧ st = 0 ∧ 2 ≤ L.safeLeft ∧ L.log.clN + 2 ≤ 32 := by
  decide +kernel

theorem wit_SafetyConfigurationSession_1 :
    let s : State := wSeb [] fun b => { b with pwd := 1#32 }
    let l : LaneId := .a
    let e : Eng := 3
    let L := s.lane l
    let b := L.seb
    let wr := Writer.eng e
    s.Permits l wr A_SEB_CMD 1#32 ∧ (L.writerRole wr = .ins ∨ L.writerRole wr = .mkr) ∧ b.pwLock = false ∧ sebPwOk L b.pwd = false := by
  decide +kernel

theorem wit_SafetyConfigurationSession_2 :
    let s : State := wDone wCfg
    let l : LaneId := .a
    let e : Eng := 3
    let L := s.lane l
    let wr := Writer.eng e
    let st := L.f F_SEB_SESS_STATE
    s.Permits l wr A_SEB_CMD 2#32 ∧ st = 1 ∧ L.f F_SEB_SESS_ENGINE = e.val ∧ sebCheck L = 0 := by
  decide +kernel

theorem wit_SafetyConfigurationSession_3 :
    let s : State := wDone []
    let l : LaneId := .a
    let e : Eng := 3
    let L := s.lane l
    let wr := Writer.eng e
    let st := L.f F_SEB_SESS_STATE
    s.Permits l wr A_SEB_CMD 2#32 ∧ st = 1 ∧ L.f F_SEB_SESS_ENGINE = e.val ∧ sebCheck L ≠ 0 := by
  decide +kernel

theorem wit_SafetyConfigurationSession_4 :
    let s : State := wDone []
    let l : LaneId := .a
    let e : Eng := 3
    let L := s.lane l
    let wr := Writer.eng e
    let st := L.f F_SEB_SESS_STATE
    s.Permits l wr A_SEB_CMD 3#32 ∧ st = 1 ∧ L.f F_SEB_SESS_ENGINE = e.val := by
  decide +kernel

theorem wit_SafetyConfigurationSession_5 :
    let s : State := wSeb [(F_SEB_SESS_STATE, 2)] id
    let l : LaneId := .a
    let L := s.lane l
    let st := L.f F_SEB_SESS_STATE
    L.spine = true ∧ st = 2 ∧ L.log.clSafe = 0 := by
  decide +kernel

theorem wit_SafetyConfigurationSession_6 :
    let s : State := wSeb [(F_SEB_SESS_STATE, 3)] id
    let l : LaneId := .a
    let L := s.lane l
    let st := L.f F_SEB_SESS_STATE
    L.spine = true ∧ st = 3 := by
  decide +kernel

theorem wit_FieldInputs_0 :
    let s : State := wFd [] fun d => { d with inp := d.inp.set 0 { mode := 1, meas := 3, last := some 9000 } }
    let d := s.fd
    let k : Ratios := (List.replicate 24 (some 6000))
    let n : FieldInput := 0
    let m0 : Nat := 9000
    let m : Nat := 6000
    s.fdUp = true ∧ d.inp[n].mode = 1 ∧ d.inp[n].meas = 3 ∧ d.inp[n].last = some m0 ∧ k[n.val]? = some (some m) ∧ 5300 < min m0 m ∧ max m0 m ≤ 9000 := by
  decide +kernel

theorem wit_FieldInputs_1 :
    let s : State := { wFd [] (fun d => { d with inp := d.inp.set 0 { mode := 2, meas := 1 } }) with time := 100 }
    let l : LaneId := .a
    let d := s.fd
    let n : FieldInput := 0
    let mv : Nat := d.thr + 1
    let rise : Bool := true
    s.fdUp = true ∧ (if rise then d.thr < mv else mv + 1000 < d.thr) ∧ d.inp[n].mode = 2 ∧ d.inp[n].meas ≠ (if rise then 2 else 1) ∧ d.inp[n].since + d.inp[n].glitch < s.time ∧ d.edges[laneIx l].length < 64 := by
  decide +kernel

theorem wit_FieldInputs_2 :
    let s : State := wFd [] fun d => { d with edges := d.edges.set 0 [⟨1, 2, true⟩] }
    let l : LaneId := .a
    let wr : Writer := .eng 3
    let d := s.fd
    let e := (⟨1, 2, true⟩ : FioEdge)
    let rest := []
    s.Permits l wr A_FIO_EDGEPOP 1#32 ∧ d.edges[laneIx l] = e :: rest := by
  decide +kernel

theorem wit_FieldInputs_3 :
    let s : State := wFd [] id
    let d := s.fd
    let v : Nat := 65535
    s.fdUp = true ∧ v < 65536 ∧ d.vstate ≤ vsWarn := by
  decide +kernel

theorem wit_FieldInputs_4 :
    let s : State := wFd [] fun d => { d with retest := d.retest.set 0 true }
    let d := s.fd
    let o : TestObs := { demand := false, pass := true, low := 0#24, back := 0#24, ago := [], follow := 0#16 }
    let src : Source := 0
    s.fdUp = true ∧ src.val < 8 ∧ d.slot = src.val ∧ d.retest[src] = true ∧ d.vstate < vsLow ∧ d.forced = false ∧ d.flt src.val = 0 ∧ d.on[src] = false ∧
      o.pass = true := by
  decide +kernel

theorem wit_FieldInputs_5 :
    let s : State := wFd [] fun d => { d with slot := 5, retest := d.retest.set 5 true }
    let d := s.fd
    let o : TestObs := { demand := true, pass := false, low := 0#24, back := 0#24, ago := [], follow := 0#16 }
    let src : Source := 5
    s.fdUp = true ∧ src.val < 8 ∧ d.slot = src.val ∧ d.retest[src] = true ∧ d.vstate < vsLow ∧ d.forced = false ∧ d.flt src.val = 0 ∧ d.on[src] = false ∧
      o.pass = false := by
  decide +kernel

theorem wit_FieldInputs_6 :
    let s : State := { wFd [] (fun d => { d with thr := 7220, inp := d.inp.set 0 { mode := 2, meas := 2 } }) with time := 100 }
    let l : LaneId := .a
    let d := s.fd
    let n : FieldInput := 0
    let mv : Nat := 6219
    let rise : Bool := false
    s.fdUp = true ∧ (if rise then d.thr < mv else mv + 1000 < d.thr) ∧ d.inp[n].mode = 2 ∧ d.inp[n].meas ≠ (if rise then 2 else 1) ∧
      d.inp[n].since + d.inp[n].glitch < s.time ∧ d.edges[laneIx l].length < 64 := by
  decide +kernel

theorem wit_FieldInputs_7 :
    let s : State := wFd [] fun d => { d with thr := 7220 }
    let d := s.fd
    (7220 ≤ d.thr ∧ d.thr ≤ 7220 + 1000) ∧ (6220 ≤ d.thr ∧ d.thr ≤ 6220 + 1000) := by
  decide +kernel

theorem wit_FieldInputs_8 :
    let s : State := wFd [(F_FIO_STAT_VSTATE, vsLow)] id
    let d := s.fd
    s.fdUp = true ∧ vsLow ≤ d.vstate := by
  decide +kernel

theorem wit_FieldInputs_9 :
    let s : State := { w0 with sup := { w0.sup with xres := true } }
    s.fdUp = false := by
  decide +kernel

theorem wit_FieldOutputs_0 :
    let s : State := wFd [] fun d => { d with on := d.on.set 6 true }
    let d := s.fd
    let src : Source := 6
    s.fdUp = true ∧ d.flt src.val = 0 ∧ d.on[src] = true := by
  decide +kernel

theorem wit_FieldOutputs_1 :
    let s : State := wFd [] id
    let d := s.fd
    let mv : Nat := 16800
    s.fdUp = true ∧ d.vstate = vsNormal ∧ 16800 ≤ mv ∧ mv < 19200 := by
  decide +kernel

theorem wit_FieldOutputs_2 :
    let s : State := wFd [(F_FIO_STAT_VSTATE, 1)] id
    let d := s.fd
    let mv : Nat := 19501
    s.fdUp = true ∧ d.vstate = vsWarn ∧ 19500 < mv := by
  decide +kernel

theorem wit_FieldOutputs_3 :
    let s : State := wFd [(F_FIO_STAT_VSTATE, 2)] id
    let d := s.fd
    s.fdUp = true ∧ d.vstate = vsLow := by
  decide +kernel

theorem wit_FieldOutputs_4 :
    let s : State := wFd [] fun d => { d with cutDue := true, inp := d.inp.set 0 { mode := 1, src := 4, meas := 4 } }
    let d := s.fd
    s.fdUp = true ∧ d.cutDue = true ∧ (d.inp[0].mode = 1 ∨ d.inp[0].mode = 2) ∧ 1 ≤ d.inp[0].src ∧ d.inp[0].src ≤ 4 := by
  decide +kernel

theorem wit_FieldOutputs_5 :
    let s : State := wFd [] (fun d => { d with hoop := 1 }) wHold
    let l : LaneId := .a
    let wr : Writer := .eng 3
    let d := s.fd
    let key : Byte := 0x3C
    s.Permits l wr A_FIO_KEEPALIVE (key.zeroExtend 32) ∧ d.heldBy l = true ∧ key.toNat = d.wdKey := by
  decide +kernel

theorem wit_FieldOutputs_6 :
    let s : State := wFd [] fun d => { d with wdRun := true }
    let d := s.fd
    s.fdUp = true ∧ d.wdRun = true := by
  decide +kernel

theorem wit_FieldOutputs_7 :
    let s : State := wFd [(F_FIO_STAT_FORCED, 1)] (fun d => { d with hoop := 1, kaN := 3 }) wHold
    let l : LaneId := .a
    let wr : Writer := .eng 3
    let d := s.fd
    s.Permits l wr A_FIO_CMD 1#32 ∧ d.heldBy l = true ∧ d.forced = true ∧ getB s.sup.regs F_PWR_STAT_HOLD = false ∧ d.kaN = 3 ∧ d.fHoop = false ∧
      d.fCut = false := by
  decide +kernel

theorem wit_FieldOutputs_8 :
    let s : State := wFd [(⟨A_FIO_OUTFLT 0, 31, 0⟩, 0x30000000)] (fun d => { d with hoop := 1 }) wHold
    let l : LaneId := .a
    let wr : Writer := .eng 3
    let d := s.fd
    let mask : SourceBits := 0xFFFF#16
    s.Permits l wr A_FIO_CMD (BitVec.ofNat 32 (mask.toNat * 0x10000 + 2)) ∧ d.heldBy l = true ∧ (∀ src : Source, d.fltPresent src = false) := by
  decide +kernel

theorem wit_FieldOutputs_9 :
    let s : State := { wFd [(F_FIO_STAT_FORCED, 1)] (fun d => { d with fCut := true, goodAt := some 0 }) with time := 100000 }
    let l : LaneId := .a
    let wr : Writer := .eng 3
    let d := s.fd
    s.Permits l wr A_FIO_ACK 1#32 ∧ d.forced = true ∧ d.fCut = true ∧ s.vfldGood = true := by
  decide +kernel

theorem wit_FieldOutputs_10 :
    let s : State := wFd [] (fun d => { d with hoop := 1, cutOff := false }) wHold
    let l : LaneId := .a
    let wr : Writer := .eng 3
    let d := s.fd
    let v : Byte := 0x81
    s.Permits l wr A_FIO_OUT (v.zeroExtend 32) ∧ d.heldBy l = true ∧ d.forced = false ∧ d.vstate ≤ vsWarn := by
  decide +kernel

theorem wit_FieldOutputs_11 :
    let s : State := wFd [] (fun d => { d with on := d.on.set 7 true })
    let k : Switch := 3
    (s.lane (if k.val % 2 = 0 then .a else .b)).seb.drive[k.val / 2] = false := by
  decide +kernel

theorem wit_FieldOutputs_12 :
    let s : State := wAnd w0 fun L => { L with seb := { L.seb with fioCfg := (List.range 24).map fun n => BitVec.ofNat 32 n } }
    let l : LaneId := .a
    (s.lane l).spine = true ∧ (s.lane l).seb.fioCfg.length = 24 := by
  decide +kernel

theorem wit_FieldOutputs_13 :
    let s : State := wFd [(⟨A_FIO_OUTFLT 0, 31, 0⟩, 0x00010000)] (fun d => { d with hoop := 1, held := d.held.set 4 (some true) }) wHold
    let l : LaneId := .a
    let wr : Writer := .eng 3
    let d := s.fd
    let mask : SourceBits := 0x0010#16
    s.Permits l wr A_FIO_CMD (BitVec.ofNat 32 (mask.toNat * 0x10000 + 2)) ∧ d.heldBy l = true ∧ mask.getLsbD (4 : Source).val = true ∧ d.fltPresent 4 = true := by
  decide +kernel

theorem wit_CommandsRefusedByTheirRules_0 :
    let s : State := w0
    let l : LaneId := .a
    let wr : Writer := .eng 3
    let a := A_FIO_KEEPALIVE
    let v := 0#32
    let L := s.lane l
    a ∈ [A_FIO_OUT, A_FIO_TPCFG0, A_FIO_TPCFG1, A_FIO_KEEPALIVE] ∧ L.writerLive wr = true ∧ (∀ e, L.writerEng wr = some e → L.eng[e].sbuf = []) ∧
      L.regGate (L.writerEng wr) a = none ∧ s.regRights l wr a v = none ∧ legalWord a v = true ∧ L.holder = false := by
  decide +kernel

theorem wit_LaneLinkMessages_0 :
    let s : State := wO (fun k => { k with hbOut := some { seq := 3, fclk := 77, health := 0x34000011#32, applied := 5, hoop := 1 } }) (wLnk [] fun k => { k with fWait := true })
    let l : LaneId := .a
    let O := s.lane l.other
    let m : Heartbeat := ({ seq := 3, fclk := 77, health := 0x34000011#32, applied := 5, hoop := 1 } : Heartbeat)
    s.linkHb l = true ∧ O.lnk.hbOut = some m := by
  decide +kernel

theorem wit_LaneLinkMessages_1 :
    let s : State := { wLnk [(F_LNK_STAT_STATE, lsStandby)] (fun k => { k with hbLost := false }) with fd := { w0.fd with hoop := 2 } }
    let l : LaneId := .a
    let L := s.lane l
    let k := L.lnk
    L.spine = true ∧ k.hbLost = false ∧ L.lst ≠ lsUpdate := by
  decide +kernel

theorem wit_LaneLinkMessages_2 :
    let s : State := wO (fun k => { k with fWait := true }) w0
    let l : LaneId := .b
    let L := s.lane l
    let k := L.lnk
    L.spine = true ∧ k.fWait = true ∧ l = .b := by
  decide +kernel

theorem wit_LaneLinkMessages_3 :
    let s : State := w0
    let l : LaneId := .a
    let L := s.lane l
    let k := L.lnk
    L.spine = true ∧ k.fWait = false ∧ L.holder = false := by
  decide +kernel

theorem wit_LaneLinkMessages_4 :
    let s : State := wHold
    let l : LaneId := .a
    let L := s.lane l
    let k := L.lnk
    L.spine = true ∧ k.fWait = false ∧ L.holder = true ∧ k.dirty.length ≤ 447 ∧ k.regDirty.length ≤ 256 := by
  decide +kernel

theorem wit_LaneLinkMessages_5 :
    let s : State := wO (fun k => { k with sealOut := some (7, 0#32), epLen := 300, epPos := 256 }) w0
    let l : LaneId := .a
    let L := s.lane l
    let O := s.lane l.other
    let seq := 7
    let crc := 0#32
    s.linkOpen l = true ∧ O.lnk.sealOut = some (seq, crc) ∧ O.lnk.epPos < O.lnk.epLen ∧ L.holder = false ∧ O.lnk.ahead 4 = false := by
  decide +kernel

set_option maxRecDepth 1000000 in
theorem wit_LaneLinkMessages_6 :
    let s : State := wO (fun k => { k with sealOut := some (0, crc32 (List.replicate 288 0)), epLen := 288, epPos := 288 }) (wLnk [(F_LNK_STAT_STATE, lsSync)] fun k => { k with rxLen := 288 })
    let l : LaneId := .a
    let L := s.lane l
    let O := s.lane l.other
    let k := L.lnk
    let seq := 0
    let crc := (crc32 (List.replicate 288 0))
    let b := readBytes 0 L.tsram (stageOff seq) k.rxLen
    let ahead := (leNat ((b.drop 4).take 4) + 2 ^ 32 - L.f F_LNK_EPOCH_SEQ) % 2 ^ 32
    let passes := k.rxOk = true ∧ leNat (b.take 4) = seq ∧ crc32 b = crc ∧ BitVec.ofNat 32 (leNat ((b.drop 20).take 4)) = rget L.regs A_LNK_REPLID ∧ (ahead = 0 ∨ 2 ^ 31 ≤ ahead)
    s.linkOpen l = true ∧ O.lnk.sealOut = some (seq, crc) ∧ O.lnk.epLen ≤ O.lnk.epPos ∧ L.holder = false ∧ O.lnk.ahead 3 = false ∧ (L.lst = lsSync ∨ L.lst = lsStandby) ∧
      seq < 2 ^ 32 ∧ passes := by
  decide +kernel

theorem wit_LaneLinkMessages_7 :
    let s : State := wO (fun k => { k with sealOut := some (1, 5#32), epLen := 288, epPos := 288 }) (wLnk [(F_LNK_STAT_STATE, lsStandby)] fun k => { k with rxLen := 288 })
    let l : LaneId := .a
    let L := s.lane l
    let O := s.lane l.other
    let k := L.lnk
    let seq := 1
    let crc := 5#32
    let b := readBytes 0 L.tsram (stageOff seq) k.rxLen
    let ahead := (leNat ((b.drop 4).take 4) + 2 ^ 32 - L.f F_LNK_EPOCH_SEQ) % 2 ^ 32
    let passes := k.rxOk = true ∧ leNat (b.take 4) = seq ∧ crc32 b = crc ∧ BitVec.ofNat 32 (leNat ((b.drop 20).take 4)) = rget L.regs A_LNK_REPLID ∧ (ahead = 0 ∨ 2 ^ 31 ≤ ahead)
    s.linkOpen l = true ∧ O.lnk.sealOut = some (seq, crc) ∧ O.lnk.epLen ≤ O.lnk.epPos ∧ L.holder = false ∧ O.lnk.ahead 3 = false ∧ (L.lst = lsSync ∨ L.lst = lsStandby) ∧
      seq < 2 ^ 32 ∧ ¬ passes := by
  decide +kernel

theorem wit_LaneLinkMessages_8 :
    let s : State := wA [(F_LNK_STAT_STATE, lsStandby)]
    let l : LaneId := .a
    let L := s.lane l
    L.spine = true ∧ L.lst = lsStandby := by
  decide +kernel

theorem wit_LaneLinkMessages_9 :
    let s : State := wO (fun k => { k with bulkActive := true }) (wA [(F_LNK_STAT_STATE, lsSync)])
    let l : LaneId := .a
    let L := s.lane l
    let O := s.lane l.other
    let a := 0x30000000
    let b := (List.replicate 64 (0#8))
    s.linkOpen l = true ∧ O.lnk.ahead 6 = false ∧ O.lnk.bulkActive = true ∧ bulkItem O.lnk.bulkPos O = some (a, b, true) ∧ L.lst = lsSync ∧ 0x30000000 ≤ a := by
  decide +kernel

theorem wit_LaneLinkMessages_10 :
    let s : State := wO (fun k => { k with bulkActive := true, bulkPos := 100000, bulkLen := 5 }) (wLnk [(F_LNK_STAT_STATE, lsSync)] fun k => { k with bulkRxLen := 5 })
    let l : LaneId := .a
    let L := s.lane l
    let O := s.lane l.other
    let k := L.lnk
    s.linkOpen l = true ∧ O.lnk.ahead 6 = false ∧ O.lnk.bulkActive = true ∧ bulkItem O.lnk.bulkPos O = none ∧ O.lnk.bulkLen ≠ 0 ∧ L.lst = lsSync ∧
      k.bulkRxLen = O.lnk.bulkLen ∧ k.bulkRxCrc = O.lnk.bulkCrc := by
  decide +kernel

theorem wit_LaneLinkMessages_11 :
    let s : State := wO (fun k => { k with bulkActive := true, bulkPos := 100000, bulkLen := 5 }) (wLnk [(F_LNK_STAT_STATE, lsSync)] fun k => { k with bulkRxCrc := 4 })
    let l : LaneId := .a
    let L := s.lane l
    let O := s.lane l.other
    let k := L.lnk
    s.linkOpen l = true ∧ O.lnk.ahead 6 = false ∧ O.lnk.bulkActive = true ∧ bulkItem O.lnk.bulkPos O = none ∧ O.lnk.bulkLen ≠ 0 ∧ L.lst = lsSync ∧
      k.bulkRxCrc ≠ O.lnk.bulkCrc ∧ k.bulkFails = 0 := by
  decide +kernel

theorem wit_LaneLinkMessages_12 :
    let s : State := w0
    let l : LaneId := .a
    let L := s.lane l
    let O := s.lane l.other
    L.spine = true ∧ O.spine = true ∧ L.f F_LNK_CNT_CRC < 255 := by
  decide +kernel

theorem wit_LaneLinkMessages_13 :
    let s : State := wO (fun k => { k with sebreqOut := some (true, false) }) w0
    let l : LaneId := .a
    let O := s.lane l.other
    O.lnk.ahead 2 = true ∧ O.lnk.ahead 3 = true ∧ O.lnk.ahead 4 = true ∧ O.lnk.ahead 5 = true ∧ O.lnk.ahead 6 = true ∧ O.lnk.ahead 7 = true := by
  decide +kernel

theorem wit_HoopAndLaneStates_0 :
    let s : State := wLnk [] fun k => { k with train := true }
    let l : LaneId := .a
    let L := s.lane l
    let k := L.lnk
    s.fd.hoop = hoopFree ∧ k.train = true := by
  decide +kernel

theorem wit_HoopAndLaneStates_1 :
    let s : State := wHold
    let l : LaneId := .a
    let L := s.lane l
    let k := L.lnk
    s.fd.heldBy l = true ∧ k.train = false := by
  decide +kernel

theorem wit_HoopAndLaneStates_2 :
    let s : State := w0
    s.sup.off = false := by
  decide +kernel

theorem wit_HoopAndLaneStates_3 :
    let s : State := { w0 with fd := { w0.fd with hoop := 3 } }
    s.fd.hoop = hoopFault := by
  decide +kernel

theorem wit_HoopAndLaneStates_4 :
    let s : State := wLnk [(F_LNK_STAT_STATE, lsStart)] fun k => { k with ready := true }
    let l : LaneId := .a
    let L := s.lane l
    s.coldOk l = true ∧ L.spine = true := by
  decide +kernel

theorem wit_HoopAndLaneStates_5 :
    let s : State := wHold [(F_LNK_STAT_STATE, lsActive)]
    let l : LaneId := .a
    let L := s.lane l
    L.spine = true ∧ L.lst = lsActive ∧ s.fd.heldBy l = true := by
  decide +kernel

theorem wit_HoopAndLaneStates_6 :
    let s : State := w0
    let l : LaneId := .a
    let wr : Writer := .eng 0
    let L := s.lane l
    s.Permits l wr A_LNK_CTRL 1#32 ∧ L.writerEng wr = some 0 := by
  decide +kernel

theorem wit_HoopAndLaneStates_7 :
    let s : State := wA [(F_LNK_STAT_STATE, lsActive)]
    let l : LaneId := .a
    let wr : Writer := .eng 3
    let L := s.lane l
    s.Permits l wr A_LNK_CTRL 2#32 ∧ L.lst = lsActive := by
  decide +kernel

theorem wit_HoopAndLaneStates_8 :
    let s : State := wA [(F_LNK_STAT_STATE, lsStandby)]
    let l : LaneId := .a
    let wr : Writer := .eng 3
    let L := s.lane l
    s.Permits l wr A_LNK_CTRL 3#32 ∧ L.lst = lsStandby := by
  decide +kernel

theorem wit_HoopAndLaneStates_9 :
    let s : State := wA [(F_LNK_STAT_STATE, lsSuspect)]
    let l : LaneId := .a
    let L := s.lane l
    L.spine = true ∧ L.lst = lsSuspect := by
  decide +kernel

theorem wit_HoopAndLaneStates_10 :
    let s : State := wHold [(F_LNK_STAT_PSTATE, lsHalted)]
    let l : LaneId := .a
    let wr : Writer := .eng 3
    let L := s.lane l
    s.Permits l wr A_LNK_CTRL 4#32 ∧ (L.writerRole wr = .ins ∨ L.writerRole wr = .mkr) ∧ L.holder = true ∧ L.pstate = lsHalted := by
  decide +kernel

theorem wit_HoopAndLaneStates_11 :
    let s : State := wO (fun k => { k with ctrlOut := [.restart] }) (wA [(F_LNK_STAT_STATE, lsHalted)])
    let l : LaneId := .a
    let O := s.lane l.other
    let rest := []
    s.linkOpen l = true ∧ O.lnk.ahead 2 = false ∧ O.lnk.ctrlOut = CtrlMsg.restart :: rest := by
  decide +kernel

theorem wit_HoopAndLaneStates_12 :
    let s : State := w0
    let l : LaneId := .a
    let wr : Writer := .eng 3
    s.Permits l wr A_LNK_FWTEST 1#32 := by
  decide +kernel

theorem wit_HoopAndLaneStates_13 :
    let s : State := wHold [(F_LNK_STAT_STATE, lsActive), (F_SPG_STAT_STATE, spgIdle), (F_LNK_PHEALTH_D, 0x04000000)]
    let l : LaneId := .a
    let wr : Writer := .eng 3
    let L := s.lane l
    s.Permits l wr A_LNK_SWITCH 1#32 ∧ L.holder = true ∧ L.partnerElig = true ∧ L.spgSt = spgIdle ∧ L.ps 0 = psOff ∧ L.ps 1 = psOff ∧
      L.lst = lsActive := by
  decide +kernel

theorem wit_HoopAndLaneStates_14 :
    let s : State := wO (fun k => { k with ctrlOut := [.switch] }) w0
    let l : LaneId := .a
    let O := s.lane l.other
    let rest := []
    s.linkOpen l = true ∧ O.lnk.ahead 2 = false ∧ O.lnk.ctrlOut = CtrlMsg.switch :: rest := by
  decide +kernel

theorem wit_UpdateOfTheOtherLane_0 :
    let s : State := wHold [(F_SPG_STAT_STATE, spgIdle), (F_LNK_PHEALTH_D, 0x04000000)]
    let l : LaneId := .a
    let wr : Writer := .eng 3
    let L := s.lane l
    let k := L.lnk
    s.Permits l wr A_LNK_UPD 1#32 ∧ k.updActive = false ∧ L.holder = true ∧ L.partnerElig = true ∧ L.spgSt = spgIdle ∧ L.ps 0 = psOff ∧
      L.ps 1 = psOff := by
  decide +kernel

theorem wit_UpdateOfTheOtherLane_1 :
    let s : State := wAnd wHold fun L => { L with lnk := { L.lnk with updActive := true } }
    let l : LaneId := .a
    let wr : Writer := .eng 3
    let L := s.lane l
    let k := L.lnk
    s.Permits l wr A_LNK_UPD 2#32 ∧ k.updActive = true ∧ L.holder = true := by
  decide +kernel

theorem wit_UpdateOfTheOtherLane_2 :
    let s : State := wAnd wHold fun L => { L with lnk := { L.lnk with updActive := true } }
    let l : LaneId := .a
    let wr : Writer := .eng 3
    let L := s.lane l
    let k := L.lnk
    s.Permits l wr A_LNK_UPD 3#32 ∧ k.updActive = true ∧ L.holder = true := by
  decide +kernel

theorem wit_UpdateOfTheOtherLane_3 :
    let s : State := wO (fun k => { k with ctrlOut := [.updateStart] }) (wA [(F_LNK_STAT_STATE, lsStandby)])
    let l : LaneId := .a
    let L := s.lane l
    let O := s.lane l.other
    let next : CtrlMsg → Prop := fun m => s.linkOpen l = true ∧ O.lnk.ahead 2 = false ∧ O.lnk.ctrlOut.head? = some m
    next .updateStart ∧ L.lst = lsStandby := by
  decide +kernel

theorem wit_UpdateOfTheOtherLane_4 :
    let s : State := wO (fun k => { k with updOut := some (4096, [1#8, 2#8], crc32 [1#8, 2#8]) }) (wA [(F_LNK_STAT_STATE, lsUpdate)])
    let l : LaneId := .a
    let L := s.lane l
    let O := s.lane l.other
    let off := 4096
    let data := [1#8, 2#8]
    s.linkOpen l = true ∧ O.lnk.ahead 7 = false ∧ O.lnk.updOut = some (off, data, crc32 data) ∧ L.lst = lsUpdate ∧ off + data.length ≤ 0x300000 ∧ data.length ≤ O.lnk.updPos + 256 ∧ O.lnk.updPos = 0 := by
  decide +kernel

theorem wit_UpdateOfTheOtherLane_5 :
    let s : State := wO (fun k => { k with updAckOut := some (4096, true) }) (wAnd w0 fun L => { L with img := { L.img with sent := some 4096 } })
    let l : LaneId := .a
    let L := s.lane l
    let O := s.lane l.other
    let off := 4096
    L.gateState 5 = gOpen ∧ L.spine = true ∧ O.spine = true ∧ O.lnk.ahead 5 = false ∧ O.lnk.updAckOut = some (off, true) ∧ L.img.sent = some off := by
  decide +kernel

theorem wit_UpdateOfTheOtherLane_6 :
    let s : State := wO (fun k => { k with ctrlOut := [.updateCommit] }) (wAnd (wA [(F_LNK_STAT_STATE, lsUpdate)]) (wSlotFlash 0x300000))
    let l : LaneId := .a
    let L := s.lane l
    let O := s.lane l.other
    let next : CtrlMsg → Prop := fun m => s.linkOpen l = true ∧ O.lnk.ahead 2 = false ∧ O.lnk.ctrlOut.head? = some m
    next .updateCommit ∧ L.lst = lsUpdate ∧ slotOk L.updSlotNo L = true := by
  decide +kernel

theorem wit_UpdateOfTheOtherLane_7 :
    let s : State := { wO (fun k => { k with ctrlOut := [.updateAbort] }) (wAnd (wA [(F_LNK_STAT_STATE, lsUpdate)]) fun L => { L with lastRestart := some 0 }) with time := 60000000 }
    let l : LaneId := .a
    let L := s.lane l
    let O := s.lane l.other
    let next : CtrlMsg → Prop := fun m => s.linkOpen l = true ∧ O.lnk.ahead 2 = false ∧ O.lnk.ctrlOut.head? = some m
    next .updateAbort ∧ L.lst = lsUpdate ∧ L.due = [] ∧ L.lastRestart = some 0 ∧ 0 + 60000000 ≤ s.time := by
  decide +kernel

theorem wit_UpdateOfTheOtherLane_8 :
    let s : State := wO (fun k => { k with ctrlOut := [.debugOn] }) w0
    let l : LaneId := .a
    let O := s.lane l.other
    let next : CtrlMsg → Prop := fun m => s.linkOpen l = true ∧ O.lnk.ahead 2 = false ∧ O.lnk.ctrlOut.head? = some m
    next .debugOn ∧ (s.lane l).holder = false := by
  decide +kernel

theorem wit_UpdateOfTheOtherLane_9 :
    let s : State := wO (fun k => { k with ctrlOut := [.debugOff] }) (wDbg w0)
    let l : LaneId := .a
    let O := s.lane l.other
    let next : CtrlMsg → Prop := fun m => s.linkOpen l = true ∧ O.lnk.ahead 2 = false ∧ O.lnk.ctrlOut.head? = some m
    next .debugOff := by
  decide +kernel

theorem wit_UpdateOfTheOtherLane_10 :
    let s : State := { wO (fun k => { k with ctrlOut := [.updateAbort] }) (wAnd (wA [(F_LNK_STAT_STATE, lsUpdate)]) fun L => { L with lastRestart := some 0 }) with time := 59999999 }
    let l : LaneId := .a
    let L := s.lane l
    let O := s.lane l.other
    let t0 := 0
    let next : CtrlMsg → Prop := fun m => s.linkOpen l = true ∧ O.lnk.ahead 2 = false ∧ O.lnk.ctrlOut.head? = some m
    next .updateAbort ∧ L.lst = lsUpdate ∧ L.due = [] ∧ L.lastRestart = some t0 ∧ s.time < t0 + 60000000 ∧ s.fd.heldBy l = false := by
  decide +kernel

theorem wit_UpdateOfTheOtherLane_11 :
    let s : State := wO (fun k => { k with ctrlOut := [.debugOn] }) wHold
    let l : LaneId := .a
    let L := s.lane l
    let O := s.lane l.other
    let next : CtrlMsg → Prop := fun m => s.linkOpen l = true ∧ O.lnk.ahead 2 = false ∧ O.lnk.ctrlOut.head? = some m
    next .debugOn ∧ L.holder = true := by
  decide +kernel

theorem wit_UpdateOfTheOtherLane_12 :
    let s : State := wO (fun k => { k with updOut := some (4096, List.replicate 257 1#8, 0#32) }) (wA [(F_LNK_STAT_STATE, lsUpdate)])
    let l : LaneId := .a
    let O := s.lane l.other
    let data := List.replicate 257 1#8
    s.linkOpen l = true ∧ O.lnk.ahead 7 = false ∧ O.lnk.updOut = some (4096, data, 0#32) ∧ O.lnk.updPos + 256 < data.length := by
  decide +kernel

theorem wit_UpdateOfTheOtherLane_13 :
    let s : State := wO (fun k => { k with updOut := some (4096, [1#8, 2#8, 3#8], crc32 [1#8, 2#8, 3#8]), updPos := 2 }) (wLnk [(F_LNK_STAT_STATE, lsUpdate)] fun k => { k with updRx := [1#8, 2#8], updRxOk := true })
    let l : LaneId := .a
    let L := s.lane l
    let O := s.lane l.other
    let data := [1#8, 2#8, 3#8]
    s.linkOpen l = true ∧ O.lnk.ahead 7 = false ∧ O.lnk.updOut = some (4096, data, crc32 data) ∧ L.lst = lsUpdate ∧ 4096 + data.length ≤ 0x300000 ∧
      data.length ≤ O.lnk.updPos + 256 ∧ O.lnk.updPos ≤ data.length ∧ L.lnk.updRxOk = true ∧ L.lnk.updRx = data.take O.lnk.updPos := by
  decide +kernel

theorem wit_CanFramesAndDirectory_0 :
    let s : State := wCan [(F_CAN_TELBAND_LO 0, 0x7FF)] fun c => { c with mode := canModeNormal }
    let l : LaneId := .a
    let n : Port := 0
    let wr : Writer := .eng 3
    let L := s.lane l
    let c := L.cn n
    let h0 := rget L.regs (A_CAN_TXS0 n.val)
    let h1 := rget L.regs (A_CAN_TXS1 n.val)
    let o : CanObj := { h0 := h0, h1 := h1 }
    let k := (0 : CanObjNo)
    let rest := ((List.range' 1 27).map (fun k => ⟨k % 32, Nat.mod_lt _ (by decide)⟩) : List CanObjNo)
    s.Permits l wr (A_CAN_TXPUSH n.val) 1#32 ∧ (c.inState coFree).filter (fun k => decide (k.val < 28)) = k :: rest ∧ (o.brs = true → o.fdf = true) ∧
      (o.fdf = true → L.b (F_CAN_CTRL_FDEN n.val) = true) ∧ (o.rtr = true → o.fdf = false) ∧ (o.ide = false → bits h0 28 0 ≤ 0x7FF) ∧
      L.inTelBand n h0 = false ∧ c.mode = canModeNormal := by
  decide +kernel

theorem wit_CanFramesAndDirectory_1 :
    let s : State := wObj 5 coActive [] id
    let l : LaneId := .a
    let n : Port := 0
    let L := s.lane l
    let c := L.cn n
    let up := L.up (.can n) = true
    let k := (5 : CanObjNo)
    up ∧ c.active = some k := by
  decide +kernel

theorem wit_CanFramesAndDirectory_2 :
    let s : State := wObj 5 coPending [(F_CAN_STAT_PSTATE 0, psRun), (F_CAN_STAT_LONE 0, 1), (F_LNK_STAT_HOLDER, 1)] fun c => { c with mode := canModeNormal, drive := true }
    let l : LaneId := .a
    let n : Port := 0
    let L := s.lane l
    let c := L.cn n
    let up := L.up (.can n) = true
    let k := (5 : CanObjNo)
    up ∧ L.canSends n = true ∧ L.b (F_CAN_STAT_LONE n.val) = true ∧ c.active = none ∧ c.probe = none ∧ c.best = some k := by
  decide +kernel

theorem wit_CanFramesAndDirectory_3 :
    let s : State := wTs [(0x30030, 0x40000005)] (wCan [(F_CAN_STAT_PSTATE 0, psRun), (F_LNK_STAT_HOLDER, 1), (F_CAN_DIRCTL_EN 0, 1)] fun c => { c with mode := canModeNormal, index := [3] })
    let l : LaneId := .a
    let n : Port := 0
    let L := s.lane l
    let c := L.cn n
    let up := L.up (.can n) = true
    let fr : CanFrame := ({ id := 5#29, ide := false, fdf := false, brs := false, rtr := false, esi := false, dlc := 2, data := [1#8, 2#8], tsof := 9, settle := 0 } : CanFrame)
    let i : Nat := 3
    let f : Fin 2 := if L.dirRxf i then 1 else 0
    up ∧ fr.data.length ≤ 64 ∧ (fr.ide = true ∨ fr.id.toNat < 2 ^ 11) ∧ L.f (F_CAN_STAT_PSTATE n.val) = psRun ∧
      (fr.fdf = true → L.b (F_CAN_CTRL_FDEN n.val) = true) ∧ c.mode = canModeNormal ∧ L.dirFind n fr.ide fr.id.toNat = some i ∧ L.holder = true ∧
      c.rx[f].length < 32 := by
  decide +kernel

theorem wit_CanFramesAndDirectory_4 :
    let s : State := wObj 5 coPending [] id
    let l : LaneId := .a
    let n : Port := 0
    let wr : Writer := .eng 3
    let L := s.lane l
    let c := L.cn n
    let k : CanObjNo := 5
    s.Permits l wr (A_CAN_OBJ3 n.val k.val) 1#32 ∧ (28 ≤ k.val → L.f F_TEL_CFG_PORT ≠ n.val) ∧ c.objs[k].st = coPending := by
  decide +kernel

theorem wit_CanFramesAndDirectory_5 :
    let s : State := wObj 5 coActive [] id
    let l : LaneId := .a
    let n : Port := 0
    let wr : Writer := .eng 3
    let L := s.lane l
    let c := L.cn n
    let k : CanObjNo := 5
    s.Permits l wr (A_CAN_OBJ3 n.val k.val) 1#32 ∧ (28 ≤ k.val → L.f F_TEL_CFG_PORT ≠ n.val) ∧ c.objs[k].st = coActive := by
  decide +kernel

theorem wit_CanFramesAndDirectory_6 :
    let s : State := wObj 5 coDone [] id
    let l : LaneId := .a
    let n : Port := 0
    let wr : Writer := .eng 3
    let L := s.lane l
    let c := L.cn n
    let k : CanObjNo := (5 : CanObjNo)
    s.Permits l wr (A_CAN_OBJ3 n.val k.val) 2#32 ∧ (28 ≤ k.val → L.f F_TEL_CFG_PORT ≠ n.val) ∧ c.objs[k].st = coDone := by
  decide +kernel

theorem wit_CanFramesAndDirectory_7 :
    let s : State := wCan [] fun c => { c with rx := c.rx.set 0 [{ h0 := 1, h1 := 2, h2 := 3, h3 := 4, data := [] }] }
    let l : LaneId := .a
    let n : Port := 0
    let wr : Writer := .eng 3
    let L := s.lane l
    let c := L.cn n
    let f : Bool := false
    let e : CanRx := ({ h0 := 1, h1 := 2, h2 := 3, h3 := 4, data := [] } : CanRx)
    let rest : List CanRx := []
    s.Permits l wr (A_CAN_RXPOP n.val (Bool.toNat f)) 1#32 ∧ (if f then c.rx[(1 : Fin 2)] else c.rx[(0 : Fin 2)]) = e :: rest := by
  decide +kernel

theorem wit_CanFramesAndDirectory_8 :
    let s : State := w0
    let l : LaneId := .a
    let n : Port := 0
    let wr : Writer := .eng 3
    let L := s.lane l
    s.Permits l wr (A_CAN_DIRCTL n.val) (setBits (L.rwWord (A_CAN_DIRCTL n.val)) 3 0 1) ∧ L.b (F_CAN_DIRSTAT_BUSY n.val) = false := by
  decide +kernel

theorem wit_CanFramesAndDirectory_9 :
    let s : State := wTs [(0x30030, 0x40000005)] (wCan [(F_CAN_DIRSTAT_BUSY 0, 1)] id)
    let l : LaneId := .a
    let n : Port := 0
    let L := s.lane l
    let up := L.up (.can n) = true
    up ∧ L.b (F_CAN_DIRSTAT_BUSY n.val) = true ∧ (∀ i, i ∈ L.dirOf n → L.dirErr (L.dirOf n) i = 0) := by
  decide +kernel

theorem wit_CanFramesAndDirectory_10 :
    let s : State := wTs [(0x30030, 0x40000005), (0x30034, 1)] (wCan [(F_CAN_DIRSTAT_BUSY 0, 1)] id)
    let l : LaneId := .a
    let n : Port := 0
    let L := s.lane l
    let up := L.up (.can n) = true
    up ∧ L.b (F_CAN_DIRSTAT_BUSY n.val) = true ∧ (∃ i, i ∈ L.dirOf n ∧ L.dirErr (L.dirOf n) i ≠ 0) := by
  decide +kernel

theorem wit_CanFramesAndDirectory_11 :
    let s : State := wAnd (wTs [(0x30030, 0x40000005), (0x30034, 0x100)] (wCan [(F_LNK_STAT_HOLDER, 1)] fun c => { c with index := [3] })) fun L => { L with gtime := 1024000 }
    let l : LaneId := .a
    let n : Port := 0
    let L := s.lane l
    let c := L.cn n
    let up := L.up (.can n) = true
    let i := 3
    up ∧ L.holder = true ∧ c.index = [i] ∧ L.dirSiltmo i ≠ 0 ∧ L.dirSilent i = false ∧
      L.dirSiltmo i * 100000 < (L.seenNow + 2 ^ 31 - L.dirSeen i) % 2 ^ 31 * 1024 := by
  decide +kernel

theorem wit_CanPortStates_0 :
    let s : State := w0
    let l : LaneId := .a
    let n : Port := 0
    let wr : Writer := .eng 3
    let L := s.lane l
    let c := L.cn n
    let m : CanModeNo := 1
    s.Permits l wr (A_CAN_CTRL n.val) (setBits (L.rwWord (A_CAN_CTRL n.val)) 31 29 m.val) ∧ c.mode = canModeOff ∧ c.wait = false ∧ s.canBusy l n = false ∧
      m.val ≠ canModeOff := by
  decide +kernel

theorem wit_CanPortStates_1 :
    let s : State := wA [(F_CAN_STAT_PSTATE 0, psRecover)]
    let l : LaneId := .a
    let n : Port := 0
    let L := s.lane l
    let up := L.up (.can n) = true
    let ps : Lane → Nat := fun M => M.f (F_CAN_STAT_PSTATE n.val)
    up ∧ ps L = psRecover ∧ (L.cn n).sleepDue = false ∧ (L.cn n).wait = false := by
  decide +kernel

theorem wit_CanPortStates_2 :
    let s : State := wA [(F_CAN_STAT_ESTATE 0, esBusOff)]
    let l : LaneId := .a
    let n : Port := 0
    let wr : Writer := .eng 3
    let L := s.lane l
    s.Permits l wr (A_CAN_CMD n.val) 3#32 ∧ L.f (F_CAN_STAT_ESTATE n.val) = esBusOff ∧ (L.cn n).recov = false := by
  decide +kernel

theorem wit_CanPortStates_3 :
    let s : State := wCan [(F_CAN_ABCFG_MASK 0, 7)] fun c => { c with cand := some 2 }
    let l : LaneId := .a
    let n : Port := 0
    let L := s.lane l
    let c := L.cn n
    let up := L.up (.can n) = true
    let k := 2
    up ∧ c.cand = some k := by
  decide +kernel

theorem wit_CanPortStates_4 :
    let s : State := wCan [] fun c => { c with mode := canModeAuto }
    let l : LaneId := .a
    let n : Port := 0
    let L := s.lane l
    let c := L.cn n
    let up := L.up (.can n) = true
    up ∧ c.mode = canModeAuto ∧ L.b (F_CAN_STAT_ABDONE n.val) = false ∧ L.b (F_CAN_STAT_ABAUD_TMO n.val) = false := by
  decide +kernel

theorem wit_CanPortStates_5 :
    let s : State := wObj 5 coPending [] id
    let l : LaneId := .a
    let n : Port := 0
    let L := s.lane l
    let c := L.cn n
    let up := L.up (.can n) = true
    let k : CanObjNo := (5 : CanObjNo)
    up ∧ L.holder = false ∧ c.objs[k].st = coPending := by
  decide +kernel

theorem wit_CanPortStates_6 :
    let s : State := wHold
    let l : LaneId := .a
    let n : Port := 0
    let L := s.lane l
    let up := L.up (.can n) = true
    up ∧ L.holder = true := by
  decide +kernel

theorem wit_CanPortStates_7 :
    let s : State := wCan [(F_CAN_STAT_PSTATE 0, psRun)] fun c => { c with mode := canModeNormal }
    let l : LaneId := .a
    let n : Port := 0
    let wr : Writer := .eng 3
    let L := s.lane l
    let c := L.cn n
    let ps : Lane → Nat := fun M => M.f (F_CAN_STAT_PSTATE n.val)
    s.Permits l wr (A_CAN_CMD n.val) 1#32 ∧ (c.mode = canModeNormal ∨ c.mode = canModeListen ∨ c.mode = canModeRestricted) ∧ ps L ≠ psSleep ∧
      c.inState coPending = [] ∧ c.active = none ∧ s.canBusy l n = false := by
  decide +kernel

theorem wit_CanPortStates_8 :
    let s : State := wA [(F_CAN_STAT_PSTATE 0, psSleep)]
    let l : LaneId := .a
    let n : Port := 0
    let wr : Writer := .eng 3
    let L := s.lane l
    let ps : Lane → Nat := fun M => M.f (F_CAN_STAT_PSTATE n.val)
    s.Permits l wr (A_CAN_CMD n.val) 2#32 ∧ ps L = psSleep := by
  decide +kernel

theorem wit_CanPortStates_9 :
    let s : State := wA [(F_CAN_STAT_PSTATE 0, psSleep), (F_CAN_WAKECFG_WMODE 0, 1)]
    let l : LaneId := .a
    let n : Port := 0
    let L := s.lane l
    let up := L.up (.can n) = true
    let ps : Lane → Nat := fun M => M.f (F_CAN_STAT_PSTATE n.val)
    up ∧ ps L = psSleep ∧ L.f (F_CAN_WAKECFG_WMODE n.val) = 1 := by
  decide +kernel

theorem wit_CanPortStates_10 :
    let s : State := wA [(F_CAN_STAT_PSTATE 0, psInteg)]
    let l : LaneId := .a
    let n : Port := 0
    let L := s.lane l
    let up := L.up (.can n) = true
    let ps : Lane → Nat := fun M => M.f (F_CAN_STAT_PSTATE n.val)
    up ∧ ps L = psInteg ∧ (L.cn n).sleepDue = false ∧ (L.cn n).wait = false := by
  decide +kernel

theorem wit_CanPortStates_11 :
    let s : State := wCan [(F_CAN_STAT_PSTATE 0, psRun)] fun c => { c with mode := canModeNormal, busy := true }
    let l : LaneId := .a
    let n : Port := 0
    let wr : Writer := .eng 3
    let L := s.lane l
    let c := L.cn n
    let m : CanModeNo := 0
    (s.Permits l wr (A_CAN_CTRL n.val) (setBits (L.rwWord (A_CAN_CTRL n.val)) 31 29 m.val) ∧ c.active = none ∧ s.canBusy l n = true) ∧
      s.Permits l wr (A_CAN_CMD n.val) 1#32 ∧ (c.mode = canModeNormal ∨ c.mode = canModeListen ∨ c.mode = canModeRestricted) ∧
      L.f (F_CAN_STAT_PSTATE n.val) ≠ psSleep ∧ c.inState coPending = [] := by
  decide +kernel

theorem wit_CanPortStates_12 :
    let s : State := wCan [(F_CAN_ABCFG_MASK 0, 8)] fun c => { c with mode := canModeAuto }
    let l : LaneId := .a
    let n : Port := 0
    let L := s.lane l
    let c := L.cn n
    L.up (.can n) = true ∧ c.cand = none ∧ c.mode = canModeAuto ∧ L.b (F_CAN_STAT_ABDONE n.val) = false ∧ (L.f (F_CAN_ABCFG_MASK n.val)).testBit 3 = true ∧
      (∀ j, j < 3 → (L.f (F_CAN_ABCFG_MASK n.val)).testBit j = false) := by
  decide +kernel

theorem wit_CanPortStates_13 :
    let s : State := wCan [(F_CAN_STAT_PSTATE 0, psInteg)] fun c => { c with mode := canModeNormal, sleepDue := true }
    let l : LaneId := .a
    let n : Port := 0
    let L := s.lane l
    L.up (.can n) = true ∧ L.f (F_CAN_STAT_PSTATE n.val) = psInteg ∧ (L.cn n).sleepDue = true ∧ (L.cn n).active = none := by
  decide +kernel

theorem wit_RingFrames_0 :
    let s : State := wPic [(F_LNK_STAT_HOLDER, 1)] id
    let l : LaneId := .a
    let L := s.lane l
    let p := L.pic
    let run := L.up .pic = true ∧ L.picOn = true
    let idle : Bool → Prop := fun b => (L.tx b).freeAt ≤ p.clk ∧ (L.tx b).queue = []
    let wrapped := (L.b F_PIC_STAT_UWRAP || L.b F_PIC_STAT_DWRAP) = true
    let ringB := true
    let fr : PicFrame := { wFrame 0x10 256 with hops := 63 }
    run ∧ fr.payload.length ≤ 256 ∧ ftFw fr.type = true ∧ fr.src ≠ L.pos ∧ (fr.dst = 0xFF ∨ fr.dst = L.pos.val) ∧ p.rxq.length < 32 ∧ L.holder = true ∧ ¬ wrapped ∧ fr.hops < 64 ∧ idle ringB := by
  decide +kernel

theorem wit_RingFrames_1 :
    let s : State := wPic [(F_LNK_STAT_HOLDER, 1)] id
    let l : LaneId := .a
    let L := s.lane l
    let p := L.pic
    let run := L.up .pic = true ∧ L.picOn = true
    let fr : PicFrame := (wFrame ftState 24)
    run ∧ fr.payload.length ≤ 256 ∧ fr.type = ftState ∧ fr.src ≠ L.pos ∧ p.stSeq[fr.src] ≠ some fr.seq := by
  decide +kernel

theorem wit_RingFrames_2 :
    let s : State := wPic [(F_LNK_STAT_HOLDER, 1)] id
    let l : LaneId := .a
    let L := s.lane l
    let p := L.pic
    let run := L.up .pic = true ∧ L.picOn = true
    let wrapped := (L.b F_PIC_STAT_UWRAP || L.b F_PIC_STAT_DWRAP) = true
    run ∧ L.f F_PIC_STAT_ROLE ≠ roleMaster ∧ ¬ wrapped ∧ p.first = none := by
  decide +kernel

theorem wit_RingFrames_3 :
    let s : State := wPic [(F_PIC_STAT_ROLE, roleMaster)] id
    let l : LaneId := .a
    let L := s.lane l
    let run := L.up .pic = true ∧ L.picOn = true
    run ∧ L.f F_PIC_STAT_ROLE = roleMaster := by
  decide +kernel

theorem wit_RingFrames_4 :
    let s : State := wPic [(F_LNK_STAT_HOLDER, 1), (F_PIC_STAT_ROLE, roleMaster)] id
    let l : LaneId := .a
    let L := s.lane l
    let p := L.pic
    let wrapped := (L.b F_PIC_STAT_UWRAP || L.b F_PIC_STAT_DWRAP) = true
    let idle : Bool → Prop := fun b => (L.tx b).freeAt ≤ p.clk ∧ (L.tx b).queue = []
    let send := L.up .pic = true ∧ L.picTx = true
    send ∧ L.f F_PIC_STAT_ROLE = roleMaster ∧ p.dup = false ∧ ¬ wrapped ∧ idle true ∧ idle false := by
  decide +kernel

theorem wit_RingFrames_5 :
    let s : State := wAnd (wPic [(F_LNK_STAT_HOLDER, 1), (F_PIC_STAT_JOINED, 1)] id) fun L => { L with prk := { L.prk with pub := [1#32] } }
    let l : LaneId := .a
    let L := s.lane l
    let p := L.pic
    let send := L.up .pic = true ∧ L.picTx = true
    send ∧ L.b F_PIC_STAT_JOINED = true ∧ L.prk.pub ≠ [] ∧ p.dup = false := by
  decide +kernel

theorem wit_RingFrames_6 :
    let s : State := { wPic [(F_LNK_STAT_HOLDER, 1), (F_PIC_STAT_JOINED, 1), (F_PIC_FWRATE_BURST, 10), (F_PIC_FWRATE_RATE, 10)] (fun p => { p with txq := [wFrame 0x10 5] }) with time := 1000 }
    let l : LaneId := .a
    let L := s.lane l
    let p := L.pic
    let send := L.up .pic = true ∧ L.picTx = true
    let fr := (wFrame 0x10 5)
    let rest := []
    send ∧ L.b F_PIC_STAT_JOINED = true ∧ p.dup = false ∧ p.txq = fr :: rest ∧
      1000 * fr.payload.length ≤ min (1000 * L.f F_PIC_FWRATE_BURST) (p.bucket + L.f F_PIC_FWRATE_RATE * (s.time - p.bucketAt)) := by
  decide +kernel

theorem wit_RingFrames_7 :
    let s : State := wPic [(F_PIC_TXH_TYPE, 0x1F), (F_PIC_STAT_JOINED, 1), (F_PIC_TXH_LEN, 300)] id
    let l : LaneId := .a
    let wr : Writer := .eng 3
    let L := s.lane l
    let p := L.pic
    s.Permits l wr A_PIC_TXPUSH 1#32 ∧ ftFw (L.f F_PIC_TXH_TYPE) = true ∧ L.b F_PIC_STAT_JOINED = true ∧ 0 < L.f F_PIC_TXH_LEN ∧ p.txq.length < 16 := by
  decide +kernel

theorem wit_RingFrames_8 :
    let s : State := wPic [] fun p => { p with rxq := [⟨wFrame 0x10 5, true, 4⟩] }
    let l : LaneId := .a
    let wr : Writer := .eng 3
    let L := s.lane l
    let p := L.pic
    let e := (⟨wFrame 0x10 5, true, 4⟩ : PicRx)
    let rest := []
    s.Permits l wr A_PIC_RXPOP 1#32 ∧ p.rxq = e :: rest := by
  decide +kernel

theorem wit_RingFrames_9 :
    let s : State := wPic [(F_LNK_STAT_HOLDER, 1)] fun p => { p with txB := { freeAt := 1, queue := [⟨3, wFrame 0x10 1, true, 0⟩, ⟨4, wFrame 0x11 1, true, 0⟩] } }
    let l : LaneId := .a
    let L := s.lane l
    let p := L.pic
    let run := L.up .pic = true ∧ L.picOn = true
    let wrapped := (L.b F_PIC_STAT_UWRAP || L.b F_PIC_STAT_DWRAP) = true
    let ringB := true
    let fr : PicFrame := { wFrame 0x10 256 with hops := 63 }
    run ∧ fr.payload.length ≤ 256 ∧ ftFw fr.type = true ∧ fr.src ≠ L.pos ∧ (fr.dst = 0xFF ∨ fr.dst = L.pos.val) ∧ p.rxq.length < 32 ∧ L.holder = true ∧
      ¬ wrapped ∧ fr.hops < 64 ∧ p.clk < (L.tx ringB).freeAt ∧ ((L.tx ringB).queue.filter fun o => o.rank == 3).length < 2 := by
  decide +kernel

theorem wit_RingFrames_10 :
    let s : State := wPic [(F_LNK_STAT_HOLDER, 1)] fun p => { p with txB := { freeAt := 1, queue := [⟨3, wFrame 0x10 1, true, 0⟩, ⟨3, wFrame 0x11 1, true, 0⟩] } }
    let l : LaneId := .a
    let L := s.lane l
    let p := L.pic
    let run := L.up .pic = true ∧ L.picOn = true
    let wrapped := (L.b F_PIC_STAT_UWRAP || L.b F_PIC_STAT_DWRAP) = true
    let ringB := true
    let fr : PicFrame := { wFrame 0x10 256 with hops := 63 }
    run ∧ fr.payload.length ≤ 256 ∧ ftFw fr.type = true ∧ fr.src ≠ L.pos ∧ (fr.dst = 0xFF ∨ fr.dst = L.pos.val) ∧ p.rxq.length < 32 ∧ L.holder = true ∧
      ¬ wrapped ∧ fr.hops < 64 ∧ p.clk < (L.tx ringB).freeAt ∧ 2 ≤ ((L.tx ringB).queue.filter fun o => o.rank == 3).length := by
  decide +kernel

theorem wit_RingRoles_0 :
    let s : State := wPic [] id
    let l : LaneId := .a
    let up : Bool := true
    let L := s.lane l
    let run := L.up .pic = true ∧ L.picOn = true
    run ∧ (L.port up).okAt = none := by
  decide +kernel

theorem wit_RingRoles_1 :
    let s : State := wPic [] id
    let l : LaneId := .a
    let L := s.lane l
    let run := L.up .pic = true ∧ L.picOn = true
    let rxok : Bool := false
    let leave : Bool := false
    run ∧ (leave = true ∨ rxok = false) := by
  decide +kernel

theorem wit_RingRoles_2 :
    let s : State := wPic [(F_PIC_STAT_UWRAP, 1)] fun p => { p with up := { asked := some 5 } }
    let l : LaneId := .a
    let up : Bool := true
    let L := s.lane l
    let run := L.up .pic = true ∧ L.picOn = true
    let t := 5
    run ∧ L.b (portWrapF up) = true ∧ (L.port up).asked = some t := by
  decide +kernel

theorem wit_RingRoles_3 :
    let s : State := wAnd (wPic [(F_PIC_STAT_UWRAP, 1)] fun p => { p with up := { okAt := some 0 } }) fun L => { L with gtime := 100000 }
    let l : LaneId := .a
    let up : Bool := true
    let L := s.lane l
    let run := L.up .pic = true ∧ L.picOn = true
    run ∧ L.b (portWrapF up) = true ∧ (L.port up).okAt = some 0 ∧ 0 + 100000 ≤ L.gtime := by
  decide +kernel

theorem wit_RingRoles_4 :
    let s : State := wAnd (wPic [(F_PIC_STAT_UWRAP, 1)] fun p => { p with up := { agreed := some 5 } }) fun L => { L with gtime := 5 }
    let l : LaneId := .a
    let up : Bool := true
    let L := s.lane l
    L.up .pic = true ∧ L.b (portWrapF up) = true ∧ (L.port up).agreed = some 5 ∧ 5 ≤ L.gtime := by
  decide +kernel

theorem wit_RingRoles_5 :
    let s : State := wPic [(F_PIC_STAT_UWRAP, 1)] fun p => { p with up := { asked := some 5 } }
    let l : LaneId := .a
    let up : Bool := true
    let L := s.lane l
    L.up .pic = true ∧ L.b (portWrapF up) = true ∧ (L.port up).asked.isSome = true ∧ (L.port up).agreed = none := by
  decide +kernel

theorem wit_RingRoles_6 :
    let s : State := wPic [] id
    let l : LaneId := .a
    let L := s.lane l
    let run := L.up .pic = true ∧ L.picOn = true
    run ∧ L.f F_PIC_STAT_ROLE ≠ roleMaster := by
  decide +kernel

theorem wit_RingRoles_7 :
    let s : State := wPic [(⟨A_PIC_SEEN, 31, 0⟩, 0x10)] id
    let l : LaneId := .a
    let L := s.lane l
    let g := (4 : GroupPos)
    L.up .pic = true ∧ L.posBit F_PIC_SEEN_M g = true := by
  decide +kernel

theorem wit_RingRoles_8 :
    let s : State := wPic [(F_PIC_STAT_ROLE, roleMaster), (F_PIC_STAT_SV, 1), (F_PIC_STAT_SPOS, 2), (F_PIC_STAT_POS, 3)] id
    let l : LaneId := .a
    let L := s.lane l
    L.up .pic = true ∧ L.f F_PIC_STAT_ROLE = roleMaster ∧ L.b F_PIC_STAT_SV = true ∧ L.f F_PIC_STAT_SPOS < L.pos.val := by
  decide +kernel

theorem wit_RingRoles_9 :
    let s : State := wPic [(F_PIC_CTRL_CAND, 1)] id
    let l : LaneId := .a
    let L := s.lane l
    let p := L.pic
    let run := L.up .pic = true ∧ L.picOn = true
    run ∧ L.b F_PIC_STAT_MV = false ∧ L.b F_PIC_STAT_SV = false ∧ L.b F_PIC_CTRL_CAND = true ∧ p.dup = false ∧
      (∀ g : GroupPos, L.posBit F_PIC_CANDS_M g = true → L.pos.val ≤ g.val) := by
  decide +kernel

theorem wit_RingRoles_10 :
    let s : State := wPic [(F_PIC_STAT_JOINED, 1)] id
    let l : LaneId := .a
    let wr : Writer := .eng 3
    let L := s.lane l
    s.Permits l wr A_PIC_CTRL (setBits (L.rwWord A_PIC_CTRL) 3 0 1) ∧ L.b F_PIC_STAT_JOINED = true := by
  decide +kernel

theorem wit_RingRoles_11 :
    let s : State := wPic [] fun p => { p with leaving := true }
    let l : LaneId := .a
    let L := s.lane l
    let p := L.pic
    L.up .pic = true ∧ p.leaving = true := by
  decide +kernel

theorem wit_RingRoles_12 :
    let s : State := wPic [] id
    let l : LaneId := .a
    let L := s.lane l
    L.up .pic = true ∧ L.b F_PIC_EQCFG_ADAPT = false := by
  decide +kernel

theorem wit_RingRoles_13 :
    let s : State := wAnd (wPic [(F_PIC_STAT_UWRAP, 1)] fun p => { p with up := { okAt := some 1, agreed := some 100001 } }) fun L => { L with gtime := 100000 }
    let l : LaneId := .a
    let up : Bool := true
    let L := s.lane l
    let run := L.up .pic = true ∧ L.picOn = true
    run ∧ L.b (portWrapF up) = true ∧ ((L.port up).okAt = some 1 ∧ L.gtime < 1 + 100000) ∧ (L.port up).agreed = some 100001 ∧ L.gtime < 100001 := by
  decide +kernel

theorem wit_RingRoles_14 :
    let s : State := wPic [(F_PIC_EQCFG_ADAPT, 1), (F_PIC_EQCFG_EQMIN, 2), (F_PIC_EQCFG_EQMAX, 4), (F_PIC_PORTS_EQU, 3)] fun p => { p with eqBegun := true }
    let l : LaneId := .a
    let up : Bool := true
    let L := s.lane l
    let lo := L.f F_PIC_EQCFG_EQMIN
    let hi := L.f F_PIC_EQCFG_EQMAX
    let cur := if L.pic.eqBegun then L.f F_PIC_PORTS_EQU else L.f F_PIC_EQCFG_EQFIX
    L.up .pic = true ∧ L.b F_PIC_EQCFG_ADAPT = true ∧ (L.port up).broken = false ∧ lo ≤ cur ∧ cur ≤ hi ∧ cur < hi ∧ lo < cur := by
  decide +kernel

theorem wit_RingRoles_15 :
    let s : State := wPic [(F_PIC_EQCFG_ADAPT, 1), (F_PIC_EQCFG_EQMIN, 2), (F_PIC_EQCFG_EQMAX, 3), (F_PIC_PORTS_EQU, 3)] fun p => { p with eqBegun := true }
    let l : LaneId := .a
    let up : Bool := true
    let L := s.lane l
    let lo := L.f F_PIC_EQCFG_EQMIN
    let hi := L.f F_PIC_EQCFG_EQMAX
    let cur := if L.pic.eqBegun then L.f F_PIC_PORTS_EQU else L.f F_PIC_EQCFG_EQFIX
    L.up .pic = true ∧ L.b F_PIC_EQCFG_ADAPT = true ∧ (L.port up).broken = false ∧ lo ≤ cur ∧ cur ≤ hi ∧ hi = cur := by
  decide +kernel

theorem wit_RingRoles_16 :
    let s : State := wPic [(F_PIC_EQCFG_ADAPT, 1), (F_PIC_EQCFG_EQMIN, 2), (F_PIC_EQCFG_EQMAX, 3), (F_PIC_PORTS_EQU, 3)] fun p => { p with eqBegun := true, up := { broken := true } }
    let l : LaneId := .a
    let up : Bool := true
    let L := s.lane l
    let lo := L.f F_PIC_EQCFG_EQMIN
    let hi := L.f F_PIC_EQCFG_EQMAX
    let cur := if L.pic.eqBegun then L.f F_PIC_PORTS_EQU else L.f F_PIC_EQCFG_EQFIX
    L.up .pic = true ∧ L.b F_PIC_EQCFG_ADAPT = true ∧ (L.port up).broken = true ∧ lo ≤ hi := by
  decide +kernel

set_option maxRecDepth 1000000 in
theorem wit_SessionCommands_0 :
    let s : State := wCred 1 w0
    let l : LaneId := .a
    let e : Eng := 3
    let n : SessNo := 0
    let role : Role := .opr
    let L := s.lane l
    s.Permits l (.eng e) (A_SYS_SESSCTL n.val) (BitVec.ofNat 32 (0x10000000 + role.num * 0x1000000)) ∧ role ≠ .none ∧ L.hasCred role.num = true ∧
      L.sst n = ssIdle ∧ (∀ m, L.sessEng m ≠ some e) := by
  decide +kernel

theorem wit_SessionCommands_1 :
    let s : State := wAnd (wChal (wA (wSn ssChallenged 1))) fun L => wResp (wAns L) L
    let l : LaneId := .a
    let e : Eng := 3
    let n : SessNo := 0
    let L := s.lane l
    let ctl (c : Nat) : Word := BitVec.ofNat 32 (c * 0x10000000)
    let r := L.f (F_SYS_SESSSTAT_ROLE n.val)
    s.Permits l (.eng e) (A_SYS_SESSCTL n.val) (ctl 2) ∧ L.sst n = ssChallenged ∧ L.sessEng n = some e ∧ L.sess[n].pending = true ∧
      L.auth.locked[roleIx r] = false ∧ L.respOk l n r = true := by
  refine ⟨by decide +kernel, by decide +kernel, by decide +kernel, by decide +kernel, by decide +kernel, ?_⟩
  exact respOk_wResp (wChal (wA (wSn ssChallenged 1))).laneA (by decide +kernel)

theorem wit_SessionCommands_2 :
    let s : State := wChal (wA (wSn ssChallenged 3))
    let l : LaneId := .a
    let e : Eng := 3
    let n : SessNo := 0
    let L := s.lane l
    let ctl (c : Nat) : Word := BitVec.ofNat 32 (c * 0x10000000)
    let r := L.f (F_SYS_SESSSTAT_ROLE n.val)
    s.Permits l (.eng e) (A_SYS_SESSCTL n.val) (ctl 2) ∧ L.sst n = ssChallenged ∧ L.sessEng n = some e ∧ L.sess[n].pending = true ∧
      L.auth.locked[roleIx r] = false ∧ L.respOk l n r = false := by
  decide +kernel

theorem wit_SessionCommands_3 :
    let s : State := wA (wSn ssChallenged 1)
    let l : LaneId := .a
    let e : Eng := 3
    let n : SessNo := 0
    let L := s.lane l
    let ctl (c : Nat) : Word := BitVec.ofNat 32 (c * 0x10000000)
    s.Permits l (.eng e) (A_SYS_SESSCTL n.val) (ctl 3) ∧ L.sessEng n = some e := by
  decide +kernel

theorem wit_SessionCommands_4 :
    let s : State := wA (wSn ssGranted 1)
    let l : LaneId := .a
    let e : Eng := 3
    let n : SessNo := 0
    let L := s.lane l
    let ctl (c : Nat) : Word := BitVec.ofNat 32 (c * 0x10000000)
    s.Permits l (.eng e) (A_SYS_SESSCTL n.val) (ctl 4) ∧ L.sst n = ssGranted ∧ L.sessEng n = some e := by
  decide +kernel

theorem wit_SessionCommands_5 :
    let s : State := w0
    let l : LaneId := .a
    let e : Eng := 3
    let role : Role := .opr
    let L := s.lane l
    s.Permits l (.eng e) A_SYS_CREDCTL (BitVec.ofNat 32 (0x10000000 + role.num * 0x1000000)) ∧
      (L.eng[e].krole = .mkr ∨ L.noMkrKey = true ∧ role = .mkr) ∧ role ≠ .none ∧ L.clRoom = true := by
  decide +kernel

theorem wit_SessionEndsAndUsbPins_0 :
    let s : State := wA (wSn ssGranted 1)
    let l : LaneId := .a
    let n : SessNo := 0
    let L := s.lane l
    let e := 3
    L.spine = true ∧ L.sessEng n = some e := by
  decide +kernel

theorem wit_SessionEndsAndUsbPins_1 :
    let s : State := w0
    let l : LaneId := .a
    let L := s.lane l
    let role : Role := .ins
    role ≠ .none ∧ L.spine = true := by
  decide +kernel

theorem wit_SessionEndsAndUsbPins_2 :
    let s : State := wHold
    let l : LaneId := .a
    let L := s.lane l
    L.spine = true ∧ L.holder = true := by
  decide +kernel

theorem wit_ServiceRefusals_0 :
    let s : State := wSv 0
    let l : LaneId := .a
    let n : SessNo := 0
    let L := s.lane l
    let frame : Bytes := [0x7E#8, 0x7D#8, 1#8, 1#8]
    let units : List SvcUnit := (svcUnits 0 frame).map .usb
    L.svcUp n = true ∧ svcUnframe n (units.filterMap (svcTaken L n)) = some (frame, true) ∧ frame.length ≤ 4174 ∧ frame ≠ [] := by
  decide +kernel

theorem wit_ServiceRefusals_6 :
    svcUnframe 1 (([] : List SvcUnit).filterMap (svcTaken w0.laneA 1)) = none ∧ (svcTaken w0.laneA 1 (.can { id := 0x6A0#29, ide := false, fdf := true, brs := true, rtr := false, esi := false, dlc := 15, data := List.replicate 64 0, tsof := 0, settle := 0 })).isSome = true ∧
      let f : Bytes := svcResponse 0x1234 0x10 stOk 0 (List.replicate 100 7#8)
      f.length = 14 + leNat ((f.drop 8).take 2) := by
  decide +kernel

theorem wit_ServiceSessions_0 :
    let s : State := wSv 0
    let l : LaneId := .a
    let n : SessNo := 0
    let field : LaneField := .holder
    s.Serves l n field 0x01 0 := by
  decide +kernel

set_option maxRecDepth 1000000 in
theorem wit_ServiceSessions_1 :
    let s : State := wCred 1 (wSv 0)
    let l : LaneId := .a
    let n : SessNo := 0
    let field : LaneField := .holder
    let role : Role := .opr
    let L := s.lane l
    let e := L.svcEng n
    s.Serves l n field 0x02 0 ∧ s.Permits l (.eng e) (A_SYS_SESSCTL n.val) (BitVec.ofNat 32 (0x10000000 + role.num * 0x1000000)) ∧ role ≠ .none ∧
      L.hasCred role.num = true ∧ L.sst n = ssIdle ∧ (∀ m, L.sessEng m ≠ some e) := by
  decide +kernel

set_option maxRecDepth 1000000 in
theorem wit_ServiceSessions_2 :
    let s : State := wChal (wSv 1 [(F_SYS_SESSSTAT_STATE 0, ssChallenged)])
    let l : LaneId := .a
    let n : SessNo := 0
    let field : LaneField := .holder
    let L := s.lane l
    let e := L.svcEng n
    let ctl (c : Nat) : Word := BitVec.ofNat 32 (c * 0x10000000)
    let resp : Bytes := (wAns (wChal (wSv 1 [(F_SYS_SESSSTAT_STATE 0, ssChallenged)])).laneA)
    let r := L.f (F_SYS_SESSSTAT_ROLE n.val)
    let filled := L.updSess n fun x => { x with resp := Vector.ofFn fun k : Fin 16 => listGet 0 (bytesWords 16 resp) k.val }
    s.Serves l n field 0x03 0 ∧ s.Permits l (.eng e) (A_SYS_SESSCTL n.val) (ctl 2) ∧
      (∀ k, k < 16 → s.Permits l (.eng e) (A_SYS_RESP n.val k) (listGet 0 (bytesWords 16 resp) k)) ∧ L.sst n = ssChallenged ∧ L.sessEng n = some e ∧
      L.sess[n].pending = true ∧ L.auth.locked[roleIx r] = false ∧ filled.respOk l n r = true := by
  refine ⟨by decide +kernel, by decide +kernel, fun k hk => permits_resp _ rfl ⟨k, hk⟩ _, by decide +kernel, by decide +kernel, by decide +kernel, by decide +kernel, ?_⟩
  have hr : (wChal (wSv 1 [(F_SYS_SESSSTAT_STATE 0, ssChallenged)])).laneA.f (F_SYS_SESSSTAT_ROLE 0) = 1 := by decide +kernel
  show Lane.respOk (wResp (wAns (wChal (wSv 1 [(F_SYS_SESSSTAT_STATE 0, ssChallenged)])).laneA) _) .a 0 (Lane.f (wChal (wSv 1 [(F_SYS_SESSSTAT_STATE 0, ssChallenged)])).laneA (F_SYS_SESSSTAT_ROLE 0)) = true
  rw [hr]
  exact respOk_of _ _ _ rfl rfl

set_option maxRecDepth 1000000 in
theorem wit_ServiceSessions_3 :
    let s : State := wChal (wSv 3 [(F_SYS_SESSSTAT_STATE 0, ssChallenged)])
    let l : LaneId := .a
    let n : SessNo := 0
    let field : LaneField := .holder
    let L := s.lane l
    let e := L.svcEng n
    let ctl (c : Nat) : Word := BitVec.ofNat 32 (c * 0x10000000)
    let resp : Bytes := ([] : Bytes)
    let r := L.f (F_SYS_SESSSTAT_ROLE n.val)
    let filled := L.updSess n fun x => { x with resp := Vector.ofFn fun k : Fin 16 => listGet 0 (bytesWords 16 resp) k.val }
    s.Serves l n field 0x03 0 ∧ s.Permits l (.eng e) (A_SYS_SESSCTL n.val) (ctl 2) ∧
      (∀ k, k < 16 → s.Permits l (.eng e) (A_SYS_RESP n.val k) (listGet 0 (bytesWords 16 resp) k)) ∧ L.sst n = ssChallenged ∧ L.sessEng n = some e ∧
      L.sess[n].pending = true ∧ L.auth.locked[roleIx r] = false ∧ filled.respOk l n r = false := by
  decide +kernel

theorem wit_ServiceSessions_4 :
    let s : State := wSv 1
    let l : LaneId := .a
    let n : SessNo := 0
    let field : LaneField := .holder
    let L := s.lane l
    let e := L.svcEng n
    let ctl (c : Nat) : Word := BitVec.ofNat 32 (c * 0x10000000)
    s.Serves l n field 0x04 0 ∧ s.Permits l (.eng e) (A_SYS_SESSCTL n.val) (ctl 3) ∧ L.sessEng n = some e := by
  decide +kernel

theorem wit_ServiceSessions_5 :
    let s : State := wSv 1
    let l : LaneId := .a
    let n : SessNo := 0
    let field : LaneField := .holder
    let L := s.lane l
    let e := L.svcEng n
    let ctl (c : Nat) : Word := BitVec.ofNat 32 (c * 0x10000000)
    s.Serves l n field 0x05 1 ∧ s.Permits l (.eng e) (A_SYS_SESSCTL n.val) (ctl 4) ∧ L.sessEng n = some e := by
  decide +kernel

set_option maxRecDepth 1000000 in
theorem wit_ServiceSessions_6 :
    let s : State := wSv 3
    let l : LaneId := .a
    let n : SessNo := 0
    let field : LaneField := .holder
    let role : Role := .opr
    let L := s.lane l
    let e := L.svcEng n
    let data : Bytes := (List.replicate 48 7#8)
    s.Serves l n field 0x50 0 ∧ (3 ≤ L.svcRole n ∨ (L.noMkrKey = true ∧ role = .mkr ∧ n = 0)) ∧ role ≠ .none ∧
      data.length = (if role = .mkr then 64 else 48) ∧ s.Permits l (.eng e) A_SYS_CREDCTL (BitVec.ofNat 32 (0x10000000 + role.num * 0x1000000)) ∧
      (L.eng[e].krole = .mkr ∨ (L.noMkrKey = true ∧ role = .mkr)) ∧
      (∀ k, k < 8 → s.Permits l (.eng e) (A_SYS_CREDDATA 0 k) (listGet 0 (bytesWords 16 data) k)) ∧
      (∀ k, k < 8 → s.Permits l (.eng e) (A_SYS_CREDDATA 1 k) (listGet 0 (bytesWords 16 data) (8 + k))) ∧ L.log.clN + 18 ≤ L.clLimit := by
  refine ⟨by decide +kernel, by decide +kernel, by decide +kernel, by decide +kernel, by decide +kernel, by decide +kernel, fun k hk => ?_, fun k hk => ?_, by decide +kernel⟩
  · exact (by decide +kernel : ∀ k : Fin 8, (wSv 3).Permits .a (.eng 7) (A_SYS_CREDDATA 0 k.val) (listGet 0 (bytesWords 16 (List.replicate 48 7#8)) k.val)) ⟨k, hk⟩
  · exact (by decide +kernel : ∀ k : Fin 8, (wSv 3).Permits .a (.eng 7) (A_SYS_CREDDATA 1 k.val) (listGet 0 (bytesWords 16 (List.replicate 48 7#8)) (8 + k.val))) ⟨k, hk⟩

theorem wit_ServiceSessions_7 :
    let s : State := wSv 0
    let l : LaneId := .a
    let n : SessNo := 0
    let field : LaneField := .holder
    s.Serves l n field 0x41 0 := by
  decide +kernel

theorem wit_ServiceAccess_0 :
    let s : State := wSv 1
    let l : LaneId := .a
    let n : SessNo := 0
    let field : LaneField := .holder
    let L := s.lane l
    let e := L.svcEng n
    let a := A_LNK_STAT
    s.Serves l n field 0x10 1 ∧ (rowOf a).isSome = true ∧ a % 4 = 0 ∧ L.regGate (some e) a = none := by
  decide +kernel

theorem wit_ServiceAccess_1 :
    let s : State := wSv 1
    let l : LaneId := .a
    let n : SessNo := 0
    let field : LaneField := .holder
    let count := 64
    s.Serves l n field 0x10 1 ∧ 1 ≤ count ∧ count ≤ 64 := by
  decide +kernel

theorem wit_ServiceAccess_2 :
    let s : State := wSv 2
    let l : LaneId := .a
    let n : SessNo := 0
    let field : LaneField := .holder
    let a := A_LNK_STAT
    s.Serves l n field 0x11 2 ∧ (rowOf a).isSome = true ∧ a % 4 = 0 := by
  decide +kernel

theorem wit_ServiceAccess_3 :
    let s : State := wSv 1
    let l : LaneId := .a
    let n : SessNo := 0
    let field : LaneField := .holder
    let table := 1
    let buf := false
    let first := 5
    let count := 124
    let off := 0x20000
    let size := 32
    let k := 128
    s.Serves l n field 0x12 1 ∧ svcTable table buf = some (off, size, k) ∧ first < k ∧ 0 < count := by
  decide +kernel

theorem wit_ServiceAccess_4 :
    let s : State := wSv 2
    let l : LaneId := .a
    let n : SessNo := 0
    let field : LaneField := .holder
    let L := s.lane l
    let table := 2
    let buf := false
    let first := 5
    let data := (List.replicate 16 1#8)
    let off := 0x21000
    let size := 16
    let k := 512
    s.Serves l n field 0x13 2 ∧ svcTable table buf = some (off, size, k) ∧ 2 ≤ table ∧ table ≤ 5 ∧ data.length % size = 0 ∧
      first + data.length / size ≤ k ∧ L.svcSelected table buf first (data.length / size) = true := by
  decide +kernel

theorem wit_ServiceAccess_5 :
    let s : State := wSv 2
    let l : LaneId := .a
    let n : SessNo := 0
    let field : LaneField := .holder
    let L := s.lane l
    let table := 2
    let buf := true
    let first := 511
    let data := (List.replicate 16 1#8)
    let off := 0x23000
    let size := 16
    let k := 512
    s.Serves l n field 0x13 2 ∧ svcTable table buf = some (off, size, k) ∧ 2 ≤ table ∧ table ≤ 5 ∧ data.length % size = 0 ∧
      first + data.length / size ≤ k ∧ L.svcSelected table buf first (data.length / size) = false ∧ L.gateState 4 = gOpen := by
  decide +kernel

theorem wit_ServiceAccess_6 :
    let s : State := wSv 1
    let l : LaneId := .a
    let n : SessNo := 0
    let field : LaneField := .holder
    let L := s.lane l
    let e := L.svcEng n
    let bit (a k : Nat) (b : Bool) : Word := setBits (L.rwWord a) k k b.toNat
    s.Serves l n field 0x14 1 ∧ L.log.evN < 64 ∧ 4 ≤ L.wer.pool.length ∧ (∀ b : Bool, s.Permits l (.eng e) (A_PRK_LANDX 255) (bit (A_PRK_LANDX 255) 0 b)) ∧
      (∀ b : Bool, s.Permits l (.eng e) A_SEL_CTRL (bit A_SEL_CTRL 0 b)) ∧ ∀ d : Door, L.dorSt d ≠ dsFault := by
  decide +kernel

theorem wit_ServiceAccess_7 :
    let s : State := wSv 2 [(F_LNK_STAT_PSTATE, lsHalted)]
    let l : LaneId := .a
    let n : SessNo := 0
    let field : LaneField := .holder
    let L := s.lane l
    let e := L.svcEng n
    s.Serves l n field 0x15 2 ∧ s.Permits l (.eng e) A_LNK_CTRL 4#32 ∧ (L.eng[e].krole = .ins ∨ L.eng[e].krole = .mkr) ∧ L.pstate = lsHalted := by
  decide +kernel

theorem wit_ServiceAccess_8 :
    let s : State := wSv 1
    let l : LaneId := .a
    let n : SessNo := 0
    let field : LaneField := .holder
    let log := 0
    let count := 3
    s.Serves l n field 0x20 1 ∧ log ≤ 2 ∧ 1 ≤ count ∧ count ≤ 128 := by
  decide +kernel

theorem wit_ServiceAccess_9 :
    let s : State := wAnd (wSv 3) fun L => { L with wer := { L.wer with safLink := some [1#8] } }
    let l : LaneId := .a
    let n : SessNo := 0
    let field : LaneField := .holder
    let L := s.lane l
    let link := ([1#8] : Bytes)
    s.Serves l n field 0x21 3 ∧ L.wer.safLink = some link ∧ L.f F_SEB_SESS_STATE = 0 ∧ L.log.archiving = false := by
  decide +kernel

theorem wit_ServiceAccess_10 :
    let s : State := wAnd w0 fun L => { L with log := { L.log with archiving := true }, svc := L.svc.set 0 { busy := some (7, 0x21) } }
    let l : LaneId := .a
    let n : SessNo := 0
    let L := s.lane l
    L.up (.eng 10) = true ∧ L.eng[10].phase = .running ∧ L.log.archiving = true ∧ L.svcBusyOp 0x21 = some n := by
  decide +kernel

theorem wit_ServiceAccess_16 :
    let s : State := wAnd w0 fun L => { L with log := { L.log with archiving := true } }
    let l : LaneId := .a
    let L := s.lane l
    L.up (.eng 10) = true ∧ L.eng[10].phase = .running ∧ L.log.archiving = true ∧ L.svcBusyOp 0x21 = none := by
  decide +kernel

theorem wit_ServiceAccess_11 :
    let s : State := wSv 2
    let l : LaneId := .a
    let n : SessNo := 0
    let field : LaneField := .holder
    let L := s.lane l
    let e := L.svcEng n
    let landing : Landing := 5
    let v := 1#32
    s.Serves l n field 0x11 2 ∧ s.Permits l (.eng e) (A_PRK_LANDX landing.val) v := by
  decide +kernel

theorem wit_ServiceAccess_12 :
    let s : State := wTs [(0x20000, 0x105)] (wAnd (wSv 1) fun L => { L with prk := { L.prk with pub := [0, 0, 0, 0x01000000] } })
    let l : LaneId := .a
    let n : SessNo := 0
    let field : LaneField := .holder
    let L := s.lane l
    let e := L.svcEng n
    let bit (a k : Nat) (b : Bool) : Word := setBits (L.rwWord a) k k b.toNat
    let count := bits (listGet 0 L.prk.pub 3) 31 24
    s.Serves l n field 0x14 1 ∧ L.log.evN < 64 ∧ 4 ≤ L.wer.pool.length ∧ count = 1 ∧
      (∀ b : Bool, s.Permits l (.eng e) (A_PRK_CVIEW 0) (bit (A_PRK_CVIEW 0) 18 b) ∧
        (s.toWorld.svcWrite l e (A_PRK_CVIEW 0) (bit (A_PRK_CVIEW 0) 18 b)).1.Permits l (.eng e) A_PRK_SLPUB (BitVec.ofNat 32 count)) ∧
      (∀ i, i < min 128 count → slOk (slWord L i 0) (slWord L i 1) = true) := by
  decide +kernel

theorem wit_ServiceAccess_13 :
    let s : State := wSv 1 [(F_DOR_STAT_STATE 1, dsFault), (F_DOR_STAT_FCAUSE 1, fcRefTmo)]
    let l : LaneId := .a
    let n : SessNo := 0
    let field : LaneField := .holder
    let L := s.lane l
    let e := L.svcEng n
    let bit (a k : Nat) (b : Bool) : Word := setBits (L.rwWord a) k k b.toNat
    let d : Door := 1
    s.Serves l n field 0x14 1 ∧ L.log.evN < 64 ∧ 4 ≤ L.wer.pool.length ∧ L.dorSt d = dsFault ∧ (∀ k : Door, k ≠ d → L.dorSt k ≠ dsFault) ∧
      s.Permits l (.eng e) (A_DOR_CMD d.val) 0x80000000#32 ∧ (L.f (F_DOR_STAT_FCAUSE d.val) = fcCap ∨ L.f (F_DOR_STAT_FCAUSE d.val) = fcRefTmo) := by
  decide +kernel

theorem wit_ServiceAccess_14 :
    let s : State := wAnd (wSv 1) fun L => { L with log := { L.log with evN := 64 } }
    let l : LaneId := .a
    let n : SessNo := 0
    let field : LaneField := .holder
    s.Serves l n field 0x14 1 ∧ (s.lane l).evFull = true := by
  decide +kernel

theorem wit_ServiceAccess_15 :
    let s : State := wAnd (wSv 3) fun L => { L with wer := { L.wer with safLink := some [1#8] }, log := { L.log with archiving := true } }
    let l : LaneId := .a
    let n : SessNo := 0
    let field : LaneField := .holder
    let L := s.lane l
    let link := ([1#8] : Bytes)
    s.Serves l n field 0x21 3 ∧ L.wer.safLink = some link ∧ L.f F_SEB_SESS_STATE = 0 ∧ L.log.archiving = true := by
  decide +kernel

theorem wit_ServiceImagesAndReports_0 :
    let s : State := wLd 3
    let l : LaneId := .a
    let n : SessNo := 0
    let field : LaneField := .holder
    let L := s.lane l
    let len := 0x300001
    let loader := L.b F_LNK_UPDSTAT_LOADER = true
    s.Serves l n field 0x30 3 ∧ 0 < len ∧ loader := by
  decide +kernel

theorem wit_ServiceImagesAndReports_1 :
    let s : State := wSv 3 [(F_SPG_STAT_STATE, spgIdle), (F_LNK_PHEALTH_D, 0x04000000)]
    let l : LaneId := .a
    let n : SessNo := 0
    let field : LaneField := .holder
    let L := s.lane l
    let e := L.svcEng n
    let loader := L.b F_LNK_UPDSTAT_LOADER = true
    s.Serves l n field 0x30 3 ∧ ¬ loader ∧ s.Permits l (.eng e) A_LNK_UPD 1#32 ∧ L.lnk.updActive = false ∧ L.partnerElig = true ∧ L.spgSt = spgIdle ∧
      L.ps 0 = psOff ∧ L.ps 1 = psOff := by
  decide +kernel

theorem wit_ServiceImagesAndReports_2 :
    let s : State := wAnd (wLd 3) fun L => { L with img := { active := true, len := 8192 } }
    let l : LaneId := .a
    let n : SessNo := 0
    let field : LaneField := .holder
    let L := s.lane l
    let loader := L.b F_LNK_UPDSTAT_LOADER = true
    let off := 4096
    let data := ([1#8, 2#8] : Bytes)
    let crc := (crc32 [1#8, 2#8])
    s.Serves l n field 0x31 3 ∧ L.img.active = true ∧ off % 4096 = 0 ∧ off < L.img.len ∧ data ≠ [] ∧ data.length ≤ 4096 ∧
      L.img.acked.contains off = false ∧ L.img.sent = none ∧ loader ∧ crc32 data = crc ∧ off + data.length ≤ 0x300000 := by
  decide +kernel

theorem wit_ServiceImagesAndReports_3 :
    let s : State := wAnd (wSv 3) fun L => { L with img := { active := true, len := 8192 } }
    let l : LaneId := .a
    let n : SessNo := 0
    let field : LaneField := .holder
    let L := s.lane l
    let loader := L.b F_LNK_UPDSTAT_LOADER = true
    let off := 4096
    let data := ([1#8, 2#8] : Bytes)
    s.Serves l n field 0x31 3 ∧ L.img.active = true ∧ off % 4096 = 0 ∧ off < L.img.len ∧ data ≠ [] ∧ data.length ≤ 4096 ∧
      L.img.acked.contains off = false ∧ L.img.sent = none ∧ ¬ loader := by
  decide +kernel

theorem wit_ServiceImagesAndReports_4 :
    let s : State := wAnd (wLd 3) fun L => { L with img := { active := true, len := 4096, acked := [0] } }
    let l : LaneId := .a
    let n : SessNo := 0
    let field : LaneField := .holder
    let L := s.lane l
    let loader := L.b F_LNK_UPDSTAT_LOADER = true
    s.Serves l n field 0x32 3 ∧ L.img.whole = true ∧ loader ∧ L.phase ≠ .off := by
  decide +kernel

theorem wit_ServiceImagesAndReports_5 :
    let s : State := wAnd (wSv 3) fun L => { L with img := { active := true, len := 4096, acked := [0] }, lnk := { L.lnk with updActive := true } }
    let l : LaneId := .a
    let n : SessNo := 0
    let field : LaneField := .holder
    let L := s.lane l
    let e := L.svcEng n
    let loader := L.b F_LNK_UPDSTAT_LOADER = true
    s.Serves l n field 0x32 3 ∧ L.img.whole = true ∧ ¬ loader ∧ s.Permits l (.eng e) A_LNK_UPD 2#32 ∧ L.lnk.updActive = true := by
  decide +kernel

theorem wit_ServiceImagesAndReports_6 :
    let s : State := wAnd (wLd 3) fun L => { L with img := { active := true, len := 4096, acked := [0] } }
    let l : LaneId := .a
    let n : SessNo := 0
    let field : LaneField := .holder
    let L := s.lane l
    let loader := L.b F_LNK_UPDSTAT_LOADER = true
    s.Serves l n field 0x33 3 ∧ loader ∧ L.img.active = true := by
  decide +kernel

theorem wit_ServiceImagesAndReports_7 :
    let s : State := wAnd (wSv 3) fun L => { L with img := { active := true, len := 4096, acked := [0] }, lnk := { L.lnk with updActive := true } }
    let l : LaneId := .a
    let n : SessNo := 0
    let field : LaneField := .holder
    let L := s.lane l
    let e := L.svcEng n
    let loader := L.b F_LNK_UPDSTAT_LOADER = true
    s.Serves l n field 0x33 3 ∧ ¬ loader ∧ s.Permits l (.eng e) A_LNK_UPD 3#32 ∧ L.lnk.updActive = true := by
  decide +kernel

theorem wit_ServiceImagesAndReports_8 :
    let s : State := wSv 0 [(F_MEA_STAT_BUSY, 1)]
    let l : LaneId := .a
    let n : SessNo := 0
    let field : LaneField := .holder
    let L := s.lane l
    let nonce : Bytes := (List.replicate 8 5#8)
    s.Serves l n field 0x40 0 ∧ 8 ≤ nonce.length ∧ nonce.length ≤ 32 ∧ L.b F_MEA_STAT_BUSY = true := by
  decide +kernel

set_option maxRecDepth 1000000 in
theorem wit_ServiceImagesAndReports_9 :
    let s : State := wSv 0
    let l : LaneId := .a
    let n : SessNo := 0
    let field : LaneField := .holder
    let L := s.lane l
    let e := L.svcEng n
    let nonce : Bytes := (List.replicate 9 5#8)
    s.Serves l n field 0x40 0 ∧ 8 ≤ nonce.length ∧ nonce.length ≤ 32 ∧ L.b F_MEA_STAT_BUSY = false ∧
      (∀ k, k < 8 → s.Permits l (.eng e) (A_MEA_NONCE k) (listGet 0 (bytesWords 8 nonce) k)) ∧
      s.Permits l (.eng e) A_MEA_CTRL (BitVec.ofNat 32 (0x10000000 + nonce.length * 256)) := by
  refine ⟨by decide +kernel, by decide +kernel, by decide +kernel, by decide +kernel, fun k hk => ?_, by decide +kernel⟩
  exact (by decide +kernel : ∀ k : Fin 8, (wSv 0).Permits .a (.eng 7) (A_MEA_NONCE k.val) (listGet 0 (bytesWords 8 (List.replicate 9 5#8)) k.val)) ⟨k, hk⟩

theorem wit_ServiceImagesAndReports_10 :
    let s : State := wAnd w0 fun L => { L with mea := { L.mea with forming := some (List.replicate 320 1) } }
    let l : LaneId := .a
    let L := s.lane l
    let b := (List.replicate 320 (1#8))
    L.up .mea = true ∧ L.mea.forming = some b ∧ (∀ m : SessNo, L.svc[m].nonce = none) := by
  decide +kernel

theorem wit_ServiceImagesAndReports_11 :
    let s : State := wAnd (wSv 3) fun L => { L with img := { active := true, len := 8192, sent := some 0 } }
    let l : LaneId := .a
    let n : SessNo := 0
    let field : LaneField := .holder
    let L := s.lane l
    let off := 4096
    let data := ([1#8, 2#8] : Bytes)
    s.Serves l n field 0x31 3 ∧ L.img.active = true ∧ off % 4096 = 0 ∧ off < L.img.len ∧ data ≠ [] ∧ data.length ≤ 4096 ∧
      L.img.acked.contains off = false ∧ L.img.sent.isSome = true := by
  decide +kernel

theorem wit_DebugAndMeasurement_0 :
    let s : State := wAnd wHold fun L => { L with lnk := { L.lnk with hbLost := false } }
    let l : LaneId := .a
    let wr : Writer := .eng 3
    let L := s.lane l
    s.Permits l wr A_SYS_DBGCTL 0x80000000#32 ∧ L.b F_SYS_DBGCTL_EN = false ∧ L.holder = true ∧ L.lnk.hbLost = false ∧ L.pstate ≠ lsUpdate := by
  decide +kernel

theorem wit_DebugAndMeasurement_1 :
    let s : State := wHold [(F_SYS_DBGCTL_EN, 1)]
    let l : LaneId := .a
    let wr : Writer := .eng 3
    let L := s.lane l
    s.Permits l wr A_SYS_DBGCTL 0#32 ∧ L.b F_SYS_DBGCTL_EN = true ∧ L.holder = true := by
  decide +kernel

theorem wit_DebugAndMeasurement_2 :
    let s : State := wDbg w0
    let l : LaneId := .a
    let e : Eng := 3
    let L := s.lane l
    let port := L.spine = true ∧ L.b F_SYS_DBGCTL_DBGON = true
    port ∧ L.eng[e].halted = false := by
  decide +kernel

theorem wit_DebugAndMeasurement_3 :
    let s : State := wDbg (wK 3 fun g => { g with halted := true })
    let l : LaneId := .a
    let e : Eng := 3
    let L := s.lane l
    let port := L.spine = true ∧ L.b F_SYS_DBGCTL_DBGON = true
    port ∧ L.eng[e].halted = true ∧ L.up (.eng e) = true ∧ L.eng[e].phase = .running ∧ L.waitOver e = true := by
  decide +kernel

theorem wit_DebugAndMeasurement_4 :
    let s : State := wDbg w0
    let l : LaneId := .a
    let e : Eng := 3
    let a : Nat := 0x20060000
    let L := s.lane l
    let port := L.spine = true ∧ L.b F_SYS_DBGCTL_DBGON = true
    port ∧ OwnWords e a 1 ∧ L.ue.contains a = false := by
  decide +kernel

theorem wit_DebugAndMeasurement_5 :
    let s : State := wDbg w0
    let l : LaneId := .a
    let a : Nat := 0x30000100
    let L := s.lane l
    let port := L.spine = true ∧ L.b F_SYS_DBGCTL_DBGON = true
    port ∧ a % 4 = 0 ∧ tsBase ≤ a ∧ a < tsBase + 0x180000 ∧ L.ue.contains a = false := by
  decide +kernel

theorem wit_DebugAndMeasurement_6 :
    let s : State := wDbg w0
    let l : LaneId := .a
    let a : Nat := A_LNK_STAT
    let L := s.lane l
    let port := L.spine = true ∧ L.b F_SYS_DBGCTL_DBGON = true
    port ∧ a % 4 = 0 ∧ (rowOf a).isSome = true ∧ L.regGate none a = none ∧ L.ue.contains a = false := by
  decide +kernel

theorem wit_DebugAndMeasurement_7 :
    let s : State := w0
    let l : LaneId := .a
    let wr : Writer := .eng 3
    let L := s.lane l
    let nlen : NonceLen := 16
    s.Permits l wr A_MEA_CTRL (BitVec.ofNat 32 (0x10000000 + nlen.val * 256)) ∧ 1 ≤ nlen.val ∧ nlen.val ≤ 32 ∧ L.b F_MEA_STAT_BUSY = false := by
  decide +kernel

theorem wit_DebugAndMeasurement_8 :
    let s : State := wHold [(F_SYS_DBGCTL_EN, 1)]
    let l : LaneId := .a
    let wr : Writer := .eng 3
    let L := s.lane l
    s.Permits l wr A_SYS_DBGCTL 0x80000000#32 ∧ L.holder = true ∧ L.lnk.hbLost = true := by
  decide +kernel

theorem wit_CommandsRefusedByTheirRules_1 :
    let s : State := w0
    let l : LaneId := .a
    let pcr : PcrNo := 6
    s.Permits l (.eng 0) A_MEA_CTRL (BitVec.ofNat 32 (0x20000000 + pcr.val)) ∧ 5 ≤ pcr.val := by
  decide +kernel

theorem wit_CommandsRefusedByTheirRules_2 :
    let s : State := w0
    let l : LaneId := .a
    let pcr : PcrNo := 2
    s.Permits l (.eng 0) A_MEA_CTRL (BitVec.ofNat 32 (0x20000000 + pcr.val)) ∧ pcr.val < 5 := by
  decide +kernel

theorem wit_CommandsRefusedByTheirRules_3 :
    let s : State := w0
    let l : LaneId := .a
    let wr : Writer := .eng 3
    let L := s.lane l
    let pcr : PcrNo := 7
    s.Permits l wr A_MEA_CTRL (BitVec.ofNat 32 (0x20000000 + pcr.val)) ∧ L.writerEng wr ≠ some 0 := by
  decide +kernel

theorem wit_SuppliesAndLaneResets_0 :
    let s : State := wSup fun p => { p with hush := true }
    let p := s.sup
    let live := p.off = false
    live ∧ p.hush = true := by
  decide +kernel

theorem wit_SuppliesAndLaneResets_1 :
    let s : State := wSup id
    let p := s.sup
    let live := p.off = false
    live ∧ getB p.regs F_PWR_STAT_HOLD = false := by
  decide +kernel

theorem wit_SuppliesAndLaneResets_2 :
    let s : State := wSup fun p => { p with xres := true }
    let p := s.sup
    p.xres = true := by
  decide +kernel

theorem wit_SuppliesAndLaneResets_3 :
    let s : State := wSup fun p => { p with regs := setF [] F_PWR_STAT_HOLD 1 }
    let p := s.sup
    let live := p.off = false
    live ∧ getB p.regs F_PWR_STAT_HOLD = true := by
  decide +kernel

theorem wit_SuppliesAndLaneResets_4 :
    let s : State := wAnd (wSup id) fun L => { L with phase := .reset }
    let l : LaneId := .a
    let p := s.sup
    let live := p.off = false
    (s.lane l).phase = .reset ∧ live ∧ p.bor = false ∧ p.xres = false ∧ p.hush = false := by
  decide +kernel

theorem wit_SuppliesAndLaneResets_5 :
    let s : State := wAnd (wSup id) fun L => { L with phase := .waitPll }
    let l : LaneId := .a
    (s.lane l).phase = .waitPll := by
  decide +kernel

theorem wit_SuppliesAndLaneResets_6 :
    let s : State := wAnd (wSup id) fun L => { L with coreLow := 3 }
    let l : LaneId := .a
    3 ≤ (s.lane l).coreLow ∧ (s.lane l).phase ≠ .off ∧ (s.lane l.other).coreLow < 3 := by
  decide +kernel

theorem wit_PowerStates_0 :
    let s : State := wHold [(F_SPG_STAT_STATE, spgIdle)]
    let l : LaneId := .a
    let wr : Writer := .eng 3
    let L := s.lane l
    let p := s.sup
    s.Permits l wr A_PWR_CTRL 1#32 ∧ p.entering = false ∧ L.f F_PWR_STAT_STATE ≠ pwrDoze ∧ s.dozeOk l = true := by
  decide +kernel

theorem wit_PowerStates_1 :
    let s : State := wHold [(F_PWR_STAT_STATE, pwrDoze)]
    let l : LaneId := .a
    let wr : Writer := .eng 0
    let L := s.lane l
    s.Permits l wr A_PWR_CTRL 3#32 ∧ L.f F_PWR_STAT_STATE = pwrDoze := by
  decide +kernel

theorem wit_PowerStates_2 :
    let s : State := wHold [(F_SPG_STAT_STATE, spgIdle), (F_LNK_PHEALTH_D, 0x04000000)]
    let l : LaneId := .a
    let wr : Writer := .eng 3
    let p := s.sup
    s.Permits l wr A_PWR_CTRL 2#32 ∧ p.entering = false ∧ s.hushOk l = true := by
  decide +kernel

theorem wit_PowerStates_3 :
    let s : State := { wA [(F_PWR_STAT_STATE, pwrDoze)] with sup := { regs := setF [] F_PWR_WAKECFG_WAKEL 1 } }
    let p := s.sup
    let src := (.wakeL : WakeSource)
    let cause := 5
    let ix := 0
    let hold : LaneId := if s.fd.hoop = 2 then .b else .a
    let H := s.lane hold
    let doze : Bool := H.spine && H.dozing
    let set := if doze then p.regs else p.wake
    let mode (n : Port) : Prop := (if doze then H.f (F_CAN_WAKECFG_WMODE n) else getF p.wake (F_CAN_WAKECFG_WMODE n)) = 1
    p.off = false ∧
      ((∃ n : Port, src = .can n .edge ∧ getBit set F_PWR_WAKECFG_CAN n.val = true ∧ mode n ∧ cause = 1 ∧ ix = n.val) ∨ (∃ n, src = .field n ∧ getBit set F_PWR_WAKECFG_FI n.val = true ∧ cause = 3 ∧ ix = n.val) ∨ (src = .vbus ∧ getB set F_PWR_WAKECFG_USB = true ∧ cause = 4 ∧ ix = 0) ∨ (src = .wakeL ∧ getB set F_PWR_WAKECFG_WAKEL = true ∧ cause = 5 ∧ ix = 0)) ∧
      doze = true ∧ p.entering = false ∧ p.hush = false := by
  decide +kernel

theorem wit_PowerStates_4 :
    let s : State := { w0 with sup := { regs := [], wake := setF [] F_PWR_WAKECFG_USB 1, entering := true } }
    let p := s.sup
    let src := (.vbus : WakeSource)
    let cause := 4
    let ix := 0
    let hold : LaneId := if s.fd.hoop = 2 then .b else .a
    let H := s.lane hold
    let doze : Bool := H.spine && H.dozing
    let set := if doze then p.regs else p.wake
    let mode (n : Port) : Prop := (if doze then H.f (F_CAN_WAKECFG_WMODE n) else getF p.wake (F_CAN_WAKECFG_WMODE n)) = 1
    p.off = false ∧
      ((∃ n : Port, src = .can n .edge ∧ getBit set F_PWR_WAKECFG_CAN n.val = true ∧ mode n ∧ cause = 1 ∧ ix = n.val) ∨ (∃ n, src = .field n ∧ getBit set F_PWR_WAKECFG_FI n.val = true ∧ cause = 3 ∧ ix = n.val) ∨ (src = .vbus ∧ getB set F_PWR_WAKECFG_USB = true ∧ cause = 4 ∧ ix = 0) ∨ (src = .wakeL ∧ getB set F_PWR_WAKECFG_WAKEL = true ∧ cause = 5 ∧ ix = 0)) ∧
      p.entering = true ∧ p.hush = false := by
  decide +kernel

theorem wit_PowerStates_5 :
    let s : State := { w0 with sup := { regs := [], wake := setF [] F_PWR_WAKECFG_FI 0x80, hush := true } }
    let p := s.sup
    let src := (.field 7 : WakeSource)
    let cause := 3
    let ix := 7
    let hold : LaneId := if s.fd.hoop = 2 then .b else .a
    let H := s.lane hold
    let doze : Bool := H.spine && H.dozing
    let set := if doze then p.regs else p.wake
    let mode (n : Port) : Prop := (if doze then H.f (F_CAN_WAKECFG_WMODE n) else getF p.wake (F_CAN_WAKECFG_WMODE n)) = 1
    p.off = false ∧
      ((∃ n : Port, src = .can n .edge ∧ getBit set F_PWR_WAKECFG_CAN n.val = true ∧ mode n ∧ cause = 1 ∧ ix = n.val) ∨ (∃ n, src = .field n ∧ getBit set F_PWR_WAKECFG_FI n.val = true ∧ cause = 3 ∧ ix = n.val) ∨ (src = .vbus ∧ getB set F_PWR_WAKECFG_USB = true ∧ cause = 4 ∧ ix = 0) ∨ (src = .wakeL ∧ getB set F_PWR_WAKECFG_WAKEL = true ∧ cause = 5 ∧ ix = 0)) ∧
      p.hush = true := by
  decide +kernel

theorem wit_PowerStates_8 :
    let s : State := { wAnd (wB (fun L => { L with phase := .reset }) w0) (fun L => { L with phase := .reset }) with sup := { regs := [], wake := setF [] F_PWR_WAKECFG_FI 0x80, waking := true } }
    let p := s.sup
    let src := (.field 7 : WakeSource)
    let cause := 3
    let ix := 7
    let hold : LaneId := if s.fd.hoop = 2 then .b else .a
    let H := s.lane hold
    let doze : Bool := H.spine && H.dozing
    let set := if doze then p.regs else p.wake
    let mode (n : Port) : Prop := (if doze then H.f (F_CAN_WAKECFG_WMODE n) else getF p.wake (F_CAN_WAKECFG_WMODE n)) = 1
    p.off = false ∧
      ((∃ n : Port, src = .can n .edge ∧ getBit set F_PWR_WAKECFG_CAN n.val = true ∧ mode n ∧ cause = 1 ∧ ix = n.val) ∨ (∃ n, src = .field n ∧ getBit set F_PWR_WAKECFG_FI n.val = true ∧ cause = 3 ∧ ix = n.val) ∨ (src = .vbus ∧ getB set F_PWR_WAKECFG_USB = true ∧ cause = 4 ∧ ix = 0) ∨ (src = .wakeL ∧ getB set F_PWR_WAKECFG_WAKEL = true ∧ cause = 5 ∧ ix = 0)) ∧
      doze = false ∧ p.entering = false ∧ p.hush = false ∧ s.waking = true := by
  decide +kernel

theorem wit_PowerStates_9 :
    let s : State := { wAnd (wB (fun L => { L with phase := .reset }) w0) (fun L => { L with phase := .reset }) with sup := { regs := [], wake := setF (setF [] F_PWR_WAKECFG_CAN 4) (F_CAN_WAKECFG_WMODE 2) 1, waking := true } }
    let p := s.sup
    let src := (.can 2 .edge : WakeSource)
    let cause := 1
    let ix := 2
    let hold : LaneId := if s.fd.hoop = 2 then .b else .a
    let H := s.lane hold
    let doze : Bool := H.spine && H.dozing
    let set := if doze then p.regs else p.wake
    let mode (n : Port) : Prop := (if doze then H.f (F_CAN_WAKECFG_WMODE n) else getF p.wake (F_CAN_WAKECFG_WMODE n)) = 1
    p.off = false ∧
      ((∃ n : Port, src = .can n .edge ∧ getBit set F_PWR_WAKECFG_CAN n.val = true ∧ mode n ∧ cause = 1 ∧ ix = n.val) ∨ (∃ n, src = .field n ∧ getBit set F_PWR_WAKECFG_FI n.val = true ∧ cause = 3 ∧ ix = n.val) ∨ (src = .vbus ∧ getB set F_PWR_WAKECFG_USB = true ∧ cause = 4 ∧ ix = 0) ∨ (src = .wakeL ∧ getB set F_PWR_WAKECFG_WAKEL = true ∧ cause = 5 ∧ ix = 0)) ∧
      doze = false ∧ p.entering = false ∧ p.hush = false ∧ s.waking = true := by
  decide +kernel

theorem wit_PowerStates_6 :
    let s : State := w0
    let l : LaneId := .a
    let wr : Writer := .eng 3
    let v := 0#32
    s.Permits l wr A_PWR_WAKESTAT v := by
  decide +kernel

theorem wit_PowerStates_7 :
    let s : State := wAnd (wA [(F_AVS_VLIM_VMAX, 100), (F_AVS_VLIM_VMIN, 50), (F_AVS_STAT_VCODE, 60)]) fun L => { L with bg := { L.bg with calNext := L.bg.calNext.set 4 (some (500000, 0)) } }
    let l : LaneId := .a
    let L := s.lane l
    let hi := L.f F_AVS_VLIM_VMAX
    let lo := L.f F_AVS_VLIM_VMIN
    let K := L.calTake 4
    let cal (x : Nat) : Nat := (K.calGain 4 (x : Int)).toNat
    L.spine = true ∧ lo ≤ hi ∧ cal 6 = 9 := by
  decide +kernel

theorem wit_PowerStates_10 :
    let s : State := wAnd (wA [(F_AVS_VLIM_VMAX, 100), (F_AVS_VLIM_VMIN, 50), (F_AVS_STAT_VCODE, 60), (F_AVS_CTRL_SLACK_TGT, 20), (F_AVS_CTRL_HYST, 5), (F_AVS_CTRL_DL_MIN, 30)]) fun L => { L with dlMargin := some 29 }
    let l : LaneId := .a
    let L := s.lane l
    let ctrl := 50
    let group := 100
    let port := 100
    let keep := 100
    let spine := 100
    let K := L.calTake 4
    let cal (x : Nat) : Nat := (K.calGain 4 (x : Int)).toNat
    let sl := min (cal ctrl) (min (cal group) (min (cal port) (min (cal keep) (cal spine))))
    let hi := L.f F_AVS_VLIM_VMAX
    let lo := L.f F_AVS_VLIM_VMIN
    let tgt := L.f F_AVS_CTRL_SLACK_TGT
    let dl := L.f F_AVS_CTRL_DL_MIN
    let margin := L.dlMargin.getD (L.f F_AVS_STAT_DLMARGIN)
    let short : Prop := sl < tgt ∨ (0 < dl ∧ margin < dl)
    let ample : Prop := tgt + L.f F_AVS_CTRL_HYST ≤ sl ∧ (dl = 0 ∨ dl + L.f F_AVS_CTRL_HYST ≤ margin)
    L.spine = true ∧ lo ≤ hi ∧ 10 ≤ sl ∧ short := by
  decide +kernel

theorem wit_PowerStates_11 :
    let s : State := wAnd (wA [(F_AVS_VLIM_VMAX, 100), (F_AVS_VLIM_VMIN, 50), (F_AVS_STAT_VCODE, 60), (F_AVS_CTRL_SLACK_TGT, 20), (F_AVS_CTRL_HYST, 5), (F_AVS_CTRL_DL_MIN, 30)]) fun L => { L with dlMargin := some 35 }
    let l : LaneId := .a
    let L := s.lane l
    let ctrl := 25
    let group := 100
    let port := 100
    let keep := 100
    let spine := 100
    let K := L.calTake 4
    let cal (x : Nat) : Nat := (K.calGain 4 (x : Int)).toNat
    let sl := min (cal ctrl) (min (cal group) (min (cal port) (min (cal keep) (cal spine))))
    let hi := L.f F_AVS_VLIM_VMAX
    let lo := L.f F_AVS_VLIM_VMIN
    let tgt := L.f F_AVS_CTRL_SLACK_TGT
    let dl := L.f F_AVS_CTRL_DL_MIN
    let margin := L.dlMargin.getD (L.f F_AVS_STAT_DLMARGIN)
    let short : Prop := sl < tgt ∨ (0 < dl ∧ margin < dl)
    let ample : Prop := tgt + L.f F_AVS_CTRL_HYST ≤ sl ∧ (dl = 0 ∨ dl + L.f F_AVS_CTRL_HYST ≤ margin)
    L.spine = true ∧ lo ≤ hi ∧ 10 ≤ sl ∧ (¬ short) ∧ ample := by
  decide +kernel

theorem wit_PowerStates_12 :
    let s : State := wAnd (wA [(F_AVS_VLIM_VMAX, 100), (F_AVS_VLIM_VMIN, 50), (F_AVS_STAT_VCODE, 60), (F_AVS_CTRL_SLACK_TGT, 20), (F_AVS_CTRL_HYST, 5), (F_AVS_CTRL_DL_MIN, 30)]) fun L => { L with dlMargin := some 34 }
    let l : LaneId := .a
    let L := s.lane l
    let ctrl := 25
    let group := 100
    let port := 100
    let keep := 100
    let spine := 100
    let K := L.calTake 4
    let cal (x : Nat) : Nat := (K.calGain 4 (x : Int)).toNat
    let sl := min (cal ctrl) (min (cal group) (min (cal port) (min (cal keep) (cal spine))))
    let hi := L.f F_AVS_VLIM_VMAX
    let lo := L.f F_AVS_VLIM_VMIN
    let tgt := L.f F_AVS_CTRL_SLACK_TGT
    let dl := L.f F_AVS_CTRL_DL_MIN
    let margin := L.dlMargin.getD (L.f F_AVS_STAT_DLMARGIN)
    let short : Prop := sl < tgt ∨ (0 < dl ∧ margin < dl)
    let ample : Prop := tgt + L.f F_AVS_CTRL_HYST ≤ sl ∧ (dl = 0 ∨ dl + L.f F_AVS_CTRL_HYST ≤ margin)
    L.spine = true ∧ lo ≤ hi ∧ 10 ≤ sl ∧ (¬ short) ∧ (¬ ample) := by
  decide +kernel

theorem wit_ResetsGatesAndCrossings_0 :
    let s : State := w0
    let l : LaneId := .a
    let wr : Writer := .eng 3
    let q : Quarter := .control
    s.Permits l wr A_SYS_RSTREQ (BitVec.ofNat 32 (0x5A000000 + q.num + 1)) := by
  decide +kernel

theorem wit_ResetsGatesAndCrossings_1 :
    let s : State := w0
    let l : LaneId := .a
    let wr : Writer := .eng 3
    s.Permits l wr A_SYS_RSTREQ 0x5A000005#32 := by
  decide +kernel

theorem wit_ResetsGatesAndCrossings_20 :
    let s : State := wAnd w0 fun L => { L with qHist := L.qHist.set! 0 [0, 0] }
    let l : LaneId := .a
    let wr : Writer := .eng 3
    let q : Quarter := .control
    let L := s.lane l
    s.Permits l wr A_SYS_RSTREQ (BitVec.ofNat 32 (0x5A000000 + q.num + 1)) ∧ L.spine = true ∧ L.held q = false ∧
      (q = .keeping ∨ s.fd.heldBy l = false) ∧ ¬ (recent s.time 10000000 L.qHist[q.num]!).length < 2 := by
  decide +kernel

theorem wit_ResetsGatesAndCrossings_2 :
    let s : State := wAnd w0 fun L => { L with due := [.restart] }
    let l : LaneId := .a
    let L := s.lane l
    L.due.contains .restart = true ∧ s.fd.heldBy l = false := by
  decide +kernel

theorem wit_ResetsGatesAndCrossings_3 :
    let s : State := wA [(⟨A_SYS_DGSTAT, 9, 8⟩, 2)]
    let l : LaneId := .a
    let L := s.lane l
    let g : GateNo := 2
    let alone : Prop := ∀ k : Quarter, k.num ≠ g.val → L.held k = false
    L.spine = true ∧ L.gateState g.val ≠ gOpen ∧ (g.val < 4 → L.lst ≠ lsHalted ∧ L.lst ≠ lsUpdate) ∧ (g.val = 5 → (s.lane l.other).spine = true) ∧ g.val < 4 ∧ alone := by
  refine ⟨by decide +kernel, by decide +kernel, by decide +kernel, by decide +kernel, by decide +kernel, fun k => ?_⟩
  cases k <;> decide +kernel

theorem wit_ResetsGatesAndCrossings_10 :
    let s : State := wAnd w0 fun L => (L.setGate 2 gClosed gcReset).setGate 0 gClosed gcReset
    let l : LaneId := .a
    let L := s.lane l
    let g : GateNo := 2
    let k : Quarter := .control
    L.spine = true ∧ L.gateState g.val ≠ gOpen ∧ (g.val < 4 → L.lst ≠ lsHalted ∧ L.lst ≠ lsUpdate) ∧ (g.val = 5 → (s.lane l.other).spine = true) ∧
      g.val < 4 ∧ k.num ≠ g.val ∧ L.held k = true := by
  decide +kernel

theorem wit_ResetsGatesAndCrossings_11 :
    let s : State := wAnd w0 fun L => L.setGate 5 gClosed gcReset
    let l : LaneId := .a
    let L := s.lane l
    let g : GateNo := 5
    L.spine = true ∧ L.gateState g.val ≠ gOpen ∧ (g.val < 4 → L.lst ≠ lsHalted ∧ L.lst ≠ lsUpdate) ∧ (g.val = 5 → (s.lane l.other).spine = true) ∧
      4 ≤ g.val := by
  decide +kernel

theorem wit_ResetsGatesAndCrossings_12 :
    let s : State := wAnd w0 fun L => { L with xing := L.xing.set 17 { busy := true, acc := 15 } }
    let l : LaneId := .a
    let L := s.lane l
    let n : XingNo := 17
    L.spine = true ∧ L.xing[n].busy = true := by
  decide +kernel

theorem wit_ResetsGatesAndCrossings_4 :
    let s : State := wAnd w0 fun L => { L with xing := L.xing.set 1 { coreReset := true } }
    let l : LaneId := .a
    let L := s.lane l
    let n : XingNo := 1
    L.spine = true ∧ L.xing[n].coreReset = true ∧ L.xing[n].islandReset = false := by
  decide +kernel

theorem wit_ResetsGatesAndCrossings_5 :
    let s : State := wAnd w0 fun L => { L with xing := L.xing.set 1 { islandReset := true } }
    let l : LaneId := .a
    let L := s.lane l
    let n : XingNo := 1
    L.spine = true ∧ L.xing[n].islandReset = true ∧ L.xing[n].coreReset = false := by
  decide +kernel

theorem wit_ResetsGatesAndCrossings_6 :
    let s : State := wAnd w0 fun L => { L with xing := L.xing.set 1 { islandReset := true, coreReset := true } }
    let l : LaneId := .a
    let L := s.lane l
    let n : XingNo := 1
    L.spine = true ∧ L.xing[n].coreReset = true ∧ L.xing[n].islandReset = true := by
  decide +kernel

theorem wit_ResetsGatesAndCrossings_7 :
    let s : State := w0
    let l : LaneId := .a
    let L := s.lane l
    let n : XingNo := 1
    L.spine = true ∧ isP n = true ∧ L.xOpen n.val = true ∧ L.xing[n].busy = false := by
  decide +kernel

theorem wit_ResetsGatesAndCrossings_8 :
    let s : State := wAnd w0 fun L => { L with xing := L.xing.set 1 { busy := true, acc := 14, code := 3 } }
    let l : LaneId := .a
    let L := s.lane l
    let n : XingNo := 1
    L.spine = true ∧ isP n = true ∧ L.xOpen n.val = true ∧ L.xing[n].busy = true ∧ L.xing[n].acc < 15 := by
  decide +kernel

theorem wit_ResetsGatesAndCrossings_9 :
    let s : State := wAnd w0 fun L => { L with xing := L.xing.set 1 { busy := true, acc := 15, code := 3 } }
    let l : LaneId := .a
    let L := s.lane l
    let n : XingNo := 1
    L.spine = true ∧ isP n = true ∧ L.xOpen n.val = true ∧ L.xing[n].busy = true ∧ L.xing[n].acc = 15 := by
  decide +kernel

theorem wit_EnginesStartAndStop_0 :
    let s : State := wK 2 fun g => { g with phase := .stopped }
    let l : LaneId := .a
    let n : FgEng := 2
    let L := s.lane l
    let e := fgEng n
    let runWord (on : Nat) : Word := setBits (setBits (L.rwWord A_SYS_ENGCTL) 31 24 0xA5) n.val n.val on
    s.Permits l (.eng 0) A_SYS_ENGCTL (runWord 1) ∧ n.val ≠ 0 ∧ L.eng[e].phase = .stopped := by
  decide +kernel

theorem wit_EnginesStartAndStop_1 :
    let s : State := wA [(F_SYS_ENGCTL_RUN, 2)]
    let l : LaneId := .a
    let n : FgEng := 2
    let L := s.lane l
    let e := fgEng n
    let runWord (on : Nat) : Word := setBits (setBits (L.rwWord A_SYS_ENGCTL) 31 24 0xA5) n.val n.val on
    s.Permits l (.eng 0) A_SYS_ENGCTL (runWord 0) ∧ n.val ≠ 0 ∧ L.engRun e = true := by
  decide +kernel

theorem wit_EnginesStartAndStop_2 :
    let s : State := wK 2 fun g => { g with phase := .reloading }
    let l : LaneId := .a
    let n : FgEng := 2
    let L := s.lane l
    let e := fgEng n
    L.up (.eng e) = true ∧ n.val ≠ 0 ∧ L.eng[e].phase = .reloading := by
  decide +kernel

theorem wit_EnginesStartAndStop_3 :
    let s : State := wK 0 fun g => { g with phase := .reloading }
    let l : LaneId := .a
    let L := s.lane l
    L.up (.eng 0) = true ∧ L.eng[0].phase = .reloading := by
  decide +kernel

theorem wit_EnginesStartAndStop_4 :
    let s : State := wAnd (wK 0 fun g => { g with phase := .stopped }) (wSlotFlash 0)
    let l : LaneId := .a
    let L := s.lane l
    let bgRun : Prop := ∀ k : BgEng, ∀ g : Eng, g.val = 8 + k.val → L.eng[g].phase = .running
    let sl := 0
    let fb := false
    let nr := true
    L.up (.eng 0) = true ∧ L.eng[0].phase = .stopped ∧ L.b F_MEA_STAT_LOCK = false ∧ bgRun ∧ bootChoose L = (some sl, fb, nr) := by
  decide +kernel

theorem wit_EnginesStartAndStop_5 :
    let s : State := wK 0 fun g => { g with phase := .stopped }
    let l : LaneId := .a
    let L := s.lane l
    let bgRun : Prop := ∀ k : BgEng, ∀ g : Eng, g.val = 8 + k.val → L.eng[g].phase = .running
    let fb := false
    let nr := true
    L.up (.eng 0) = true ∧ L.eng[0].phase = .stopped ∧ L.b F_MEA_STAT_LOCK = false ∧ bgRun ∧ bootChoose L = (none, fb, nr) := by
  decide +kernel

theorem wit_EnginesStartAndStop_6 :
    let s : State := wK 9 fun g => { g with phase := .stopped }
    let l : LaneId := .a
    let L := s.lane l
    let k : BgEng := 1
    let g : Eng := 9
    g.val = 8 + k.val ∧ L.up (.eng g) = true ∧ L.eng[g].phase = .stopped := by
  decide +kernel

theorem wit_BackgroundEngines_0 :
    let s : State := wAnd w0 fun L => { L with post := [5] }
    let l : LaneId := .a
    let L := s.lane l
    let on (e : Eng) : Prop := L.up (.eng e) = true ∧ L.eng[e].phase = .running
    let x := 5
    let r := ([] : List Nat)
    on 8 ∧ L.post = x :: r := by
  decide +kernel

theorem wit_BackgroundEngines_15 :
    let s : State := wAnd w0 fun L => { L with post := [0x20000000] }
    let l : LaneId := .a
    let L := s.lane l
    let on (e : Eng) : Prop := L.up (.eng e) = true ∧ L.eng[e].phase = .running
    let x := 0x20000000
    let r := ([] : List Nat)
    let newer := false
    on 8 ∧ L.post = x :: r ∧ newer = false ∧ 0x20000000 ≤ x := by
  decide +kernel

theorem wit_BackgroundEngines_16 :
    let s : State := wAnd w0 fun L => { L with post := [0x08000010] }
    let l : LaneId := .a
    let L := s.lane l
    let on (e : Eng) : Prop := L.up (.eng e) = true ∧ L.eng[e].phase = .running
    let x := 0x08000010
    let r := ([] : List Nat)
    let newer := false
    on 8 ∧ L.post = x :: r ∧ newer = false ∧ x < 0x20000000 ∧ flashRegion x ≠ 3 ∧ 0 < L.bg.spares[flashRegion x] := by
  decide +kernel

theorem wit_BackgroundEngines_17 :
    let s : State := wAnd w0 fun L => { L with post := [0x08000010], bg := { L.bg with spares := Vector.replicate 4 0 } }
    let l : LaneId := .a
    let L := s.lane l
    let on (e : Eng) : Prop := L.up (.eng e) = true ∧ L.eng[e].phase = .running
    let x := 0x08000010
    let r := ([] : List Nat)
    let newer := false
    on 8 ∧ L.post = x :: r ∧ newer = false ∧ x < 0x20000000 ∧ flashRegion x ≠ 3 ∧ L.bg.spares[flashRegion x] = 0 := by
  decide +kernel

theorem wit_BackgroundEngines_1 :
    let s : State := w0
    let l : LaneId := .a
    let L := s.lane l
    let on (e : Eng) : Prop := L.up (.eng e) = true ∧ L.eng[e].phase = .running
    let a := 0x20000000
    on 8 ∧ a % 4 = 0 ∧ a < 2 ^ 32 ∧ L.ue.contains a = false := by
  decide +kernel

theorem wit_BackgroundEngines_2 :
    let s : State := w0
    let l : LaneId := .a
    let L := s.lane l
    let on (e : Eng) : Prop := L.up (.eng e) = true ∧ L.eng[e].phase = .running
    let a := 0x30000000
    on 8 ∧ a % 4 = 0 ∧ a < 2 ^ 32 ∧ (L.ueFatal a = false ∨ L.lnk.ue = true) := by
  decide +kernel

theorem wit_BackgroundEngines_3 :
    let s : State := wA [(⟨A_SYS_ENGCTL, 0, 0⟩, 1)]
    let l : LaneId := .a
    let L := s.lane l
    let on (e : Eng) : Prop := L.up (.eng e) = true ∧ L.eng[e].phase = .running
    let a := 0x20000000
    on 8 ∧ a % 4 = 0 ∧ a < 2 ^ 32 ∧ L.ueFatal a = true ∧ L.lnk.ue = false ∧ L.lst ≠ lsHalted := by
  decide +kernel

theorem wit_BackgroundEngines_4 :
    let s : State := w0
    let l : LaneId := .a
    let L := s.lane l
    let on (e : Eng) : Prop := L.up (.eng e) = true ∧ L.eng[e].phase = .running
    let off : FlashOff := 0
    let r := flashRegion (0x08000000 + off.val)
    on 8 ∧ r ≠ 3 := by
  decide +kernel

theorem wit_BackgroundEngines_5 :
    let s : State := w0
    let l : LaneId := .a
    let L := s.lane l
    let on (e : Eng) : Prop := L.up (.eng e) = true ∧ L.eng[e].phase = .running
    let item := (.d0i : CalItem)
    let gain := (3000 : Int)
    let i := (calPlace item).1
    let g := ((L.bg.calNext[i]).getD (L.bg.cal[i], 0)).1
    let d := (1000000 + g) * 5 / 1000
    on 9 ∧ 0 ≤ d ∧ absI gain ≤ 50000 ∧ item ≠ .temp := by
  decide +kernel

theorem wit_BackgroundEngines_13 :
    let s : State := w0
    let l : LaneId := .a
    let L := s.lane l
    let on (e : Eng) : Prop := L.up (.eng e) = true ∧ L.eng[e].phase = .running
    let item := (.temp : CalItem)
    let gain := (-50000 : Int)
    let i := (calPlace item).1
    let g := ((L.bg.calNext[i]).getD (L.bg.cal[i], 0)).1
    let d := (1000000 + g) * 5 / 1000
    on 9 ∧ 0 ≤ d ∧ absI gain ≤ 50000 ∧ item = .temp := by
  decide +kernel

theorem wit_BackgroundEngines_14 :
    let s : State := w0
    let l : LaneId := .a
    let L := s.lane l
    let on (e : Eng) : Prop := L.up (.eng e) = true ∧ L.eng[e].phase = .running
    let off : FlashOff := 0x780000
    on 8 ∧ 0x780000 ≤ off.val := by
  decide +kernel

theorem wit_BackgroundEngines_6 :
    let s : State := w0
    let l : LaneId := .a
    let L := s.lane l
    let on (e : Eng) : Prop := L.up (.eng e) = true ∧ L.eng[e].phase = .running
    let gain := (-50001 : Int)
    on 9 ∧ 50000 < absI gain := by
  decide +kernel

theorem wit_BackgroundEngines_7 :
    let s : State := w0
    let l : LaneId := .a
    let L := s.lane l
    let e := (3 : Eng)
    s.Permits l (.eng e) A_WER_QPUSH 1#32 ∧ L.log.evN < 64 ∧ 4 ≤ L.wer.pool.length := by
  decide +kernel

theorem wit_BackgroundEngines_8 :
    let s : State := wAnd w0 fun L => { L with log := { L.log with evN := 1 } }
    let l : LaneId := .a
    let L := s.lane l
    let on (e : Eng) : Prop := L.up (.eng e) = true ∧ L.eng[e].phase = .running
    on 10 ∧ 0 < L.log.evN ∧ 4 ≤ L.wer.pool.length ∧ L.seb.stuck = 0 := by
  decide +kernel

theorem wit_BackgroundEngines_18 :
    let s : State := wAnd w0 fun L => { L with log := { L.log with evN := 64 }, seb := { L.seb with stuck := 1 } }
    let l : LaneId := .a
    let L := s.lane l
    let on (e : Eng) : Prop := L.up (.eng e) = true ∧ L.eng[e].phase = .running
    on 10 ∧ 0 < L.log.evN ∧ 4 ≤ L.wer.pool.length ∧ 0 < L.seb.stuck ∧ L.log.evN ≤ 64 ∧ 5 ≤ L.wer.pool.length := by
  decide +kernel

theorem wit_BackgroundEngines_9 :
    let s : State := wAnd w0 fun L => { L with log := { L.log with clN := 1 } }
    let l : LaneId := .a
    let L := s.lane l
    let on (e : Eng) : Prop := L.up (.eng e) = true ∧ L.eng[e].phase = .running
    on 10 ∧ 0 < L.log.clN ∧ ((L.clHeadWord 0).getLsbD 18 = true → L.log.archiving = false ∧ L.wer.safN < 512) ∧ (L.clHeadWord 0).getLsbD 18 = false := by
  decide +kernel

theorem wit_BackgroundEngines_19 :
    let s : State := wAnd w0 fun L => { L with log := { L.log with clN := 1 }, wer := { L.wer with safN := 511 }, tsram := writeWord L.tsram 0x2C808 0x40000#32 }
    let l : LaneId := .a
    let L := s.lane l
    let on (e : Eng) : Prop := L.up (.eng e) = true ∧ L.eng[e].phase = .running
    on 10 ∧ 0 < L.log.clN ∧ ((L.clHeadWord 0).getLsbD 18 = true → L.log.archiving = false ∧ L.wer.safN < 512) ∧ (L.clHeadWord 0).getLsbD 18 = true := by
  decide +kernel

theorem wit_BackgroundEngines_20 :
    let s : State := wAnd w0 fun L => { L with log := { L.log with clN := 1 }, wer := { L.wer with safN := 512 }, tsram := writeWord L.tsram 0x2C808 0x40000#32 }
    let l : LaneId := .a
    let L := s.lane l
    let on (e : Eng) : Prop := L.up (.eng e) = true ∧ L.eng[e].phase = .running
    on 10 ∧ 0 < L.log.clN ∧ (L.clHeadWord 0).getLsbD 18 = true ∧ (L.log.archiving = true ∨ 512 ≤ L.wer.safN) := by
  decide +kernel

theorem wit_BackgroundEngines_21 :
    let s : State := wAnd w0 fun L => { L with log := { L.log with clN := 1, archiving := true }, wer := { L.wer with safN := 0 }, tsram := writeWord L.tsram 0x2C808 0x40000#32 }
    let l : LaneId := .a
    let L := s.lane l
    let on (e : Eng) : Prop := L.up (.eng e) = true ∧ L.eng[e].phase = .running
    on 10 ∧ 0 < L.log.clN ∧ (L.clHeadWord 0).getLsbD 18 = true ∧ (L.log.archiving = true ∨ 512 ≤ L.wer.safN) := by
  decide +kernel

theorem wit_BackgroundEngines_10 :
    let s : State := w0
    let l : LaneId := .a
    let L := s.lane l
    let on (e : Eng) : Prop := L.up (.eng e) = true ∧ L.eng[e].phase = .running
    on 11 ∧ L.f F_TEL_CFG_PERIOD = 0 := by
  decide +kernel

theorem wit_BackgroundEngines_11 :
    let s : State := wA [(F_TEL_CFG_PERIOD, 1), (F_TEL_CFG_PIC, 1), (F_PIC_STAT_JOINED, 1)]
    let l : LaneId := .a
    let L := s.lane l
    let on (e : Eng) : Prop := L.up (.eng e) = true ∧ L.eng[e].phase = .running
    on 11 ∧ L.f F_TEL_CFG_PERIOD ≠ 0 ∧ L.b F_TEL_CFG_CAN = false ∧ L.b F_TEL_CFG_PIC = true ∧ L.up .pic = true ∧ L.b F_PIC_STAT_JOINED = true ∧
      L.pic.dup = false := by
  decide +kernel

theorem wit_BackgroundEngines_12 :
    let s : State := wAnd (wA [(F_TEL_CFG_PERIOD, 1), (F_TEL_CFG_CAN, 1), (F_TEL_CFG_PORT, 1)]) fun L => { L with can := L.can.set 1 { L.can[1] with objs := L.can[1].objs.set 30 { st := coDone } } }
    let l : LaneId := .a
    let L := s.lane l
    let on (e : Eng) : Prop := L.up (.eng e) = true ∧ L.eng[e].phase = .running
    let n : Port := 1
    let k : CanObjNo := 30
    on 11 ∧ L.f F_TEL_CFG_PERIOD ≠ 0 ∧ L.b F_TEL_CFG_CAN = true ∧ L.b F_TEL_CFG_PIC = false ∧ L.f F_TEL_CFG_PORT = n.val ∧ L.up (.can n) = true ∧
      (L.cn n).mode = canModeOff ∧ 28 ≤ k.val ∧ (L.cn n).objs[k].st = coDone := by
  decide +kernel

theorem wit_FlashUsbAndSpi_0 :
    let s : State := wA [(F_LNK_UPDSTAT_SLOT, 1), (F_NVM_ADDR_ADDR 0, 0x08001010)]
    let l : LaneId := .a
    let wr : Writer := .eng 3
    let r : Region := 0
    let L := s.lane l
    let addr := L.f (F_NVM_ADDR_ADDR r.val)
    let may (size : Nat) : Prop := L.b (F_NVM_STAT_BUSY r.val) = false ∧ (nvmRegion r.val).1 ≤ addr ∧ addr < (nvmRegion r.val).2 ∧ addr % size = 0 ∧ nvmOwnedAt wr r.val addr = false ∧ (r.val ≤ 1 → nvmLoader L r.val = false → L.holder = false ∧ L.f F_LNK_UPDSTAT_SLOT ≠ r.val)
    s.Permits l wr (A_NVM_CMD r.val) 0x10000000#32 ∧ may 16 := by
  decide +kernel

theorem wit_FlashUsbAndSpi_1 :
    let s : State := wA [(F_LNK_UPDSTAT_SLOT, 1), (F_NVM_ADDR_ADDR 0, 0x08001000)]
    let l : LaneId := .a
    let wr : Writer := .eng 3
    let r : Region := 0
    let L := s.lane l
    let addr := L.f (F_NVM_ADDR_ADDR r.val)
    let may (size : Nat) : Prop := L.b (F_NVM_STAT_BUSY r.val) = false ∧ (nvmRegion r.val).1 ≤ addr ∧ addr < (nvmRegion r.val).2 ∧ addr % size = 0 ∧ nvmOwnedAt wr r.val addr = false ∧ (r.val ≤ 1 → nvmLoader L r.val = false → L.holder = false ∧ L.f F_LNK_UPDSTAT_SLOT ≠ r.val)
    s.Permits l wr (A_NVM_CMD r.val) 0x20000000#32 ∧ may 4096 := by
  decide +kernel

theorem wit_FlashUsbAndSpi_2 :
    let s : State := w0
    let l : LaneId := .a
    let wr : Writer := .eng 3
    let r : Region := 0
    let L := s.lane l
    let reg : NvmReg := 1
    let v := 7#32
    let a := if reg.val = 0 then A_NVM_ADDR r.val else A_NVM_DATA r.val (reg.val - 1)
    s.Permits l wr a v ∧ L.b (F_NVM_STAT_BUSY r.val) = false := by
  decide +kernel

theorem wit_CommandsRefusedByTheirRules_4 :
    let s : State := wA [(F_NVM_STAT_BUSY 0, 1)]
    let l : LaneId := .a
    let wr : Writer := .eng 3
    let r : Region := 0
    let L := s.lane l
    let reg : NvmReg := 1
    let v := 7#32
    let a := if reg.val = 0 then A_NVM_ADDR r.val else A_NVM_DATA r.val (reg.val - 1)
    s.Permits l wr a v ∧ L.b (F_NVM_STAT_BUSY r.val) = true := by
  decide +kernel

theorem wit_FlashUsbAndSpi_4 :
    let s : State := wAnd w0 fun L => { L with bg := { L.bg with nvm := L.bg.nvm.set 0 (some (2 * 2 ^ 32 + 0x08001000)) } }
    let l : LaneId := .a
    let r : Region := 0
    let L := s.lane l
    let a := (0x08001000 : Nat)
    L.up .nvm = true ∧ 0x08000000 ≤ a ∧ a < 0x08800000 ∧ L.bg.nvm[r] = some (2 * 2 ^ 32 + a) := by
  decide +kernel

theorem wit_FlashUsbAndSpi_5 :
    let s : State := wAnd w0 fun L => { L with bg := { L.bg with nvm := L.bg.nvm.set 0 (some (2 ^ 32 + 0x08001010)) } }
    let l : LaneId := .a
    let r : Region := 0
    let L := s.lane l
    let a := (0x08001010 : Nat)
    let good := true
    let off := a - 0x08000000
    L.up .nvm = true ∧ 0x08000000 ≤ a ∧ a < 0x08800000 ∧ L.bg.nvm[r] = some (2 ^ 32 + a) ∧ good = true ∧
      (∀ i, i < 16 → L.byte .flash (off + i) = 0xFF#8) := by
  decide +kernel

theorem wit_FlashUsbAndSpi_6 :
    let s : State := wAnd w0 fun L => { L with bg := { L.bg with nvm := L.bg.nvm.set 0 (some (2 ^ 32 + 0x08001010)) } }
    let l : LaneId := .a
    let r : Region := 0
    let L := s.lane l
    let a := (0x08001010 : Nat)
    let good := false
    let off := a - 0x08000000
    L.up .nvm = true ∧ 0x08000000 ≤ a ∧ a < 0x08800000 ∧ L.bg.nvm[r] = some (2 ^ 32 + a) ∧
      (good = false ∨ ∃ i, i < 16 ∧ L.byte .flash (off + i) ≠ 0xFF#8) := by
  decide +kernel

theorem wit_FlashUsbAndSpi_7 :
    let s : State := wA [(F_USB_STAT_ATTACHED, 1)]
    let l : LaneId := .a
    let L := s.lane l
    let data : Bytes := [1#8]
    data.length ≤ 64 ∧ L.up .usb = true ∧ L.b F_USB_STAT_ATTACHED = true := by
  decide +kernel

theorem wit_FlashUsbAndSpi_8 :
    let s : State := wAnd w0 fun L => { L with usb := { L.usb with rx := [[1#8]] } }
    let l : LaneId := .a
    let wr : Writer := .eng 3
    let L := s.lane l
    let x := ([1#8] : Bytes)
    let rest := ([] : List Bytes)
    s.Permits l wr A_USB_RXPOP 1#32 ∧ L.usb.rx = x :: rest := by
  decide +kernel

theorem wit_FlashUsbAndSpi_9 :
    let s : State := wA [(F_USB_STAT_ATTACHED, 1), (F_USB_TXH_LEN, 5)]
    let l : LaneId := .a
    let wr : Writer := .eng 3
    let L := s.lane l
    s.Permits l wr A_USB_TXPUSH 1#32 ∧ L.b F_USB_STAT_ATTACHED = true ∧ 0 < L.f F_USB_TXH_LEN ∧ L.usb.tx.length < 4 := by
  decide +kernel

theorem wit_FlashUsbAndSpi_10 :
    let s : State := wAnd (wA [(F_USB_STAT_ATTACHED, 1)]) fun L => { L with usb := { L.usb with tx := [[1#8]] } }
    let l : LaneId := .a
    let L := s.lane l
    let x := ([1#8] : Bytes)
    let rest := ([] : List Bytes)
    L.up .usb = true ∧ L.b F_USB_STAT_ATTACHED = true ∧ L.usb.tx = x :: rest := by
  decide +kernel

theorem wit_FlashUsbAndSpi_11 :
    let s : State := wHold
    let l : LaneId := .a
    let wr : Writer := .eng 3
    let L := s.lane l
    let len : SpiLen := 3
    s.Permits l wr A_SPI_CTRL (BitVec.ofNat 32 (0x10000000 + len.val)) ∧ L.holder = true ∧ L.b F_SPI_STAT_BUSY = false ∧ 0 < len.val := by
  decide +kernel

theorem wit_FlashUsbAndSpi_13 :
    let s : State := wAnd (wHold []) fun L => { L with fclk := 20000 }
    let l : LaneId := .a
    let wr : Writer := .eng 3
    let L := s.lane l
    let len : SpiLen := 3
    s.Permits l wr A_SPI_CTRL (BitVec.ofNat 32 (0x10000000 + len.val)) ∧ L.holder = true ∧ L.b F_SPI_STAT_BUSY = false ∧ 0 < len.val ∧
      L.fclk % 20000 + spiTicks (min 8 len.val) (L.f F_SPI_CFG_DIV) + 160 ≤ 20000 := by
  decide +kernel

theorem wit_FlashUsbAndSpi_14 :
    let s : State := wAnd (wHold [(F_SPI_STAT_WAITS, 65534)]) fun L => { L with fclk := 39999 }
    let l : LaneId := .a
    let wr : Writer := .eng 3
    let L := s.lane l
    let len : SpiLen := 9
    s.Permits l wr A_SPI_CTRL (BitVec.ofNat 32 (0x10000000 + len.val)) ∧ L.holder = true ∧ L.b F_SPI_STAT_BUSY = false ∧ 0 < len.val ∧
      ¬ (L.fclk % 20000 + spiTicks (min 8 len.val) (L.f F_SPI_CFG_DIV) + 160 ≤ 20000) ∧ L.f F_SPI_STAT_WAITS < 65535 := by
  decide +kernel

theorem wit_FlashUsbAndSpi_12 :
    let s : State := wAnd (wA [(F_SPI_STAT_BUSY, 1)]) fun L => { L with usb := { L.usb with spiLen := 8 } }
    let l : LaneId := .a
    let L := s.lane l
    L.up .spi = true ∧ L.b F_SPI_STAT_BUSY = true ∧ L.usb.spiWait = none ∧ L.usb.spiLen = 8 := by
  decide +kernel

theorem wit_FlashUsbAndSpi_15 :
    let s : State := wAnd (wA [(F_SPI_STAT_BUSY, 1)]) fun L => { L with usb := { L.usb with spiLen := 8, spiWait := some 20000 } }
    let l : LaneId := .a
    let L := s.lane l
    L.up .spi = true ∧ L.usb.spiWait.isSome = true := by
  decide +kernel

theorem wit_FlashUsbAndSpi_16 :
    let s : State := wAnd (wHold [(F_SPI_STAT_BUSY, 1), (F_BOB_CTRL_ACCEN, 1), (F_BOB_ACCCFG_NBYTES, 4)]) fun L => { L with usb := { L.usb with spiLen := 8, spiWait := some 20000 }, bob := { L.bob with window := true, tk := 20000 } }
    let l : LaneId := .a
    let L := s.lane l
    let due := 20000
    L.up .bob = true ∧ L.holder = true ∧ L.bob.window = true ∧ L.b F_BOB_CTRL_ACCEN = true ∧ L.f F_BOB_ACCCFG_NBYTES ≠ 0 ∧
      L.usb.spiWait = some due ∧ due ≤ L.bob.tk := by
  decide +kernel


end Sys2Proof.Tests
end

section
/-!
SUPPORT. What a register command does once its write is past the checks ahead of its block, and the runs of registers that hold bytes; by these, the
refusals of R20, R479 and R506.
-/
namespace Sys2Proof.Machine

/-! ### Answers -/

/-- What a command does satisfies whatever follows from it. -/
theorem Does.imp {c : Instr} {s : State} {P Q : State → Prop} (h : Does c s P) (i : ∀ t, P t → Q t) : Does c s Q := by
  obtain ⟨t, ran, queue, p⟩ := h
  exact ⟨t, ran, queue, i t p⟩

/-- KLAST of an engine is none of a lane's registers. -/
@[simp] theorem setKlast_regs (e : Option Eng) (st : Nat) (L : Lane) : (setKlast e st L).regs = L.regs := by cases e <;> rfl
@[simp] theorem setKlast_bg (e : Option Eng) (st : Nat) (L : Lane) : (setKlast e st L).bg = L.bg := by cases e <;> rfl

/-- Which engine is behind a writer is told by the lane's registers alone. -/
theorem Lane.writerEng_of_regs {L M : Lane} (h : M.regs = L.regs) (wr : Writer) : M.writerEng wr = L.writerEng wr := by
  cases wr with
  | eng e => rfl
  | dbg => rfl
  | svc n => rw [Lane.writerEng, Lane.writerEng, Lane.sessEng, Lane.sessEng, Lane.sst, Lane.sst, Lane.f, Lane.f, Lane.f, Lane.f, h]

/-- The status set for a writer's engine is the one that it reads in KLAST. -/
theorem World.klastIs_setKlast (w : World) (l : LaneId) (wr : Writer) (o : Option Eng) (st : Nat) (h : (w.lane l).writerEng wr = o) :
    (w.updLane l (setKlast o st)).KlastIs l wr st := by
  intro e he
  rw [World.lane_updLane_same] at he ⊢
  rw [Lane.writerEng_of_regs (setKlast_regs _ _ _), h] at he
  subst he
  exact congrArg Engine.klast (Lane.updEng_get _ e _)

/-! ### The register write past its checks (R110) -/

/-- A writer that can act and has no store waiting in its engine's buffer: its command is the write, and the status in KLAST. -/
theorem World.regCmd_eq_regWrite {w : World} {l : LaneId} {wr : Writer} (live : (w.lane l).writerLive wr = true)
    (buf : ∀ e, (w.lane l).writerEng wr = some e → (w.lane l).eng[e].sbuf = []) (a : Nat) (v : Word) :
    w.regCmd l wr a v = (w.regWrite l wr a v false).1.updLane l (setKlast ((w.lane l).writerEng wr) (w.regWrite l wr a v false).2) := by
  have drained : drainFor ((w.lane l).writerEng wr) (w.lane l) = w.lane l := by
    cases he : (w.lane l).writerEng wr with
    | none => rfl
    | some e => simp only [drainFor, sbDrain, sbStep, buf e he]
  have same : w.updLane l (drainFor ((w.lane l).writerEng wr)) = w := by rw [World.updLane, drained, World.setLane_lane]
  simp only [World.regCmd, live, same, Bool.not_true, Bool.false_eq_true, if_false]

/-- A write that passes the checks ahead of its block is what the block does with it, where the block refuses it or it is not recorded. -/
theorem World.regWrite_eq_regDo {w : World} {l : LaneId} {wr : Writer} {a : Nat} {v : Word} (h : w.Permits l wr a v)
    (r : (w.regDo l wr a v false w).2 ≠ stOk ∨ (w.regChanged l wr a v).any (fieldLogged a) = false) :
    w.regWrite l wr a v false = w.regDo l wr a v false w := by
  obtain ⟨-, -, gate, rights, legal, holds, room, safe⟩ := h
  have keep : ¬ (a = A_FIO_KEEPALIVE ∧ ¬ (w.lane l).holder = true) := fun k => k.2 (holds (.inr k.1))
  have hold : (holderOnly a && !(w.lane l).holder) = false := by
    cases o : holderOnly a
    · rfl
    · rw [holds (.inl o)]; rfl
  have full : ((w.regChanged l wr a v).any (fieldLogged a) && !(w.lane l).clRoom) = false := by
    cases g : (w.regChanged l wr a v).any (fieldLogged a)
    · rfl
    · rw [room g]; rfl
  have spare : ((w.regChanged l wr a v).any (fun f => f.acc == .sebw) &&
      (decide ((w.lane l).safeLeft ≤ 1) || (w.lane l).log.archiving)) = false := by
    cases g : (w.regChanged l wr a v).any fun f => f.acc == .sebw
    · rfl
    · obtain ⟨left, idle⟩ := safe g
      simp only [idle, Bool.or_false, Bool.true_and, decide_eq_false_iff_not]
      omega
  simp only [World.regWrite, gate, World.regCheck, rights, keep, hold, full, spare, legal, Bool.not_true, Bool.false_eq_true, if_false]
  by_cases ok : (w.regDo l wr a v false w).2 = stOk
  · have plain := r.resolve_left (not_not_intro ok)
    have apart : stOk ≠ stRoleDenied ∧ stOk ≠ stBadValue ∧ stOk ≠ stNotHolder := by decide
    obtain ⟨role, value, holder⟩ := apart
    simp only [ok, plain, role, value, holder, ne_eq, not_true_eq_false, Bool.not_false, if_false, if_true]
    exact Prod.ext rfl ok.symm
  · simp only [ne_eq, ok, not_false_eq_true, if_true, ite_self]

/-- The fields that a write would change are fields of its register. -/
theorem World.fields_of_regChanged {w : World} {l : LaneId} {wr : Writer} {a : Nat} {v : Word} {f : FieldRow} (h : f ∈ w.regChanged l wr a v) :
    f ∈ fieldsOf a := by
  unfold World.regChanged at h
  split at h
  · exact h
  · exact (List.mem_filter.1 h).1

/-- No write to a register without a recorded field is recorded. -/
theorem World.regChanged_unlogged (w : World) (l : LaneId) (wr : Writer) (a : Nat) (v : Word) (h : (fieldsOf a).any (fieldLogged a) = false) :
    (w.regChanged l wr a v).any (fieldLogged a) = false := by
  rw [List.any_eq_false] at h ⊢
  exact fun f hf => h f (World.fields_of_regChanged hf)

/-- A command ends where its write does, with the write's status in KLAST: of the field die, the lane's registers and its background engines' state,
nothing is changed behind it. -/
theorem does_write {c : Instr} {s : State} {l : LaneId} {wr : Writer} {a : Nat} {v : Word} {w : World} {st : Nat}
    (runs : exec c s = lift (fun w => w.regCmd l wr a v) s) (live : (s.lane l).writerLive wr = true)
    (buf : ∀ e, (s.lane l).writerEng wr = some e → (s.lane l).eng[e].sbuf = []) (written : s.regWrite l wr a v false = (w, st))
    (writer : (w.lane l).writerEng wr = (s.lane l).writerEng wr) :
    Does c s fun t => t.KlastIs l wr st ∧ t.fd = w.fd ∧ (t.lane l).regs = (w.lane l).regs ∧ (t.lane l).bg = (w.lane l).bg := by
  refine does_lift runs ?_
  rw [World.regCmd_eq_regWrite live buf, written]
  refine ⟨World.klastIs_setKlast _ _ _ _ _ writer, World.updLane_fd .., ?_, ?_⟩
  · rw [World.lane_updLane_same, setKlast_regs]
  · rw [World.lane_updLane_same, setKlast_bg]

/-! ### Writes of the holder alone (R20) -/

/-- A lane without the Hoop does not write a register of the holder, where neither its right nor the value already refuses the write. -/
theorem World.regWrite_holderOnly {w : World} {l : LaneId} {wr : Writer} {a : Nat} {v : Word}
    (gate : (w.lane l).regGate ((w.lane l).writerEng wr) a = none) (rights : w.regRights l wr a v = none) (legal : legalWord a v = true)
    (only : holderOnly a = true) (away : (w.lane l).holder = false)
    (other : a ≠ A_FIO_KEEPALIVE) (role : (w.regDo l wr a v false w).2 ≠ stRoleDenied) (value : (w.regDo l wr a v false w).2 ≠ stBadValue) :
    w.regWrite l wr a v false = (w, stNotHolder) := by
  simp only [World.regWrite, gate, World.regCheck, rights, role, other, false_and, legal, value, only, away, Bool.not_true, Bool.not_false,
    Bool.and_self, Bool.false_eq_true, if_false, if_true]

/-- A lane without the Hoop does not write the keep-alive, whatever the key. -/
theorem World.regWrite_keepalive {w : World} {l : LaneId} {wr : Writer} {v : Word}
    (gate : (w.lane l).regGate ((w.lane l).writerEng wr) A_FIO_KEEPALIVE = none) (rights : w.regRights l wr A_FIO_KEEPALIVE v = none)
    (away : (w.lane l).holder = false) (role : (w.regDo l wr A_FIO_KEEPALIVE v false w).2 ≠ stRoleDenied) :
    w.regWrite l wr A_FIO_KEEPALIVE v false = (w, stNotHolder) := by
  simp only [World.regWrite, gate, World.regCheck, rights, role, away, Bool.false_eq_true, not_false_eq_true, and_self, if_false, if_true]

/-- What the field die can answer to a keep-alive. -/
theorem fioKeepalive_status (l : LaneId) (key : Nat) (w : World) :
    (fioKeepalive l key w).2 = stNotHolder ∨ (fioKeepalive l key w).2 = stBadValue ∨ (fioKeepalive l key w).2 = stOk := by
  simp only [fioKeepalive]
  split
  · exact .inl rfl
  · split
    · exact .inr (.inl rfl)
    · exact .inr (.inr rfl)

/-- It turns none away for a role. -/
theorem fioKeepalive_not_roleDenied (l : LaneId) (key : Nat) (w : World) : (fioKeepalive l key w).2 ≠ stRoleDenied := by
  rcases fioKeepalive_status l key w with st | st | st <;> rw [st] <;> decide

/-- What the field die can answer to a write of the general outputs. -/
theorem fioOutWrite_status (l : LaneId) (v : Word) (w : World) :
    (fioOutWrite l v w).2 = stNotHolder ∨ (fioOutWrite l v w).2 = fioForced ∨ (fioOutWrite l v w).2 = fioVfldInhibit ∨
      (fioOutWrite l v w).2 = stOk := by
  simp only [fioOutWrite]
  split
  · exact .inl rfl
  · split
    · exact .inr (.inl rfl)
    · split
      · exact .inr (.inr (.inl rfl))
      · exact .inr (.inr (.inr rfl))

/-- It turns none away for a role or as a bad value. -/
theorem fioOutWrite_not_denied (l : LaneId) (v : Word) (w : World) : (fioOutWrite l v w).2 ≠ stRoleDenied ∧ (fioOutWrite l v w).2 ≠ stBadValue := by
  rcases fioOutWrite_status l v w with st | st | st | st <;> rw [st] <;> decide

/-- Nor a test-pulse schedule, which it always takes. -/
theorem World.regDo_outputs_not_denied (w : World) (l : LaneId) (wr : Writer) (v : Word) {a : Nat}
    (reg : a ∈ [A_FIO_OUT, A_FIO_TPCFG0, A_FIO_TPCFG1]) :
    (w.regDo l wr a v false w).2 ≠ stRoleDenied ∧ (w.regDo l wr a v false w).2 ≠ stBadValue := by
  simp only [List.mem_cons, List.not_mem_nil, or_false] at reg
  rcases reg with rfl | rfl | rfl
  · exact fioOutWrite_not_denied l v w
  · exact ⟨Nat.ne_of_beq_eq_false rfl, Nat.ne_of_beq_eq_false rfl⟩
  · exact ⟨Nat.ne_of_beq_eq_false rfl, Nat.ne_of_beq_eq_false rfl⟩

/-- The general outputs and the test-pulse schedules are the holder's. -/
theorem holderOnly_outputs {a : Nat} (reg : a ∈ [A_FIO_OUT, A_FIO_TPCFG0, A_FIO_TPCFG1]) : holderOnly a = true := by
  revert a
  decide

/-- The general outputs, the test-pulse schedules and the keep-alive are written by the holder alone. -/
theorem World.regWrite_notHolder {w : World} {l : LaneId} {wr : Writer} {a : Nat} {v : Word}
    (reg : a ∈ [A_FIO_OUT, A_FIO_TPCFG0, A_FIO_TPCFG1, A_FIO_KEEPALIVE]) (gate : (w.lane l).regGate ((w.lane l).writerEng wr) a = none)
    (rights : w.regRights l wr a v = none) (legal : a = A_FIO_KEEPALIVE ∨ legalWord a v = true) (away : (w.lane l).holder = false) :
    w.regWrite l wr a v false = (w, stNotHolder) := by
  by_cases key : a = A_FIO_KEEPALIVE
  · subst key
    exact World.regWrite_keepalive gate rights away (fioKeepalive_not_roleDenied l _ w)
  · have out : a ∈ [A_FIO_OUT, A_FIO_TPCFG0, A_FIO_TPCFG1] := by simpa only [List.mem_cons, List.not_mem_nil, key, or_false] using reg
    obtain ⟨role, value⟩ := World.regDo_outputs_not_denied w l wr v out
    exact World.regWrite_holderOnly gate rights (legal.resolve_left key) (holderOnly_outputs out) away key role value

/-! ### Runs of registers that hold bytes -/

/-- Concatenations agree where their parts do (core Lean has the fact for `List.map`). -/
theorem flatMap_congr_of_mem {l : List Nat} {f g : Nat → Bytes} (h : ∀ k, k ∈ l → f k = g k) : l.flatMap f = l.flatMap g := by
  rw [List.flatMap_def, List.flatMap_def, List.map_congr_left h]

theorem regBytes_of_regs {L M : Lane} (h : M.regs = L.regs) (a n : Nat) : regBytes M a n = regBytes L a n := by
  unfold regBytes
  rw [h]

theorem putRegBytes_succ (a n : Nat) (b : Bytes) (L : Lane) :
    (putRegBytes a (n + 1) b L).regs =
      rput (putRegBytes a n b L).regs (a + 4 * n) (BitVec.ofNat 32 (leNat ((b.drop (4 * n)).take 4))) := by
  simp only [putRegBytes, List.range_succ, List.foldl_append, List.foldl_cons, List.foldl_nil]

/-- A register outside the run written is as before. -/
theorem rget_putRegBytes_out (a n x : Nat) (b : Bytes) (L : Lane) (h : ∀ k, k < n → x ≠ a + 4 * k) :
    rget (putRegBytes a n b L).regs x = rget L.regs x := by
  induction n with
  | zero => rfl
  | succ n ih => rw [putRegBytes_succ, rget_rput_ne _ _ _ _ (h n (by omega)), ih fun k hk => h k (by omega)]

/-- A register of the run written holds its four bytes. -/
theorem rget_putRegBytes_in (a n k : Nat) (b : Bytes) (L : Lane) (h : k < n) :
    rget (putRegBytes a n b L).regs (a + 4 * k) = BitVec.ofNat 32 (leNat ((b.drop (4 * k)).take 4)) := by
  induction n with
  | zero => omega
  | succ n ih =>
    rw [putRegBytes_succ, rget_rput]
    by_cases last : k = n
    · rw [if_pos (by omega), last]
    · rw [if_neg (by omega), ih (by omega)]

/-- The word of four bytes taken has those bytes. -/
theorem wordBytes_leNat_of_length {c : Bytes} (h : c.length = 4) : wordBytes (BitVec.ofNat 32 (leNat c)) = c := by
  match c, h with
  | [x0, x1, x2, x3], _ => exact wordBytes_leNat x0 x1 x2 x3

/-- The first bytes of a run of words, word by word. -/
theorem flatMap_take_drop (n : Nat) (b : Bytes) : ((List.range n).flatMap fun k => (b.drop (4 * k)).take 4) = b.take (4 * n) := by
  induction n with
  | zero => rfl
  | succ n ih => rw [List.range_succ, List.flatMap_append, ih, List.flatMap_singleton, Nat.mul_succ, List.take_add]

/-- Bytes written to a run of registers read back. -/
theorem regBytes_putRegBytes (a n : Nat) (b : Bytes) (L : Lane) (h : b.length = 4 * n) : regBytes (putRegBytes a n b L) a n = b := by
  calc regBytes (putRegBytes a n b L) a n = (List.range n).flatMap fun k => (b.drop (4 * k)).take 4 := by
        refine flatMap_congr_of_mem fun k hk => ?_
        have lt := List.mem_range.1 hk
        rw [rget_putRegBytes_in _ _ _ _ _ lt, wordBytes_leNat_of_length (by simp only [List.length_take, List.length_drop]; omega)]
    _ = b := by rw [flatMap_take_drop, ← h, List.take_length]

/-- Another run of registers is as before. -/
theorem regBytes_putRegBytes_apart (a n c m : Nat) (b : Bytes) (L : Lane) (h : c + 4 * m ≤ a ∨ a + 4 * n ≤ c) :
    regBytes (putRegBytes a n b L) c m = regBytes L c m := by
  refine flatMap_congr_of_mem fun k hk => ?_
  have lt := List.mem_range.1 hk
  rw [rget_putRegBytes_out _ _ _ _ _ fun j hj => by omega]

/-! ### Measurement registers (R479) -/

/-- An extend puts the digest of the register's bytes and the new ones in the register, and leaves the others. -/
theorem regBytes_meaExtend (p : Nat) (digest : Bytes) (L : Lane) :
    regBytes (meaExtend p digest L) (A_MEA_PCR p 0) 8 = sha256 (regBytes L (A_MEA_PCR p 0) 8 ++ digest) ∧
      ∀ q, q ≠ p → regBytes (meaExtend p digest L) (A_MEA_PCR q 0) 8 = regBytes L (A_MEA_PCR q 0) 8 :=
  ⟨regBytes_putRegBytes _ _ _ _ (sha256_length _), fun q hq => regBytes_putRegBytes_apart _ _ _ _ _ _ (by simp only [A_MEA_PCR]; omega)⟩

/-- The word of EXTEND has its command code and its register. -/
theorem extendWord_cmd (pcr : PcrNo) : bits (BitVec.ofNat 32 (0x20000000 + pcr.val)) 31 28 = 2 := by
  revert pcr
  decide
theorem extendWord_pcr (pcr : PcrNo) : bits (BitVec.ofNat 32 (0x20000000 + pcr.val)) 2 0 = pcr.val := by
  revert pcr
  decide

/-- EXTEND is E0's alone. -/
theorem meaCtrl_extend_other {L : Lane} {wr : Writer} (l : LaneId) (pcr : PcrNo) (other : L.writerEng wr ≠ some 0) :
    meaCtrl l wr (BitVec.ofNat 32 (0x20000000 + pcr.val)) L = (L, stRoleDenied) := by
  simp only [meaCtrl, extendWord_cmd, other, ne_eq, not_false_eq_true, if_true]

/-- The registers that the boot ROM extends are locked. -/
theorem meaCtrl_extend_locked {L : Lane} {wr : Writer} {pcr : PcrNo} (l : LaneId) (e0 : L.writerEng wr = some 0) (boot : pcr.val < 5) :
    meaCtrl l wr (BitVec.ofNat 32 (0x20000000 + pcr.val)) L = (L, meaLocked) := by
  simp only [meaCtrl, extendWord_cmd, extendWord_pcr, e0, boot, ne_eq, not_true_eq_false, if_false, if_true]

theorem meaCtrl_extend_firmware {L : Lane} {wr : Writer} {pcr : PcrNo} (l : LaneId) (e0 : L.writerEng wr = some 0) (firm : 5 ≤ pcr.val) :
    meaCtrl l wr (BitVec.ofNat 32 (0x20000000 + pcr.val)) L = (meaExtend pcr.val (regBytes L (A_MEA_EXTD 0) 8) L, stOk) := by
  simp only [meaCtrl, extendWord_cmd, extendWord_pcr, e0, Nat.not_lt.2 firm, ne_eq, not_true_eq_false, if_false]

theorem World.regDo_meaCtrl (w pre : World) (l : LaneId) (wr : Writer) (v : Word) (won : Bool) :
    w.regDo l wr A_MEA_CTRL v won pre = (w.setLane l (meaCtrl l wr v (w.lane l)).1, (meaCtrl l wr v (w.lane l)).2) := rfl

/-- No write to MEA_CTRL is recorded. -/
theorem meaCtrl_unlogged : (fieldsOf A_MEA_CTRL).any (fieldLogged A_MEA_CTRL) = false := by decide

/-- What EXTEND's write does, where it is permitted, is what MEA does. -/
theorem World.regWrite_extend {w : World} {l : LaneId} {wr : Writer} {pcr : PcrNo}
    (h : w.Permits l wr A_MEA_CTRL (BitVec.ofNat 32 (0x20000000 + pcr.val))) :
    w.regWrite l wr A_MEA_CTRL (BitVec.ofNat 32 (0x20000000 + pcr.val)) false =
      (w.setLane l (meaCtrl l wr (BitVec.ofNat 32 (0x20000000 + pcr.val)) (w.lane l)).1,
        (meaCtrl l wr (BitVec.ofNat 32 (0x20000000 + pcr.val)) (w.lane l)).2) :=
  (World.regWrite_eq_regDo h (.inr (World.regChanged_unlogged _ _ _ _ _ meaCtrl_unlogged))).trans (World.regDo_meaCtrl ..)

/-! ### Flash registers (R506) -/

/-- The address and data registers of a flash region. -/
def nvmRegAddr (r : Region) (reg : NvmReg) : Nat := if reg.val = 0 then A_NVM_ADDR r.val else A_NVM_DATA r.val (reg.val - 1)

theorem nvmRegAddr_eq (r : Region) (reg : NvmReg) : nvmRegAddr r reg = 0x40100004 + 0x20 * r.val + 4 * reg.val := by
  unfold nvmRegAddr
  split
  · simp only [A_NVM_ADDR]; omega
  · simp only [A_NVM_DATA]; omega

/-- A write to one of them is judged by the region's BUSY. -/
theorem World.regDo_nvmReg (w pre : World) (l : LaneId) (wr : Writer) (r : Region) (reg : NvmReg) (v : Word) (won : Bool) :
    w.regDo l wr (nvmRegAddr r reg) v won pre =
      (w.setLane l (nvmStore r.val (nvmRegAddr r reg) v (w.lane l)).1, (nvmStore r.val (nvmRegAddr r reg) v (w.lane l)).2) := by
  have place := nvmRegAddr_eq r reg
  generalize nvmRegAddr r reg = a at place ⊢
  have block : a / 0x10000 = 0x4010 := by omega
  have nonzero : (a - 0x40100000) % 0x20 ≠ 0 := by omega
  have inSet : (a - 0x40100000) % 0x20 ≤ 0x14 := by omega
  have region : (a - 0x40100000) / 0x20 = r.val := by omega
  simp only [World.regDo, block, nvmWrite, nonzero, inSet, region, if_false, if_true]

/-! ### The commands -/

theorem exec_extend (l : LaneId) (wr : Writer) (pcr : PcrNo) (s : State) :
    exec (.extend l wr pcr) s = lift (fun w => w.regCmd l wr A_MEA_CTRL (BitVec.ofNat 32 (0x20000000 + pcr.val))) s := rfl

theorem exec_nvmAddrWrite (l : LaneId) (wr : Writer) (r : Region) (reg : NvmReg) (v : Word) (s : State) :
    exec (.nvmAddrWrite l wr r reg v) s = lift (fun w => w.regCmd l wr (nvmRegAddr r reg) v) s := rfl

theorem exec_fioOutWrite (l : LaneId) (wr : Writer) (b : Byte) (s : State) :
    exec (.fioOutWrite l wr b) s = lift (fun w => w.regCmd l wr A_FIO_OUT (b.zeroExtend 32)) s := rfl

theorem exec_keepalive (l : LaneId) (wr : Writer) (key : Byte) (s : State) :
    exec (.keepalive l wr key) s = lift (fun w => w.regCmd l wr A_FIO_KEEPALIVE (key.zeroExtend 32)) s := rfl

/-- A register write to an aligned address that names a register. -/
theorem exec_registerWrite (l : LaneId) (wr : Writer) (a : Nat) (v : Word) (s : State) (named : (rowOf a).isSome = true) (aligned : a % 4 = 0) :
    exec (.registerWrite l wr a v) s = lift (fun w => w.regCmd l wr a v) s := by
  have is : ¬ ((rowOf a).isNone = true ∨ a % 4 ≠ 0) := by
    rintro (none | odd)
    · rw [Option.isNone_iff_eq_none.1 none] at named; cases named
    · exact odd aligned
  change execRegisterWrite l wr a v s = _
  simp only [execRegisterWrite, if_neg is]

/-! ### The refusals -/

/-- R20: the other lane's write of a register of the field outputs is refused, by whichever command it comes. -/
theorem otherLane_write_refused {c : Instr} {s : State} {l : LaneId} {wr : Writer} {a : Nat} {v : Word}
    (reg : a ∈ [A_FIO_OUT, A_FIO_TPCFG0, A_FIO_TPCFG1, A_FIO_KEEPALIVE]) (live : (s.lane l).writerLive wr = true)
    (buf : ∀ e, (s.lane l).writerEng wr = some e → (s.lane l).eng[e].sbuf = []) (gate : (s.lane l).regGate ((s.lane l).writerEng wr) a = none)
    (rights : s.regRights l wr a v = none) (legal : a = A_FIO_KEEPALIVE ∨ legalWord a v = true) (away : (s.lane l).holder = false)
    (runs : exec c s = lift (fun w => w.regCmd l wr a v) s) :
    Does c s fun t => t.KlastIs l wr stNotHolder ∧ t.fd = s.fd ∧ (t.lane l).regs = (s.lane l).regs :=
  (does_write runs live buf (World.regWrite_notHolder reg gate rights legal away) rfl).imp fun _ ⟨klast, fd, regs, _⟩ => ⟨klast, fd, regs⟩

/-- The registers of the field outputs are named, and aligned. -/
theorem fioRegs_named {a : Nat} (reg : a ∈ [A_FIO_OUT, A_FIO_TPCFG0, A_FIO_TPCFG1, A_FIO_KEEPALIVE]) : (rowOf a).isSome = true ∧ a % 4 = 0 := by
  revert a
  decide

/-- R479: an EXTEND that MEA refuses leaves every measurement register. -/
theorem extend_refused {s : State} {l : LaneId} {wr : Writer} {pcr : PcrNo} {st : Nat}
    (h : s.Permits l wr A_MEA_CTRL (BitVec.ofNat 32 (0x20000000 + pcr.val)))
    (refused : meaCtrl l wr (BitVec.ofNat 32 (0x20000000 + pcr.val)) (s.lane l) = (s.lane l, st)) :
    Does (.extend l wr pcr) s fun t => t.KlastIs l wr st ∧
      ∀ p, p < 8 → regBytes (t.lane l) (A_MEA_PCR p 0) 8 = regBytes (s.lane l) (A_MEA_PCR p 0) 8 := by
  have same : s.regWrite l wr A_MEA_CTRL (BitVec.ofNat 32 (0x20000000 + pcr.val)) false = (s.toWorld, st) := by
    rw [World.regWrite_extend h, refused, World.setLane_lane]
  obtain ⟨live, buf, -⟩ := h
  exact (does_write (exec_extend ..) live buf same rfl).imp fun _ ⟨klast, _, regs, _⟩ => ⟨klast, fun _ _ => regBytes_of_regs regs _ _⟩

/-- R479: E0's EXTEND of PCR5 to PCR7 extends that register by the digest in MEA_EXTD, and no other. -/
theorem extend_accepted {s : State} {l : LaneId} {pcr : PcrNo} (h : s.Permits l (.eng 0) A_MEA_CTRL (BitVec.ofNat 32 (0x20000000 + pcr.val)))
    (firm : 5 ≤ pcr.val) :
    s.Writes l (.eng 0) (.extend l (.eng 0) pcr) fun M =>
      regBytes M (A_MEA_PCR pcr.val 0) 8 = sha256 (regBytes (s.lane l) (A_MEA_PCR pcr.val 0) 8 ++ regBytes (s.lane l) (A_MEA_EXTD 0) 8) ∧
        ∀ p, p < 8 → p ≠ pcr.val → regBytes M (A_MEA_PCR p 0) 8 = regBytes (s.lane l) (A_MEA_PCR p 0) 8 := by
  have written := World.regWrite_extend h
  rw [meaCtrl_extend_firmware l rfl firm] at written
  obtain ⟨live, buf, -⟩ := h
  obtain ⟨own, others⟩ := regBytes_meaExtend pcr.val (regBytes (s.lane l) (A_MEA_EXTD 0) 8) (s.lane l)
  refine (does_write (exec_extend ..) live buf written rfl).imp fun t ⟨klast, _, regs, _⟩ => ⟨klast, ?_, fun p _ hp => ?_⟩
  · rw [regBytes_of_regs regs, World.lane_setLane_same, own]
  · rw [regBytes_of_regs regs, World.lane_setLane_same, others p hp]

/-- R506: a write to the address or data registers of a region whose command is in progress is refused, and the command goes on. -/
theorem nvmAddrWrite_refused {s : State} {l : LaneId} {wr : Writer} {r : Region} {reg : NvmReg} {v : Word}
    (h : s.Permits l wr (nvmRegAddr r reg) v) (busy : (s.lane l).b (F_NVM_STAT_BUSY r.val) = true) :
    Does (.nvmAddrWrite l wr r reg v) s fun t => t.KlastIs l wr nvmBusy ∧ (t.lane l).regs = (s.lane l).regs ∧
      (t.lane l).bg.nvm = (s.lane l).bg.nvm := by
  have block : s.regDo l wr (nvmRegAddr r reg) v false s.toWorld = (s.toWorld, nvmBusy) := by
    rw [World.regDo_nvmReg, nvmStore, if_pos busy, World.setLane_lane]
  have notOk : nvmBusy ≠ stOk := by decide
  have refused : s.regWrite l wr (nvmRegAddr r reg) v false = (s.toWorld, nvmBusy) := by
    rw [World.regWrite_eq_regDo h (.inl (by rw [block]; exact notOk)), block]
  obtain ⟨live, buf, -⟩ := h
  exact (does_write (exec_nvmAddrWrite ..) live buf refused rfl).imp fun _ ⟨klast, _, regs, bg⟩ => ⟨klast, regs, congrArg _ bg⟩

/-- Settles O47: each refusal is a write that leaves the part as it was, with the status of the check, or of the block, that refuses it. -/
theorem commandsRefusedByTheirRules : Obligations.CommandsRefusedByTheirRules := by
  intro s l wr r
  refine ⟨?_, ?_, ?_, ?_⟩
  · intro a reg v live buf gate rights legal away
    obtain ⟨named, aligned⟩ := fioRegs_named reg
    refine ⟨?_, ?_, ?_⟩
    · exact otherLane_write_refused reg live buf gate rights legal away (exec_registerWrite l wr a v s named aligned)
    · rintro b rfl rfl
      exact otherLane_write_refused reg live buf gate rights legal away (exec_fioOutWrite l wr b s)
    · rintro k rfl rfl
      exact otherLane_write_refused reg live buf gate rights legal away (exec_keepalive l wr k s)
  · intro pcr h
    exact ⟨extend_accepted h, fun boot => extend_refused h (meaCtrl_extend_locked l rfl boot)⟩
  · intro pcr h other
    exact extend_refused h (meaCtrl_extend_other l pcr other)
  · intro reg v a h busy
    exact nvmAddrWrite_refused h busy

end Sys2Proof.Machine
end

section
/-!
SUPPORT. What the writes of an engine's flags, registers and accumulators leave, said once; what a saturating result is in the terms of R95; and by
these the division and the accumulator instructions.
-/
namespace Sys2Proof.Machine

/-! ### Flags of KSR -/

/-- A bit of a word with one bit written. -/
theorem getLsbD_putBit (w : Word) {n : Nat} (hn : n < 32) (b : Bool) (k : Nat) :
    (putBit w n b).getLsbD k = if k = n then b else w.getLsbD k := by
  have one : (1#32 <<< n).getLsbD k = decide (k = n) := by
    rw [← BitVec.twoPow_eq, BitVec.getLsbD_twoPow]
    simp [eq_comm, hn]
  cases b with
  | true => by_cases h : k = n <;> simp [putBit, one, h, hn]
  | false =>
    simp only [putBit, Bool.false_eq_true, if_false, BitVec.getLsbD_and, BitVec.getLsbD_not, one]
    by_cases h : k = n
    · simp [h]
    · simpa [h] using BitVec.lt_of_getLsbD

theorem KCore.flag_setFlag (c : KCore) {n : Nat} (hn : n < 32) (b : Bool) (k : Nat) :
    (c.setFlag n b).flag k = if k = n then b else c.flag k :=
  getLsbD_putBit c.ksr hn b k

theorem KCore.flag_stick (c : KCore) {n : Nat} (hn : n < 32) (b : Bool) (k : Nat) :
    (c.stick n b).flag k = if k = n then c.flag n || b else c.flag k := by
  cases b with
  | true => simpa [KCore.stick] using c.flag_setFlag hn true k
  | false =>
    by_cases h : k = n
    · simp [KCore.stick, h]
    · simp [KCore.stick, h]

@[simp] theorem KCore.setFlag_w (c : KCore) (n : Nat) (b : Bool) : (c.setFlag n b).w = c.w := rfl
@[simp] theorem KCore.setFlag_a (c : KCore) (n : Nat) (b : Bool) : (c.setFlag n b).a = c.a := rfl
@[simp] theorem KCore.stick_w (c : KCore) (n : Nat) (b : Bool) : (c.stick n b).w = c.w := by cases b <;> rfl
@[simp] theorem KCore.stick_a (c : KCore) (n : Nat) (b : Bool) : (c.stick n b).a = c.a := by cases b <;> rfl
@[simp] theorem KCore.flagsZN_w (c : KCore) (r : Int) : (c.flagsZN r).w = c.w := rfl
@[simp] theorem KCore.flagsZN_a (c : KCore) (r : Int) : (c.flagsZN r).a = c.a := rfl
@[simp] theorem KCore.flagsSat_w (c : KCore) (r : Int) (clamped : Bool) : (c.flagsSat r clamped).w = c.w := KCore.stick_w _ _ _
@[simp] theorem KCore.flagsSat_a (c : KCore) (r : Int) (clamped : Bool) : (c.flagsSat r clamped).a = c.a := KCore.stick_a _ _ _

/-- The flags behind Z and N of a result and a V: every other one is as before. -/
theorem KCore.flag_flagsZN_setV (c : KCore) (r : Int) (v : Bool) (k : Nat) :
    ((c.flagsZN r).setFlag ksrV v).flag k =
      if k = 3 then v else if k = 1 then decide (r < 0) else if k = 0 then decide (r = 0) else c.flag k := by
  rw [KCore.flagsZN, KCore.flag_setFlag _ (by decide), KCore.flag_setFlag _ (by decide), KCore.flag_setFlag _ (by decide)]
  rfl

/-- Z and N of a result and a V, in the terms of R95. -/
theorem KCore.flagsZN_setV_result (c : KCore) (r : Int) (v : Bool) :
    ZnOf ((c.flagsZN r).setFlag ksrV v) r ∧ ((c.flagsZN r).setFlag ksrV v).flag 3 = v ∧
      KeepsKsr c ((c.flagsZN r).setFlag ksrV v) [0, 1, 3] := by
  refine ⟨⟨c.flag_flagsZN_setV r v 0, c.flag_flagsZN_setV r v 1⟩, c.flag_flagsZN_setV r v 3, fun k hk => ?_⟩
  simp only [List.mem_cons, List.not_mem_nil, or_false, not_or] at hk
  obtain ⟨h0, h1, h3⟩ := hk
  exact (c.flag_flagsZN_setV r v k).trans ((if_neg h3).trans ((if_neg h1).trans (if_neg h0)))

/-- The same flags with a sticky one behind them. -/
theorem KCore.flagsZN_setV_stick_result (c : KCore) (r : Int) (v : Bool) {n : Nat} (hn : n < 32) (apart : n ∉ [0, 1, 3]) (b : Bool) :
    ZnOf (((c.flagsZN r).setFlag ksrV v).stick n b) r ∧ (((c.flagsZN r).setFlag ksrV v).stick n b).flag 3 = v ∧
      (((c.flagsZN r).setFlag ksrV v).stick n b).flag n = (c.flag n || b) ∧
      KeepsKsr c (((c.flagsZN r).setFlag ksrV v).stick n b) [0, 1, 3, n] := by
  obtain ⟨⟨z, ng⟩, vv, keeps⟩ := c.flagsZN_setV_result r v
  have other : ∀ k, k ≠ n → (((c.flagsZN r).setFlag ksrV v).stick n b).flag k = ((c.flagsZN r).setFlag ksrV v).flag k :=
    fun k h => (KCore.flag_stick _ hn b k).trans (if_neg h)
  have own : ((c.flagsZN r).setFlag ksrV v).flag n = c.flag n := keeps n apart
  simp only [List.mem_cons, List.not_mem_nil, or_false, not_or] at apart
  obtain ⟨n0, n1, n3⟩ := apart
  refine ⟨⟨(other 0 (Ne.symm n0)).trans z, (other 1 (Ne.symm n1)).trans ng⟩, (other 3 (Ne.symm n3)).trans vv, ?_, fun k hk => ?_⟩
  · rw [KCore.flag_stick _ hn, if_pos rfl, own]
  · simp only [List.mem_cons, List.not_mem_nil, or_false, not_or] at hk
    obtain ⟨k0, k1, k3, kn⟩ := hk
    exact (other k kn).trans (keeps k (by simp [k0, k1, k3]))

/-- The flags of a saturating instruction are those of R95. -/
theorem KCore.satFlags_flagsSat (c : KCore) (r : Int) (clamped : Bool) : SatFlags c (c.flagsSat r clamped) r clamped :=
  c.flagsZN_setV_stick_result r clamped (by decide) (by decide) clamped

/-! ### Registers and accumulators -/

@[simp] theorem KCore.put_a (c : KCore) (r : RegNo) (v : Word) : (c.put r v).a = c.a := rfl
@[simp] theorem KCore.put_w_same (c : KCore) (r : RegNo) (v : Word) : (c.put r v).w[r.val] = v := by simp [KCore.put]
@[simp] theorem KCore.putAcc_w (c : KCore) (a : AccNo) (v : Acc) : (c.putAcc a v).w = c.w := rfl
@[simp] theorem KCore.putAcc_a_same (c : KCore) (a : AccNo) (v : Acc) : (c.putAcc a v).a[a.val] = v := by simp [KCore.putAcc]

theorem KCore.keepsW_put (c : KCore) (rd : RegNo) (v : Word) : KeepsW c (c.put rd v) rd := fun r h =>
  Vector.getElem_set_ne (hi := rd.isLt) r.isLt fun same => h (Fin.ext same.symm)

theorem KCore.keepsA_putAcc (c : KCore) (ad : AccNo) (v : Acc) : KeepsA c (c.putAcc ad v) ad := fun r h =>
  Vector.getElem_set_ne (hi := ad.isLt) r.isLt fun same => h (Fin.ext same.symm)

/-! ### Clamping (R95) -/

/-- Clamping takes the nearest number of the range. -/
theorem clampI_eq_nearest {lo hi : Int} (h : lo ≤ hi) (x : Int) : clampI lo hi x = nearest lo hi x := by
  unfold clampI nearest
  split
  · omega
  · split <;> omega

theorem satS_eq_nearest (n : Nat) (x : Int) : satS n x = nearest (-(2 ^ (n - 1))) (2 ^ (n - 1) - 1) x :=
  clampI_eq_nearest (by have := Int.pow_pos (n := 2) (m := n - 1) (by decide); omega) x

/-- A clamped number is held exactly by a bit vector of its width. -/
theorem toInt_ofInt_satS {n : Nat} (hn : 0 < n) (x : Int) : (BitVec.ofInt n (satS n x)).toInt = satS n x := by
  have pos : (0 : Int) < 2 ^ (n - 1) := Int.pow_pos (by decide)
  have lower : -(2 ^ (n - 1)) ≤ satS n x := by rw [satS_eq_nearest, nearest]; omega
  have upper : satS n x < 2 ^ (n - 1) := by rw [satS_eq_nearest, nearest]; omega
  exact BitVec.toInt_ofInt_eq_self hn lower upper

theorem KCore.satResult_resS (c : KCore) (rd : RegNo) (x : Int) : SatResult c (c.resS rd x) rd x := by
  have near : nearest (-(2 ^ 31)) (2 ^ 31 - 1) x = satS 32 x := (satS_eq_nearest 32 x).symm
  have word : (c.resS rd x).get rd = wOf (satS 32 x) := by simp [KCore.get, KCore.resS]
  have value : (c.resS rd x).geti rd = satS 32 x := (congrArg BitVec.toInt word).trans (toInt_ofInt_satS (by decide) x)
  have keeps : KeepsW c (c.resS rd x) rd := by
    simpa only [KeepsW, KCore.resS, KCore.flagsSat_w] using c.keepsW_put rd (wOf (satS 32 x))
  have flags : SatFlags c (c.resS rd x) (satS 32 x) (satS 32 x != x) := (c.put rd (wOf (satS 32 x))).satFlags_flagsSat _ _
  simp only [SatResult, near]
  exact ⟨value, (decide_not (p := satS 32 x = x)).symm ▸ flags, keeps, KCore.flagsSat_a _ _ _⟩

theorem KCore.satAResult_resA (c : KCore) (ad : AccNo) (x : Int) : SatAResult c (c.resA ad x) ad x := by
  have near : nearest (-(2 ^ 47)) (2 ^ 47 - 1) x = satS 48 x := (satS_eq_nearest 48 x).symm
  have acc : (c.resA ad x).a[ad] = BitVec.ofInt 48 (satS 48 x) := by simp [KCore.resA]
  have value : (c.resA ad x).acci ad = satS 48 x := (congrArg BitVec.toInt acc).trans (toInt_ofInt_satS (by decide) x)
  have keeps : KeepsA c (c.resA ad x) ad := by
    simpa only [KeepsA, KCore.resA, KCore.flagsSat_a] using c.keepsA_putAcc ad (BitVec.ofInt 48 (satS 48 x))
  have flags : SatFlags c (c.resA ad x) (satS 48 x) (satS 48 x != x) :=
    (c.putAcc ad (BitVec.ofInt 48 (satS 48 x))).satFlags_flagsSat _ _
  simp only [SatAResult, near]
  exact ⟨value, (decide_not (p := satS 48 x = x)).symm ▸ flags, keeps, KCore.flagsSat_w _ _ _⟩

/-! ### Running an instruction of the registers -/

/-- A ready engine whose instruction is legal and works on the registers alone runs it. -/
theorem State.runs_alu {s : State} {l : LaneId} {e : Eng} (ready : s.Ready l e) {i : Instr} {f : KCore → KCore} {R : KCore → KCore → Prop}
    (meaning : exec i s = lift (World.kRun l e none (kAlu l e f)) s) (result : R (s.core l e) (f (s.core l e))) : s.Runs l e i R := by
  refine ⟨f (s.core l e), ?_, result⟩
  rw [meaning, lift_eq, World.kRun_alu ready]
  rfl

/-! ### Division (R96) -/

/-- What DIV and REM leave where the divisor is 0: the word, Z and N of the dividend's number, V and DIVZ_S. -/
theorem KCore.zeroDivisor_result (c : KCore) (rd : RegNo) (v : Word) (r : Int) :
    let c' := (((c.put rd v).flagsZN r).setFlag ksrV true).stick ksrDivz true
    c'.get rd = v ∧ ZnOf c' r ∧ c'.flag 3 = true ∧ c'.flag 9 = true ∧ KeepsKsr c c' [0, 1, 3, 9] ∧ KeepsW c c' rd ∧ c'.a = c.a := by
  obtain ⟨zn, vSet, divz, keeps⟩ := (c.put rd v).flagsZN_setV_stick_result r true (n := ksrDivz) (by decide) (by decide) true
  refine ⟨by simp [KCore.get], zn, vSet, divz.trans (Bool.or_true _), keeps, ?_, by simp⟩
  simpa only [KeepsW, KCore.stick_w, KCore.setFlag_w, KCore.flagsZN_w] using c.keepsW_put rd v

/-- The quotient by 0 is one that a word holds. -/
theorem toInt_wOf_zeroQuotient (x : Int) :
    (wOf (if 0 < x then 2 ^ 31 - 1 else if x < 0 then -(2 ^ 31) else 0)).toInt =
      if 0 < x then 2 ^ 31 - 1 else if x < 0 then -(2 ^ 31) else 0 := by
  split
  · decide
  · split <;> decide

theorem kDiv_zero {c : KCore} {rt : RegNo} (zero : c.geti rt = 0) (rd rs : RegNo) :
    let r : Int := if 0 < c.geti rs then 2 ^ 31 - 1 else if c.geti rs < 0 then -(2 ^ 31) else 0
    let c' := kDiv rd rs rt c
    c'.geti rd = r ∧ ZnOf c' (c'.geti rd) ∧ c'.flag 3 = true ∧ c'.flag 9 = true ∧ KeepsKsr c c' [0, 1, 3, 9] ∧ KeepsW c c' rd ∧ c'.a = c.a := by
  intro r c'
  have run : c' = (((c.put rd (wOf r)).flagsZN r).setFlag ksrV true).stick ksrDivz true := if_pos zero
  obtain ⟨word, zn, rest⟩ := c.zeroDivisor_result rd (wOf r) r
  rw [← run] at word zn rest
  have value : c'.geti rd = r := (congrArg BitVec.toInt word).trans (toInt_wOf_zeroQuotient (c.geti rs))
  exact ⟨value, value ▸ zn, rest⟩

theorem kDiv_nonzero {c : KCore} {rt : RegNo} (nonzero : c.geti rt ≠ 0) (rd rs : RegNo) :
    SatResult c (kDiv rd rs rt c) rd ((c.geti rs).tdiv (c.geti rt)) := by
  rw [kDiv, if_neg nonzero]
  exact c.satResult_resS rd _

theorem kRem_zero {c : KCore} {rt : RegNo} (zero : c.geti rt = 0) (rd rs : RegNo) :
    let c' := kRem rd rs rt c
    c'.get rd = c.get rs ∧ ZnOf c' (c.geti rs) ∧ c'.flag 3 = true ∧ c'.flag 9 = true ∧ KeepsKsr c c' [0, 1, 3, 9] ∧ KeepsW c c' rd ∧
      c'.a = c.a := by
  rw [kRem, if_pos zero]
  exact c.zeroDivisor_result rd (c.get rs) (c.geti rs)

theorem kRem_nonzero {c : KCore} {rt : RegNo} (nonzero : c.geti rt ≠ 0) (rd rs : RegNo) :
    SatResult c (kRem rd rs rt c) rd ((c.geti rs).tmod (c.geti rt)) := by
  rw [kRem, if_neg nonzero, Int.tmod_def]
  exact c.satResult_resS rd _

/-- Settles O2: the zero divisor and the truncating division apart, each by what the model's DIV and REM leave of the registers. -/
theorem divisionAndRemainder : Obligations.DivisionAndRemainder := by
  intro s l e ready rd rs rt
  refine ⟨State.runs_alu (f := kDiv rd rs rt) ready rfl ?_, State.runs_alu (f := kRem rd rs rt) ready rfl ?_⟩
  · split
    next zero => exact kDiv_zero zero rd rs
    next nonzero => exact kDiv_nonzero nonzero rd rs
  · split
    next zero => exact kRem_zero zero rd rs
    next nonzero => exact kRem_nonzero nonzero rd rs

/-! ### Accumulators (Table 4.12, R97) -/

/-- R97's rounding for a shift amount of an instruction. -/
theorem rnd_shAmt (x : Int) (sh : ShAmt) : rnd x sh.val = if sh = 0 then x else (x + 2 ^ (sh.val - 1)) / 2 ^ sh.val := by
  simp only [rnd, Fin.val_eq_zero_iff]

/-- An accumulator written, with Z and N of a number and V cleared. -/
theorem KCore.putAcc_result (c : KCore) (ad : AccNo) (v : Acc) :
    let c' := ((c.putAcc ad v).flagsZN v.toInt).setFlag ksrV false
    c'.a[ad] = v ∧ ZnOf c' v.toInt ∧ c'.flag 3 = false ∧ KeepsKsr c c' [0, 1, 3] ∧ KeepsA c c' ad ∧ c'.w = c.w := by
  obtain ⟨zn, clear, keeps⟩ := (c.putAcc ad v).flagsZN_setV_result v.toInt false
  exact ⟨by simp, zn, clear, keeps, c.keepsA_putAcc ad v, rfl⟩

/-- The low 32 bits of an accumulator put together from its halves. -/
theorem extractLow_append (hi : BitVec 16) (lo : Word) : ((hi ++ lo).zeroExtend 48 : Acc).extractLsb' 0 32 = lo := by
  rw [BitVec.zeroExtend, BitVec.setWidth_eq]
  exact BitVec.extractLsb'_append_eq_right

/-- The high 16 bits of an accumulator put together from its halves. -/
theorem extractHigh_append (hi : BitVec 16) (lo : Word) : ((hi ++ lo).zeroExtend 48 : Acc).extractLsb' 32 16 = hi := by
  rw [BitVec.zeroExtend, BitVec.setWidth_eq]
  exact BitVec.extractLsb'_append_eq_left

/-- LDA with RAW replaces the low word. -/
theorem kLda_raw (c : KCore) (ad : AccNo) (rs : RegNo) :
    let c' := kLda ad rs 0 true c
    c'.a[ad].extractLsb' 0 32 = c.get rs ∧ c'.a[ad].extractLsb' 32 16 = c.a[ad].extractLsb' 32 16 ∧
      ZnOf c' (c'.acci ad) ∧ c'.flag 3 = false ∧ KeepsKsr c c' [0, 1, 3] ∧ KeepsA c c' ad ∧ c'.w = c.w := by
  intro c'
  obtain ⟨value, zn, rest⟩ := c.putAcc_result ad ((c.a[ad].extractLsb' 32 16 ++ c.get rs).zeroExtend 48)
  refine ⟨?_, ?_, ?_, rest⟩
  · exact (congrArg (BitVec.extractLsb' 0 32) value).trans (extractLow_append _ _)
  · exact (congrArg (BitVec.extractLsb' 32 16) value).trans (extractHigh_append _ _)
  · exact (congrArg (fun v : Acc => ZnOf c' v.toInt) value).mpr zn

/-- LDAH replaces the high half and no flag. -/
theorem kLdah_result (c : KCore) (ad : AccNo) (rs : RegNo) :
    let c' := kLdah ad rs c
    c'.a[ad].extractLsb' 0 32 = c.a[ad].extractLsb' 0 32 ∧ c'.a[ad].extractLsb' 32 16 = (c.get rs).extractLsb' 0 16 ∧
      c'.ksr = c.ksr ∧ KeepsA c c' ad ∧ c'.w = c.w := by
  intro c'
  have value : c'.a[ad] = ((c.get rs).extractLsb' 0 16 ++ c.a[ad].extractLsb' 0 32).zeroExtend 48 := KCore.putAcc_a_same c ad _
  rw [value]
  exact ⟨extractLow_append _ _, extractHigh_append _ _, rfl, c.keepsA_putAcc ad _, rfl⟩

/-- RDA with RAW reads the low word. -/
theorem kRda_raw (c : KCore) (rd : RegNo) (ad : AccNo) :
    let c' := kRda rd ad 0 true c
    c'.get rd = c.a[ad].extractLsb' 0 32 ∧ ZnOf c' (c'.geti rd) ∧ c'.flag 3 = false ∧ KeepsKsr c c' [0, 1, 3] ∧ KeepsW c c' rd ∧ c'.a = c.a := by
  intro c'
  obtain ⟨zn, clear, keeps⟩ := (c.put rd (c.a[ad].extractLsb' 0 32)).flagsZN_setV_result (c.a[ad].extractLsb' 0 32).toInt false
  have value : c'.get rd = c.a[ad].extractLsb' 0 32 := KCore.put_w_same c rd _
  refine ⟨value, ?_, clear, keeps, c.keepsW_put rd _, rfl⟩
  rw [KCore.geti, value]
  exact zn

/-- CLRA: 0 is never clamped, so that SAT_S keeps its bit. -/
theorem kClra_result (c : KCore) (ad : AccNo) :
    let c' := kClra ad c
    c'.a[ad] = 0 ∧ c'.flag 0 = true ∧ c'.flag 1 = false ∧ c'.flag 3 = false ∧ KeepsKsr c c' [0, 1, 3] ∧ KeepsA c c' ad ∧ c'.w = c.w := by
  obtain ⟨value, ⟨z, n⟩, rest⟩ := c.putAcc_result ad 0
  exact ⟨value, z, n, rest⟩

/-- Settles O4: the saturating instructions by R95's result in an accumulator and R97's rounding, the raw forms and CLRA by what they write. -/
theorem accumulators : Obligations.Accumulators := by
  intro s l e ready ad ae rd rs rt sh
  simp only [← rnd_shAmt]
  refine ⟨?mac, ?msu, ?mula, ?lda, ?ldaRaw, ?ldah, ?rdaRaw, ?adda, ?shra, ?clra⟩
  case mac => exact State.runs_alu (f := kMac ad rs rt sh) ready rfl (KCore.satAResult_resA _ ad _)
  case msu => exact State.runs_alu (f := kMsu ad rs rt sh) ready rfl (KCore.satAResult_resA _ ad _)
  case mula => exact State.runs_alu (f := kMula ad rs rt sh) ready rfl (KCore.satAResult_resA _ ad _)
  case lda => exact State.runs_alu (f := kLda ad rs sh false) ready rfl (KCore.satAResult_resA _ ad _)
  case ldaRaw => exact State.runs_alu (f := kLda ad rs 0 true) ready rfl (kLda_raw _ ad rs)
  case ldah => exact State.runs_alu (f := kLdah ad rs) ready rfl (kLdah_result _ ad rs)
  case rdaRaw => exact State.runs_alu (f := kRda rd ad 0 true) ready rfl (kRda_raw _ rd ad)
  case adda => exact State.runs_alu (f := kAdda ad ae) ready rfl (KCore.satAResult_resA _ ad _)
  case shra => exact State.runs_alu (f := kShra ad sh) ready rfl (KCore.satAResult_resA _ ad _)
  case clra => exact State.runs_alu (f := kClra ad) ready rfl (kClra_result _ ad)

end Sys2Proof.Machine
end
